-- ==== Sys2Proof/Word.lean ====
section
/-!
DEFINITION. The word and byte types, and their plainest arithmetic.
-/

namespace Sys2Proof

/-- A byte of a packet, frame or memory. -/
abbrev Byte := BitVec 8

/-- A 32-bit register (R14). -/
abbrev Word := BitVec 32

/-- Nanoseconds in a second. -/
def nsPerSec : Nat := 1000000000

end Sys2Proof
end

