-- ==== Sys2Proof/Operand.lean ====
section
/-!
DEFINITION. The operand types of the commands: who makes an access, whose request a command dispatches, and the sets of
names the spec gives codes to.
-/

namespace Sys2Proof

/-- The requester of a register or memory access (R34): a packet core 0–23, a glove (0 left, 1 right), a DMA channel or
an island's own hardware. -/
inductive Requester where
  | core (k : Fin 24)
  | glove (g : Fin 2)
  | dma (c : Fin 64)
  | island (i : Fin 22)
  deriving DecidableEq, Repr

/-- The requester of a command packet (R60): the core mailbox, the host port, a network requester by source MAC
address and key slot, or Cudom itself. -/
inductive CmdReq where
  | mailbox
  | host
  | network (mac slot : Nat)
  | internal
  deriving DecidableEq, Repr

/-- What an opcode command dispatches: the next waiting request of a requester, or a request that Cudom firmware issues
on transport 3 with this island, tag, sequence and parameters. -/
inductive CmdSource where
  | waiting (who : CmdReq)
  | internal (island tag seq : Nat) (params : List Byte)
  deriving DecidableEq, Repr

/-- Device modes (R38). -/
inductive Mode where
  | off | boot | provision | calibrate | service | thrift | vigil | hibernate | renew | degraded | recovery | test
  deriving DecidableEq, Repr

/-- Phases of the wake sequence (R489). -/
inductive Phase where
  | regulator | oscillator | memory | restore | logic
  deriving DecidableEq, Repr

/-- A radio: 0 Radio L, 1 Radio M, 2 Radio H (R34). -/
abbrev Rad := Fin 3

/-- A radio chain; Radio L has chains 0 to 3. -/
abbrev Chain := Fin 8

/-- An island ID (R22). -/
abbrev IslandId := Fin 22

/-- The PPDU formats (R121, R125). -/
inductive Fmt where
  | dsss | nonHt | ht | vht | he | heEr | eht | holael
  deriving DecidableEq, Repr

/-- What a PPDU is besides its length (R121, R125): format, width code 0–4 (20 to 320 MHz), MCS or rate index, spatial streams,
and the 20 MHz subchannels punctured, as a mask. -/
structure Tx where
  fmt : Fmt
  width : Nat
  mcs : Nat
  streams : Nat
  punct : Nat
  deriving DecidableEq, Repr

/-- A transmit command of the protocol sequencer (R98, R142): centre in 78.125 kHz units; chains; earliest and latest RF
start on the 32-bit nanosecond count; response and frame class; RF length in ns; the PPDU; H-SIG and PSDU of a Holael PPDU; its
length, and the link and map ID where its frame type uses a map; commanded gain states, the k-th for chain k (R165), none
where the command leaves them open; the key slot it is protected under; whether a reply is expected; for a calibration
frame its Null frame's address (R176). -/
structure TxCmd where
  frameId : Nat
  centre : Nat
  chains : Nat
  earliest : Nat
  deadline : Nat
  response : Bool
  cls : Nat
  airNs : Nat
  tx : Tx
  hsig : Option Nat
  psdu : List Byte
  length : Nat
  map : Option (Nat × Nat)
  gs : List (Fin 8)
  keySlot : Option Nat
  reply : Bool
  cal : Option Nat
  deriving DecidableEq, Repr

/-- Is a command's PPDU a Holael one? -/
def TxCmd.isHolael (c : TxCmd) : Bool := c.tx.fmt == .holael

/-- The timed front-end edges (R106, R99), the fall of COEX_REQ after an unwinding (R118), and the end of the 1 µs after LNA_EN
rises (R143). -/
inductive FeEdge where
  | coexReq | lnaOff | trswTx | paOn | paOff | trswRx | lnaOn | lnaSettled | coexEnd
  deriving DecidableEq, Repr

/-- The preamble of a received WLAN PPDU (R121, R122, R124): what the PPDU is, whether it uses STBC, its BSS colour where it carries
one, and its duration in ns. -/
structure RxPreamble where
  tx : Tx
  stbc : Bool
  colour : Option Nat
  duration : Nat
  deriving DecidableEq, Repr

/-- What codeword a radio submits (R153): of the Holael PPDU whose H-SIG it accepted, or of a WLAN PPDU with its preamble, and whether
HMAC solicited that for voice or video. -/
inductive CwKind where
  | holael
  | wlan (voiceVideo : Bool) (pre : RxPreamble)
  deriving DecidableEq, Repr

/-- A complex number. -/
structure Cx where
  re : Rat
  im : Rat
  deriving DecidableEq, Repr

/-- What training gave on one data subcarrier: by receive chain and training symbol the received value, its squared magnitude in mW;
and the residual noise of each stream after combining, measured across the symbols. -/
structure ToneRx where
  y : List (List Cx)
  residual : List Rat
  deriving DecidableEq, Repr

/-- The estimates of one capture (R168), in 0.01 dB and 0.01 degrees: LO leakage, image rejection, EVM predicted by loop 2,
alignment phase and gain; the EVM measured in the capture; and the EVM that a new set of loops 0, 1, 2 would have. -/
structure CapEst where
  leak : Int
  image : Int
  predist : Int
  phase : Int
  gain : Int
  evm : Int
  pred0 : Int
  pred1 : Int
  pred2 : Int
  coefs : List (Int × Int)
  deriving DecidableEq, Repr

/-- What a DRAM line's check bytes show when it is read (R476, R481): no error, a single-bit error in a word, or an
uncorrectable word, `both` when the other copy of a mirrored line is uncorrectable too (log entry 111). -/
inductive EccFind where
  | clean
  | single
  | double (both : Bool)
  deriving DecidableEq, Repr

/-- Who asks the cipher engine for an operation (R286): HMAC, a wired port's MAC, the network command transport, or the next
fetched job of a ring. -/
inductive CipUser where
  | hmac
  | port (p : Fin 16)
  | network
  | job (r : Fin 2)
  deriving DecidableEq, Repr

/-- A calibration step (R169–R171): a loopback step on an RX chain through the transmit converter of a chain, at a gain
step; or a probe of the standby synthesiser. -/
inductive CalStep where
  | loopback (tx rx : Chain) (gain : Fin 26)
  | probe (synth : Fin 2)
  deriving DecidableEq, Repr

/-- What a received WLAN MPDU is (R250–R275): data, EAPOL, a management or action frame, a probe request for the wildcard
SSID or for the SSID of a BSSID, a PS-Poll, a U-APSD trigger, QoS Null, RTS or MU-RTS, a block acknowledgement request
with its window start, an acknowledgement of these sequence numbers, compressed beamforming feedback; or the end of the
TB PPDUs that a trigger solicited. -/
inductive WKind where
  | data
  | eapol
  | mgmt
  | probe (wildcard : Bool) (bss : Option (Fin 16))
  | psPoll
  | uapsd
  | qosNull
  | rts
  | bar (start : Nat)
  | ack (sns : List Nat)
  | cts
  | feedback
  | tbEnd
  deriving DecidableEq, Repr

/-- A received WLAN MPDU, its 802.11 fields read and its cryptographic check made: transmitter, BSSID index, TID, sequence and
fragment numbers, more fragments, agreement, protection (key ID, packet number, whether the check passed), power
management bit, buffer status where it reports one, the HE or EHT colour of its PPDU, whether it solicits a response and
the response's PPDU and airtime in ns, PPDU end on the 32-bit count, its bytes (an MSDU as an Ethernet frame), the instant its
PPDU start crossed the MAC boundary, 2^−16 ns, and the first and last LDPC codeword of the PPDU that it overlaps, none where
its PPDU is coded in BCC (R157). -/
structure WlanRx where
  kind : WKind
  ta : Nat
  bss : Fin 16
  tid : Fin 8
  sn : Fin 4096
  frag : Fin 16
  moreFrag : Bool
  agreement : Bool
  isProtected : Bool
  keyId : Fin 4
  pn : Nat
  authentic : Bool
  pm : Bool
  buffered : Option Bool
  colour : Option Nat
  response : Option (Tx × Nat)
  ppduEnd : Nat
  width : Fin 6
  bytes : List Byte
  raw : Nat
  cws : Option (Nat × Nat)
  deriving DecidableEq, Repr

/-- The PPDU HMAC would send for a WLAN transmission: frame identifier, centre in 78.125 kHz units, the PPDU, the gain states it
commands, earliest and latest start on the 32-bit count, its airtime in ns, the airtime of the expected response, the length of
a frame that HMAC makes itself (a beacon, a trigger, an announcement, a probe response), the time left in ns to the end of the
service period and of the TXOP, and the transition delay in ns that an EMLSR client advertised (R248). -/
structure WAir where
  frameId : Fin 65536
  centre : Nat
  tx : Tx
  gs : List (Fin 8)
  earliest : Nat
  deadline : Nat
  airNs : Nat
  response : Nat
  len : Nat
  room : Nat
  transition : Nat
  deriving DecidableEq, Repr

/-- A user of a DL multi-user PPDU (R262, R263): entry, TID, its RU by number and size in tones, spatial streams, airtime in ns of the
first k + 1 queued MPDUs, and whether an agreement covers the TID. -/
structure MuUser where
  entry : Fin 1536
  tid : Fin 8
  ru : Nat
  tones : Nat
  streams : Nat
  airs : List Nat
  agreement : Bool
  deriving DecidableEq, Repr

/-- What a WLAN transmission opportunity serves: data of a station and TID (airtime in ns of the first k + 1 queued MPDUs in one
A-MPDU, whether an agreement covers the TID, and the bytes and airtime of a fragment); data of several stations in one PPDU; the
first frame of the management ring; the first probe response due; a released group frame; the first disassociation due. -/
inductive WServe where
  | data (entry : Fin 1536) (tid : Fin 8) (airs : List Nat) (agreement : Bool) (fragBytes fragNs : Nat)
  | multi (users : List MuUser)
  | mgmt
  | probe
  | group
  | disassoc
  deriving DecidableEq, Repr

/-- What arrives at SCH: the next packet that PKT delivers of an ingress source, the next frame of CDM, or the next forwarded packet
that TSK holds. -/
inductive EnqSrc where
  | pkt (src : Fin 19)
  | cdm
  | tsk
  deriving DecidableEq, Repr

/-- What else takes effect in the cycle of a cancel (R449): a ready or a cancel of the same item by another core, or a core's read of
TSK_GET. -/
inductive Meets where
  | nothing
  | ready (core : Fin 24)
  | cancel (core : Fin 24)
  | get (core : Fin 24)
  deriving DecidableEq, Repr

/-- How a frame ends on a DALI bus (R541): no answer, a backward frame, a framing error in it, arbitration lost 10 times, or
the 1 s limit of a DALI_SEND. -/
inductive DaliEnd where
  | noAnswer
  | backward (v : Fin 256)
  | framing
  | collided
  | timeout
  deriving DecidableEq, Repr

/-- A frame that a CAL_RUN radiates (R188): centre, gain state, chains. -/
structure CalProbe where
  centre : Nat
  gs : Fin 8
  chains : Fin 256
  deriving DecidableEq, Repr

/-- What a CAL_RUN measured on a chain in gain state 0 on a calibration channel (R188): LO leakage in 0.01 dBc, image rejection and EVM
in 0.01 dB. -/
structure CalMeas where
  chan : Nat
  chain : Chain
  leak : Int
  image : Int
  evm : Int
  deriving DecidableEq, Repr

/-- A coefficient set that a CAL_RUN computed: calibration channel, its place (64 · loop + 8 · chain + gain state), estimate, second
value, EVM and coefficients. -/
structure CalOut where
  chan : Nat
  key : Nat
  est : Int
  est2 : Int
  evm : Int
  coefs : List (Int × Int)
  deriving DecidableEq, Repr

/-- What a CAL_RUN measured and computed (R188): the measurements that chains pass by; coefficient sets; receive gain tables by
32 · chain + gain step; synthesiser band table entries. -/
structure CalRunOut where
  meas : List CalMeas
  sets : List CalOut
  gains : List (Nat × Int)
  bands : List (Nat × Nat)
  deriving DecidableEq, Repr

end Sys2Proof
end

