-- ==== Sys2Proof/Syntax.lean ====
section
/-!
DEFINITION. The commands: one constructor for each row of the opcode table, with its operands. A docstring gives the row's mnemonic and
rule.
-/

namespace Sys2Proof

inductive Instr where
  /-- REGISTER_WRITE (R18) -/
  | registerWrite (who : Requester) (a : Fin 0x10000000000) (data : List Byte)
  /-- HANDSHAKE_TIMEOUT (R30) -/
  | handshakeTimeout (who : Requester) (i : Fin 22) (off : Fin 0x1000000)
  /-- SUPPLY_LOSS (R556) -/
  | supplyLoss (rail : Fin 14)
  /-- SYS_RESET (R555) -/
  | sysReset
  /-- RESET_RELEASE (R555) -/
  | resetRelease (strap : Bool) (light : Nat)
  /-- BOOT_ROM_START (R536) -/
  | bootRomStart (badCal : Fin 8) (light : Nat)
  /-- XTAL32_START (R557) -/
  | xtal32Start
  /-- MODE_TRANSITION_COMPLETE (R41) -/
  | modeTransitionComplete (light : Nat)
  /-- MODE_TRANSITION_TIMEOUT (R41) -/
  | modeTransitionTimeout (light : Nat)
  /-- MODE_SET_OFF_RESET (R43) -/
  | modeSetOffReset (strap : Bool) (light : Nat)
  /-- MBX_DOORBELL (R66) -/
  | mbxDoorbell (who : Requester) (w : Word)
  /-- MBX_RSP_FREE (R67) -/
  | mbxRspFree (who : Requester) (w : Word)
  /-- HOST_WRITE (R69) -/
  | hostWrite (bytes : List Byte)
  /-- HOST_STATUS (R71) -/
  | hostStatus (clocked : Fin 5)
  /-- HOST_READ (R70) -/
  | hostRead (clocked : Nat)
  /-- NETWORK_COMMAND_FRAME (R73) -/
  | networkCommandFrame (src : Fin 19)
  /-- FRAGMENT_TIMEOUT (R63) -/
  | fragmentTimeout (who : CmdReq)
  /-- COMMAND_LIMIT_TIMEOUT (R59) -/
  | commandLimitTimeout (who : CmdReq) (tag : Fin 65536)
  /-- DISTRICT_SECOND_BOUNDARY (R77) -/
  | districtSecondBoundary
  /-- QUERY (R84) -/
  | query (src : CmdSource)
  /-- COUNTERS_READ (R84) -/
  | countersRead (src : CmdSource)
  /-- RENEW (R85) -/
  | renew (src : CmdSource) (light : Nat)
  /-- WAKE_CONFIG (R496) -/
  | wakeConfig (src : CmdSource)
  /-- VIGIL_PROGRAM (R510) -/
  | vigilProgram (src : CmdSource)
  /-- FAULT_CLEAR (R544) -/
  | faultClear (src : CmdSource)
  /-- MODE_SET (R45) -/
  | modeSet (src : CmdSource) (light : Nat) (rival : Option CmdSource)
  /-- MODE_GET (R84) -/
  | modeGet (src : CmdSource)
  /-- ABORT (R83) -/
  | abort (src : CmdSource) (light : Nat)
  /-- TEST_CHALLENGE (R86) -/
  | testChallenge (src : CmdSource)
  /-- TEST_HOLD_EXPIRY (R86) -/
  | testHoldExpiry
  /-- TEST_ENTER (R86) -/
  | testEnter (src : CmdSource) (light : Nat)
  /-- IMAGE_STAGE (R538) -/
  | imageStage (src : CmdSource)
  /-- IMAGE_VERIFY (R535) -/
  | imageVerify (src : CmdSource)
  /-- IMAGE_ACTIVATE (R537) -/
  | imageActivate (src : CmdSource)
  /-- LOG_READ (R531) -/
  | logRead (src : CmdSource)
  /-- SENSOR_READ (R84) -/
  | sensorRead (src : CmdSource)
  /-- PROVISION_COMMIT (R539) -/
  | provisionCommit (src : CmdSource)
  /-- DALI_SEND (R541) -/
  | daliSend (src : CmdSource)
  /-- DALI_SEND_DONE (R541) -/
  | daliSendDone (b : Fin 2) (how : DaliEnd)
  /-- SERVO_MODE (R408) -/
  | servoMode (src : CmdSource)
  /-- TIME_SET (R409) -/
  | timeSet (src : CmdSource)
  /-- TIME_GET (R84) -/
  | timeGet (src : CmdSource)
  /-- KEY_WRITE (R292) -/
  | keyWrite (src : CmdSource)
  /-- KEY_WRITE_PENDING_TIMEOUT (R293) -/
  | keyWritePendingTimeout
  /-- KEY_ERASE (R294) -/
  | keyErase (src : CmdSource)
  /-- KEY_STATE (R84) -/
  | keyState (src : CmdSource)
  /-- RETRAIN (R484) -/
  | retrain (src : CmdSource)
  /-- CAL_RUN (R188) -/
  | calRun (src : CmdSource)
  /-- CAL_RUN_DONE (R188) -/
  | calRunDone (r : Rad) (o : CalRunOut) (light : Nat)
  /-- CAL_INVALIDATE (R190) -/
  | calInvalidate (src : CmdSource)
  /-- CAL_STATUS (R84) -/
  | calStatus (src : CmdSource)
  /-- RADIO_DISABLE (R571) -/
  | radioDisable (who : Requester) (r : Rad) (w : Word)
  /-- RETUNE_REQUEST (R94) -/
  | retuneRequest (r : Rad) (target : Nat) (preset : Option (Fin 16))
  /-- RETUNE_REQUEST_REG (R95) -/
  | retuneRequestReg (who : Requester) (r : Rad) (w : Word) (sameCycle : Bool)
  /-- SYN_LOCK (R93) -/
  | synLock (r : Rad) (n : Fin 2) (band margin : Nat)
  /-- SYN_LOCK_TIMEOUT (R97) -/
  | synLockTimeout (r : Rad) (n : Fin 2) (light : Nat)
  /-- SYN_LOCK_LOSS (R96) -/
  | synLockLoss (r : Rad) (n : Fin 2)
  /-- SYN_SWITCH_COMPLETE (R93) -/
  | synSwitchComplete (r : Rad) (width : Fin 5)
  /-- TX_COMMAND (R98) -/
  | txCommand (r : Rad) (c : TxCmd)
  /-- TX_COMMIT (R100) -/
  | txCommit (r : Rad)
  /-- TX_COMMIT_DEADLINE (R103) -/
  | txCommitDeadline (r : Rad)
  /-- FRONT_END_EDGE (R107) -/
  | frontEndEdge (r : Rad) (k : FeEdge)
  /-- TX_RF_START (R118) -/
  | txRfStart (r : Rad)
  /-- TX_RF_END (R108) -/
  | txRfEnd (r : Rad)
  /-- FE_SEQ_SUBMIT (R106) -/
  | feSeqSubmit (who : Requester) (r : Rad) (w : Word)
  /-- FE_SEQ_APPLY (R106) -/
  | feSeqApply (r : Rad)
  /-- MISMATCH_AVERAGE (R110) -/
  | mismatchAverage (r : Rad) (c : Chain) (m0 m1 m2 m3 : Int)
  /-- DET_CFG_WRITE (R113) -/
  | detCfgWrite (who : Requester) (r : Rad) (w : Word)
  /-- MUTE_CLEAR (R111) -/
  | muteClear (who : Requester) (r : Rad) (w : Word)
  /-- MUTE_SET (R111) -/
  | muteSet (who : Requester) (r : Rad) (w : Word)
  /-- TUNER_COMMAND (R116) -/
  | tunerCommand (who : Requester) (r : Rad) (w : Word)
  /-- TUNER_COMMAND_DONE (R114) -/
  | tunerCommandDone (r : Rad) (data : Byte) (parityErr : Bool)
  /-- COEX_SYNC_EDGE (R117) -/
  | coexSyncEdge
  /-- COEX_BLANK_START (R117) -/
  | coexBlankStart (r : Rad)
  /-- COEX_BLANK_END (R117) -/
  | coexBlankEnd (r : Rad)
  /-- COEX_GNT_RISE (R118) -/
  | coexGntRise (r : Rad)
  /-- COEX_GNT_FALL (R119) -/
  | coexGntFall (r : Rad)
  /-- HOLAEL_RX_WINDOW (R128) -/
  | holaelRxWindow (r : Rad) (win : Option (Option Nat × Fin 8))
  /-- AGC_STF_DETECT (R143) -/
  | agcStfDetect (r : Rad) (idle : List Int) (level : Int) (again second : Option Int)
  /-- AGC_DETECT_TIMEOUT (R143) -/
  | agcDetectTimeout (r : Rad)
  /-- AGC_LLTF_FOUND (R143) -/
  | agcLltfFound (r : Rad) (settle : List Int)
  /-- AGC_RESTART (R145) -/
  | agcRestart (r : Rad) (level : Int) (again : Option Int)
  /-- RX_PPDU_END (R143) -/
  | rxPpduEnd (r : Rad) (syms : List (List (Int × Int × Int)))
  /-- HSIG_DECODED (R133) -/
  | hsigDecoded (r : Rad) (soft : List Int) (lsig : Nat)
  /-- CODEWORD_SUBMIT (R153) -/
  | codewordSubmit (r : Rad) (k : CwKind) (left : Nat) (syms : List (List (Int × Int × Int)))
  /-- GALLERY_DISPATCH (R155) -/
  | galleryDispatch (cell : Fin 6)
  /-- CODEWORD_DECODE_DONE (R152) -/
  | codewordDecodeDone (cell : Fin 6) (converged : Bool)
  /-- CODEWORD_DEADLINE (R157) -/
  | codewordDeadline (cell : Option (Fin 6)) (satisfied : Bool)
  /-- DEC_CTL_WRITE (R152) -/
  | decCtlWrite (who : Requester) (w : Word)
  /-- NF_WINDOW (R149) -/
  | nfWindow (r : Rad) (vals : List (List Int))
  /-- CAPTURE_COMPLETE (R168) -/
  | captureComplete (r : Rad) (e : CapEst) (clipped low : Bool)
  /-- CAL_APPLY (R180) -/
  | calApply (r : Rad)
  /-- REFRESH_HOLDOFF_EXPIRY (R184) -/
  | refreshHoldoffExpiry (r : Rad) (p : Fin 1025)
  /-- CAL_STEP_START (R169) -/
  | calStepStart (r : Rad) (k : CalStep)
  /-- CAL_STEP_END (R169) -/
  | calStepEnd (r : Rad) (value : Int) (sub margin : Nat)
  /-- CAL_STEP_ABORT (R169) -/
  | calStepAbort (r : Rad)
  /-- RX_GAIN_TRIGGER (R171) -/
  | rxGainTrigger (r : Rad)
  /-- RX_GAIN_UPDATE_TIMEOUT (R171) -/
  | rxGainUpdateTimeout (r : Rad)
  /-- THIN_CHAIN_EVAL (R175) -/
  | thinChainEval (r : Rad)
  /-- CAL_FRAME (R176) -/
  | calFrame (r : Rad) (frameId earliest deadline : Nat) (run : Option CalProbe)
  /-- LANTERN_TX (R197) -/
  | lanternTx (frameId : Fin 65536)
  /-- HOLAEL_EVENT_START (R207) -/
  | holaelEventStart (p : Fin 1025) (frameId : Fin 65536)
  /-- HOLAEL_FRAME_RX (R215) -/
  | holaelFrameRx (r : Rad) (psdu : List Byte) (train : List ToneRx) (raw : Nat)
  /-- HOLAEL_FRAME_TX (R235) -/
  | holaelFrameTx (r : Rad) (frameId : Fin 65536)
  /-- REPLY_WINDOW_CLOSE (R210) -/
  | replyWindowClose (r : Rad)
  /-- LANTERN_LISTEN_END (R233) -/
  | lanternListenEnd
  /-- CHMAP_CHANGE_REQ (R203) -/
  | chmapChangeReq (who : Requester) (w : Word)
  /-- CHMAP_SWITCH (R203) -/
  | chmapSwitch (member : Bool)
  /-- CHDEF_WRITE (R199) -/
  | chdefWrite (who : Requester) (i : Fin 64) (w : Word)
  /-- HOL_ROUND_WRITE (R201) -/
  | holRoundWrite (who : Requester) (w : Word)
  /-- PARENT_JOIN (R223) -/
  | parentJoin (who : Requester) (w : Word)
  /-- JOIN_REQ_TX (R223) -/
  | joinReqTx (frameId : Fin 65536) (k : Fin 256) (body : List Byte)
  /-- JOIN_RETRY (R223) -/
  | joinRetry
  /-- JOIN_SUPERVISION_TIMEOUT (R225) -/
  | joinSupervisionTimeout
  /-- MEMBER_SUPERVISION_TIMEOUT (R233) -/
  | memberSupervisionTimeout
  /-- SEARCH_TIMEOUT (R233) -/
  | searchTimeout
  /-- PARTNER_SUPERVISION_TIMEOUT (R234) -/
  | partnerSupervisionTimeout (p : Fin 1024)
  /-- ABSENCE_LIMIT_EXPIRY (R234) -/
  | absenceLimitExpiry (p : Fin 1024)
  /-- PARENT_LEAVE (R227) -/
  | parentLeave (who : Requester) (w : Word)
  /-- HOL_ADMIT (R238) -/
  | holAdmit (who : Requester) (w : Word)
  /-- HOL_RELEASE (R238) -/
  | holRelease (who : Requester) (w : Word)
  /-- HOL_ABSENCE_GO (R240) -/
  | holAbsenceGo (who : Requester) (w : Word)
  /-- ABSENCE_START (R240) -/
  | absenceStart (p : Option (Fin 1025))
  /-- ABSENCE_END (R241) -/
  | absenceEnd (p : Option (Fin 1025))
  /-- MAP_OFFER (R228) -/
  | mapOffer (p : Fin 1025) (r : Rad)
  /-- REORDER_TIMEOUT (R213) -/
  | reorderTimeout (r : Rad) (p : Fin 1025)
  /-- BEACON_TX (R250) -/
  | beaconTx (r : Rad) (a : WAir)
  /-- WLAN_FRAME_RX (R272) -/
  | wlanFrameRx (r : Rad) (f : WlanRx)
  /-- WLAN_TX_OPPORTUNITY (R257) -/
  | wlanTxOpportunity (r : Rad) (a : WAir) (v : WServe)
  /-- WLAN_REORDER_TIMEOUT (R259) -/
  | wlanReorderTimeout (n : Fin 1536) (tid : Fin 8)
  /-- STATION_STATE_WRITE (R253) -/
  | stationStateWrite (who : Requester) (n : Fin 1536) (w : Word)
  /-- PROTECT_CTS (R260) -/
  | protectCts (r : Rad) (a : WAir) (cts : Option Nat)
  /-- SOUNDING (R264) -/
  | sounding (r : Rad) (n : Fin 1536) (a : WAir)
  /-- TRIGGER_TX (R265) -/
  | triggerTx (r : Rad) (a : WAir) (users : List (Fin 1536))
  /-- TWT_SERVICE_PERIOD (R267) -/
  | twtServicePeriod (n : Fin 1536) (starts : Bool)
  /-- STEER_GO (R276) -/
  | steerGo (who : Requester) (r : Rad) (w : Word)
  /-- STEER_SWITCH_TIME (R276) -/
  | steerSwitchTime (r : Rad)
  /-- STEER_LIMIT_END (R276) -/
  | steerLimitEnd (r : Rad)
  /-- CIP_OPERATION_START (R572) -/
  | cipOperationStart (u : CipUser) (id : Nat) (slot : Fin 4096) (encrypt : Bool) (len : Fin 33) (expedited : Bool)
  /-- CIP_OPERATION_DONE (R292) -/
  | cipOperationDone (id : Nat)
  /-- CIP_JOB_FETCH (R301) -/
  | cipJobFetch (r : Fin 2)
  /-- CIP_JOB_WRITEBACK (R301) -/
  | cipJobWriteback (r : Fin 2)
  /-- CIP_RING_FAULT (R301) -/
  | cipRingFault (r : Fin 2)
  /-- CIP_JOB_CTL_WRITE (R301) -/
  | cipJobCtlWrite (who : Requester) (r : Fin 2) (w : Word)
  /-- MACSEC_RX_FRAME (R300) -/
  | macsecRxFrame (p : Fin 16)
  /-- PKT_FRAME_PARSE (R307) -/
  | pktFrameParse (src : Fin 19)
  /-- EP_BUCKET_READ_DONE (R319) -/
  | epBucketReadDone (k evict : Nat)
  /-- EP_READ_TIMEOUT (R322) -/
  | epReadTimeout (k : Nat)
  /-- RULE_ENTRY_WRITE (R323) -/
  | ruleEntryWrite (who : Requester) (n : Fin 8192) (i : Fin 36) (w : Word)
  /-- RULE_STAGE_ADD (R323) -/
  | ruleStageAdd (who : Requester) (n : Fin 8192)
  /-- RULE_STAGE_REMOVE (R323) -/
  | ruleStageRemove (who : Requester) (n : Fin 8192)
  /-- RULE_COMMIT (R324) -/
  | ruleCommit (who : Requester)
  /-- SEED_COMPLETE (R325) -/
  | seedComplete
  /-- VERSION_RETIRE (R326) -/
  | versionRetire
  /-- EP_INVALIDATE (R321) -/
  | epInvalidate (who : Requester) (w : Word)
  /-- EP_SEED_WRITE (R319) -/
  | epSeedWrite (who : Requester) (second : Bool) (w : Word)
  /-- FRAG_ENTRY_EXPIRY (R331) -/
  | fragEntryExpiry
  /-- FRAG_HOLD_EXPIRY (R333) -/
  | fragHoldExpiry
  /-- SCH_ENQUEUE (R351) -/
  | schEnqueue (src : EnqSrc)
  /-- SCH_SERVE (R343) -/
  | schServe (e : Fin 20) (who : Option (Fin 1025))
  /-- SHAPER_CREDIT_ZERO (R346) -/
  | shaperCreditZero (q : Fin 4096)
  /-- Q_FLUSH (R354) -/
  | qFlush (who : Requester) (w : Word)
  /-- METER_SUBMIT (R349) -/
  | meterSubmit (who : Requester) (m : Fin 16384) (w : Word)
  /-- SCH_Q_WRITE (R340) -/
  | schQWrite (who : Requester) (q : Fin 4096) (i : Fin 6) (w : Word)
  /-- PORT_ENABLE (R361) -/
  | portEnable (who : Requester) (p : Fin 16) (w : Word)
  /-- PORT_DISABLE (R361) -/
  | portDisable (who : Requester) (p : Fin 16) (w : Word)
  /-- SYMBOL_LOCK_CHANGE (R363) -/
  | symbolLockChange (q l : Fin 4) (signal : Bool) (bits : List Bool)
  /-- AUTONEG_COMPLETE (R365) -/
  | autonegComplete (p : Fin 16) (full psym pasym remoteFault : Bool)
  /-- SGMII_CONFIG_WORD (R366) -/
  | sgmiiConfigWord (p : Fin 16) (link : Bool) (speed : Fin 3) (full : Bool)
  /-- LINK_UP (R369) -/
  | linkUp (p : Fin 16)
  /-- LINK_DOWN (R369) -/
  | linkDown (p : Fin 16) (receiving : Bool)
  /-- KL_TS1_DETECTED (R375) -/
  | klTs1Detected (p : Fin 16) (ts : List (List (Fin 1024)))
  /-- KL_TRAIN_COMPLETE (R374) -/
  | klTrainComplete (p : Fin 16)
  /-- KL_TRAIN_TIMEOUT (R374) -/
  | klTrainTimeout (p : Fin 16)
  /-- KL_LOCK_ALIGNED (R374) -/
  | klLockAligned (p : Fin 16) (skew : Nat)
  /-- KL_LOCK_TIMEOUT (R374) -/
  | klLockTimeout (p : Fin 16)
  /-- KL_EXCHANGE_COMPLETE (R376) -/
  | klExchangeComplete (p : Fin 16)
  /-- KL_EXCHANGE_TIMEOUT (R374) -/
  | klExchangeTimeout (p : Fin 16)
  /-- KL_SIGNAL_LOSS (R374) -/
  | klSignalLoss (p : Fin 16) (receiving : Bool)
  /-- KL_LANE_FAILURE (R384) -/
  | klLaneFailure (p : Fin 16) (k : Fin 4) (receiving : Bool)
  /-- KL_MARKER_LOSS (R372) -/
  | klMarkerLoss (p : Fin 16) (receiving : Bool)
  /-- PARAM (R376) -/
  | param (p : Fin 16) (blk : List (List (Fin 1024)))
  /-- THRIFT_REQ (R383) -/
  | thriftReq (p : Fin 16) (blk : List (List (Fin 1024)))
  /-- THRIFT_ACK (R382) -/
  | thriftAck (p : Fin 16) (blk : List (List (Fin 1024)))
  /-- THRIFT_NAK (R380) -/
  | thriftNak (p : Fin 16) (blk : List (List (Fin 1024)))
  /-- LP_IDLE (R378) -/
  | lpIdle (p : Fin 16) (blk : List (List (Fin 1024)))
  /-- DEEP_REQ (R379) -/
  | deepReq (p : Fin 16) (blk : List (List (Fin 1024)))
  /-- DEEP_ACK (R379) -/
  | deepAck (p : Fin 16) (blk : List (List (Fin 1024)))
  /-- IDLE_E_ENTRY (R378) -/
  | idleEEntry (p : Fin 16)
  /-- IDLE_E_REFRESH (R378) -/
  | idleERefresh (p : Fin 16)
  /-- IDLE_E_RX_TIMEOUT (R378) -/
  | idleERxTimeout (p : Fin 16)
  /-- DEEP_IDLE_EXPIRY (R379) -/
  | deepIdleExpiry (p : Fin 16)
  /-- DEEP_EXIT (R379) -/
  | deepExit (p : Fin 16)
  /-- THRIFT_WINDOW (R380) -/
  | thriftWindow (p : Fin 16) (bits : Nat)
  /-- THRIFT_WIDTH_CHANGE (R382) -/
  | thriftWidthChange (p : Fin 16)
  /-- KL_RATE_FAIL (R382) -/
  | klRateFail (p : Fin 16)
  /-- MAC_FRAME_RX (R386) -/
  | macFrameRx (p : Fin 16) (f : List Byte) (raw var : Nat) (bad : List (Fin 4 × Bool)) (esym : Bool)
  /-- PAUSE_RX (R390) -/
  | pauseRx (p : Fin 16)
  /-- PAUSE_EXPIRY (R390) -/
  | pauseExpiry (p : Fin 16)
  /-- PAUSE_TX (R392) -/
  | pauseTx (p : Fin 16)
  /-- MAC_TX_FRAME (R388) -/
  | macTxFrame (p : Fin 16) (buffered : Nat)
  /-- TX_UNDERRUN (R388) -/
  | txUnderrun (p : Fin 16)
  /-- THRESH_RESET (R388) -/
  | threshReset (who : Requester) (p : Fin 16)
  /-- PORT_HOLDOFF (R391) -/
  | portHoldoff (p : Fin 16)
  /-- PORT_HOLDOFF_END (R391) -/
  | portHoldoffEnd (p : Fin 16)
  /-- LANE_TEST_WRITE (R387) -/
  | laneTestWrite (who : Requester) (q l : Fin 4) (w : Word)
  /-- OCTET_COUNTER_READ (R394) -/
  | octetCounterRead (who : Requester) (p : Fin 16) (tx : Bool)
  /-- TIME_NOW_READ (R399) -/
  | timeNowRead (who : Requester)
  /-- TIME_OFFSET_SUBMIT (R410) -/
  | timeOffsetSubmit (who : Requester) (w : Word)
  /-- HOLDOVER_ENTRY (R412) -/
  | holdoverEntry
  /-- CUFF_STORE (R404) -/
  | cuffStore (c : Fin 11) (k : Fin 19) (width : Fin 6) (frameId : Fin 65536) (boundary : Nat) (aborted errEnded : Bool)
  /-- CUFF_POP (R407) -/
  | cuffPop (who : Requester) (c : Fin 11)
  /-- DMA_CH_ENABLE (R438) -/
  | dmaChEnable (who : Requester) (c : Fin 64) (w : Word)
  /-- DMA_CH_DISABLE (R440) -/
  | dmaChDisable (who : Requester) (c : Fin 64) (w : Word)
  /-- DMA_KICK (R427) -/
  | dmaKick (who : Requester) (c : Fin 64)
  /-- DMA_DESC_FETCH (R426) -/
  | dmaDescFetch (c : Fin 64)
  /-- DMA_BURST (R432) -/
  | dmaBurst
  /-- DMA_WRITEBACK (R429) -/
  | dmaWriteback (c : Fin 64)
  /-- DMA_SHORT (R433) -/
  | dmaShort (c : Fin 64) (n : Nat)
  /-- DMA_ACCESS_FAULT (R439) -/
  | dmaAccessFault (c : Fin 64) (phase : Fin 4) (a : Nat)
  /-- DMA_RX_FRAME (R434) -/
  | dmaRxFrame (c : Fin 64)
  /-- TSK_SCH_ITEM (R443) -/
  | tskSchItem
  /-- TSK_SUBMIT (R443) -/
  | tskSubmit (k : Fin 24) (w : Word)
  /-- TSK_SUBMIT_TIMEOUT (R443) -/
  | tskSubmitTimeout (k : Fin 24)
  /-- TSK_GET (R445) -/
  | tskGet (k : Fin 24)
  /-- TSK_DONE (R447) -/
  | tskDone (k : Fin 24) (w : Word)
  /-- TSK_READY (R448) -/
  | tskReady (k : Fin 24) (id : Fin 65536)
  /-- TSK_CANCEL (R448) -/
  | tskCancel (k : Fin 24) (id : Fin 65536) (also : Meets)
  /-- TSK_LONG_RUN (R444) -/
  | tskLongRun (slot : Fin 4096)
  /-- AFFINITY_WAIT_EXPIRY (R446) -/
  | affinityWaitExpiry (slot : Fin 4096)
  /-- TSK_IRQ_SOFT (R451) -/
  | tskIrqSoft (who : Requester) (w : Word)
  /-- PERF_COUNTER_READ (R454) -/
  | perfCounterRead (who : Requester) (k : Fin 24) (n : Fin 16)
  /-- CLUSTER_PARK (R453) -/
  | clusterPark (who : Requester) (cl : Fin 3) (parked : Bool)
  /-- CHAMBER_SUBMIT (R463) -/
  | chamberSubmit (who : Requester) (n : Fin 2) (c : Fin 32) (w : Word)
  /-- CHAMBER_LOCK (R466) -/
  | chamberLock (who : Requester) (n : Fin 2) (w : Word)
  /-- DRAM_ACCESS (R469) -/
  | dramAccess (who : Requester) (x : Fin 0x400000000) (len : Fin 65) (data : Option (List Byte)) (e : EccFind) (bank : Fin 64) (row : Nat)
  /-- READ_PROMOTE (R470) -/
  | readPromote (n : Fin 2)
  /-- DRAM_REFRESH (R472) -/
  | dramRefresh (n : Fin 2)
  /-- MR4_READ (R472) -/
  | mr4Read (n : Fin 2) (code : Fin 256) (temp : Int)
  /-- WCK_OSC_READ (R483) -/
  | wckOscRead (n : Fin 2) (value : Nat)
  /-- SCRUB_READ (R478) -/
  | scrubRead (n : Fin 2) (e : EccFind)
  /-- TRAINING_COMPLETE (R483) -/
  | trainingComplete (n : Fin 2) (ok : Bool) (light : Nat)
  /-- RESYNC_COMPLETE (R479) -/
  | resyncComplete
  /-- WAKE_PHASE_READY (R489) -/
  | wakePhaseReady (u : Fin 34) (bad : List (Fin 4096))
  /-- WAKE_PHASE_TIMEOUT (R490) -/
  | wakePhaseTimeout (u : Fin 34) (light : Nat)
  /-- ISLAND_DARK (R494) -/
  | islandDark (u : Fin 34)
  /-- ENTRY_WINDOW_END (R495) -/
  | entryWindowEnd (held goMask : Fin 1024) (light : Nat)
  /-- WAKE_EVENT (R497) -/
  | wakeEvent (src : Fin 10) (go : Bool) (light : Nat)
  /-- DARK_ACCESS (R499) -/
  | darkAccess (who : Requester) (i : Fin 22) (off : Fin 0x1000000) (write : Bool)
  /-- THRIFT_FILL_CHECK (R504) -/
  | thriftFillCheck (light : Nat)
  /-- VIGIL_CYCLE_POINT (R506) -/
  | vigilCyclePoint
  /-- VIGIL_COMPARE (R510) -/
  | vigilCompare (light0 light1 : Fin 4096) (gpio : Fin 16)
  /-- VIGIL_RADIO_WAKE (R507) -/
  | vigilRadioWake
  /-- VIGIL_LANTERN_FOUND (R508) -/
  | vigilLanternFound (hsig stamp : Nat)
  /-- VIGIL_LISTEN_END (R508) -/
  | vigilListenEnd
  /-- VIGIL_STATUS_CLEAR (R510) -/
  | vigilStatusClear (who : Requester) (w : Word)
  /-- RENEW_PREPARE_DONE (R511) -/
  | renewPrepareDone (i : Fin 22)
  /-- RENEW_PREPARE_TIMEOUT (R511) -/
  | renewPrepareTimeout (i : Fin 22)
  /-- RENEW_DRAIN_IDLE (R511) -/
  | renewDrainIdle (i : Fin 22)
  /-- RENEW_DRAIN_TIMEOUT (R513) -/
  | renewDrainTimeout (i : Fin 22)
  /-- RENEW_FENCE_SAVED (R514) -/
  | renewFenceSaved (i : Fin 22)
  /-- RENEW_FENCE_TIMEOUT (R515) -/
  | renewFenceTimeout (i : Fin 22) (light : Nat)
  /-- RENEW_MITTEN_ELAPSED (R511) -/
  | renewMittenElapsed (i : Fin 22)
  /-- RENEW_LOAD_DONE (R511) -/
  | renewLoadDone (i : Fin 22) (ok : Bool) (light : Nat)
  /-- RENEW_LOAD_TIMEOUT (R516) -/
  | renewLoadTimeout (i : Fin 22) (light : Nat)
  /-- RENEW_CALIBRATE_DONE (R511) -/
  | renewCalibrateDone (i : Fin 22) (gains : List (Nat × Int)) (bands : List (Nat × Nat)) (light : Nat)
  /-- RENEW_CALIBRATE_TIMEOUT (R516) -/
  | renewCalibrateTimeout (i : Fin 22) (light : Nat)
  /-- GLOVE_KICK (R521) -/
  | gloveKick (who : Requester) (w : Word)
  /-- GLOVE_KICK_TIMEOUT (R521) -/
  | gloveKickTimeout (g : Fin 2) (light : Nat)
  /-- CUDOM_WATCHDOG (R521) -/
  | cudomWatchdog (light : Nat)
  /-- SENSOR_SAMPLE (R525) -/
  | sensorSample (die : List Int) (mv ma : List Nat) (tcxo lane : Int) (light : Nat)
  /-- LOG_ENTRY (R528) -/
  | logEntry
  /-- LOG_PAGE_WRITE (R529) -/
  | logPageWrite
  /-- LOG_SUPPRESS_SUMMARY (R530) -/
  | logSuppressSummary
  /-- DALI_SCHEDULE_ENTRY (R542) -/
  | daliScheduleEntry (e : Fin 64)
  /-- DALI_FORWARD_RX (R541) -/
  | daliForwardRx (b : Fin 2) (bits24 : Bool) (frame : Fin 0x1000000)
  /-- DALI_BUS_DOWN (R543) -/
  | daliBusDown (b : Fin 2) (low : Bool)
  /-- IMAGE_STAGE_DONE (R538) -/
  | imageStageDone (ended : Bool)
  /-- IMAGE_VERIFY_DONE (R535) -/
  | imageVerifyDone
  /-- LOG_READ_DONE (R531) -/
  | logReadDone
  /-- PROVISION_COMMIT_DONE (R539) -/
  | provisionCommitDone (light : Nat)
  /-- JOIN_WINDOW_OPEN (R224) -/
  | joinWindowOpen (frameId : Fin 65536) (rsp : Option (Fin 4096 × Fin 3 × Fin 4 × Fin 1024 × List Byte))
  /-- LANE_PLL_LOCK (R358) -/
  | lanePllLock (q : Fin 4) (b : Bool)
  /-- AUTONEG_RESTART (R391) -/
  | autonegRestart (p : Fin 16)
  /-- LINK_FAULT_SIGNAL (R368) -/
  | linkFaultSignal (p : Fin 16) (loc rem : Bool) (skew : Nat)
  /-- PAUSE_TX_REPEAT (R392) -/
  | pauseTxRepeat (p : Fin 16)
  deriving DecidableEq, Repr

end Sys2Proof
end

