-- ==== Sys2Proof/Decode.lean ====
section
/-!
DEFINITION. The words of commands. No row of the opcode table gives bits: a command reaches the block as a register write, a
packet, a frame, an edge of a pin or an instant, and none has a word of its own.
-/

namespace Sys2Proof

/-- The command that a word spells by the table's bits: none, since the table gives no row any (log entry 1). -/
def decodeTableWord (_nbits _w : Nat) : Option Instr := none

end Sys2Proof
end

