-- ==== Sys2Proof/Config.lean ====
section
/-!
DEFINITION. What an implementation fixes and the spec leaves open: the free values. None has a body, so no
proof can see its value.
-/

namespace Sys2Proof

/-- An unsigned value the spec leaves open, fresh at each use: applied to the counter `State.free` (log entry 3). -/
opaque Config.freeNat : Nat → Nat

/-- A byte the spec leaves open, fresh at each use: applied to the counter `State.free` and an index (log entry 3). -/
opaque Config.freeByte : Nat → Nat → Byte

/-- The gain state that HMAC's rate control commands on a chain: applied to the radio, the frame and the chain (log entry 113). -/
opaque Config.gainState : Nat → Nat → Nat → Nat

/-- The data byte of the trigger write to register 0x1C on the tuner bus (log entry 114). -/
opaque Config.trigByte : Byte

/-- The tone plan sequences of IEEE 802.11be (log entry 115): the value of the EHT-LTF at a width on a subcarrier. -/
opaque Config.ltf : Nat → Int → Int

/-- The pilot value of IEEE 802.11be at a width, in a data symbol, on a pilot subcarrier (log entry 115). -/
opaque Config.pilot : Nat → Nat → Int → Int

/-- What a radio interpolates for its centre, in 78.125 kHz units, from values of its calibration channels (log entry 48). -/
opaque Config.interp : Nat → List Int → Int

/-- The common phase error and the phase slope, 0.01 degrees, that the receiver estimates from a symbol's pilots (log entry 116). -/
opaque Config.pilotPhase : List (Int × Int × Int) → Int
opaque Config.pilotSlope : List (Int × Int × Int) → Int

end Sys2Proof
end

