-- ==== Sys2Proof/Machine/Formats.lean ====
section
/-!
DEFINITION. PPDU formats: what each radio transmits and receives, puncturing, the signal extension, and channel widths (R89, R121,
R122, R127).
-/

namespace Sys2Proof.Machine

/-- The largest width code of a radio's channels: 40, 160 and 320 MHz (R89). -/
def maxWidth (r : Nat) : Nat := if r = 0 then 1 else if r = 1 then 3 else 4

/-- Spatial streams of a radio: as many as it has chains. -/
def maxStreams (r : Nat) : Nat := if r = 0 then 4 else 8

/-- The puncturing patterns of 20 MHz subchannels that IEEE 802.11be gives a width: one subchannel at 80 MHz; one, or an aligned
pair, at 160 MHz; an aligned pair, an aligned four, or an outer four with a pair of the rest, at 320 MHz (log entry 126). -/
def punctures (width : Nat) : List Nat :=
  let ones (n : Nat) : List Nat := (List.range n).map (2 ^ ·)
  let pairs (n : Nat) : List Nat := (List.range n).map (fun k => 3 * 4 ^ k)
  match width with
  | 2 => ones 4
  | 3 => ones 8 ++ pairs 4
  | 4 => pairs 8 ++ (List.range 4).map (fun k => 15 * 16 ^ k) ++ ((pairs 8).drop 2).map (15 + ·)
      ++ ((pairs 8).take 6).map (15 * 4096 + ·)
  | _ => []

/-- Is a pattern one that a PPDU of this width may carry on a radio: none on Radio L? -/
def punctOk (r width p : Nat) : Bool := p == 0 || (r != 0 && (punctures width).contains p)

/-- May a radio receive a PPDU of this kind (R121)? -/
def rxFmtOk (r : Nat) (x : Tx) : Bool :=
  let wide := x.width ≤ maxWidth r && 1 ≤ x.streams
  match x.fmt with
  | .dsss => r == 0 && x.width == 0 && x.streams == 1 && x.punct == 0
  | .nonHt => wide && x.streams == 1 && x.mcs ≤ 7 && (r != 0 || x.width == 0) && punctOk r x.width x.punct
  | .ht => r ≤ 1 && wide && x.width ≤ 1 && x.mcs ≤ 31 && x.streams == x.mcs / 8 + 1 && x.punct == 0
  | .vht => r == 1 && wide && x.mcs ≤ 9 && x.streams ≤ 8 && x.punct == 0
  | .he => wide && x.width ≤ 3 && x.mcs ≤ 11 && x.streams ≤ maxStreams r && punctOk r x.width x.punct
  | .heEr => wide && x.width == 0 && x.mcs ≤ 2 && x.streams == 1 && x.punct == 0
  | .eht => wide && (x.mcs ≤ 13 || x.mcs == 15) && x.streams ≤ maxStreams r && punctOk r x.width x.punct
  | .holael => x.width ≤ (if r = 0 then 0 else maxWidth r) && 1 ≤ x.streams && x.streams ≤ 4 && x.punct == 0

/-- Does a radio receive a PPDU with this preamble: STBC in HT and VHT alone (R122)? -/
def rxPreOk (r : Nat) (p : RxPreamble) : Bool := rxFmtOk r p.tx && (!p.stbc || p.tx.fmt == .ht || p.tx.fmt == .vht)

/-- May a radio transmit it: all but HE ER SU (R121, R122)? -/
def txFmtOk (r : Nat) (x : Tx) : Bool := x.fmt != .heEr && rxFmtOk r x

/-- The signal extension of OFDM PPDUs on Radio L, ns (R121). -/
def sigExtNs (r : Nat) (f : Fmt) : Nat :=
  if r ≠ 0 then 0
  else match f with
    | .dsss | .holael => 0
    | .nonHt | .ht | .vht | .he | .heEr | .eht => 6000

/-- A non-HT PPDU at 6 Mb/s or above on one 20 MHz channel. -/
def Tx.nonHt (mcs : Nat) : Tx := ⟨.nonHt, 0, mcs, 1, 0⟩

/-- A Holael PPDU. -/
def Tx.holael (width streams : Nat) : Tx := ⟨.holael, width, 0, streams, 0⟩

end Sys2Proof.Machine
end

