-- ==== Sys2Proof/Machine/Table.lean ====
section
/-!
DEFINITION. Sparse tables: lists of (key, value) pairs in one canonical form, keys strictly rising and no entry equal
to what an unlisted key reads as. Every addressed store of the state (registers, memories, indexed state) is one.
-/

namespace Sys2Proof.Machine

/-- A sparse table keyed by Nat. -/
abbrev Tbl (α : Type) := List (Nat × α)

variable {α : Type}

/-- The entry listed under a key. -/
def Tbl.find? : Tbl α → Nat → Option α
  | [], _ => none
  | (k', v) :: t, k => if k' = k then some v else Tbl.find? t k

/-- What a key reads as: its entry, else the default of that key. -/
def Tbl.get (d : Nat → α) (t : Tbl α) (k : Nat) : α := (Tbl.find? t k).getD (d k)

/-- The table with an entry at its sorted place. -/
def Tbl.insert (k : Nat) (v : α) : Tbl α → Tbl α
  | [] => [(k, v)]
  | (k', v') :: t =>
    if k < k' then (k, v) :: (k', v') :: t
    else if k' = k then (k, v) :: t
    else (k', v') :: Tbl.insert k v t

/-- The table without the entries of a key. -/
def Tbl.erase (k : Nat) : Tbl α → Tbl α
  | [] => []
  | (k', v') :: t => if k' = k then Tbl.erase k t else (k', v') :: Tbl.erase k t

/-- The table after a write: the default value removes the entry, which keeps the canonical form. -/
def Tbl.set [DecidableEq α] (d : Nat → α) (k : Nat) (v : α) (t : Tbl α) : Tbl α :=
  if v = d k then Tbl.erase k t else Tbl.insert k v t

/-- The table without the entries whose key satisfies p. -/
def Tbl.drop (p : Nat → Bool) : Tbl α → Tbl α
  | [] => []
  | (k, v) :: t => if p k then Tbl.drop p t else (k, v) :: Tbl.drop p t

/-- Keys of the table are all above k and strictly rising. -/
def Tbl.sortedAbove : Option Nat → Tbl α → Bool
  | _, [] => true
  | none, (k, _) :: t => Tbl.sortedAbove (some k) t
  | some j, (k, _) :: t => j < k && Tbl.sortedAbove (some k) t

/-- No entry equals its key's default. -/
def Tbl.noDefault [DecidableEq α] (d : Nat → α) (t : Tbl α) : Bool :=
  t.all (fun e => !decide (e.2 = d e.1))

/-- The canonical form. -/
def Tbl.wf [DecidableEq α] (d : Nat → α) (t : Tbl α) : Bool :=
  Tbl.sortedAbove none t && Tbl.noDefault d t

end Sys2Proof.Machine
end

