-- ==== Sys2Proof/Machine/StRadio.lean ====
section
/-!
DEFINITION. The state of a radio unit, its PHY and its calibration that no software register holds, and of the gallery.
-/

namespace Sys2Proof.Machine

/-- A transfer on the tuner bus (R114): kind as rad_TUN_CMD codes it, slave, register, data. -/
structure TunOp where
  kind : Nat
  usid : Nat
  addr : Nat
  data : Byte
  deriving DecidableEq, Repr

/-- A synthesiser beside its registers (R93–R97, R115): its preset's writes still to go out while it tunes; whether a preset's writes
have gone out, so that the switch triggers them; and whether the lock timed out once. -/
structure Syn where
  writes : List TunOp
  issued : Bool
  retried : Bool
  deriving DecidableEq, Repr

/-- Nothing to issue. -/
def Syn.idle : Syn := ⟨[], false, false⟩

/-- The pending slot (R98–R103): the command, its starts in ns of district time, the commit lead of the tables in force when it
entered the slot, the RF start once committed, whether a switch must come first, and whether it waits for the grant. -/
structure Slot where
  cmd : TxCmd
  earliest : Nat
  deadline : Nat
  lead : Nat
  commit : Option Nat
  switch : Bool
  gntWait : Bool
  deriving DecidableEq, Repr

/-- A PPDU in transmission: its command, RF start, chains radiating, the gain state of each chain after back-off, calibration
version, and the chain that the mismatch detector has selected. -/
structure Air where
  cmd : TxCmd
  start : Nat
  chains : Nat
  gs : List Nat
  version : Nat
  det : Option Nat
  deriving DecidableEq, Repr

/-- A completed transmit command as HMAC gets it. -/
structure TxDone where
  frameId : Nat
  status : Nat
  aborted : Bool
  version : Nat
  deriving DecidableEq, Repr

/-- RF time of one transmission for the thin-chain test and R176, with the gain state of each chain. -/
structure RfLog where
  chains : Nat
  gs : List Nat
  start : Nat
  stop : Nat
  cal : Bool
  deriving DecidableEq, Repr

/-- The capture of a PPDU (R167, R168, R177): chain, gain state, whether it is to be discarded, and the chains of a
calibration frame still to be captured. -/
structure Capture where
  chain : Nat
  gs : Nat
  bad : Bool
  rest : List Nat
  deriving DecidableEq, Repr

/-- A Holael receive window that HMAC holds open (R128, R145, R146): partner where one is expected, channel width code. -/
structure RxWin where
  partner : Option Nat
  width : Nat
  deriving DecidableEq, Repr

/-- Why a PPDU or a frame was reported lost: the radio lost it (R96, R571), DEC dark (R158), or erased codewords (R157). -/
inductive RxCause where
  | radio | decDark | decDeadline
  deriving DecidableEq, Repr

/-- A PPDU in reception or just received: its number on the radio; why it is lost, if it is; an accepted Holael PPDU's H-SIG and
the window that it came in; whether it is discarded, and the receiver busy until (ns); RX_DEC_DARK or RX_OBSS_SKIPPED already
counted for it; codewords submitted, and those of them erased; common phase error and averaged phase slope of its last symbol,
0.01 degrees, and the slopes of the last three symbols, latest first (R148). -/
structure Rx where
  num : Nat
  lost : Option RxCause
  hsig : Option (Nat × RxWin)
  discard : Bool
  busyUntil : Nat
  counted : Bool
  cws : Nat
  erased : List Nat
  cpe : Int
  slope : Int
  slopes : List Int
  deriving DecidableEq, Repr

/-- A PPDU whose reception begins. -/
def Rx.start (num : Nat) : Rx :=
  { num := num, lost := none, hsig := none, discard := false, busyUntil := 0, counted := false, cws := 0, erased := []
    cpe := 0, slope := 0, slopes := [] }

/-- A flowstone entry (R172): sum of estimates (two for loop 3), sum of measured EVM, and count. -/
structure Flow where
  sum : Int
  sum2 : Int
  evm : Int
  count : Nat
  deriving DecidableEq, Repr

def Flow.empty : Flow := ⟨0, 0, 0, 0⟩

/-- A coefficient set in force or staged: the estimate behind it, its second value (loop 3), its predicted EVM, and its
predistortion coefficients (loop 2). -/
structure CalSet where
  est : Int
  est2 : Int
  evm : Int
  coefs : List (Int × Int)
  deriving DecidableEq, Repr

def CalSet.none : CalSet := ⟨0, 0, 0, []⟩

/-- A staged set: where it belongs (loop, chain, gain state) and the EVM measured under the set leaving force. -/
structure Staged where
  loop : Nat
  chain : Nat
  gs : Nat
  set : CalSet
  measured : Int
  deriving DecidableEq, Repr

/-- The watch of R182 on a chain and gain state: captures taken, sum of EVM, EVM recorded for the old sets, the old sets. -/
structure Watch where
  taken : Nat
  sum : Int
  oldEvm : Int
  old : List Staged
  deriving DecidableEq, Repr

/-- A calibration step in progress (R169). -/
structure StepRun where
  step : CalStep
  start : Nat
  deriving DecidableEq, Repr

/-- Calibration of a radio beside its registers (R164–R191). -/
structure CalState where
  /-- chain last captured -/
  turn : Nat
  capture : Option Capture
  /-- flowstone, by 64 · loop + 8 · chain + gain state -/
  flow : Tbl Flow
  /-- sets in force, by the same key -/
  inForce : Tbl CalSet
  staged : List Staged
  watch : Tbl Watch
  /-- elapsed time of the last application, ns -/
  lastApply : Option Nat
  step : Option StepRun
  /-- a step that yielded to a command and resumes after its RF (R102) -/
  yielded : Option CalStep
  /-- receive gain update (R171): running since, steps done by 32 · chain + gain; result steps -/
  gainRun : Option Nat
  gainDone : Tbl Int
  /-- receive gain tables in force, 0.25 dB, by 32 · chain + gain step -/
  gainTable : Tbl Int
  /-- temperature (0.125 °C) and elapsed time of the last table -/
  gainTemp : Int
  gainAt : Nat
  /-- a receive gain table, and synthesiser band entries, that wait for application -/
  gainNew : Option (Tbl Int)
  bandNew : Tbl Nat
  /-- synthesiser band table: band by 512 · synthesiser + 20 MHz sub-band -/
  bands : Tbl Nat
  rfLog : List RfLog
  /-- elapsed time each chain was last served by a calibration frame -/
  served : Tbl Nat
  /-- WLAN steering matrices stale (R187) -/
  steerStale : Bool
  deriving DecidableEq, Repr

/-- A radio unit, its PHY and its calibration (R89–R191) beside the registers. -/
structure RadState where
  syn0 : Syn
  syn1 : Syn
  /-- retune waiting while one synthesiser is in FAULT (R97): target, preset -/
  retune : Option (Nat × Option Nat)
  slot : Option Slot
  /-- commands that HMAC holds until the slot is free, in order: responses waiting behind a committed command, commands that a
  response displaced, others (R98) -/
  held : List TxCmd
  air : Option Air
  last : Option TxDone
  /-- end of the last RF or unwinding on each chain, ns (R107, R108); when COEX_REQ of an unwound command falls -/
  ends : Tbl Nat
  coexEnd : Option Nat
  paEn : Nat
  lnaEn : Nat
  trsw : Nat
  coexReq : Bool
  coexPri : Bool
  detSel : Nat
  obsSel : Nat
  gnt : Bool
  /-- sequencing table in force and the one submitted: lead word, lag word (R106) -/
  seqLead : Word
  seqLag : Word
  seqNext : Option (Word × Word)
  /-- chain last measured by the detector; measurements per chain since its last average; consecutive release averages per
  chain (R109, R110) -/
  detTurn : Nat
  detCount : Tbl Nat
  release : Tbl Nat
  /-- back-off and mute in effect, and changes due (R110, R180) -/
  backedOff : Nat
  muted : Nat
  relDue : Nat
  muteDue : Nat
  /-- blanking windows scheduled or open, as start and end in ns; whether the first is open (R117) -/
  blanks : List (Nat × Nat)
  blankOpen : Bool
  rxWin : Option RxWin
  /-- the PPDU in reception; the last received, while codewords or its frame may follow; how many there have been; why the last
  frame or PPDU reported lost was lost -/
  rx : Option Rx
  done : Option Rx
  rxNum : Nat
  loss : Option RxCause
  /-- elapsed time since which the radio is idle (R149) -/
  idleSince : Nat
  /-- elapsed time at which gain control last entered DETECT (R143) -/
  detectAt : Nat
  /-- tuner bus: the transfers last issued, in order; whether the software command has started (R114–R116) -/
  tunSent : List TunOp
  tunGo : Bool
  /-- frames dropped at its full receive FIFO (R33) -/
  fifoDrop : Nat
  /-- gain of the last IDLE; gain last frozen per partner (R143, R146) -/
  idleGain : Nat
  frozen : Tbl Nat
  cal : CalState
  deriving DecidableEq, Repr

/-- Calibration of a radio just lit, before any record is loaded. -/
def CalState.init : CalState :=
  { turn := 7, capture := none, flow := [], inForce := [], staged := [], watch := [], lastApply := none, step := none,
    yielded := none, gainRun := none, gainDone := [], gainTable := [], gainTemp := 0, gainAt := 0, gainNew := none,
    bandNew := [], bands := [],
    rfLog := [], served := [], steerStale := false }

/-- A radio in the front-end safe state with both synthesisers off (R91); the default sequencing table (log entry 6). -/
def RadState.init : RadState :=
  { syn0 := Syn.idle, syn1 := Syn.idle, retune := none, slot := none, held := [],
    air := none, last := none, ends := [], coexEnd := none, paEn := 0, lnaEn := 0, trsw := 0, coexReq := false, coexPri := false,
    detSel := 0, obsSel := 0, gnt := false, seqLead := 0x2C2818, seqLag := 0x100C04, seqNext := none, detTurn := 7,
    detCount := [], release := [], backedOff := 0, muted := 0, relDue := 0, muteDue := 0, blanks := [], blankOpen := false,
    rxWin := none, rx := none, done := none, rxNum := 0, loss := none, idleSince := 0, detectAt := 0, tunSent := [], tunGo := false, fifoDrop := 0, idleGain := 25, frozen := [], cal := CalState.init }

/-- A codeword (R153): radio, number of its PPDU and its place in it, deadline in half nanoseconds of elapsed time, class,
submission time and number. -/
structure Codeword where
  radio : Nat
  ppdu : Nat
  place : Nat
  deadline : Nat
  isProtected : Bool
  at_ : Nat
  num : Nat
  deriving DecidableEq, Repr

/-- A codeword in a cell: its iteration limit and start, half nanoseconds. -/
structure CellRun where
  cw : Codeword
  limit : Nat
  start : Nat
  deriving DecidableEq, Repr

/-- The gallery (R151–R157): waiting codewords in order of submission, and cells 0–5. -/
structure GalState where
  waiting : List Codeword
  cells : Tbl CellRun
  num : Nat
  deriving DecidableEq, Repr

def GalState.init : GalState := ⟨[], [], 0⟩

end Sys2Proof.Machine
end

