-- ==== Sys2Proof/Machine/Ofdm.lean ====
section
/-!
DEFINITION. The OFDM PHY's arithmetic: H-SIG, TXTIME, convolutional and LDPC coding, bit loading onto constellations, training and
equalisation (R123, R125, R126, R129–R136, R147, R148). What IEEE 802.11 fixes and the manual only names stands here as that
standard has it (log entries 115, 118).
-/

namespace Sys2Proof.Machine

/-! ### H-SIG (R129, R130, R132) -/

/-- The HT-SIG CRC over the low n bits of a word, bit 0 first: x^8 + x^2 + x + 1, preset to ones, complemented; the
result's first sent bit is its most significant (R130). -/
def hsigCrcGo (w : Nat) : Nat → Nat → Nat
  | 0, c => c
  | n + 1, c =>
    let i := 39 - n
    let f := (c.testBit 7) ^^ (w.testBit i)
    hsigCrcGo w n ((2 * c % 256) ^^^ (if f then 7 else 0))

/-- The crc field, as bits 40–47 of H-SIG hold it: bit 40 is sent first. -/
def hsigCrc (w : Nat) : Nat :=
  let c := 255 - hsigCrcGo w 40 255
  (List.range 8).foldl (fun a i => if c.testBit (7 - i) then a + 2 ^ i else a) 0

/-- A field of H-SIG. -/
def hsigField (w hi lo : Nat) : Nat := w / 2 ^ lo % 2 ^ (hi + 1 - lo)
def hsigVersion (w : Nat) : Nat := hsigField w 1 0
def hsigType (w : Nat) : Nat := hsigField w 5 2
def hsigPartner (w : Nat) : Nat := hsigField w 15 6
def hsigMapId (w : Nat) : Nat := hsigField w 17 16
def hsigStreams (w : Nat) : Nat := hsigField w 19 18 + 1
def hsigGi (w : Nat) : Nat := hsigField w 21 20
def hsigLength (w : Nat) : Nat := hsigField w 38 22
def hsigMore (w : Nat) : Bool := w.testBit 39

/-- An H-SIG built from its fields, version 0b00, with its crc (R129, R130). -/
def hsigBuild (type partner mapId streams gi len : Nat) (more : Bool) : Nat :=
  let w := type % 16 * 4 + partner % 1024 * 2 ^ 6 + mapId % 4 * 2 ^ 16 + (streams - 1) % 4 * 2 ^ 18 + gi % 4 * 2 ^ 20
    + len % 2 ^ 17 * 2 ^ 22 + (if more then 2 ^ 39 else 0)
  w + hsigCrc w * 2 ^ 40

/-- Does a frame type use a map (R132)? -/
def usesMap (t : Nat) : Bool := t = 1 || t = 2 || t = 3 || t = 6 || t = 7 || t = 8

/-- Frame types of the immediate gallery class (R131 table). -/
def immediate (t : Nat) : Bool := t = 1 || t = 2 || t = 4 || t = 6

/-! ### Lengths and times (R125, R126, R135, R139) -/

/-- Data subcarriers and tone groups by width code (R139). -/
def dataTones (w : Nat) : Nat := [234, 468, 980, 1960, 3920].getD w 234
def toneGroups (w : Nat) : Nat := (dataTones w + 3) / 4

/-- Subcarriers in group g of a width. -/
def groupSize (w g : Nat) : Nat := min 4 (dataTones w - 4 * g)

/-- Information bits of a codeword by rate code 0 1/2, 1 2/3, 2 3/4, 3 5/6. -/
def infoBits (rate : Nat) : Nat := [972, 1296, 1458, 1620].getD rate 972

/-- Codewords of a PSDU of L bytes, its shortening bits, and its coded bits (R135). -/
def nCw (len rate : Nat) : Nat := (8 * len + infoBits rate - 1) / infoBits rate
def nShrt (len rate : Nat) : Nat := nCw len rate * infoBits rate - 8 * len
def nCoded (len rate : Nat) : Nat := nCw len rate * 1944 - nShrt len rate

/-- N_sym for a PSDU of L bytes, rate code and B coded bits a symbol (R135). -/
def nSym (len rate b : Nat) : Nat := (nCoded len rate + b - 1) / b

/-- Guard interval in ns. -/
def giNs (g : Nat) : Nat := [800, 1600, 3200].getD g 800

/-- TXTIME in ns (R125). -/
def holTxTime (streams sym gi : Nat) : Nat := 28000 + (streams + sym) * (12800 + giNs gi)

/-- L-SIG LENGTH of a Holael PPDU of this TXTIME in ns, and the duration D in ns that a LENGTH gives (R126). -/
def lsigLength (txtime : Nat) : Nat := (txtime - 20000 + 3999) / 4000 * 3 - 3
def lsigDuration (len : Nat) : Nat := (len + 3) / 3 * 4000 + 20000

/-- Base loading at a width: coded bits per symbol, one stream of 2 bits (R132). -/
def baseBits (w : Nat) : Nat := 2 * dataTones w

/-! ### Convolutional coding (R123, R126, R131) -/

/-- The two coded bits for an input bit and the last six, latest first: generators 133 and 171. -/
def bccOut (b : Bool) (m : List Bool) : Bool × Bool :=
  let d (i : Nat) : Bool := m.getD (i - 1) false
  (b ^^ d 2 ^^ d 3 ^^ d 5 ^^ d 6, b ^^ d 1 ^^ d 2 ^^ d 3 ^^ d 6)

/-- The rate-1/2 code from an encoder state. -/
def bccEncode : List Bool → List Bool → List Bool
  | _, [] => []
  | m, b :: l => (bccOut b m).1 :: (bccOut b m).2 :: bccEncode ((b :: m).take 6) l

/-- In tail-biting form: the encoder preset to the last six bits (R131). -/
def bccTailBiting (l : List Bool) : List Bool := bccEncode (l.reverse.take 6) l

/-- The low n bits of a word, bit 0 first. -/
def bitList (n w : Nat) : List Bool := (List.range n).map (fun i => w.testBit i)

/-- The word that bits spell, the first its bit 0. -/
def ofBitList : List Bool → Nat
  | [] => 0
  | b :: l => (if b then 1 else 0) + 2 * ofBitList l

/-- The interleaver of L-SIG on a block of 48, and its inverse. -/
def interleave48 {α : Type} (z : α) (l : List α) : List α := (List.range 48).map (fun i => l.getD (16 * (i % 3) + i / 3) z)
def deinterleave48 {α : Type} (z : α) (l : List α) : List α := (List.range 48).map (fun k => l.getD (3 * (k % 16) + k / 16) z)

/-- BPSK: 0 at −1, 1 at +1. -/
def bpsk (b : Bool) : Int := if b then 1 else -1

/-- The two BPSK symbols of H-SIG on the 48 data subcarriers of the legacy numerology (R131). -/
def hsigSymbols (w : Nat) : List (List Int) :=
  let c := bccTailBiting (bitList 48 w)
  [(interleave48 false (c.take 48)).map bpsk, (interleave48 false (c.drop 48)).map bpsk]

/-- The bits of L-SIG: 6 Mb/s, LENGTH, even parity, six zeros (R126). -/
def lsigBits (len : Nat) : List Bool :=
  let b := [true, true, false, true, false] ++ bitList 12 len
  b ++ [b.foldl (· ^^ ·) false] ++ List.replicate 6 false

/-- The BPSK symbol of L-SIG. -/
def lsigSymbol (len : Nat) : List Int := (interleave48 false (bccEncode (List.replicate 6 false) (lsigBits len))).map bpsk

/-- The rotation of each 20 MHz subchannel of the legacy preamble, in quarter turns, by width code (R126). -/
def legacyTurns (width : Nat) : List Nat :=
  [[0], [0, 1], [0, 2, 2, 2], [0, 2, 2, 2, 0, 2, 2, 2], [0, 2, 2, 2, 0, 2, 2, 2, 2, 0, 0, 0, 2, 0, 0, 0]].getD width [0]

/-- A survivor of the trellis: metric and bits, latest first. -/
abbrev Survivor := Int × List Bool

/-- One state's survivor after a step: the better of two predecessors. -/
def acs (b : Bool) (s0 s1 : Int) (m : List Bool) (x y : Survivor) : Survivor :=
  let gain (last : Bool) : Int :=
    let o := bccOut b (m ++ [last])
    (if o.1 then s0 else -s0) + (if o.2 then s1 else -s1)
  let u := x.1 + gain false
  let v := y.1 + gain true
  if u < v then (v, b :: y.2) else (u, b :: x.2)

/-- Survivors two by two: the states that differ in their oldest bit alone. -/
def pairUp : List Survivor → List (Survivor × Survivor)
  | x :: y :: l => (x, y) :: pairUp l
  | _ => []

/-- One step of the trellis over two soft bits, positive for 1. State k has its latest bit in bit 5, its oldest in bit 0. -/
def trellis (s0 s1 : Int) (l : List Survivor) : List Survivor :=
  let ps := (pairUp l).zipIdx
  let go (b : Bool) := ps.map (fun x => acs b s0 s1 ((bitList 5 x.2).reverse) x.1.1 x.1.2)
  go false ++ go true

/-- The trellis over soft bits. -/
def viterbiGo : List Int → List Survivor → List Survivor
  | a :: b :: l, t => viterbiGo l (trellis a b t)
  | _, t => t

/-- The survivor of the greatest metric. -/
def bestOf : List Survivor → Survivor
  | [] => (0, [])
  | x :: l => l.foldl (fun m y => if m.1 < y.1 then y else m) x

/-- The Viterbi decoder of a tail-biting block: the soft bits run round twice, and the second round is kept (R123) (log entry
118). -/
def viterbiTailBiting (soft : List Int) : List Bool :=
  let n := soft.length / 2
  ((bestOf (viterbiGo (soft ++ soft) (List.replicate 64 (0, [])))).2.take n).reverse

/-- The Viterbi decoder of a block that starts in state 0 and ends in it, as the other BCC fields do (R123). -/
def viterbi (soft : List Int) : List Bool :=
  let t := viterbiGo soft ((0, []) :: List.replicate 63 (-(2 ^ 40 : Int), []))
  (t.headD (0, [])).2.reverse

/-- H-SIG as decoded from the soft bits of its two symbols, subcarrier by subcarrier (R128, R131). -/
def hsigDecode (soft : List Int) : Nat :=
  ofBitList (viterbiTailBiting (deinterleave48 0 (soft.take 48) ++ deinterleave48 0 (soft.drop 48)))

/-! ### LDPC coding (R123, R135) -/

/-- The parity matrices of length 1 944: shifts of 81 × 81 blocks, −1 for none. -/
def ldpc12 : List (List Int) :=
  [[57, -1, -1, -1, 50, -1, 11, -1, 50, -1, 79, -1, 1, 0, -1, -1, -1, -1, -1, -1, -1, -1, -1, -1],
    [3, -1, 28, -1, 0, -1, -1, -1, 55, 7, -1, -1, -1, 0, 0, -1, -1, -1, -1, -1, -1, -1, -1, -1],
    [30, -1, -1, -1, 24, 37, -1, -1, 56, 14, -1, -1, -1, -1, 0, 0, -1, -1, -1, -1, -1, -1, -1, -1],
    [62, 53, -1, -1, 53, -1, -1, 3, 35, -1, -1, -1, -1, -1, -1, 0, 0, -1, -1, -1, -1, -1, -1, -1],
    [40, -1, -1, 20, 66, -1, -1, 22, 28, -1, -1, -1, -1, -1, -1, -1, 0, 0, -1, -1, -1, -1, -1, -1],
    [0, -1, -1, -1, 8, -1, 42, -1, 50, -1, -1, 8, -1, -1, -1, -1, -1, 0, 0, -1, -1, -1, -1, -1],
    [69, 79, 79, -1, -1, -1, 56, -1, 52, -1, -1, -1, 0, -1, -1, -1, -1, -1, 0, 0, -1, -1, -1, -1],
    [65, -1, -1, -1, 38, 57, -1, -1, 72, -1, 27, -1, -1, -1, -1, -1, -1, -1, -1, 0, 0, -1, -1, -1],
    [64, -1, -1, -1, 14, 52, -1, -1, 30, -1, -1, 32, -1, -1, -1, -1, -1, -1, -1, -1, 0, 0, -1, -1],
    [-1, 45, -1, 70, 0, -1, -1, -1, 77, 9, -1, -1, -1, -1, -1, -1, -1, -1, -1, -1, -1, 0, 0, -1],
    [2, 56, -1, 57, 35, -1, -1, -1, -1, -1, 12, -1, -1, -1, -1, -1, -1, -1, -1, -1, -1, -1, 0, 0],
    [24, -1, 61, -1, 60, -1, -1, 27, 51, -1, -1, 16, 1, -1, -1, -1, -1, -1, -1, -1, -1, -1, -1, 0]]

def ldpc23 : List (List Int) :=
  [[61, 75, 4, 63, 56, -1, -1, -1, -1, -1, -1, 8, -1, 2, 17, 25, 1, 0, -1, -1, -1, -1, -1, -1],
    [56, 74, 77, 20, -1, -1, -1, 64, 24, 4, 67, -1, 7, -1, -1, -1, -1, 0, 0, -1, -1, -1, -1, -1],
    [28, 21, 68, 10, 7, 14, 65, -1, -1, -1, 23, -1, -1, -1, 75, -1, -1, -1, 0, 0, -1, -1, -1, -1],
    [48, 38, 43, 78, 76, -1, -1, -1, -1, 5, 36, -1, 15, 72, -1, -1, -1, -1, -1, 0, 0, -1, -1, -1],
    [40, 2, 53, 25, -1, 52, 62, -1, 20, -1, -1, 44, -1, -1, -1, -1, 0, -1, -1, -1, 0, 0, -1, -1],
    [69, 23, 64, 10, 22, -1, 21, -1, -1, -1, -1, -1, 68, 23, 29, -1, -1, -1, -1, -1, -1, 0, 0, -1],
    [12, 0, 68, 20, 55, 61, -1, 40, -1, -1, -1, 52, -1, -1, -1, 44, -1, -1, -1, -1, -1, -1, 0, 0],
    [58, 8, 34, 64, 78, -1, -1, 11, 78, 24, -1, -1, -1, -1, -1, 58, 1, -1, -1, -1, -1, -1, -1, 0]]

def ldpc34 : List (List Int) :=
  [[48, 29, 28, 39, 9, 61, -1, -1, -1, 63, 45, 80, -1, -1, -1, 37, 32, 22, 1, 0, -1, -1, -1, -1],
    [4, 49, 42, 48, 11, 30, -1, -1, -1, 49, 17, 41, 37, 15, -1, 54, -1, -1, -1, 0, 0, -1, -1, -1],
    [35, 76, 78, 51, 37, 35, 21, -1, 17, 64, -1, -1, -1, 59, 7, -1, -1, 32, -1, -1, 0, 0, -1, -1],
    [9, 65, 44, 9, 54, 56, 73, 34, 42, -1, -1, -1, 35, -1, -1, -1, 46, 39, 0, -1, -1, 0, 0, -1],
    [3, 62, 7, 80, 68, 26, -1, 80, 55, -1, 36, -1, 26, -1, 9, -1, 72, -1, -1, -1, -1, -1, 0, 0],
    [26, 75, 33, 21, 69, 59, 3, 38, -1, -1, -1, 35, -1, 62, 36, 26, -1, -1, 1, -1, -1, -1, -1, 0]]

def ldpc56 : List (List Int) :=
  [[13, 48, 80, 66, 4, 74, 7, 30, 76, 52, 37, 60, -1, 49, 73, 31, 74, 73, 23, -1, 1, 0, -1, -1],
    [69, 63, 74, 56, 64, 77, 57, 65, 6, 16, 51, -1, 64, -1, 68, 9, 48, 62, 54, 27, -1, 0, 0, -1],
    [51, 15, 0, 80, 24, 25, 42, 54, 44, 71, 71, 9, 67, 35, -1, 58, -1, 29, -1, 53, 0, -1, 0, 0],
    [16, 29, 36, 41, 44, 56, 59, 37, 50, 24, -1, 65, 4, 65, 52, -1, 4, -1, 73, 52, 1, -1, -1, 0]]

/-- The matrix of a rate code. -/
def ldpcMatrix (rate : Nat) : List (List Int) := [ldpc12, ldpc23, ldpc34, ldpc56].getD rate ldpc12

/-- Sum of two blocks. -/
def xorBlock (a b : List Bool) : List Bool := List.zipWith (· ^^ ·) a b

/-- A block under a shifted identity. -/
def rotBlock (a : List Bool) (n : Nat) : List Bool := a.drop n ++ a.take n

def zeroBlock : List Bool := List.replicate 81 false

/-- Information in blocks of 81. -/
def blocksOf (n : Nat) (l : List Bool) : List (List Bool) := (List.range n).map (fun i => (l.drop (81 * i)).take 81)

/-- A row of the matrix over information blocks. -/
def rowSum : List Int → List (List Bool) → List Bool
  | h :: hs, b :: bs => if h < 0 then rowSum hs bs else xorBlock (rotBlock b h.toNat) (rowSum hs bs)
  | _, _ => zeroBlock

/-- Parity blocks after the first, row by row: p_{i+1} = λ_i + (shift of p_0 in row i) + p_i. -/
def parityGo (p0 : List Bool) (k : Nat) : List (List Int × List Bool) → List Bool → List (List Bool)
  | [], _ => []
  | (row, lam) :: l, p =>
    let h := row.getD k (-1)
    let v := xorBlock (xorBlock lam p) (if h < 0 then zeroBlock else rotBlock p0 h.toNat)
    v :: parityGo p0 k l v

/-- The parity bits of k information bits: the sum of all rows gives the first block, the dual diagonal the others. -/
def ldpcParity (rate : Nat) (info : List Bool) : List Bool :=
  let m := ldpcMatrix rate
  let k := 24 - m.length
  let bs := blocksOf k info
  let lams := m.map (fun row => rowSum (row.take k) bs)
  let p0 := lams.foldl xorBlock zeroBlock
  p0 ++ (parityGo p0 k ((m.zip lams).take (m.length - 1)) zeroBlock).flatten

/-- Is a word of 1 944 bits a codeword: does every parity check hold? -/
def ldpcCheck (rate : Nat) (word : List Bool) : Bool :=
  let bs := blocksOf 24 word
  (ldpcMatrix rate).all (fun row => rowSum row bs == zeroBlock)

/-- The scrambler x^7 + x^4 + 1 over bits, from its state x1 … x7 in bits 0 to 6. -/
def scramble : Nat → List Bool → List Bool
  | _, [] => []
  | st, b :: l =>
    let f := st.testBit 6 ^^ st.testBit 3
    (b ^^ f) :: scramble (st * 2 % 128 + (if f then 1 else 0)) l

/-- The preset of the scrambler for a partner (R135). -/
def scramblerPreset (partner : Nat) : Nat := partner % 127 + 1

/-- The bits of a PSDU, each byte least significant bit first. -/
def psduBits (b : List Byte) : List Bool := (b.map (fun x => bitList 8 x.toNat)).flatten

/-- Codewords i onward, of the payload that is left: k less the codeword's share of the shortening bits, encoded with zeros in their
place, which are not sent. -/
def codewords (rate shrt ncw : Nat) : Nat → Nat → List Bool → List (List Bool)
  | 0, _, _ => []
  | n + 1, i, bits =>
    let k := infoBits rate
    let short := shrt / ncw + (if i < shrt % ncw then 1 else 0)
    let own := bits.take (k - short)
    (own ++ ldpcParity rate (own ++ List.replicate short false)) :: codewords rate shrt ncw n (i + 1) (bits.drop (k - short))

/-- The coded bits of a PSDU (R135 1–3). -/
def codedBits (partner rate : Nat) (psdu : List Byte) : List Bool :=
  let n := nCw psdu.length rate
  (codewords rate (nShrt psdu.length rate) n n 0 (scramble (scramblerPreset partner) (psduBits psdu))).flatten

/-- The coded bits filled up to whole symbols by repetition from the first (R135 4). -/
def filledBits (coded : List Bool) (nsym b : Nat) : List Bool :=
  (List.range (nsym * b)).map (fun i => coded.getD (i % coded.length) false)

/-! ### Subcarriers and constellations (R134–R136) -/

/-- Half the span and the inner edge of the tones of a width up to 80 MHz; wider ones are 80 MHz segments. -/
def tonePlan : Nat → Nat × Nat × List Nat
  | 0 => (122, 2, [22, 48, 90, 116])
  | 1 => (244, 3, [10, 36, 78, 104, 144, 170, 212, 238])
  | _ => (500, 3, [24, 92, 158, 226, 266, 334, 400, 468])

/-- Centres of the 80 MHz segments of a width, in subcarriers. -/
def segments (w : Nat) : List Int := if w ≤ 2 then [0] else if w = 3 then [-512, 512] else [-1536, -512, 512, 1536]

/-- The subcarriers of a width in ascending order, and its pilots (R134). -/
def tones (w : Nat) : List Int :=
  let (hi, lo, _) := tonePlan w
  let up := (List.range (hi + 1)).drop lo
  let one := (up.reverse.map (fun (k : Nat) => -(k : Int))) ++ up.map (fun (k : Nat) => (k : Int))
  (segments w).flatMap (fun c => one.map (c + ·))
def pilots (w : Nat) : List Int :=
  let (_, _, ps) := tonePlan w
  let one := (ps.reverse.map (fun (k : Nat) => -(k : Int))) ++ ps.map (fun (k : Nat) => (k : Int))
  (segments w).flatMap (fun c => one.map (c + ·))

/-- The data subcarriers of a width, ascending. -/
def dataSubs (w : Nat) : List Int := (tones w).filter (fun k => !(pilots w).contains k)

/-- The place among the data subcarriers that the LDPC tone mapper gives the k-th symbol: D_TM 9, 12 or 20, 80 MHz segment by
segment. -/
def toneMap (w k : Nat) : Nat :=
  let n := min 980 (dataTones w)
  let d := if w = 0 then 9 else if w = 1 then 12 else 20
  let j := k % n
  k / n * n + d * (j % (n / d)) + j * d / n

/-- A constellation point: levels on I and Q, odd integers, over √energy, so that the mean energy is 1 (R136). -/
structure Point where
  i : Int
  q : Int
  energy : Nat
  deriving DecidableEq, Repr

/-- The level of an axis that Gray-coded bits select, the first the most significant. -/
def axisLevel (bits : List Bool) : Int :=
  let (_, v) := bits.foldl (fun (p : Bool × Nat) b => (p.1 ^^ b, 2 * p.2 + (if p.1 ^^ b then 1 else 0))) (false, 0)
  2 * (v : Int) - (2 ^ bits.length - 1 : Nat)

/-- The mean energy of n bits on an axis: (4^n − 1) / 3. -/
def axisEnergy (n : Nat) : Nat := (4 ^ n - 1) / 3

/-- The point that b bits select: BPSK for one; else the first half of them, the larger for odd b, on I (R136). -/
def pointOf (bits : List Bool) : Point :=
  let b := bits.length
  if b ≤ 1 then ⟨axisLevel bits, 0, 1⟩
  else
    let n := (b + 1) / 2
    ⟨axisLevel (bits.take n), axisLevel (bits.drop n), axisEnergy n + axisEnergy (b - n)⟩

/-- The entry of a map for the data subcarrier in place j: of its group of four. -/
def entryAt (e : List Nat) (j : Nat) : Nat := e.getD (j / 4) 0

/-- Bits fill one stream of a symbol in the order of the tone mapper: the points with their places, and the bits left (R135 5). A
subcarrier of entry 0 carries no energy. -/
def fillStream (w : Nat) (e : List Nat) : List Nat → List Bool → List (Nat × Point) × List Bool
  | [], bits => ([], bits)
  | k :: ks, bits =>
    let j := toneMap w k
    let b := entryAt e j
    let (rest, left) := fillStream w e ks (bits.drop b)
    if b = 0 then (rest, left) else ((j, pointOf (bits.take b)) :: rest, left)

/-- The streams of one symbol, stream 0 first. -/
def fillSymbol (w : Nat) : List (List Nat) → List Bool → List (List (Nat × Point))
  | [], _ => []
  | e :: es, bits =>
    let (pts, left) := fillStream w e (List.range (dataTones w)) bits
    pts :: fillSymbol w es left

/-- The data symbols of filled bits, B to a symbol. -/
def fillSymbols (w b : Nat) (entries : List (List Nat)) : Nat → List Bool → List (List (List (Nat × Point)))
  | 0, _ => []
  | n + 1, bits => fillSymbol w entries (bits.take b) :: fillSymbols w b entries n (bits.drop b)

/-- The share of the commanded power that each loaded data subcarrier and each pilot of a stream gets: one part in this many (R136). -/
def powerParts (w : Nat) (e : List Nat) : Nat :=
  ((List.range (dataTones w)).filter (fun j => entryAt e j != 0)).length + (pilots w).length

/-! ### Complex arithmetic -/

namespace Cx
def zero : Cx := ⟨0, 0⟩
def one : Cx := ⟨1, 0⟩
def add (a b : Cx) : Cx := ⟨a.re + b.re, a.im + b.im⟩
def sub (a b : Cx) : Cx := ⟨a.re - b.re, a.im - b.im⟩
def mul (a b : Cx) : Cx := ⟨a.re * b.re - a.im * b.im, a.re * b.im + a.im * b.re⟩
def conj (a : Cx) : Cx := ⟨a.re, -a.im⟩
/-- squared magnitude -/
def norm (a : Cx) : Rat := a.re * a.re + a.im * a.im
def inv (a : Cx) : Cx := ⟨a.re / norm a, -a.im / norm a⟩
def scale (k : Rat) (a : Cx) : Cx := ⟨k * a.re, k * a.im⟩
def sum (l : List Cx) : Cx := l.foldl add zero
/-- inner product without conjugation -/
def dot (a b : List Cx) : Cx := sum (List.zipWith mul a b)
end Cx

/-! ### Training (R134) -/

/-- √3 / 2 to twelve digits. -/
def halfRoot3 : Rat := 866025403784 / 1000000000000

/-- exp(−j 2π k / 3). -/
def thirdTurn (k : Nat) : Cx :=
  match k % 3 with
  | 0 => Cx.one
  | 1 => ⟨-1 / 2, -halfRoot3⟩
  | _ => ⟨-1 / 2, halfRoot3⟩

/-- The 4 × 4 P matrix of IEEE 802.11. -/
def pMatrix4 : List (List Int) := [[1, -1, 1, 1], [1, 1, -1, 1], [1, 1, 1, -1], [-1, 1, 1, 1]]

/-- P[s][n] for a number of streams (R134). -/
def ltfP (streams s n : Nat) : Cx :=
  if streams = 3 then thirdTurn (s * n) else ⟨((pMatrix4.getD s []).getD n 1 : Int), 0⟩

/-- An H-LTF symbol: what stream s sends on a subcarrier in training symbol n. -/
def ltfValue (w streams s n : Nat) (k : Int) : Cx := Cx.scale (Config.ltf w k : Int) (ltfP streams s n)

/-! ### Equalisation and SNR (R137, R147) -/

/-- The channel of one chain for each stream: the training symbols despread by P and divided by the sequence. -/
def chanOfTone (streams : Nat) (ltf : Int) (y : List Cx) : List Cx :=
  (List.range streams).map (fun s =>
    Cx.scale ((ltf : Rat) / streams) (Cx.sum ((List.range streams).map (fun n => Cx.mul (y.getD n Cx.zero) (Cx.conj (ltfP streams s n))))))

/-- Gauss–Jordan elimination of rows that hold a matrix and a right side: one column at a time, from the first row that has the pivot. -/
def elim : Nat → Nat → List (List Cx) → List (List Cx) → List (List Cx)
  | 0, _, done, rest => done ++ rest
  | n + 1, k, done, rest =>
    match rest.find? (fun r => Cx.norm (r.getD k Cx.zero) ≠ 0) with
    | none => done ++ rest
    | some p =>
      let u := p.map (Cx.mul (Cx.inv (p.getD k Cx.one)))
      let clear (r : List Cx) : List Cx := List.zipWith (fun a b => Cx.sub a (Cx.mul (r.getD k Cx.zero) b)) r u
      elim n (k + 1) (done.map clear ++ [u]) ((rest.erase p).map clear)

/-- The minimum mean-square-error weights of a subcarrier, by stream and chain: (Hᴴ R⁻¹ H + I)⁻¹ Hᴴ R⁻¹, `h` by chain and stream, R the
noise power of each chain (R147). -/
def mmse (streams : Nat) (h : List (List Cx)) (noise : List Rat) : List (List Cx) :=
  let hr (s : Nat) : List Cx := List.zipWith (fun r n => Cx.scale (1 / n) (Cx.conj (r.getD s Cx.zero))) h noise
  let rows := (List.range streams).map (fun s =>
    (List.range streams).map (fun t => Cx.add (Cx.dot (hr s) (h.map (·.getD t Cx.zero))) (if s = t then Cx.one else Cx.zero)) ++ hr s)
  (elim streams 0 [] rows).map (·.drop streams)

/-- 10^(k/40) for k = 0 … 39, to twelve digits: quarter decibels. -/
def quarterDb : List Rat :=
  [1000000000000, 1059253725177, 1122018454301, 1188502227437, 1258925411794,
    1333521432163, 1412537544622, 1496235656094, 1584893192461, 1678804018122,
    1778279410038, 1883649089489, 1995262314968, 2113489039836, 2238721138568,
    2371373705661, 2511886431509, 2660725059798, 2818382931264, 2985382618917,
    3162277660168, 3349654391578, 3548133892335, 3758374042884, 3981071705534,
    4216965034285, 4466835921509, 4731512589614, 5011872336272, 5308844442309,
    5623413251903, 5956621435290, 6309573444801, 6683439175686, 7079457843841,
    7498942093324, 7943282347242, 8413951416451, 8912509381337, 9440608762859].map (fun n => (n : Rat) / 1000000000000)

/-- 0.25 dBm as mW. -/
def mwOf (q : Int) : Rat := quarterDb.getD (q % 40).toNat 1 * (10 : Rat) ^ (q / 40)

/-- Is 10^(v / 2560) at most num / den? -/
def dbLe (num den : Nat) (v : Int) : Bool :=
  if 0 ≤ v then 10 ^ v.toNat * den ^ 2560 ≤ num ^ 2560 else den ^ 2560 ≤ num ^ 2560 * 10 ^ (-v).toNat

/-- A power ratio in 2^−8 dB, rounded down, within ±128 dB: bit by bit from the highest. -/
def ratioDb (x : Rat) : Int :=
  if x ≤ 0 then -32768
  else ((List.range 16).reverse).foldl (fun v i => if dbLe x.num.toNat x.den (v + 2 ^ i) then v + 2 ^ i else v) (-32768)

/-- The SNR of a stream on a subcarrier, 2^−8 dB: the equalised training energy over the larger of the residual noise and the idle
floor of each chain through the same weights (R137). -/
def toneSnr (h : List (List Cx)) (w : List Cx) (s : Nat) (residual : Rat) (idle : List Rat) : Int :=
  let sig := Cx.norm (Cx.dot w (h.map (·.getD s Cx.zero)))
  let floor := (List.zipWith (fun c n => Cx.norm c * n) w idle).foldl (· + ·) 0
  let noise := if residual < floor then floor else residual
  if noise ≤ 0 then 32767 else ratioDb (sig / noise)

/-- SNRs of the streams on one subcarrier; `idle` is the idle floor of each chain, none where no window has measured it, and the residual
then stands for it in the weights (log entry 119). -/
def toneSnrs (streams : Nat) (ltf : Int) (t : ToneRx) (idle : List (Option Rat)) : List Int :=
  let h := t.y.map (chanOfTone streams ltf)
  let res := t.residual.foldl max 0
  let noise := idle.map (fun n => match n with | some x => x | none => if 0 < res then res else 1)
  let w := mmse streams h noise
  (List.range streams).map (fun s => toneSnr h (w.getD s []) s (t.residual.getD s 0) (idle.map (·.getD 0)))

/-- The lowest of a list. -/
def lowest : List Int → Int
  | [] => 32767
  | x :: l => l.foldl min x

/-- Group SNRs of each stream from those of its data subcarriers, four at a time (R137, R139). -/
def groupSnrs (w streams : Nat) (subs : List (List Int)) : List (List Int) :=
  (List.range streams).map (fun s => (List.range (toneGroups w)).map (fun g =>
    lowest (((subs.drop (4 * g)).take 4).map (fun x => x.getD s 32767))))

/-! ### Pilot tracking (R148) -/

/-- A symbol's pilots: the common phase error is applied to that symbol, the slope averaged over it and the three before (log entry
116). -/
def Rx.track (q : Rx) (sym : List (Int × Int × Int)) : Rx :=
  let l := (Config.pilotSlope sym :: q.slopes).take 4
  { q with cpe := Config.pilotPhase sym, slope := l.foldl (· + ·) 0 / l.length, slopes := l.take 3 }

/-- The phase, 0.01 degrees, by which the last symbol's value on a subcarrier is turned back. -/
def Rx.phaseOn (q : Rx) (k : Int) : Int := q.cpe + k * q.slope

end Sys2Proof.Machine
end

