-- ==== Sys2Proof/Machine/RegKind.lean ====
section
/-!
DEFINITION. The kinds of a register and of its fields: access codes (R18), field placement, reset value, who may
write, and the island windows (R14, R22).
-/

namespace Sys2Proof.Machine

/-- Register access codes (R18). -/
inductive Access where
  | rw | ro | wo | w1c | w1s | rwl
  deriving DecidableEq, Repr

/-- Who may write a register, as the register section of each chapter says. -/
inductive Writer where
  /-- any requester -/
  | any
  /-- packet cores and Cudom cores -/
  | cores
  /-- Cudom cores only -/
  | cudom
  deriving DecidableEq, Repr

/-- A field [hi:lo] with its access code and reset value. -/
structure Fld where
  hi : Nat
  lo : Nat
  acc : Access
  reset : Nat
  deriving DecidableEq, Repr

/-- The field's width in bits. -/
def Fld.width (f : Fld) : Nat := f.hi + 1 - f.lo

/-- The field's value in a word, right-aligned. -/
def Fld.get (f : Fld) (w : Word) : Nat := w.toNat / 2 ^ f.lo % 2 ^ f.width

/-- A word of the field's bits alone. -/
def Fld.mask (f : Fld) : Word := BitVec.ofNat 32 ((2 ^ f.width - 1) * 2 ^ f.lo)

/-- The word with the field replaced by the low bits of v; the other bits stay. -/
def Fld.put (f : Fld) (v : Nat) (w : Word) : Word :=
  (w &&& ~~~ f.mask) ||| (BitVec.ofNat 32 (v % 2 ^ f.width * 2 ^ f.lo))

/-- One register family: the first island ID whose window holds it, in how many islands, its offset, its index
dimensions as (stride, count) with the larger stride first, who may write it, and its fields; the bits no field
names are reserved (R17). -/
structure RegDesc where
  isl : Nat
  isls : Nat
  off : Nat
  dims : List (Nat × Nat)
  wr : Writer
  fields : List Fld
  deriving DecidableEq, Repr

/-- Base of island id's register window (R14, R22). -/
def win (id : Nat) : Nat := 0xF0000000 + id * 0x1000000

/-- Does the remaining offset r name a register of these dimensions? -/
def inDims : List (Nat × Nat) → Nat → Bool
  | [], r => r == 0
  | (st, n) :: ds, r => r / st < n && inDims ds (r % st)

/-- Does the family hold a register at this offset of island id's window? -/
def RegDesc.covers (d : RegDesc) (id off : Nat) : Bool :=
  d.isl ≤ id && id < d.isl + d.isls && d.off ≤ off && inDims d.dims (off - d.off)

/-- The word that a register of the family holds at reset, from its field resets. -/
def RegDesc.resetWord (d : RegDesc) : Word :=
  d.fields.foldl (fun w f => f.put f.reset w) 0

end Sys2Proof.Machine
end

