-- ==== Sys2Proof/Machine/RegMapA.lean ====
section
/-!
DEFINITION. The register map: every register of the spec's register tables, its address, its fields with
their access codes and reset values (R14, R18), and who may write it. The rows follow the register tables of
the chapters in their order. `A.x` is the address of register x, `F.x_f` its field f, `D.x` its row.
-/

namespace Sys2Proof.Machine

/-- AON_CHIP_ID, R10 of 00. -/
def A.aonChipId : Nat := win 0x0 + 0x0
def F.aonChipId_part_code : Fld := ⟨31, 16, .ro, 0x740⟩
def F.aonChipId_step_letter : Fld := ⟨15, 12, .ro, 0x0⟩
def F.aonChipId_step_digit : Fld := ⟨11, 8, .ro, 0x0⟩
def F.aonChipId_grade : Fld := ⟨7, 4, .ro, 0x0⟩
def D.aonChipId : RegDesc := ⟨0x0, 1, 0x0, [], .cudom, [F.aonChipId_part_code, F.aonChipId_step_letter, F.aonChipId_step_digit, F.aonChipId_grade]⟩

/-- xxx_IDENT, R26 of 01. -/
def A.xxxIdent (isl : Nat) : Nat := win isl + 0xFFF000
def F.xxxIdent_island_id : Fld := ⟨31, 24, .ro, 0x0⟩
def F.xxxIdent_block_rev : Fld := ⟨23, 16, .ro, 0x0⟩
def D.xxxIdent : RegDesc := ⟨0x0, 22, 0xFFF000, [], .any, [F.xxxIdent_island_id, F.xxxIdent_block_rev]⟩

/-- xxx_EVT_SEQ, R26 of 01. -/
def A.xxxEvtSeq (isl : Nat) : Nat := win isl + 0xFFF004
def F.xxxEvtSeq_next_seq : Fld := ⟨15, 0, .ro, 0x0⟩
def D.xxxEvtSeq : RegDesc := ⟨0x0, 22, 0xFFF004, [], .any, [F.xxxEvtSeq_next_seq]⟩

/-- CDM_DEVICE_MODE, R48 of 01. -/
def A.cdmDeviceMode : Nat := win 0x1 + 0x100
def F.cdmDeviceMode_mode : Fld := ⟨31, 28, .ro, 0x1⟩
def F.cdmDeviceMode_prev_mode : Fld := ⟨27, 24, .ro, 0x0⟩
def F.cdmDeviceMode_target_mode : Fld := ⟨23, 20, .ro, 0x0⟩
def F.cdmDeviceMode_pending : Fld := ⟨19, 19, .ro, 0x0⟩
def F.cdmDeviceMode_cause : Fld := ⟨15, 8, .ro, 0x0⟩
def F.cdmDeviceMode_change_count : Fld := ⟨7, 0, .ro, 0x0⟩
def D.cdmDeviceMode : RegDesc := ⟨0x1, 1, 0x100, [], .any, [F.cdmDeviceMode_mode, F.cdmDeviceMode_prev_mode, F.cdmDeviceMode_target_mode, F.cdmDeviceMode_pending, F.cdmDeviceMode_cause, F.cdmDeviceMode_change_count]⟩

/-- CDM_FAILED_ISLANDS, R48 of 01. -/
def A.cdmFailedIslands : Nat := win 0x1 + 0x104
def F.cdmFailedIslands_failed : Fld := ⟨21, 0, .ro, 0x0⟩
def D.cdmFailedIslands : RegDesc := ⟨0x1, 1, 0x104, [], .any, [F.cdmFailedIslands_failed]⟩

/-- AON_MODE_SHADOW, R48 of 01. -/
def A.aonModeShadow : Nat := win 0x0 + 0x10
def F.aonModeShadow_mode : Fld := ⟨3, 0, .ro, 0x1⟩
def D.aonModeShadow : RegDesc := ⟨0x0, 1, 0x10, [], .cudom, [F.aonModeShadow_mode]⟩

/-- CDM_MBX_DOORBELL, R67 of 02. -/
def A.cdmMbxDoorbell : Nat := win 0x1 + 0x200
def F.cdmMbxDoorbell_req : Fld := ⟨3, 0, .w1s, 0x0⟩
def D.cdmMbxDoorbell : RegDesc := ⟨0x1, 1, 0x200, [], .any, [F.cdmMbxDoorbell_req]⟩

/-- CDM_MBX_RSP_STATUS, R67 of 02. -/
def A.cdmMbxRspStatus : Nat := win 0x1 + 0x204
def F.cdmMbxRspStatus_irq_en : Fld := ⟨16, 16, .rw, 0x0⟩
def F.cdmMbxRspStatus_rsp_valid : Fld := ⟨3, 0, .w1c, 0x0⟩
def D.cdmMbxRspStatus : RegDesc := ⟨0x1, 1, 0x204, [], .any, [F.cdmMbxRspStatus_irq_en, F.cdmMbxRspStatus_rsp_valid]⟩

/-- CDM_CMD_CTL, R79 of 02. -/
def A.cdmCmdCtl : Nat := win 0x1 + 0x208
def F.cdmCmdCtl_lock : Fld := ⟨31, 31, .w1s, 0x0⟩
def F.cdmCmdCtl_net_en : Fld := ⟨17, 17, .rwl, 0x0⟩
def F.cdmCmdCtl_mbx_mgmt : Fld := ⟨16, 16, .rwl, 0x0⟩
def F.cdmCmdCtl_net_rate : Fld := ⟨15, 0, .rwl, 0x3E8⟩
def D.cdmCmdCtl : RegDesc := ⟨0x1, 1, 0x208, [], .cudom, [F.cdmCmdCtl_lock, F.cdmCmdCtl_net_en, F.cdmCmdCtl_mbx_mgmt, F.cdmCmdCtl_net_rate]⟩

/-- CDM_CMD_HDR_ERR, R88 of 02. -/
def A.cdmCmdHdrErr : Nat := win 0x1 + 0x210
def F.cdmCmdHdrErr_count : Fld := ⟨31, 0, .ro, 0x0⟩
def D.cdmCmdHdrErr : RegDesc := ⟨0x1, 1, 0x210, [], .any, [F.cdmCmdHdrErr_count]⟩

/-- CDM_CMD_HOST_FRAME_ERR, R88 of 02. -/
def A.cdmCmdHostFrameErr : Nat := win 0x1 + 0x214
def F.cdmCmdHostFrameErr_count : Fld := ⟨31, 0, .ro, 0x0⟩
def D.cdmCmdHostFrameErr : RegDesc := ⟨0x1, 1, 0x214, [], .any, [F.cdmCmdHostFrameErr_count]⟩

/-- CDM_CMD_HOST_OVERFLOW, R88 of 02. -/
def A.cdmCmdHostOverflow : Nat := win 0x1 + 0x218
def F.cdmCmdHostOverflow_count : Fld := ⟨31, 0, .ro, 0x0⟩
def D.cdmCmdHostOverflow : RegDesc := ⟨0x1, 1, 0x218, [], .any, [F.cdmCmdHostOverflow_count]⟩

/-- CDM_CMD_AUTH_FAIL, R88 of 02. -/
def A.cdmCmdAuthFail : Nat := win 0x1 + 0x21C
def F.cdmCmdAuthFail_count : Fld := ⟨31, 0, .ro, 0x0⟩
def D.cdmCmdAuthFail : RegDesc := ⟨0x1, 1, 0x21C, [], .any, [F.cdmCmdAuthFail_count]⟩

/-- CDM_CMD_REPLAY, R88 of 02. -/
def A.cdmCmdReplay : Nat := win 0x1 + 0x220
def F.cdmCmdReplay_count : Fld := ⟨31, 0, .ro, 0x0⟩
def D.cdmCmdReplay : RegDesc := ⟨0x1, 1, 0x220, [], .any, [F.cdmCmdReplay_count]⟩

/-- CDM_CMD_RATE_DROP, R88 of 02. -/
def A.cdmCmdRateDrop : Nat := win 0x1 + 0x224
def F.cdmCmdRateDrop_count : Fld := ⟨31, 0, .ro, 0x0⟩
def D.cdmCmdRateDrop : RegDesc := ⟨0x1, 1, 0x224, [], .any, [F.cdmCmdRateDrop_count]⟩

/-- CDM_CMD_REPLY_DROP, R88 of 02. -/
def A.cdmCmdReplyDrop : Nat := win 0x1 + 0x228
def F.cdmCmdReplyDrop_count : Fld := ⟨31, 0, .ro, 0x0⟩
def D.cdmCmdReplyDrop : RegDesc := ⟨0x1, 1, 0x228, [], .any, [F.cdmCmdReplyDrop_count]⟩

/-- CDM_CMD_FRAG_ABANDON, R88 of 02. -/
def A.cdmCmdFragAbandon : Nat := win 0x1 + 0x22C
def F.cdmCmdFragAbandon_count : Fld := ⟨31, 0, .ro, 0x0⟩
def D.cdmCmdFragAbandon : RegDesc := ⟨0x1, 1, 0x22C, [], .any, [F.cdmCmdFragAbandon_count]⟩

/-- rad_CTL, R119 of 03. -/
def A.radCtl (r : Nat) : Nat := win (0x11 + r) + 0x0
def F.radCtl_rx_chain_en : Fld := ⟨23, 16, .rw, 0x0⟩
def F.radCtl_tx_chain_en : Fld := ⟨15, 8, .rw, 0x0⟩
def F.radCtl_coex_en : Fld := ⟨2, 2, .rw, 0x0⟩
def F.radCtl_det_en : Fld := ⟨1, 1, .rw, 0x1⟩
def F.radCtl_enable : Fld := ⟨0, 0, .rw, 0x0⟩
def D.radCtl : RegDesc := ⟨0x11, 3, 0x0, [], .cudom, [F.radCtl_rx_chain_en, F.radCtl_tx_chain_en, F.radCtl_coex_en, F.radCtl_det_en, F.radCtl_enable]⟩

/-- rad_SYN_CTL, R119 of 03. -/
def A.radSynCtl (r : Nat) : Nat := win (0x11 + r) + 0x100
def F.radSynCtl_retune_req : Fld := ⟨31, 31, .w1s, 0x0⟩
def F.radSynCtl_preset_en : Fld := ⟨30, 30, .rw, 0x0⟩
def F.radSynCtl_preset : Fld := ⟨27, 24, .rw, 0x0⟩
def F.radSynCtl_target_freq : Fld := ⟨16, 0, .rw, 0x0⟩
def D.radSynCtl : RegDesc := ⟨0x11, 3, 0x100, [], .any, [F.radSynCtl_retune_req, F.radSynCtl_preset_en, F.radSynCtl_preset, F.radSynCtl_target_freq]⟩

/-- rad_SYN_STATUS, R119 of 03. -/
def A.radSynStatus (r : Nat) : Nat := win (0x11 + r) + 0x104
def F.radSynStatus_retune_busy : Fld := ⟨25, 25, .ro, 0x0⟩
def F.radSynStatus_active : Fld := ⟨24, 24, .ro, 0x0⟩
def F.radSynStatus_lock_state1 : Fld := ⟨19, 18, .ro, 0x0⟩
def F.radSynStatus_lock_state0 : Fld := ⟨17, 16, .ro, 0x0⟩
def D.radSynStatus : RegDesc := ⟨0x11, 3, 0x104, [], .any, [F.radSynStatus_retune_busy, F.radSynStatus_active, F.radSynStatus_lock_state1, F.radSynStatus_lock_state0]⟩

/-- rad_SYN_FREQn, R119 of 03. -/
def A.radSynFreq (r n : Nat) : Nat := win (0x11 + r) + 0x108 + 0x4 * n
def F.radSynFreq_freq : Fld := ⟨16, 0, .ro, 0x0⟩
def D.radSynFreq : RegDesc := ⟨0x11, 3, 0x108, [(0x4, 2)], .any, [F.radSynFreq_freq]⟩

/-- rad_TX_PENDING, R119 of 03. -/
def A.radTxPending (r : Nat) : Nat := win (0x11 + r) + 0x200
def F.radTxPending_occupied : Fld := ⟨31, 31, .ro, 0x0⟩
def F.radTxPending_response : Fld := ⟨30, 30, .ro, 0x0⟩
def F.radTxPending_waiting_on : Fld := ⟨29, 28, .ro, 0x0⟩
def F.radTxPending_frame_id : Fld := ⟨15, 0, .ro, 0x0⟩
def D.radTxPending : RegDesc := ⟨0x11, 3, 0x200, [], .any, [F.radTxPending_occupied, F.radTxPending_response, F.radTxPending_waiting_on, F.radTxPending_frame_id]⟩

/-- rad_FE_SEQ_LEAD, R119 of 03. -/
def A.radFeSeqLead (r : Nat) : Nat := win (0x11 + r) + 0x300
def F.radFeSeqLead_lna_off_lead : Fld := ⟨23, 16, .rw, 0x2C⟩
def F.radFeSeqLead_trsw_tx_lead : Fld := ⟨15, 8, .rw, 0x28⟩
def F.radFeSeqLead_pa_on_lead : Fld := ⟨7, 0, .rw, 0x18⟩
def D.radFeSeqLead : RegDesc := ⟨0x11, 3, 0x300, [], .any, [F.radFeSeqLead_lna_off_lead, F.radFeSeqLead_trsw_tx_lead, F.radFeSeqLead_pa_on_lead]⟩

/-- rad_FE_SEQ_LAG, R119 of 03. -/
def A.radFeSeqLag (r : Nat) : Nat := win (0x11 + r) + 0x304
def F.radFeSeqLag_seq_err : Fld := ⟨31, 31, .w1c, 0x0⟩
def F.radFeSeqLag_lna_on_lag : Fld := ⟨23, 16, .rw, 0x10⟩
def F.radFeSeqLag_trsw_rx_lag : Fld := ⟨15, 8, .rw, 0xC⟩
def F.radFeSeqLag_pa_off_lag : Fld := ⟨7, 0, .rw, 0x4⟩
def D.radFeSeqLag : RegDesc := ⟨0x11, 3, 0x304, [], .any, [F.radFeSeqLag_seq_err, F.radFeSeqLag_lna_on_lag, F.radFeSeqLag_trsw_rx_lag, F.radFeSeqLag_pa_off_lag]⟩

/-- rad_COEX_CTL, R119 of 03. -/
def A.radCoexCtl (r : Nat) : Nat := win (0x11 + r) + 0x400
def F.radCoexCtl_pri_mask : Fld := ⟨15, 8, .rw, 0xB⟩
def F.radCoexCtl_coex_lead : Fld := ⟨7, 4, .rw, 0x8⟩
def F.radCoexCtl_rx_req_en : Fld := ⟨3, 3, .rw, 0x0⟩
def F.radCoexCtl_abort_en : Fld := ⟨2, 2, .rw, 0x0⟩
def F.radCoexCtl_sync_en : Fld := ⟨1, 1, .rw, 0x0⟩
def D.radCoexCtl : RegDesc := ⟨0x11, 3, 0x400, [], .any, [F.radCoexCtl_pri_mask, F.radCoexCtl_coex_lead, F.radCoexCtl_rx_req_en, F.radCoexCtl_abort_en, F.radCoexCtl_sync_en]⟩

/-- rad_COEX_BLANK, R119 of 03. -/
def A.radCoexBlank (r : Nat) : Nat := win (0x11 + r) + 0x404
def F.radCoexBlank_blank_start : Fld := ⟨31, 16, .rw, 0x0⟩
def F.radCoexBlank_blank_len : Fld := ⟨15, 0, .rw, 0x0⟩
def D.radCoexBlank : RegDesc := ⟨0x11, 3, 0x404, [], .any, [F.radCoexBlank_blank_start, F.radCoexBlank_blank_len]⟩

/-- rad_DET_CFG, R119 of 03. -/
def A.radDetCfg (r : Nat) : Nat := win (0x11 + r) + 0x500
def F.radDetCfg_release_rl : Fld := ⟨31, 24, .rw, 0x4A⟩
def F.radDetCfg_backoff_rl : Fld := ⟨23, 16, .rw, 0x3C⟩
def F.radDetCfg_mute_rl : Fld := ⟨15, 8, .rw, 0x1D⟩
def F.radDetCfg_coupler_offset : Fld := ⟨7, 0, .rw, 0x0⟩
def D.radDetCfg : RegDesc := ⟨0x11, 3, 0x500, [], .cudom, [F.radDetCfg_release_rl, F.radDetCfg_backoff_rl, F.radDetCfg_mute_rl, F.radDetCfg_coupler_offset]⟩

/-- rad_DET_STATUS, R119 of 03. -/
def A.radDetStatus (r : Nat) : Nat := win (0x11 + r) + 0x504
def F.radDetStatus_muted : Fld := ⟨23, 16, .w1c, 0x0⟩
def F.radDetStatus_backed_off : Fld := ⟨15, 8, .ro, 0x0⟩
def F.radDetStatus_cfg_err : Fld := ⟨0, 0, .ro, 0x0⟩
def D.radDetStatus : RegDesc := ⟨0x11, 3, 0x504, [], .cudom, [F.radDetStatus_muted, F.radDetStatus_backed_off, F.radDetStatus_cfg_err]⟩

/-- rad_DET_MUTE_SET, R119 of 03. -/
def A.radDetMuteSet (r : Nat) : Nat := win (0x11 + r) + 0x508
def F.radDetMuteSet_mute_set : Fld := ⟨7, 0, .w1s, 0x0⟩
def D.radDetMuteSet : RegDesc := ⟨0x11, 3, 0x508, [], .cudom, [F.radDetMuteSet_mute_set]⟩

/-- rad_DET_RL_n, R119 of 03. -/
def A.radDetRl (r n : Nat) : Nat := win (0x11 + r) + 0x510 + 0x4 * n
def F.radDetRl_meas_count : Fld := ⟨31, 16, .ro, 0x0⟩
def F.radDetRl_rl : Fld := ⟨7, 0, .ro, 0xFF⟩
def D.radDetRl : RegDesc := ⟨0x11, 3, 0x510, [(0x4, 8)], .any, [F.radDetRl_meas_count, F.radDetRl_rl]⟩

/-- rad_TUN_CTL, R119 of 03. -/
def A.radTunCtl (r : Nat) : Nat := win (0x11 + r) + 0x600
def F.radTunCtl_tuner_sclk : Fld := ⟨1, 0, .rw, 0x0⟩
def D.radTunCtl : RegDesc := ⟨0x11, 3, 0x600, [], .any, [F.radTunCtl_tuner_sclk]⟩

/-- rad_TUN_CMD, R119 of 03. -/
def A.radTunCmd (r : Nat) : Nat := win (0x11 + r) + 0x604
def F.radTunCmd_go : Fld := ⟨31, 31, .w1s, 0x0⟩
def F.radTunCmd_err : Fld := ⟨30, 30, .ro, 0x0⟩
def F.radTunCmd_kind : Fld := ⟨29, 28, .rw, 0x0⟩
def F.radTunCmd_usid : Fld := ⟨27, 24, .rw, 0x0⟩
def F.radTunCmd_addr : Fld := ⟨23, 16, .rw, 0x0⟩
def F.radTunCmd_data : Fld := ⟨7, 0, .rw, 0x0⟩
def D.radTunCmd : RegDesc := ⟨0x11, 3, 0x604, [], .any, [F.radTunCmd_go, F.radTunCmd_err, F.radTunCmd_kind, F.radTunCmd_usid, F.radTunCmd_addr, F.radTunCmd_data]⟩

/-- rad_TUN_PRESET, R119 of 03. -/
def A.radTunPreset (r p e : Nat) : Nat := win (0x11 + r) + 0x800 + 0x20 * p + 0x4 * e
def F.radTunPreset_valid : Fld := ⟨31, 31, .rw, 0x0⟩
def F.radTunPreset_ext : Fld := ⟨30, 30, .rw, 0x0⟩
def F.radTunPreset_usid : Fld := ⟨27, 24, .rw, 0x0⟩
def F.radTunPreset_addr : Fld := ⟨23, 16, .rw, 0x0⟩
def F.radTunPreset_data : Fld := ⟨7, 0, .rw, 0x0⟩
def D.radTunPreset : RegDesc := ⟨0x11, 3, 0x800, [(0x20, 16), (0x4, 8)], .any, [F.radTunPreset_valid, F.radTunPreset_ext, F.radTunPreset_usid, F.radTunPreset_addr, F.radTunPreset_data]⟩

/-- rad_SYN_UNLOCK, R120 of 03. -/
def A.radSynUnlock (r : Nat) : Nat := win (0x11 + r) + 0xF00
def F.radSynUnlock_count : Fld := ⟨31, 0, .ro, 0x0⟩
def D.radSynUnlock : RegDesc := ⟨0x11, 3, 0xF00, [], .any, [F.radSynUnlock_count]⟩

/-- rad_SYN_RETUNE_FAIL, R120 of 03. -/
def A.radSynRetuneFail (r : Nat) : Nat := win (0x11 + r) + 0xF04
def F.radSynRetuneFail_count : Fld := ⟨31, 0, .ro, 0x0⟩
def D.radSynRetuneFail : RegDesc := ⟨0x11, 3, 0xF04, [], .any, [F.radSynRetuneFail_count]⟩

/-- rad_SYN_REQ_LOST, R120 of 03. -/
def A.radSynReqLost (r : Nat) : Nat := win (0x11 + r) + 0xF08
def F.radSynReqLost_count : Fld := ⟨31, 0, .ro, 0x0⟩
def D.radSynReqLost : RegDesc := ⟨0x11, 3, 0xF08, [], .any, [F.radSynReqLost_count]⟩

/-- rad_TX_SYNTH_NOT_READY, R120 of 03. -/
def A.radTxSynthNotReady (r : Nat) : Nat := win (0x11 + r) + 0xF0C
def F.radTxSynthNotReady_count : Fld := ⟨31, 0, .ro, 0x0⟩
def D.radTxSynthNotReady : RegDesc := ⟨0x11, 3, 0xF0C, [], .any, [F.radTxSynthNotReady_count]⟩

/-- rad_TX_LATE, R120 of 03. -/
def A.radTxLate (r : Nat) : Nat := win (0x11 + r) + 0xF10
def F.radTxLate_count : Fld := ⟨31, 0, .ro, 0x0⟩
def D.radTxLate : RegDesc := ⟨0x11, 3, 0xF10, [], .any, [F.radTxLate_count]⟩

/-- rad_TX_ABORT, R120 of 03. -/
def A.radTxAbort (r : Nat) : Nat := win (0x11 + r) + 0xF14
def F.radTxAbort_count : Fld := ⟨31, 0, .ro, 0x0⟩
def D.radTxAbort : RegDesc := ⟨0x11, 3, 0xF14, [], .any, [F.radTxAbort_count]⟩

/-- rad_COEX_DENIED, R120 of 03. -/
def A.radCoexDenied (r : Nat) : Nat := win (0x11 + r) + 0xF18
def F.radCoexDenied_count : Fld := ⟨31, 0, .ro, 0x0⟩
def D.radCoexDenied : RegDesc := ⟨0x11, 3, 0xF18, [], .any, [F.radCoexDenied_count]⟩

/-- rad_COEX_ABORT, R120 of 03. -/
def A.radCoexAbort (r : Nat) : Nat := win (0x11 + r) + 0xF1C
def F.radCoexAbort_count : Fld := ⟨31, 0, .ro, 0x0⟩
def D.radCoexAbort : RegDesc := ⟨0x11, 3, 0xF1C, [], .any, [F.radCoexAbort_count]⟩

/-- rad_MISMATCH_BACKOFF, R120 of 03. -/
def A.radMismatchBackoff (r : Nat) : Nat := win (0x11 + r) + 0xF20
def F.radMismatchBackoff_count : Fld := ⟨31, 0, .ro, 0x0⟩
def D.radMismatchBackoff : RegDesc := ⟨0x11, 3, 0xF20, [], .any, [F.radMismatchBackoff_count]⟩

/-- rad_MISMATCH_MUTE, R120 of 03. -/
def A.radMismatchMute (r : Nat) : Nat := win (0x11 + r) + 0xF24
def F.radMismatchMute_count : Fld := ⟨31, 0, .ro, 0x0⟩
def D.radMismatchMute : RegDesc := ⟨0x11, 3, 0xF24, [], .any, [F.radMismatchMute_count]⟩

/-- rad_TUNER_ERR, R120 of 03. -/
def A.radTunerErr (r : Nat) : Nat := win (0x11 + r) + 0xF28
def F.radTunerErr_count : Fld := ⟨31, 0, .ro, 0x0⟩
def D.radTunerErr : RegDesc := ⟨0x11, 3, 0xF28, [], .any, [F.radTunerErr_count]⟩

/-- rad_PHY_CTL, R160 of 04. -/
def A.radPhyCtl (r : Nat) : Nat := win (0x11 + r) + 0x1000
def F.radPhyCtl_holael_rx_en : Fld := ⟨2, 2, .rw, 0x0⟩
def F.radPhyCtl_obss_skip : Fld := ⟨1, 1, .rw, 0x1⟩
def F.radPhyCtl_restart_en : Fld := ⟨0, 0, .rw, 0x1⟩
def D.radPhyCtl : RegDesc := ⟨0x11, 3, 0x1000, [], .any, [F.radPhyCtl_holael_rx_en, F.radPhyCtl_obss_skip, F.radPhyCtl_restart_en]⟩

/-- rad_AGC_CFG, R160 of 04. -/
def A.radAgcCfg (r : Nat) : Nat := win (0x11 + r) + 0x1100
def F.radAgcCfg_hint_en : Fld := ⟨16, 16, .rw, 0x1⟩
def F.radAgcCfg_agc_target : Fld := ⟨15, 8, .rw, 0xF1⟩
def F.radAgcCfg_max_gain : Fld := ⟨4, 0, .rw, 0x19⟩
def D.radAgcCfg : RegDesc := ⟨0x11, 3, 0x1100, [], .any, [F.radAgcCfg_hint_en, F.radAgcCfg_agc_target, F.radAgcCfg_max_gain]⟩

/-- rad_AGC_STATUS, R160 of 04. -/
def A.radAgcStatus (r : Nat) : Nat := win (0x11 + r) + 0x1104
def F.radAgcStatus_state : Fld := ⟨18, 16, .ro, 0x0⟩
def F.radAgcStatus_gain : Fld := ⟨4, 0, .ro, 0x19⟩
def D.radAgcStatus : RegDesc := ⟨0x11, 3, 0x1104, [], .any, [F.radAgcStatus_state, F.radAgcStatus_gain]⟩

/-- rad_NF_CFG, R160 of 04. -/
def A.radNfCfg (r : Nat) : Nat := win (0x11 + r) + 0x1200
def F.radNfCfg_nf_en : Fld := ⟨8, 8, .rw, 0x1⟩
def F.radNfCfg_nf_shift : Fld := ⟨2, 0, .rw, 0x4⟩
def D.radNfCfg : RegDesc := ⟨0x11, 3, 0x1200, [], .any, [F.radNfCfg_nf_en, F.radNfCfg_nf_shift]⟩

/-- rad_NF_STATUS, R160 of 04. -/
def A.radNfStatus (r : Nat) : Nat := win (0x11 + r) + 0x1204
def F.radNfStatus_windows : Fld := ⟨31, 16, .ro, 0x0⟩
def F.radNfStatus_width : Fld := ⟨12, 10, .ro, 0x0⟩
def F.radNfStatus_groups : Fld := ⟨9, 0, .ro, 0x0⟩
def D.radNfStatus : RegDesc := ⟨0x11, 3, 0x1204, [], .any, [F.radNfStatus_windows, F.radNfStatus_width, F.radNfStatus_groups]⟩

/-- rad_NF_TABLE, R160 of 04. -/
def A.radNfTable (r c w : Nat) : Nat := win (0x11 + r) + 0x10000 + 0x800 * c + 0x4 * w
def F.radNfTable_nf_odd : Fld := ⟨31, 16, .ro, 0x8000⟩
def F.radNfTable_nf_even : Fld := ⟨15, 0, .ro, 0x8000⟩
def D.radNfTable : RegDesc := ⟨0x11, 3, 0x10000, [(0x800, 8), (0x4, 512)], .any, [F.radNfTable_nf_odd, F.radNfTable_nf_even]⟩

/-- rad_HSIG_CRC_ERR, R161 of 04. -/
def A.radHsigCrcErr (r : Nat) : Nat := win (0x11 + r) + 0x1F00
def F.radHsigCrcErr_count : Fld := ⟨31, 0, .ro, 0x0⟩
def D.radHsigCrcErr : RegDesc := ⟨0x11, 3, 0x1F00, [], .any, [F.radHsigCrcErr_count]⟩

/-- rad_HSIG_REJECT, R161 of 04. -/
def A.radHsigReject (r : Nat) : Nat := win (0x11 + r) + 0x1F04
def F.radHsigReject_count : Fld := ⟨31, 0, .ro, 0x0⟩
def D.radHsigReject : RegDesc := ⟨0x11, 3, 0x1F04, [], .any, [F.radHsigReject_count]⟩

/-- rad_HSIG_LEN_CONFLICT, R161 of 04. -/
def A.radHsigLenConflict (r : Nat) : Nat := win (0x11 + r) + 0x1F08
def F.radHsigLenConflict_count : Fld := ⟨31, 0, .ro, 0x0⟩
def D.radHsigLenConflict : RegDesc := ⟨0x11, 3, 0x1F08, [], .any, [F.radHsigLenConflict_count]⟩

/-- rad_AGC_FALSE_DETECT, R161 of 04. -/
def A.radAgcFalseDetect (r : Nat) : Nat := win (0x11 + r) + 0x1F0C
def F.radAgcFalseDetect_count : Fld := ⟨31, 0, .ro, 0x0⟩
def D.radAgcFalseDetect : RegDesc := ⟨0x11, 3, 0x1F0C, [], .any, [F.radAgcFalseDetect_count]⟩

/-- rad_AGC_RESTART, R161 of 04. -/
def A.radAgcRestart (r : Nat) : Nat := win (0x11 + r) + 0x1F10
def F.radAgcRestart_count : Fld := ⟨31, 0, .ro, 0x0⟩
def D.radAgcRestart : RegDesc := ⟨0x11, 3, 0x1F10, [], .any, [F.radAgcRestart_count]⟩

/-- rad_RX_OBSS_SKIPPED, R161 of 04. -/
def A.radRxObssSkipped (r : Nat) : Nat := win (0x11 + r) + 0x1F14
def F.radRxObssSkipped_count : Fld := ⟨31, 0, .ro, 0x0⟩
def D.radRxObssSkipped : RegDesc := ⟨0x11, 3, 0x1F14, [], .any, [F.radRxObssSkipped_count]⟩

/-- rad_RX_DEC_DARK, R161 of 04. -/
def A.radRxDecDark (r : Nat) : Nat := win (0x11 + r) + 0x1F18
def F.radRxDecDark_count : Fld := ⟨31, 0, .ro, 0x0⟩
def D.radRxDecDark : RegDesc := ⟨0x11, 3, 0x1F18, [], .any, [F.radRxDecDark_count]⟩

/-- rad_TX_MAP_INVALID, R161 of 04. -/
def A.radTxMapInvalid (r : Nat) : Nat := win (0x11 + r) + 0x1F1C
def F.radTxMapInvalid_count : Fld := ⟨31, 0, .ro, 0x0⟩
def D.radTxMapInvalid : RegDesc := ⟨0x11, 3, 0x1F1C, [], .any, [F.radTxMapInvalid_count]⟩

/-- rad_CAL_CTL, R191 of 05. -/
def A.radCalCtl (r : Nat) : Nat := win (0x11 + r) + 0x2000
def F.radCalCtl_fs_shift : Fld := ⟨19, 16, .rw, 0x5⟩
def F.radCalCtl_loop_en : Fld := ⟨5, 0, .rw, 0x3F⟩
def D.radCalCtl : RegDesc := ⟨0x11, 3, 0x2000, [], .cudom, [F.radCalCtl_fs_shift, F.radCalCtl_loop_en]⟩

/-- rad_CAL_VERSION, R191 of 05. -/
def A.radCalVersion (r : Nat) : Nat := win (0x11 + r) + 0x2004
def F.radCalVersion_lit_count : Fld := ⟨31, 24, .ro, 0x0⟩
def F.radCalVersion_update : Fld := ⟨23, 0, .ro, 0x0⟩
def D.radCalVersion : RegDesc := ⟨0x11, 3, 0x2004, [], .any, [F.radCalVersion_lit_count, F.radCalVersion_update]⟩

/-- rad_CAL_THIN, R191 of 05. -/
def A.radCalThin (r : Nat) : Nat := win (0x11 + r) + 0x2008
def F.radCalThin_thin_time : Fld := ⟨31, 16, .rw, 0xC8⟩
def F.radCalThin_thin_window : Fld := ⟨15, 8, .rw, 0x64⟩
def D.radCalThin : RegDesc := ⟨0x11, 3, 0x2008, [], .cudom, [F.radCalThin_thin_time, F.radCalThin_thin_window]⟩

/-- rad_CAL_TRIG, R191 of 05. -/
def A.radCalTrig (r : Nat) : Nat := win (0x11 + r) + 0x200C
def F.radCalTrig_evm_trigger : Fld := ⟨31, 24, .rw, 0xA⟩
def F.radCalTrig_phase_trigger : Fld := ⟨23, 16, .rw, 0x5⟩
def F.radCalTrig_refresh_holdoff : Fld := ⟨15, 0, .rw, 0x64⟩
def D.radCalTrig : RegDesc := ⟨0x11, 3, 0x200C, [], .cudom, [F.radCalTrig_evm_trigger, F.radCalTrig_phase_trigger, F.radCalTrig_refresh_holdoff]⟩

/-- rad_CAL_STATE, R191 of 05. -/
def A.radCalState (r : Nat) : Nat := win (0x11 + r) + 0x2010
def F.radCalState_staged : Fld := ⟨31, 31, .ro, 0x0⟩
def F.radCalState_step : Fld := ⟨30, 28, .ro, 0x0⟩
def F.radCalState_thin_chains : Fld := ⟨23, 16, .ro, 0x0⟩
def F.radCalState_cal_frames_due : Fld := ⟨7, 0, .ro, 0x0⟩
def D.radCalState : RegDesc := ⟨0x11, 3, 0x2010, [], .any, [F.radCalState_staged, F.radCalState_step, F.radCalState_thin_chains, F.radCalState_cal_frames_due]⟩

/-- rad_CAL_EVM_n, R191 of 05. -/
def A.radCalEvm (r n : Nat) : Nat := win (0x11 + r) + 0x2020 + 0x4 * n
def F.radCalEvm_gain_state : Fld := ⟨18, 16, .ro, 0x0⟩
def F.radCalEvm_evm_old : Fld := ⟨15, 8, .ro, 0xFF⟩
def F.radCalEvm_evm_new : Fld := ⟨7, 0, .ro, 0xFF⟩
def D.radCalEvm : RegDesc := ⟨0x11, 3, 0x2020, [(0x4, 8)], .any, [F.radCalEvm_gain_state, F.radCalEvm_evm_old, F.radCalEvm_evm_new]⟩

/-- rad_CAL_COEF_W0, R191 of 05. -/
def A.radCalCoefW0 (r c g k : Nat) : Nat := win (0x11 + r) + 0x20000 + 0x800 * c + 0x100 * g + 0x8 * k
def F.radCalCoefW0_coef_i : Fld := ⟨17, 0, .ro, 0x0⟩
def D.radCalCoefW0 : RegDesc := ⟨0x11, 3, 0x20000, [(0x800, 8), (0x100, 5), (0x8, 20)], .any, [F.radCalCoefW0_coef_i]⟩

/-- rad_CAL_COEF_W1, R191 of 05. -/
def A.radCalCoefW1 (r c g k : Nat) : Nat := win (0x11 + r) + 0x20004 + 0x800 * c + 0x100 * g + 0x8 * k
def F.radCalCoefW1_coef_q : Fld := ⟨17, 0, .ro, 0x0⟩
def D.radCalCoefW1 : RegDesc := ⟨0x11, 3, 0x20004, [(0x800, 8), (0x100, 5), (0x8, 20)], .any, [F.radCalCoefW1_coef_q]⟩

/-- rad_CAL_UPDATE, R192 of 05. -/
def A.radCalUpdate (r : Nat) : Nat := win (0x11 + r) + 0x2F00
def F.radCalUpdate_count : Fld := ⟨31, 0, .ro, 0x0⟩
def D.radCalUpdate : RegDesc := ⟨0x11, 3, 0x2F00, [], .any, [F.radCalUpdate_count]⟩

/-- rad_CAL_FRAME, R192 of 05. -/
def A.radCalFrame (r : Nat) : Nat := win (0x11 + r) + 0x2F04
def F.radCalFrame_count : Fld := ⟨31, 0, .ro, 0x0⟩
def D.radCalFrame : RegDesc := ⟨0x11, 3, 0x2F04, [], .any, [F.radCalFrame_count]⟩

/-- rad_CAL_FRAME_LATE, R192 of 05. -/
def A.radCalFrameLate (r : Nat) : Nat := win (0x11 + r) + 0x2F08
def F.radCalFrameLate_count : Fld := ⟨31, 0, .ro, 0x0⟩
def D.radCalFrameLate : RegDesc := ⟨0x11, 3, 0x2F08, [], .any, [F.radCalFrameLate_count]⟩

/-- rad_CAL_REJECT, R192 of 05. -/
def A.radCalReject (r : Nat) : Nat := win (0x11 + r) + 0x2F0C
def F.radCalReject_count : Fld := ⟨31, 0, .ro, 0x0⟩
def D.radCalReject : RegDesc := ⟨0x11, 3, 0x2F0C, [], .any, [F.radCalReject_count]⟩

/-- rad_CAL_REVERT, R192 of 05. -/
def A.radCalRevert (r : Nat) : Nat := win (0x11 + r) + 0x2F10
def F.radCalRevert_count : Fld := ⟨31, 0, .ro, 0x0⟩
def D.radCalRevert : RegDesc := ⟨0x11, 3, 0x2F10, [], .any, [F.radCalRevert_count]⟩

/-- rad_CAL_REFRESH_REQ, R192 of 05. -/
def A.radCalRefreshReq (r : Nat) : Nat := win (0x11 + r) + 0x2F14
def F.radCalRefreshReq_count : Fld := ⟨31, 0, .ro, 0x0⟩
def D.radCalRefreshReq : RegDesc := ⟨0x11, 3, 0x2F14, [], .any, [F.radCalRefreshReq_count]⟩

/-- rad_CAL_CAPTURE_DISCARD, R192 of 05. -/
def A.radCalCaptureDiscard (r : Nat) : Nat := win (0x11 + r) + 0x2F18
def F.radCalCaptureDiscard_count : Fld := ⟨31, 0, .ro, 0x0⟩
def D.radCalCaptureDiscard : RegDesc := ⟨0x11, 3, 0x2F18, [], .any, [F.radCalCaptureDiscard_count]⟩

/-- rad_CAL_STEP_ABORT, R192 of 05. -/
def A.radCalStepAbort (r : Nat) : Nat := win (0x11 + r) + 0x2F1C
def F.radCalStepAbort_count : Fld := ⟨31, 0, .ro, 0x0⟩
def D.radCalStepAbort : RegDesc := ⟨0x11, 3, 0x2F1C, [], .any, [F.radCalStepAbort_count]⟩

/-- AON_PWR_STATE_k, R574 of 15. -/
def A.aonPwrState (k : Nat) : Nat := win 0x0 + 0x100 + 0x4 * k
def F.aonPwrState_state_0 : Fld := ⟨3, 0, .ro, 0x0⟩
def F.aonPwrState_state_1 : Fld := ⟨7, 4, .ro, 0x0⟩
def F.aonPwrState_state_2 : Fld := ⟨11, 8, .ro, 0x0⟩
def F.aonPwrState_state_3 : Fld := ⟨15, 12, .ro, 0x0⟩
def F.aonPwrState_state_4 : Fld := ⟨19, 16, .ro, 0x0⟩
def F.aonPwrState_state_5 : Fld := ⟨23, 20, .ro, 0x0⟩
def F.aonPwrState_state_6 : Fld := ⟨27, 24, .ro, 0x0⟩
def F.aonPwrState_state_7 : Fld := ⟨31, 28, .ro, 0x0⟩
def D.aonPwrState : RegDesc := ⟨0x0, 1, 0x100, [(0x4, 3)], .cudom, [F.aonPwrState_state_0, F.aonPwrState_state_1, F.aonPwrState_state_2, F.aonPwrState_state_3, F.aonPwrState_state_4, F.aonPwrState_state_5, F.aonPwrState_state_6, F.aonPwrState_state_7]⟩

/-- AON_WAKE_EN, R574 of 15. -/
def A.aonWakeEn : Nat := win 0x0 + 0x110
def F.aonWakeEn_enable : Fld := ⟨9, 0, .ro, 0x1⟩
def D.aonWakeEn : RegDesc := ⟨0x0, 1, 0x110, [], .cudom, [F.aonWakeEn_enable]⟩

/-- AON_WAKE_LEVEL, R574 of 15. -/
def A.aonWakeLevel : Nat := win 0x0 + 0x114
def F.aonWakeLevel_level : Fld := ⟨9, 0, .ro, 0x0⟩
def D.aonWakeLevel : RegDesc := ⟨0x0, 1, 0x114, [], .cudom, [F.aonWakeLevel_level]⟩

/-- AON_WAKE_STATUS, R574 of 15. -/
def A.aonWakeStatus : Nat := win 0x0 + 0x118
def F.aonWakeStatus_wake : Fld := ⟨9, 0, .w1c, 0x0⟩
def D.aonWakeStatus : RegDesc := ⟨0x0, 1, 0x118, [], .cudom, [F.aonWakeStatus_wake]⟩

/-- AON_WAKE_FAULT, R574 of 15. -/
def A.aonWakeFault : Nat := win 0x0 + 0x11C
def F.aonWakeFault_valid : Fld := ⟨31, 31, .w1c, 0x0⟩
def F.aonWakeFault_island : Fld := ⟨28, 24, .ro, 0x0⟩
def F.aonWakeFault_stage : Fld := ⟨23, 21, .ro, 0x0⟩
def D.aonWakeFault : RegDesc := ⟨0x0, 1, 0x11C, [], .cudom, [F.aonWakeFault_valid, F.aonWakeFault_island, F.aonWakeFault_stage]⟩

/-- AON_DARK_ACCESS_LO, R574 of 15. -/
def A.aonDarkAccessLo : Nat := win 0x0 + 0x120
def F.aonDarkAccessLo_island : Fld := ⟨28, 24, .ro, 0x0⟩
def F.aonDarkAccessLo_offset : Fld := ⟨23, 0, .ro, 0x0⟩
def D.aonDarkAccessLo : RegDesc := ⟨0x0, 1, 0x120, [], .cudom, [F.aonDarkAccessLo_island, F.aonDarkAccessLo_offset]⟩

/-- AON_DARK_ACCESS_HI, R574 of 15. -/
def A.aonDarkAccessHi : Nat := win 0x0 + 0x124
def F.aonDarkAccessHi_source : Fld := ⟨31, 16, .ro, 0x0⟩
def F.aonDarkAccessHi_write : Fld := ⟨1, 1, .ro, 0x0⟩
def F.aonDarkAccessHi_valid : Fld := ⟨0, 0, .w1c, 0x0⟩
def D.aonDarkAccessHi : RegDesc := ⟨0x0, 1, 0x124, [], .cudom, [F.aonDarkAccessHi_source, F.aonDarkAccessHi_write, F.aonDarkAccessHi_valid]⟩

/-- AON_THRIFT_CFG, R574 of 15. -/
def A.aonThriftCfg : Nat := win 0x0 + 0x130
def F.aonThriftCfg_chains_h : Fld := ⟨31, 28, .rw, 0x2⟩
def F.aonThriftCfg_chains_m : Fld := ⟨27, 24, .rw, 0x2⟩
def F.aonThriftCfg_chains_l : Fld := ⟨23, 21, .rw, 0x1⟩
def F.aonThriftCfg_keep_clusters : Fld := ⟨20, 18, .rw, 0x1⟩
def F.aonThriftCfg_fill_exit : Fld := ⟨17, 0, .rw, 0x18000⟩
def D.aonThriftCfg : RegDesc := ⟨0x0, 1, 0x130, [], .cudom, [F.aonThriftCfg_chains_h, F.aonThriftCfg_chains_m, F.aonThriftCfg_chains_l, F.aonThriftCfg_keep_clusters, F.aonThriftCfg_fill_exit]⟩

/-- AON_RENEW_i, R574 of 15. -/
def A.aonRenew (i : Nat) : Nat := win 0x0 + 0x144 + 0x4 * (i - 1)
def F.aonRenew_step : Fld := ⟨31, 28, .ro, 0x0⟩
def F.aonRenew_forced : Fld := ⟨27, 27, .ro, 0x0⟩
def F.aonRenew_image : Fld := ⟨26, 26, .ro, 0x0⟩
def F.aonRenew_result : Fld := ⟨25, 24, .ro, 0x0⟩
def F.aonRenew_drain_limit : Fld := ⟨15, 0, .ro, 0xA⟩
def D.aonRenew : RegDesc := ⟨0x0, 1, 0x144, [(0x4, 21)], .cudom, [F.aonRenew_step, F.aonRenew_forced, F.aonRenew_image, F.aonRenew_result, F.aonRenew_drain_limit]⟩

/-- AON_VIGIL_ANCHOR, R574 of 15. -/
def A.aonVigilAnchor : Nat := win 0x0 + 0x200
def F.aonVigilAnchor_round_units : Fld := ⟨30, 17, .rw, 0x50⟩
def F.aonVigilAnchor_centre : Fld := ⟨16, 0, .rw, 0x0⟩
def D.aonVigilAnchor : RegDesc := ⟨0x0, 1, 0x200, [], .cudom, [F.aonVigilAnchor_round_units, F.aonVigilAnchor_centre]⟩

/-- AON_VIGIL_CMP, R574 of 15. -/
def A.aonVigilCmp : Nat := win 0x0 + 0x204
def F.aonVigilCmp_miss_limit : Fld := ⟨31, 28, .rw, 0x3⟩
def F.aonVigilCmp_time_en : Fld := ⟨27, 27, .rw, 0x0⟩
def F.aonVigilCmp_dir1 : Fld := ⟨1, 1, .rw, 0x0⟩
def F.aonVigilCmp_dir0 : Fld := ⟨0, 0, .rw, 0x0⟩
def D.aonVigilCmp : RegDesc := ⟨0x0, 1, 0x204, [], .cudom, [F.aonVigilCmp_miss_limit, F.aonVigilCmp_time_en, F.aonVigilCmp_dir1, F.aonVigilCmp_dir0]⟩

/-- AON_VIGIL_STATUS, R574 of 15. -/
def A.aonVigilStatus : Nat := win 0x0 + 0x208
def F.aonVigilStatus_hit_light0 : Fld := ⟨31, 31, .w1c, 0x0⟩
def F.aonVigilStatus_hit_light1 : Fld := ⟨30, 30, .w1c, 0x0⟩
def F.aonVigilStatus_hit_gpio : Fld := ⟨29, 29, .w1c, 0x0⟩
def F.aonVigilStatus_lantern_loss : Fld := ⟨28, 28, .w1c, 0x0⟩
def F.aonVigilStatus_misses : Fld := ⟨27, 24, .ro, 0x0⟩
def F.aonVigilStatus_light1 : Fld := ⟨23, 12, .ro, 0x0⟩
def F.aonVigilStatus_light0 : Fld := ⟨11, 0, .ro, 0x0⟩
def D.aonVigilStatus : RegDesc := ⟨0x0, 1, 0x208, [], .cudom, [F.aonVigilStatus_hit_light0, F.aonVigilStatus_hit_light1, F.aonVigilStatus_hit_gpio, F.aonVigilStatus_lantern_loss, F.aonVigilStatus_misses, F.aonVigilStatus_light1, F.aonVigilStatus_light0]⟩

/-- AON_VIGIL_STAMP, R574 of 15. -/
def A.aonVigilStamp : Nat := win 0x0 + 0x20C
def F.aonVigilStamp_count : Fld := ⟨31, 0, .ro, 0x0⟩
def D.aonVigilStamp : RegDesc := ⟨0x0, 1, 0x20C, [], .cudom, [F.aonVigilStamp_count]⟩

/-- AON_DARK_LOSS_i, R519 of 15. -/
def A.aonDarkLoss (i : Nat) : Nat := win 0x0 + 0xF04 + 0x4 * (i - 1)
def F.aonDarkLoss_count : Fld := ⟨31, 0, .ro, 0x0⟩
def D.aonDarkLoss : RegDesc := ⟨0x0, 1, 0xF04, [(0x4, 21)], .cudom, [F.aonDarkLoss_count]⟩

/-- AON_WAKE_FAULTS, R519 of 15. -/
def A.aonWakeFaults : Nat := win 0x0 + 0xF80
def F.aonWakeFaults_count : Fld := ⟨31, 0, .ro, 0x0⟩
def D.aonWakeFaults : RegDesc := ⟨0x0, 1, 0xF80, [], .cudom, [F.aonWakeFaults_count]⟩

/-- AON_VIGIL_CYCLES, R519 of 15. -/
def A.aonVigilCycles : Nat := win 0x0 + 0xF84
def F.aonVigilCycles_count : Fld := ⟨31, 0, .ro, 0x0⟩
def D.aonVigilCycles : RegDesc := ⟨0x0, 1, 0xF84, [], .cudom, [F.aonVigilCycles_count]⟩

/-- AON_VIGIL_LANTERN_MISS, R519 of 15. -/
def A.aonVigilLanternMiss : Nat := win 0x0 + 0xF88
def F.aonVigilLanternMiss_count : Fld := ⟨31, 0, .ro, 0x0⟩
def D.aonVigilLanternMiss : RegDesc := ⟨0x0, 1, 0xF88, [], .cudom, [F.aonVigilLanternMiss_count]⟩

/-- CDM_GLOVE_STATUS, R544 of 16. -/
def A.cdmGloveStatus : Nat := win 0x1 + 0x300
def F.cdmGloveStatus_left_role : Fld := ⟨31, 30, .ro, 0x0⟩
def F.cdmGloveStatus_right_role : Fld := ⟨29, 28, .ro, 0x1⟩
def F.cdmGloveStatus_takeovers : Fld := ⟨15, 8, .ro, 0x0⟩
def D.cdmGloveStatus : RegDesc := ⟨0x1, 1, 0x300, [], .cudom, [F.cdmGloveStatus_left_role, F.cdmGloveStatus_right_role, F.cdmGloveStatus_takeovers]⟩

/-- CDM_GLOVE_KICK, R544 of 16. -/
def A.cdmGloveKick : Nat := win 0x1 + 0x304
def F.cdmGloveKick_right : Fld := ⟨1, 1, .w1s, 0x0⟩
def F.cdmGloveKick_left : Fld := ⟨0, 0, .w1s, 0x0⟩
def D.cdmGloveKick : RegDesc := ⟨0x1, 1, 0x304, [], .cudom, [F.cdmGloveKick_right, F.cdmGloveKick_left]⟩

/-- CDM_GLOVE_CFG, R544 of 16. -/
def A.cdmGloveCfg : Nat := win 0x1 + 0x308
def F.cdmGloveCfg_kick_timeout : Fld := ⟨7, 0, .rw, 0xA⟩
def D.cdmGloveCfg : RegDesc := ⟨0x1, 1, 0x308, [], .cudom, [F.cdmGloveCfg_kick_timeout]⟩

/-- CDM_TEMP_LIMIT, R544 of 16. -/
def A.cdmTempLimit : Nat := win 0x1 + 0x400
def F.cdmTempLimit_alarm : Fld := ⟨15, 8, .rw, 0x69⟩
def F.cdmTempLimit_warn : Fld := ⟨7, 0, .rw, 0x64⟩
def D.cdmTempLimit : RegDesc := ⟨0x1, 1, 0x400, [], .cudom, [F.cdmTempLimit_alarm, F.cdmTempLimit_warn]⟩

/-- CDM_TEMP_STATUS, R544 of 16. -/
def A.cdmTempStatus : Nat := win 0x1 + 0x404
def F.cdmTempStatus_alarm : Fld := ⟨23, 12, .w1c, 0x0⟩
def F.cdmTempStatus_warn : Fld := ⟨11, 0, .w1c, 0x0⟩
def D.cdmTempStatus : RegDesc := ⟨0x1, 1, 0x404, [], .cudom, [F.cdmTempStatus_alarm, F.cdmTempStatus_warn]⟩

/-- CDM_LOG_NEXT_t, R544 of 16. -/
def A.cdmLogNext (t : Nat) : Nat := win 0x1 + 0x500 + 0x4 * t
def F.cdmLogNext_next : Fld := ⟨31, 0, .ro, 0x0⟩
def D.cdmLogNext : RegDesc := ⟨0x1, 1, 0x500, [(0x4, 3)], .cudom, [F.cdmLogNext_next]⟩

/-- CDM_BOOT_STATUS, R544 of 16. -/
def A.cdmBootStatus : Nat := win 0x1 + 0x600
def F.cdmBootStatus_booted_slot : Fld := ⟨31, 30, .ro, 0x0⟩
def F.cdmBootStatus_trial : Fld := ⟨29, 29, .ro, 0x0⟩
def F.cdmBootStatus_fallback : Fld := ⟨28, 28, .ro, 0x0⟩
def F.cdmBootStatus_min_version : Fld := ⟨22, 16, .ro, 0x0⟩
def D.cdmBootStatus : RegDesc := ⟨0x1, 1, 0x600, [], .cudom, [F.cdmBootStatus_booted_slot, F.cdmBootStatus_trial, F.cdmBootStatus_fallback, F.cdmBootStatus_min_version]⟩

/-- CDM_DALI_CTL_b, R544 of 16. -/
def A.cdmDaliCtl (b : Nat) : Nat := win 0x1 + 0x700 + 0x10 * b
def F.cdmDaliCtl_enable : Fld := ⟨31, 31, .rw, 0x0⟩
def F.cdmDaliCtl_sched_en : Fld := ⟨30, 30, .rw, 0x0⟩
def F.cdmDaliCtl_bus_down : Fld := ⟨29, 29, .ro, 0x0⟩
def D.cdmDaliCtl : RegDesc := ⟨0x1, 1, 0x700, [(0x10, 2)], .cudom, [F.cdmDaliCtl_enable, F.cdmDaliCtl_sched_en, F.cdmDaliCtl_bus_down]⟩

/-- CDM_DALI_TZ, R544 of 16. -/
def A.cdmDaliTz : Nat := win 0x1 + 0x720
def F.cdmDaliTz_tz_offset : Fld := ⟨31, 0, .rw, 0x0⟩
def D.cdmDaliTz : RegDesc := ⟨0x1, 1, 0x720, [], .cudom, [F.cdmDaliTz_tz_offset]⟩

/-- CDM_DALI_SCHED_W0_e, R544 of 16. -/
def A.cdmDaliSchedW0 (e : Nat) : Nat := win 0x1 + 0x800 + 0x8 * e
def F.cdmDaliSchedW0_valid : Fld := ⟨31, 31, .rw, 0x0⟩
def F.cdmDaliSchedW0_bus : Fld := ⟨30, 30, .rw, 0x0⟩
def F.cdmDaliSchedW0_time : Fld := ⟨16, 0, .rw, 0x0⟩
def D.cdmDaliSchedW0 : RegDesc := ⟨0x1, 1, 0x800, [(0x8, 64)], .cudom, [F.cdmDaliSchedW0_valid, F.cdmDaliSchedW0_bus, F.cdmDaliSchedW0_time]⟩

/-- CDM_DALI_SCHED_W1_e, R544 of 16. -/
def A.cdmDaliSchedW1 (e : Nat) : Nat := win 0x1 + 0x804 + 0x8 * e
def F.cdmDaliSchedW1_bits24 : Fld := ⟨31, 31, .rw, 0x0⟩
def F.cdmDaliSchedW1_twice : Fld := ⟨30, 30, .rw, 0x0⟩
def F.cdmDaliSchedW1_frame : Fld := ⟨23, 0, .rw, 0x0⟩
def D.cdmDaliSchedW1 : RegDesc := ⟨0x1, 1, 0x804, [(0x8, 64)], .cudom, [F.cdmDaliSchedW1_bits24, F.cdmDaliSchedW1_twice, F.cdmDaliSchedW1_frame]⟩

/-- AON_FAULT_CAUSE, R544 of 16. -/
def A.aonFaultCause : Nat := win 0x0 + 0x300
def F.aonFaultCause_temp_alarm : Fld := ⟨5, 5, .ro, 0x0⟩
def F.aonFaultCause_thermal_trip : Fld := ⟨4, 4, .ro, 0x0⟩
def F.aonFaultCause_glove_failed : Fld := ⟨3, 3, .ro, 0x0⟩
def F.aonFaultCause_recovery : Fld := ⟨2, 2, .ro, 0x0⟩
def F.aonFaultCause_wake_fault : Fld := ⟨1, 1, .ro, 0x0⟩
def F.aonFaultCause_asserted : Fld := ⟨0, 0, .ro, 0x0⟩
def D.aonFaultCause : RegDesc := ⟨0x0, 1, 0x300, [], .cudom, [F.aonFaultCause_temp_alarm, F.aonFaultCause_thermal_trip, F.aonFaultCause_glove_failed, F.aonFaultCause_recovery, F.aonFaultCause_wake_fault, F.aonFaultCause_asserted]⟩

/-- CDM_LOG_OVERWRITE, R545 of 16. -/
def A.cdmLogOverwrite : Nat := win 0x1 + 0xF00
def F.cdmLogOverwrite_count : Fld := ⟨31, 0, .ro, 0x0⟩
def D.cdmLogOverwrite : RegDesc := ⟨0x1, 1, 0xF00, [], .cudom, [F.cdmLogOverwrite_count]⟩

/-- CDM_LOG_SUPPRESSED, R545 of 16. -/
def A.cdmLogSuppressed : Nat := win 0x1 + 0xF04
def F.cdmLogSuppressed_count : Fld := ⟨31, 0, .ro, 0x0⟩
def D.cdmLogSuppressed : RegDesc := ⟨0x1, 1, 0xF04, [], .cudom, [F.cdmLogSuppressed_count]⟩

/-- CDM_LOG_FLASH_DROP, R545 of 16. -/
def A.cdmLogFlashDrop : Nat := win 0x1 + 0xF08
def F.cdmLogFlashDrop_count : Fld := ⟨31, 0, .ro, 0x0⟩
def D.cdmLogFlashDrop : RegDesc := ⟨0x1, 1, 0xF08, [], .cudom, [F.cdmLogFlashDrop_count]⟩

/-- CDM_GLOVE_TAKEOVER, R545 of 16. -/
def A.cdmGloveTakeover : Nat := win 0x1 + 0xF0C
def F.cdmGloveTakeover_count : Fld := ⟨31, 0, .ro, 0x0⟩
def D.cdmGloveTakeover : RegDesc := ⟨0x1, 1, 0xF0C, [], .cudom, [F.cdmGloveTakeover_count]⟩

/-- CDM_DALI_COLLISION_b, R545 of 16. -/
def A.cdmDaliCollision (b : Nat) : Nat := win 0x1 + 0xF10 + 0x4 * b
def F.cdmDaliCollision_count : Fld := ⟨31, 0, .ro, 0x0⟩
def D.cdmDaliCollision : RegDesc := ⟨0x1, 1, 0xF10, [(0x4, 2)], .cudom, [F.cdmDaliCollision_count]⟩

/-- CDM_DALI_FRAME_ERR_b, R545 of 16. -/
def A.cdmDaliFrameErr (b : Nat) : Nat := win 0x1 + 0xF18 + 0x4 * b
def F.cdmDaliFrameErr_count : Fld := ⟨31, 0, .ro, 0x0⟩
def D.cdmDaliFrameErr : RegDesc := ⟨0x1, 1, 0xF18, [(0x4, 2)], .cudom, [F.cdmDaliFrameErr_count]⟩

end Sys2Proof.Machine
end

