-- ==== Sys2Proof/Machine/RegMapB.lean ====
section
/-!
DEFINITION. The register map: every register of the spec's register tables, its address, its fields with
their access codes and reset values (R14, R18), and who may write it. The rows follow the register tables of
the chapters in their order. `A.x` is the address of register x, `F.x_f` its field f, `D.x` its row.
-/

namespace Sys2Proof.Machine

/-- HMAC_LOAD_CFG, R161 of 04. -/
def A.hmacLoadCfg : Nat := win 0x15 + 0x4000
def F.hmacLoadCfg_avg_shift : Fld := ⟨14, 12, .rw, 0x3⟩
def F.hmacLoadCfg_min_bits : Fld := ⟨11, 8, .rw, 0x1⟩
def F.hmacLoadCfg_margin : Fld := ⟨5, 0, .rw, 0xC⟩
def D.hmacLoadCfg : RegDesc := ⟨0x15, 1, 0x4000, [], .any, [F.hmacLoadCfg_avg_shift, F.hmacLoadCfg_min_bits, F.hmacLoadCfg_margin]⟩

/-- HMAC_LOAD_GAP, R161 of 04. -/
def A.hmacLoadGap : Nat := win 0x15 + 0x4004
def F.hmacLoadGap_gap_56 : Fld := ⟨31, 24, .rw, 0x14⟩
def F.hmacLoadGap_gap_34 : Fld := ⟨23, 16, .rw, 0x10⟩
def F.hmacLoadGap_gap_23 : Fld := ⟨15, 8, .rw, 0xC⟩
def F.hmacLoadGap_gap_12 : Fld := ⟨7, 0, .rw, 0x8⟩
def D.hmacLoadGap : RegDesc := ⟨0x15, 1, 0x4004, [], .any, [F.hmacLoadGap_gap_56, F.hmacLoadGap_gap_34, F.hmacLoadGap_gap_23, F.hmacLoadGap_gap_12]⟩

/-- HMAC_MAP_STATUS, R161 of 04. -/
def A.hmacMapStatus : Nat := win 0x15 + 0x4008
def F.hmacMapStatus_largest_free : Fld := ⟨30, 16, .ro, 0x4000⟩
def F.hmacMapStatus_free_units : Fld := ⟨14, 0, .ro, 0x4000⟩
def D.hmacMapStatus : RegDesc := ⟨0x15, 1, 0x4008, [], .any, [F.hmacMapStatus_largest_free, F.hmacMapStatus_free_units]⟩

/-- HMAC_LOAD_EMPTY (R162). -/
def A.hmacLoadEmpty : Nat := win 0x15 + 0x4F00
def F.hmacLoadEmpty_count : Fld := ⟨31, 0, .ro, 0x0⟩
def D.hmacLoadEmpty : RegDesc := ⟨0x15, 1, 0x4F00, [], .any, [F.hmacLoadEmpty_count]⟩

/-- HMAC_MAP_STORE_FULL (R162). -/
def A.hmacMapStoreFull : Nat := win 0x15 + 0x4F04
def F.hmacMapStoreFull_count : Fld := ⟨31, 0, .ro, 0x0⟩
def D.hmacMapStoreFull : RegDesc := ⟨0x15, 1, 0x4F04, [], .any, [F.hmacMapStoreFull_count]⟩

/-- DEC_CTL, R162 of 04. -/
def A.decCtl : Nat := win 0x14 + 0x0
def F.decCtl_cfg_err : Fld := ⟨31, 31, .w1c, 0x0⟩
def F.decCtl_max_iter : Fld := ⟨4, 0, .rw, 0xC⟩
def D.decCtl : RegDesc := ⟨0x14, 1, 0x0, [], .any, [F.decCtl_cfg_err, F.decCtl_max_iter]⟩

/-- DEC_STATUS, R162 of 04. -/
def A.decStatus : Nat := win 0x14 + 0x4
def F.decStatus_overload : Fld := ⟨31, 31, .ro, 0x0⟩
def F.decStatus_cells_busy : Fld := ⟨21, 16, .ro, 0x0⟩
def F.decStatus_waiting : Fld := ⟨11, 0, .ro, 0x0⟩
def D.decStatus : RegDesc := ⟨0x14, 1, 0x4, [], .any, [F.decStatus_overload, F.decStatus_cells_busy, F.decStatus_waiting]⟩

/-- DEC_OVERLOAD_ENTRY, R163 of 04. -/
def A.decOverloadEntry : Nat := win 0x14 + 0x8
def F.decOverloadEntry_count : Fld := ⟨31, 0, .ro, 0x0⟩
def D.decOverloadEntry : RegDesc := ⟨0x14, 1, 0x8, [], .any, [F.decOverloadEntry_count]⟩

/-- DEC_GAL_DECODED_r, R163 of 04. -/
def A.decGalDecoded (r : Nat) : Nat := win 0x14 + 0x100 + 0x20 * r
def F.decGalDecoded_count : Fld := ⟨31, 0, .ro, 0x0⟩
def D.decGalDecoded : RegDesc := ⟨0x14, 1, 0x100, [(0x20, 3)], .any, [F.decGalDecoded_count]⟩

/-- DEC_GAL_FAIL_r, R163 of 04. -/
def A.decGalFail (r : Nat) : Nat := win 0x14 + 0x104 + 0x20 * r
def F.decGalFail_count : Fld := ⟨31, 0, .ro, 0x0⟩
def D.decGalFail : RegDesc := ⟨0x14, 1, 0x104, [(0x20, 3)], .any, [F.decGalFail_count]⟩

/-- DEC_GAL_CAPPED_r, R163 of 04. -/
def A.decGalCapped (r : Nat) : Nat := win 0x14 + 0x108 + 0x20 * r
def F.decGalCapped_count : Fld := ⟨31, 0, .ro, 0x0⟩
def D.decGalCapped : RegDesc := ⟨0x14, 1, 0x108, [(0x20, 3)], .any, [F.decGalCapped_count]⟩

/-- DEC_GAL_DEADLINE_r, R163 of 04. -/
def A.decGalDeadline (r : Nat) : Nat := win 0x14 + 0x10C + 0x20 * r
def F.decGalDeadline_count : Fld := ⟨31, 0, .ro, 0x0⟩
def D.decGalDeadline : RegDesc := ⟨0x14, 1, 0x10C, [(0x20, 3)], .any, [F.decGalDeadline_count]⟩

/-- HMAC_HOL_CTL, R241 of 06. -/
def A.hmacHolCtl : Nat := win 0x15 + 0x5000
def F.hmacHolCtl_coord_en : Fld := ⟨31, 31, .rw, 0x0⟩
def F.hmacHolCtl_member_en : Fld := ⟨30, 30, .rw, 0x0⟩
def F.hmacHolCtl_own_ppm : Fld := ⟨23, 16, .rw, 0x14⟩
def F.hmacHolCtl_device_number : Fld := ⟨11, 0, .ro, 0x0⟩
def D.hmacHolCtl : RegDesc := ⟨0x15, 1, 0x5000, [], .cores, [F.hmacHolCtl_coord_en, F.hmacHolCtl_member_en, F.hmacHolCtl_own_ppm, F.hmacHolCtl_device_number]⟩

/-- HMAC_HOL_ROUND, R241 of 06. -/
def A.hmacHolRound : Nat := win 0x15 + 0x5004
def F.hmacHolRound_cfg_err : Fld := ⟨31, 31, .w1c, 0x0⟩
def F.hmacHolRound_round_units : Fld := ⟨29, 16, .rw, 0x50⟩
def F.hmacHolRound_lantern_reserve : Fld := ⟨15, 12, .rw, 0x2⟩
def F.hmacHolRound_anchor : Fld := ⟨11, 6, .rw, 0x0⟩
def F.hmacHolRound_hop_increment : Fld := ⟨5, 0, .rw, 0x1⟩
def D.hmacHolRound : RegDesc := ⟨0x15, 1, 0x5004, [], .cores, [F.hmacHolRound_cfg_err, F.hmacHolRound_round_units, F.hmacHolRound_lantern_reserve, F.hmacHolRound_anchor, F.hmacHolRound_hop_increment]⟩

/-- HMAC_HOL_CHMAP_LO, R241 of 06. -/
def A.hmacHolChmapLo : Nat := win 0x15 + 0x5008
def F.hmacHolChmapLo_map : Fld := ⟨31, 0, .ro, 0x0⟩
def D.hmacHolChmapLo : RegDesc := ⟨0x15, 1, 0x5008, [], .cores, [F.hmacHolChmapLo_map]⟩

/-- HMAC_HOL_CHMAP_HI, R241 of 06. -/
def A.hmacHolChmapHi : Nat := win 0x15 + 0x500C
def F.hmacHolChmapHi_map : Fld := ⟨31, 0, .ro, 0x0⟩
def D.hmacHolChmapHi : RegDesc := ⟨0x15, 1, 0x500C, [], .cores, [F.hmacHolChmapHi_map]⟩

/-- HMAC_HOL_NEXT_LO, R241 of 06. -/
def A.hmacHolNextLo : Nat := win 0x15 + 0x5010
def F.hmacHolNextLo_next_map : Fld := ⟨31, 0, .rw, 0x0⟩
def D.hmacHolNextLo : RegDesc := ⟨0x15, 1, 0x5010, [], .cores, [F.hmacHolNextLo_next_map]⟩

/-- HMAC_HOL_NEXT_HI, R241 of 06. -/
def A.hmacHolNextHi : Nat := win 0x15 + 0x5014
def F.hmacHolNextHi_next_map : Fld := ⟨31, 0, .rw, 0x0⟩
def D.hmacHolNextHi : RegDesc := ⟨0x15, 1, 0x5014, [], .cores, [F.hmacHolNextHi_next_map]⟩

/-- HMAC_HOL_CHMAP_CTL, R241 of 06. -/
def A.hmacHolChmapCtl : Nat := win 0x15 + 0x5018
def F.hmacHolChmapCtl_change_req : Fld := ⟨31, 31, .w1s, 0x0⟩
def F.hmacHolChmapCtl_pending : Fld := ⟨30, 30, .ro, 0x0⟩
def F.hmacHolChmapCtl_new_anchor : Fld := ⟨29, 24, .rw, 0x0⟩
def F.hmacHolChmapCtl_version : Fld := ⟨23, 16, .ro, 0x0⟩
def F.hmacHolChmapCtl_lead : Fld := ⟨15, 8, .rw, 0x10⟩
def D.hmacHolChmapCtl : RegDesc := ⟨0x15, 1, 0x5018, [], .cores, [F.hmacHolChmapCtl_change_req, F.hmacHolChmapCtl_pending, F.hmacHolChmapCtl_new_anchor, F.hmacHolChmapCtl_version, F.hmacHolChmapCtl_lead]⟩

/-- HMAC_HOL_JOIN, R241 of 06. -/
def A.hmacHolJoin : Nat := win 0x15 + 0x501C
def F.hmacHolJoin_join_en : Fld := ⟨31, 31, .rw, 0x0⟩
def F.hmacHolJoin_join_offset : Fld := ⟨29, 16, .rw, 0x2⟩
def F.hmacHolJoin_join_len : Fld := ⟨7, 0, .rw, 0x4⟩
def D.hmacHolJoin : RegDesc := ⟨0x15, 1, 0x501C, [], .cores, [F.hmacHolJoin_join_en, F.hmacHolJoin_join_offset, F.hmacHolJoin_join_len]⟩

/-- HMAC_HOL_ADMIT, R241 of 06. -/
def A.hmacHolAdmit : Nat := win 0x15 + 0x5020
def F.hmacHolAdmit_go : Fld := ⟨31, 31, .w1s, 0x0⟩
def F.hmacHolAdmit_op : Fld := ⟨30, 29, .rw, 0x0⟩
def F.hmacHolAdmit_busy : Fld := ⟨28, 28, .ro, 0x0⟩
def F.hmacHolAdmit_partner : Fld := ⟨9, 0, .rw, 0x0⟩
def D.hmacHolAdmit : RegDesc := ⟨0x15, 1, 0x5020, [], .cores, [F.hmacHolAdmit_go, F.hmacHolAdmit_op, F.hmacHolAdmit_busy, F.hmacHolAdmit_partner]⟩

/-- HMAC_HOL_ADMIT_RES, R241 of 06. -/
def A.hmacHolAdmitRes : Nat := win 0x15 + 0x5024
def F.hmacHolAdmitRes_reason : Fld := ⟨18, 16, .ro, 0x0⟩
def F.hmacHolAdmitRes_status : Fld := ⟨15, 0, .ro, 0x0⟩
def D.hmacHolAdmitRes : RegDesc := ⟨0x15, 1, 0x5024, [], .cores, [F.hmacHolAdmitRes_reason, F.hmacHolAdmitRes_status]⟩

/-- HMAC_HOL_SHARE, R241 of 06. -/
def A.hmacHolShare : Nat := win 0x15 + 0x5028
def F.hmacHolShare_share_h : Fld := ⟨29, 20, .rw, 0x2EE⟩
def F.hmacHolShare_share_m : Fld := ⟨19, 10, .rw, 0x2EE⟩
def F.hmacHolShare_share_l : Fld := ⟨9, 0, .rw, 0x2EE⟩
def D.hmacHolShare : RegDesc := ⟨0x15, 1, 0x5028, [], .cores, [F.hmacHolShare_share_h, F.hmacHolShare_share_m, F.hmacHolShare_share_l]⟩

/-- HMAC_HOL_ABSENCE, R241 of 06. -/
def A.hmacHolAbsence : Nat := win 0x15 + 0x502C
def F.hmacHolAbsence_go : Fld := ⟨31, 31, .w1s, 0x0⟩
def F.hmacHolAbsence_busy : Fld := ⟨30, 30, .ro, 0x0⟩
def F.hmacHolAbsence_bands : Fld := ⟨29, 27, .rw, 0x0⟩
def F.hmacHolAbsence_lead : Fld := ⟨23, 16, .rw, 0x4⟩
def F.hmacHolAbsence_duration : Fld := ⟨15, 0, .rw, 0x0⟩
def D.hmacHolAbsence : RegDesc := ⟨0x15, 1, 0x502C, [], .cores, [F.hmacHolAbsence_go, F.hmacHolAbsence_busy, F.hmacHolAbsence_bands, F.hmacHolAbsence_lead, F.hmacHolAbsence_duration]⟩

/-- HMAC_HOL_KEYS, R241 of 06. -/
def A.hmacHolKeys : Nat := win 0x15 + 0x5030
def F.hmacHolKeys_group_slot : Fld := ⟨27, 16, .rw, 0x0⟩
def F.hmacHolKeys_join_slot : Fld := ⟨11, 0, .rw, 0x0⟩
def D.hmacHolKeys : RegDesc := ⟨0x15, 1, 0x5030, [], .cores, [F.hmacHolKeys_group_slot, F.hmacHolKeys_join_slot]⟩

/-- HMAC_HOL_CFG, R241 of 06. -/
def A.hmacHolCfg : Nat := win 0x15 + 0x5034
def F.hmacHolCfg_absence_limit : Fld := ⟨31, 16, .rw, 0xE10⟩
def F.hmacHolCfg_offer_holdoff : Fld := ⟨15, 0, .rw, 0x64⟩
def D.hmacHolCfg : RegDesc := ⟨0x15, 1, 0x5034, [], .cores, [F.hmacHolCfg_absence_limit, F.hmacHolCfg_offer_holdoff]⟩

/-- HMAC_HOL_CHDEF_i, R241 of 06. -/
def A.hmacHolChdef (i : Nat) : Nat := win 0x15 + 0x5100 + 0x4 * i
def F.hmacHolChdef_width : Fld := ⟨19, 17, .rw, 0x0⟩
def F.hmacHolChdef_centre : Fld := ⟨16, 0, .rw, 0x0⟩
def D.hmacHolChdef : RegDesc := ⟨0x15, 1, 0x5100, [(0x4, 64)], .cores, [F.hmacHolChdef_width, F.hmacHolChdef_centre]⟩

/-- HMAC_HOL_PARENT_CTL, R241 of 06. -/
def A.hmacHolParentCtl : Nat := win 0x15 + 0x5200
def F.hmacHolParentCtl_state : Fld := ⟨31, 29, .ro, 0x0⟩
def F.hmacHolParentCtl_join : Fld := ⟨28, 28, .w1s, 0x0⟩
def F.hmacHolParentCtl_leave : Fld := ⟨27, 27, .w1s, 0x0⟩
def F.hmacHolParentCtl_bands : Fld := ⟨26, 24, .rw, 0x0⟩
def F.hmacHolParentCtl_anchor : Fld := ⟨23, 18, .rw, 0x0⟩
def F.hmacHolParentCtl_coord_device : Fld := ⟨11, 0, .rw, 0x0⟩
def D.hmacHolParentCtl : RegDesc := ⟨0x15, 1, 0x5200, [], .cores, [F.hmacHolParentCtl_state, F.hmacHolParentCtl_join, F.hmacHolParentCtl_leave, F.hmacHolParentCtl_bands, F.hmacHolParentCtl_anchor, F.hmacHolParentCtl_coord_device]⟩

/-- HMAC_HOL_PARENT_SCHED, R241 of 06. -/
def A.hmacHolParentSched : Nat := win 0x15 + 0x5204
def F.hmacHolParentSched_offset : Fld := ⟨31, 18, .ro, 0x0⟩
def F.hmacHolParentSched_window : Fld := ⟨17, 4, .ro, 0x0⟩
def D.hmacHolParentSched : RegDesc := ⟨0x15, 1, 0x5204, [], .cores, [F.hmacHolParentSched_offset, F.hmacHolParentSched_window]⟩

/-- HMAC_HOL_PARENT_SCHED2, R241 of 06. -/
def A.hmacHolParentSched2 : Nat := win 0x15 + 0x5208
def F.hmacHolParentSched2_phase : Fld := ⟨31, 24, .ro, 0x0⟩
def F.hmacHolParentSched2_interval : Fld := ⟨23, 15, .ro, 0x0⟩
def F.hmacHolParentSched2_bands : Fld := ⟨12, 10, .ro, 0x0⟩
def F.hmacHolParentSched2_partner : Fld := ⟨9, 0, .ro, 0x0⟩
def D.hmacHolParentSched2 : RegDesc := ⟨0x15, 1, 0x5208, [], .cores, [F.hmacHolParentSched2_phase, F.hmacHolParentSched2_interval, F.hmacHolParentSched2_bands, F.hmacHolParentSched2_partner]⟩

/-- HMAC_HOL_PARENT_EVENT, R241 of 06. -/
def A.hmacHolParentEvent : Nat := win 0x15 + 0x520C
def F.hmacHolParentEvent_event : Fld := ⟨31, 0, .ro, 0x0⟩
def D.hmacHolParentEvent : RegDesc := ⟨0x15, 1, 0x520C, [], .cores, [F.hmacHolParentEvent_event]⟩

/-- HMAC_HOL_PARENT_SYNC, R241 of 06. -/
def A.hmacHolParentSync : Nat := win 0x15 + 0x5210
def F.hmacHolParentSync_brim : Fld := ⟨31, 8, .ro, 0xA⟩
def F.hmacHolParentSync_missed : Fld := ⟨7, 4, .ro, 0x0⟩
def D.hmacHolParentSync : RegDesc := ⟨0x15, 1, 0x5210, [], .cores, [F.hmacHolParentSync_brim, F.hmacHolParentSync_missed]⟩

/-- HMAC_HOL_PARENT_KEYS, R241 of 06. -/
def A.hmacHolParentKeys : Nat := win 0x15 + 0x5214
def F.hmacHolParentKeys_key_slot1 : Fld := ⟨27, 16, .rw, 0x0⟩
def F.hmacHolParentKeys_tx_key_id : Fld := ⟨12, 12, .rw, 0x0⟩
def F.hmacHolParentKeys_key_slot0 : Fld := ⟨11, 0, .rw, 0x0⟩
def D.hmacHolParentKeys : RegDesc := ⟨0x15, 1, 0x5214, [], .cores, [F.hmacHolParentKeys_key_slot1, F.hmacHolParentKeys_tx_key_id, F.hmacHolParentKeys_key_slot0]⟩

/-- HMAC_HOL_PARENT_SUPV, R241 of 06. -/
def A.hmacHolParentSupv : Nat := win 0x15 + 0x5218
def F.hmacHolParentSupv_supervision : Fld := ⟨31, 16, .ro, 0x0⟩
def F.hmacHolParentSupv_join_supervision : Fld := ⟨15, 0, .rw, 0xFA0⟩
def D.hmacHolParentSupv : RegDesc := ⟨0x15, 1, 0x5218, [], .cores, [F.hmacHolParentSupv_supervision, F.hmacHolParentSupv_join_supervision]⟩

/-- HMAC_HOL_PARTNER_W0_p, R242 of 06. -/
def A.hmacHolPartnerW0 (p : Nat) : Nat := win 0x15 + 0x60000 + 0x20 * p
def F.hmacHolPartnerW0_state : Fld := ⟨31, 29, .ro, 0x0⟩
def F.hmacHolPartnerW0_bands : Fld := ⟨28, 26, .rw, 0x0⟩
def F.hmacHolPartnerW0_frag_en : Fld := ⟨25, 25, .rw, 0x0⟩
def F.hmacHolPartnerW0_tx_key_id : Fld := ⟨24, 24, .rw, 0x0⟩
def F.hmacHolPartnerW0_peer_device : Fld := ⟨23, 12, .rw, 0x0⟩
def F.hmacHolPartnerW0_interval : Fld := ⟨8, 0, .rw, 0x1⟩
def D.hmacHolPartnerW0 : RegDesc := ⟨0x15, 1, 0x60000, [(0x20, 1024)], .cores, [F.hmacHolPartnerW0_state, F.hmacHolPartnerW0_bands, F.hmacHolPartnerW0_frag_en, F.hmacHolPartnerW0_tx_key_id, F.hmacHolPartnerW0_peer_device, F.hmacHolPartnerW0_interval]⟩

/-- HMAC_HOL_PARTNER_W1_p, R242 of 06. -/
def A.hmacHolPartnerW1 (p : Nat) : Nat := win 0x15 + 0x60004 + 0x20 * p
def F.hmacHolPartnerW1_offset : Fld := ⟨31, 18, .rw, 0x0⟩
def F.hmacHolPartnerW1_window : Fld := ⟨17, 4, .rw, 0x0⟩
def F.hmacHolPartnerW1_retry_limit : Fld := ⟨3, 0, .rw, 0x7⟩
def D.hmacHolPartnerW1 : RegDesc := ⟨0x15, 1, 0x60004, [(0x20, 1024)], .cores, [F.hmacHolPartnerW1_offset, F.hmacHolPartnerW1_window, F.hmacHolPartnerW1_retry_limit]⟩

/-- HMAC_HOL_PARTNER_W2_p, R242 of 06. -/
def A.hmacHolPartnerW2 (p : Nat) : Nat := win 0x15 + 0x60008 + 0x20 * p
def F.hmacHolPartnerW2_phase : Fld := ⟨31, 24, .rw, 0x0⟩
def F.hmacHolPartnerW2_peer_ppm : Fld := ⟨23, 16, .rw, 0x14⟩
def F.hmacHolPartnerW2_dim_level : Fld := ⟨15, 14, .ro, 0x0⟩
def F.hmacHolPartnerW2_missed : Fld := ⟨13, 12, .ro, 0x0⟩
def F.hmacHolPartnerW2_absent_bands : Fld := ⟨11, 9, .ro, 0x0⟩
def F.hmacHolPartnerW2_gi : Fld := ⟨8, 7, .rw, 0x0⟩
def D.hmacHolPartnerW2 : RegDesc := ⟨0x15, 1, 0x60008, [(0x20, 1024)], .cores, [F.hmacHolPartnerW2_phase, F.hmacHolPartnerW2_peer_ppm, F.hmacHolPartnerW2_dim_level, F.hmacHolPartnerW2_missed, F.hmacHolPartnerW2_absent_bands, F.hmacHolPartnerW2_gi]⟩

/-- HMAC_HOL_PARTNER_W3_p, R242 of 06. -/
def A.hmacHolPartnerW3 (p : Nat) : Nat := win 0x15 + 0x6000C + 0x20 * p
def F.hmacHolPartnerW3_event : Fld := ⟨31, 0, .ro, 0x0⟩
def D.hmacHolPartnerW3 : RegDesc := ⟨0x15, 1, 0x6000C, [(0x20, 1024)], .cores, [F.hmacHolPartnerW3_event]⟩

/-- HMAC_HOL_PARTNER_W4_p, R242 of 06. -/
def A.hmacHolPartnerW4 (p : Nat) : Nat := win 0x15 + 0x60010 + 0x20 * p
def F.hmacHolPartnerW4_supervision : Fld := ⟨31, 16, .rw, 0xFA0⟩
def F.hmacHolPartnerW4_key_slot0 : Fld := ⟨11, 0, .rw, 0x0⟩
def D.hmacHolPartnerW4 : RegDesc := ⟨0x15, 1, 0x60010, [(0x20, 1024)], .cores, [F.hmacHolPartnerW4_supervision, F.hmacHolPartnerW4_key_slot0]⟩

/-- HMAC_HOL_PARTNER_W5_p, R242 of 06. -/
def A.hmacHolPartnerW5 (p : Nat) : Nat := win 0x15 + 0x60014 + 0x20 * p
def F.hmacHolPartnerW5_key_slot1 : Fld := ⟨11, 0, .rw, 0x0⟩
def D.hmacHolPartnerW5 : RegDesc := ⟨0x15, 1, 0x60014, [(0x20, 1024)], .cores, [F.hmacHolPartnerW5_key_slot1]⟩

/-- HMAC_HOL_PARTNER_W6_p, R242 of 06. -/
def A.hmacHolPartnerW6 (p : Nat) : Nat := win 0x15 + 0x60018 + 0x20 * p
def F.hmacHolPartnerW6_next_round_lo : Fld := ⟨31, 0, .ro, 0x0⟩
def D.hmacHolPartnerW6 : RegDesc := ⟨0x15, 1, 0x60018, [(0x20, 1024)], .cores, [F.hmacHolPartnerW6_next_round_lo]⟩

/-- HMAC_HOL_PARTNER_W7_p, R242 of 06. -/
def A.hmacHolPartnerW7 (p : Nat) : Nat := win 0x15 + 0x6001C + 0x20 * p
def F.hmacHolPartnerW7_next_round_hi : Fld := ⟨15, 0, .ro, 0x0⟩
def D.hmacHolPartnerW7 : RegDesc := ⟨0x15, 1, 0x6001C, [(0x20, 1024)], .cores, [F.hmacHolPartnerW7_next_round_hi]⟩

/-- HMAC_HOL_LANTERN_TX, R243 of 06. -/
def A.hmacHolLanternTx : Nat := win 0x15 + 0x5F00
def F.hmacHolLanternTx_count : Fld := ⟨31, 0, .ro, 0x0⟩
def D.hmacHolLanternTx : RegDesc := ⟨0x15, 1, 0x5F00, [], .cores, [F.hmacHolLanternTx_count]⟩

/-- HMAC_HOL_LANTERN_MISS, R243 of 06. -/
def A.hmacHolLanternMiss : Nat := win 0x15 + 0x5F04
def F.hmacHolLanternMiss_count : Fld := ⟨31, 0, .ro, 0x0⟩
def D.hmacHolLanternMiss : RegDesc := ⟨0x15, 1, 0x5F04, [], .cores, [F.hmacHolLanternMiss_count]⟩

/-- HMAC_HOL_LANTERN_LOST, R243 of 06. -/
def A.hmacHolLanternLost : Nat := win 0x15 + 0x5F08
def F.hmacHolLanternLost_count : Fld := ⟨31, 0, .ro, 0x0⟩
def D.hmacHolLanternLost : RegDesc := ⟨0x15, 1, 0x5F08, [], .cores, [F.hmacHolLanternLost_count]⟩

/-- HMAC_HOL_LINK_LOST, R243 of 06. -/
def A.hmacHolLinkLost : Nat := win 0x15 + 0x5F0C
def F.hmacHolLinkLost_count : Fld := ⟨31, 0, .ro, 0x0⟩
def D.hmacHolLinkLost : RegDesc := ⟨0x15, 1, 0x5F0C, [], .cores, [F.hmacHolLinkLost_count]⟩

/-- HMAC_HOL_POLL_MISS, R243 of 06. -/
def A.hmacHolPollMiss : Nat := win 0x15 + 0x5F10
def F.hmacHolPollMiss_count : Fld := ⟨31, 0, .ro, 0x0⟩
def D.hmacHolPollMiss : RegDesc := ⟨0x15, 1, 0x5F10, [], .cores, [F.hmacHolPollMiss_count]⟩

/-- HMAC_HOL_PARTNER_DIM, R243 of 06. -/
def A.hmacHolPartnerDim : Nat := win 0x15 + 0x5F14
def F.hmacHolPartnerDim_count : Fld := ⟨31, 0, .ro, 0x0⟩
def D.hmacHolPartnerDim : RegDesc := ⟨0x15, 1, 0x5F14, [], .cores, [F.hmacHolPartnerDim_count]⟩

/-- HMAC_HOL_PARTNER_DROP, R243 of 06. -/
def A.hmacHolPartnerDrop : Nat := win 0x15 + 0x5F18
def F.hmacHolPartnerDrop_count : Fld := ⟨31, 0, .ro, 0x0⟩
def D.hmacHolPartnerDrop : RegDesc := ⟨0x15, 1, 0x5F18, [], .cores, [F.hmacHolPartnerDrop_count]⟩

/-- HMAC_HOL_RX_FCS_ERR, R243 of 06. -/
def A.hmacHolRxFcsErr : Nat := win 0x15 + 0x5F1C
def F.hmacHolRxFcsErr_count : Fld := ⟨31, 0, .ro, 0x0⟩
def D.hmacHolRxFcsErr : RegDesc := ⟨0x15, 1, 0x5F1C, [], .cores, [F.hmacHolRxFcsErr_count]⟩

/-- HMAC_HOL_RX_HDR_ERR, R243 of 06. -/
def A.hmacHolRxHdrErr : Nat := win 0x15 + 0x5F20
def F.hmacHolRxHdrErr_count : Fld := ⟨31, 0, .ro, 0x0⟩
def D.hmacHolRxHdrErr : RegDesc := ⟨0x15, 1, 0x5F20, [], .cores, [F.hmacHolRxHdrErr_count]⟩

/-- HMAC_HOL_RX_FOREIGN, R243 of 06. -/
def A.hmacHolRxForeign : Nat := win 0x15 + 0x5F24
def F.hmacHolRxForeign_count : Fld := ⟨31, 0, .ro, 0x0⟩
def D.hmacHolRxForeign : RegDesc := ⟨0x15, 1, 0x5F24, [], .cores, [F.hmacHolRxForeign_count]⟩

/-- HMAC_HOL_RX_AUTH_FAIL, R243 of 06. -/
def A.hmacHolRxAuthFail : Nat := win 0x15 + 0x5F28
def F.hmacHolRxAuthFail_count : Fld := ⟨31, 0, .ro, 0x0⟩
def D.hmacHolRxAuthFail : RegDesc := ⟨0x15, 1, 0x5F28, [], .cores, [F.hmacHolRxAuthFail_count]⟩

/-- HMAC_HOL_RX_REPLAY, R243 of 06. -/
def A.hmacHolRxReplay : Nat := win 0x15 + 0x5F2C
def F.hmacHolRxReplay_count : Fld := ⟨31, 0, .ro, 0x0⟩
def D.hmacHolRxReplay : RegDesc := ⟨0x15, 1, 0x5F2C, [], .cores, [F.hmacHolRxReplay_count]⟩

/-- HMAC_HOL_WINDOW_SHORT, R243 of 06. -/
def A.hmacHolWindowShort : Nat := win 0x15 + 0x5F30
def F.hmacHolWindowShort_count : Fld := ⟨31, 0, .ro, 0x0⟩
def D.hmacHolWindowShort : RegDesc := ⟨0x15, 1, 0x5F30, [], .cores, [F.hmacHolWindowShort_count]⟩

/-- HMAC_HOL_FRAG_TX, R243 of 06. -/
def A.hmacHolFragTx : Nat := win 0x15 + 0x5F34
def F.hmacHolFragTx_count : Fld := ⟨31, 0, .ro, 0x0⟩
def D.hmacHolFragTx : RegDesc := ⟨0x15, 1, 0x5F34, [], .cores, [F.hmacHolFragTx_count]⟩

/-- HMAC_HOL_RETRY_DROP, R243 of 06. -/
def A.hmacHolRetryDrop : Nat := win 0x15 + 0x5F38
def F.hmacHolRetryDrop_count : Fld := ⟨31, 0, .ro, 0x0⟩
def D.hmacHolRetryDrop : RegDesc := ⟨0x15, 1, 0x5F38, [], .cores, [F.hmacHolRetryDrop_count]⟩

/-- HMAC_HOL_PN_EXHAUSTED, R243 of 06. -/
def A.hmacHolPnExhausted : Nat := win 0x15 + 0x5F3C
def F.hmacHolPnExhausted_count : Fld := ⟨31, 0, .ro, 0x0⟩
def D.hmacHolPnExhausted : RegDesc := ⟨0x15, 1, 0x5F3C, [], .cores, [F.hmacHolPnExhausted_count]⟩

/-- HMAC_HOL_KEY_REVOKED, R243 of 06. -/
def A.hmacHolKeyRevoked : Nat := win 0x15 + 0x5F40
def F.hmacHolKeyRevoked_count : Fld := ⟨31, 0, .ro, 0x0⟩
def D.hmacHolKeyRevoked : RegDesc := ⟨0x15, 1, 0x5F40, [], .cores, [F.hmacHolKeyRevoked_count]⟩

/-- HMAC_HOL_ADMIT_DENIED, R243 of 06. -/
def A.hmacHolAdmitDenied : Nat := win 0x15 + 0x5F44
def F.hmacHolAdmitDenied_count : Fld := ⟨31, 0, .ro, 0x0⟩
def D.hmacHolAdmitDenied : RegDesc := ⟨0x15, 1, 0x5F44, [], .cores, [F.hmacHolAdmitDenied_count]⟩

/-- HMAC_HOL_EVENT_SKIPPED, R243 of 06. -/
def A.hmacHolEventSkipped : Nat := win 0x15 + 0x5F48
def F.hmacHolEventSkipped_count : Fld := ⟨31, 0, .ro, 0x0⟩
def D.hmacHolEventSkipped : RegDesc := ⟨0x15, 1, 0x5F48, [], .cores, [F.hmacHolEventSkipped_count]⟩

/-- HMAC_HOL_MAP_OFFER, R243 of 06. -/
def A.hmacHolMapOffer : Nat := win 0x15 + 0x5F4C
def F.hmacHolMapOffer_count : Fld := ⟨31, 0, .ro, 0x0⟩
def D.hmacHolMapOffer : RegDesc := ⟨0x15, 1, 0x5F4C, [], .cores, [F.hmacHolMapOffer_count]⟩

/-- HMAC_HOL_MAP_ADOPT, R243 of 06. -/
def A.hmacHolMapAdopt : Nat := win 0x15 + 0x5F50
def F.hmacHolMapAdopt_count : Fld := ⟨31, 0, .ro, 0x0⟩
def D.hmacHolMapAdopt : RegDesc := ⟨0x15, 1, 0x5F50, [], .cores, [F.hmacHolMapAdopt_count]⟩

/-- HMAC_HOL_JOIN_REQ, R243 of 06. -/
def A.hmacHolJoinReq : Nat := win 0x15 + 0x5F54
def F.hmacHolJoinReq_count : Fld := ⟨31, 0, .ro, 0x0⟩
def D.hmacHolJoinReq : RegDesc := ⟨0x15, 1, 0x5F54, [], .cores, [F.hmacHolJoinReq_count]⟩

/-- HMAC_WLAN_STATION_W0_n, R254 of 07. -/
def A.hmacWlanStationW0 (n : Nat) : Nat := win 0x15 + 0x80000 + 0x20 * n
def F.hmacWlanStationW0_mac_lo : Fld := ⟨31, 0, .rw, 0x0⟩
def D.hmacWlanStationW0 : RegDesc := ⟨0x15, 1, 0x80000, [(0x20, 1536)], .cores, [F.hmacWlanStationW0_mac_lo]⟩

/-- HMAC_WLAN_STATION_W1_n, R254 of 07. -/
def A.hmacWlanStationW1 (n : Nat) : Nat := win 0x15 + 0x80004 + 0x20 * n
def F.hmacWlanStationW1_state : Fld := ⟨31, 29, .rw, 0x0⟩
def F.hmacWlanStationW1_aid : Fld := ⟨27, 16, .rw, 0x0⟩
def F.hmacWlanStationW1_mac_hi : Fld := ⟨15, 0, .rw, 0x0⟩
def D.hmacWlanStationW1 : RegDesc := ⟨0x15, 1, 0x80004, [(0x20, 1536)], .cores, [F.hmacWlanStationW1_state, F.hmacWlanStationW1_aid, F.hmacWlanStationW1_mac_hi]⟩

/-- HMAC_WLAN_STATION_W2_n, R254 of 07. -/
def A.hmacWlanStationW2 (n : Nat) : Nat := win 0x15 + 0x80008 + 0x20 * n
def F.hmacWlanStationW2_mld_index : Fld := ⟨31, 23, .rw, 0x0⟩
def F.hmacWlanStationW2_mld : Fld := ⟨22, 22, .rw, 0x0⟩
def F.hmacWlanStationW2_emlsr : Fld := ⟨21, 21, .rw, 0x0⟩
def F.hmacWlanStationW2_frag_en : Fld := ⟨20, 20, .rw, 0x0⟩
def F.hmacWlanStationW2_ps : Fld := ⟨19, 19, .ro, 0x0⟩
def F.hmacWlanStationW2_max_width : Fld := ⟨18, 16, .rw, 0x0⟩
def F.hmacWlanStationW2_max_nss_m1 : Fld := ⟨15, 13, .rw, 0x0⟩
def F.hmacWlanStationW2_max_format : Fld := ⟨12, 10, .rw, 0x0⟩
def F.hmacWlanStationW2_bssid : Fld := ⟨3, 0, .rw, 0x0⟩
def D.hmacWlanStationW2 : RegDesc := ⟨0x15, 1, 0x80008, [(0x20, 1536)], .cores, [F.hmacWlanStationW2_mld_index, F.hmacWlanStationW2_mld, F.hmacWlanStationW2_emlsr, F.hmacWlanStationW2_frag_en, F.hmacWlanStationW2_ps, F.hmacWlanStationW2_max_width, F.hmacWlanStationW2_max_nss_m1, F.hmacWlanStationW2_max_format, F.hmacWlanStationW2_bssid]⟩

/-- HMAC_WLAN_STATION_W3_n, R254 of 07. -/
def A.hmacWlanStationW3 (n : Nat) : Nat := win 0x15 + 0x8000C + 0x20 * n
def F.hmacWlanStationW3_protect_en : Fld := ⟨31, 31, .rw, 0x0⟩
def F.hmacWlanStationW3_cipher : Fld := ⟨30, 30, .rw, 0x0⟩
def F.hmacWlanStationW3_tx_key_id : Fld := ⟨28, 28, .rw, 0x0⟩
def F.hmacWlanStationW3_key_slot1 : Fld := ⟨27, 16, .rw, 0x0⟩
def F.hmacWlanStationW3_key_slot0 : Fld := ⟨11, 0, .rw, 0x0⟩
def D.hmacWlanStationW3 : RegDesc := ⟨0x15, 1, 0x8000C, [(0x20, 1536)], .cores, [F.hmacWlanStationW3_protect_en, F.hmacWlanStationW3_cipher, F.hmacWlanStationW3_tx_key_id, F.hmacWlanStationW3_key_slot1, F.hmacWlanStationW3_key_slot0]⟩

/-- HMAC_WLAN_STATION_W4_n, R254 of 07. -/
def A.hmacWlanStationW4 (n : Nat) : Nat := win 0x15 + 0x80010 + 0x20 * n
def F.hmacWlanStationW4_twt : Fld := ⟨31, 24, .rw, 0xFF⟩
def F.hmacWlanStationW4_queue_base : Fld := ⟨11, 0, .rw, 0x0⟩
def D.hmacWlanStationW4 : RegDesc := ⟨0x15, 1, 0x80010, [(0x20, 1536)], .cores, [F.hmacWlanStationW4_twt, F.hmacWlanStationW4_queue_base]⟩

/-- HMAC_WLAN_STATION_W5_n, R254 of 07. -/
def A.hmacWlanStationW5 (n : Nat) : Nat := win 0x15 + 0x80014 + 0x20 * n
def F.hmacWlanStationW5_last_rx : Fld := ⟨31, 0, .ro, 0x0⟩
def D.hmacWlanStationW5 : RegDesc := ⟨0x15, 1, 0x80014, [(0x20, 1536)], .cores, [F.hmacWlanStationW5_last_rx]⟩

/-- HMAC_WLAN_STATION_W6_n, R254 of 07. -/
def A.hmacWlanStationW6 (n : Nat) : Nat := win 0x15 + 0x80018 + 0x20 * n
def F.hmacWlanStationW6_tx_pn_lo : Fld := ⟨31, 0, .ro, 0x0⟩
def D.hmacWlanStationW6 : RegDesc := ⟨0x15, 1, 0x80018, [(0x20, 1536)], .cores, [F.hmacWlanStationW6_tx_pn_lo]⟩

/-- HMAC_WLAN_STATION_W7_n, R254 of 07. -/
def A.hmacWlanStationW7 (n : Nat) : Nat := win 0x15 + 0x8001C + 0x20 * n
def F.hmacWlanStationW7_tx_pn_hi : Fld := ⟨15, 0, .ro, 0x0⟩
def D.hmacWlanStationW7 : RegDesc := ⟨0x15, 1, 0x8001C, [(0x20, 1536)], .cores, [F.hmacWlanStationW7_tx_pn_hi]⟩

/-- HMAC_WLAN_CTL_r, R278 of 07. -/
def A.hmacWlanCtl (r : Nat) : Nat := win 0x15 + 0x6000 + 0x100 * r
def F.hmacWlanCtl_enable : Fld := ⟨31, 31, .rw, 0x0⟩
def F.hmacWlanCtl_cfg_err : Fld := ⟨30, 30, .w1c, 0x0⟩
def F.hmacWlanCtl_bss_color : Fld := ⟨29, 24, .rw, 0x0⟩
def F.hmacWlanCtl_mgmt_rate : Fld := ⟨15, 0, .rw, 0x200⟩
def D.hmacWlanCtl : RegDesc := ⟨0x15, 1, 0x6000, [(0x100, 3)], .cores, [F.hmacWlanCtl_enable, F.hmacWlanCtl_cfg_err, F.hmacWlanCtl_bss_color, F.hmacWlanCtl_mgmt_rate]⟩

/-- HMAC_WLAN_PROTECT_r, R278 of 07. -/
def A.hmacWlanProtect (r : Nat) : Nat := win 0x15 + 0x6004 + 0x100 * r
def F.hmacWlanProtect_protect_en : Fld := ⟨31, 31, .rw, 0x1⟩
def F.hmacWlanProtect_protect_lead : Fld := ⟨15, 0, .rw, 0xC8⟩
def D.hmacWlanProtect : RegDesc := ⟨0x15, 1, 0x6004, [(0x100, 3)], .cores, [F.hmacWlanProtect_protect_en, F.hmacWlanProtect_protect_lead]⟩

/-- HMAC_WLAN_STEER_r, R278 of 07. -/
def A.hmacWlanSteer (r : Nat) : Nat := win 0x15 + 0x6008 + 0x100 * r
def F.hmacWlanSteer_go : Fld := ⟨31, 31, .w1s, 0x0⟩
def F.hmacWlanSteer_active : Fld := ⟨30, 30, .ro, 0x0⟩
def F.hmacWlanSteer_steer_limit : Fld := ⟨15, 0, .rw, 0x7D0⟩
def D.hmacWlanSteer : RegDesc := ⟨0x15, 1, 0x6008, [(0x100, 3)], .cudom, [F.hmacWlanSteer_go, F.hmacWlanSteer_active, F.hmacWlanSteer_steer_limit]⟩

/-- HMAC_WLAN_TRIG_r, R278 of 07. -/
def A.hmacWlanTrig (r : Nat) : Nat := win 0x15 + 0x600C + 0x100 * r
def F.hmacWlanTrig_trig_en : Fld := ⟨31, 31, .rw, 0x0⟩
def F.hmacWlanTrig_ra_rus : Fld := ⟨27, 24, .rw, 0x0⟩
def F.hmacWlanTrig_max_users : Fld := ⟨23, 16, .rw, 0x12⟩
def F.hmacWlanTrig_trig_period : Fld := ⟨15, 0, .rw, 0x3E8⟩
def D.hmacWlanTrig : RegDesc := ⟨0x15, 1, 0x600C, [(0x100, 3)], .cores, [F.hmacWlanTrig_trig_en, F.hmacWlanTrig_ra_rus, F.hmacWlanTrig_max_users, F.hmacWlanTrig_trig_period]⟩

/-- HMAC_WLAN_SOUND_r, R278 of 07. -/
def A.hmacWlanSound (r : Nat) : Nat := win 0x15 + 0x6010 + 0x100 * r
def F.hmacWlanSound_sound_interval : Fld := ⟨15, 0, .rw, 0xC8⟩
def D.hmacWlanSound : RegDesc := ⟨0x15, 1, 0x6010, [(0x100, 3)], .cores, [F.hmacWlanSound_sound_interval]⟩

/-- HMAC_WLAN_BSS_CFG_r_b, R278 of 07. -/
def A.hmacWlanBssCfg (r b : Nat) : Nat := win 0x15 + 0x6040 + 0x100 * r + 0x4 * b
def F.hmacWlanBssCfg_bss_en : Fld := ⟨31, 31, .rw, 0x0⟩
def F.hmacWlanBssCfg_hidden : Fld := ⟨30, 30, .rw, 0x0⟩
def F.hmacWlanBssCfg_mld_en : Fld := ⟨29, 29, .rw, 0x0⟩
def F.hmacWlanBssCfg_ap_mld : Fld := ⟨27, 24, .rw, 0x0⟩
def F.hmacWlanBssCfg_dtim_period : Fld := ⟨23, 16, .rw, 0x1⟩
def F.hmacWlanBssCfg_beacon_int : Fld := ⟨15, 0, .rw, 0x64⟩
def D.hmacWlanBssCfg : RegDesc := ⟨0x15, 1, 0x6040, [(0x100, 3), (0x4, 16)], .cores, [F.hmacWlanBssCfg_bss_en, F.hmacWlanBssCfg_hidden, F.hmacWlanBssCfg_mld_en, F.hmacWlanBssCfg_ap_mld, F.hmacWlanBssCfg_dtim_period, F.hmacWlanBssCfg_beacon_int]⟩

/-- HMAC_WLAN_BSS_GKEY_r_b, R278 of 07. -/
def A.hmacWlanBssGkey (r b : Nat) : Nat := win 0x15 + 0x6080 + 0x100 * r + 0x4 * b
def F.hmacWlanBssGkey_gtk_key_id : Fld := ⟨13, 12, .rw, 0x1⟩
def F.hmacWlanBssGkey_gtk_slot : Fld := ⟨11, 0, .rw, 0x0⟩
def D.hmacWlanBssGkey : RegDesc := ⟨0x15, 1, 0x6080, [(0x100, 3), (0x4, 16)], .cores, [F.hmacWlanBssGkey_gtk_key_id, F.hmacWlanBssGkey_gtk_slot]⟩

/-- HMAC_WLAN_BSS_MKEY_r_b, R278 of 07. -/
def A.hmacWlanBssMkey (r b : Nat) : Nat := win 0x15 + 0x60C0 + 0x100 * r + 0x4 * b
def F.hmacWlanBssMkey_bigtk_slot : Fld := ⟨27, 16, .rw, 0x0⟩
def F.hmacWlanBssMkey_igtk_slot : Fld := ⟨11, 0, .rw, 0x0⟩
def D.hmacWlanBssMkey : RegDesc := ⟨0x15, 1, 0x60C0, [(0x100, 3), (0x4, 16)], .cores, [F.hmacWlanBssMkey_bigtk_slot, F.hmacWlanBssMkey_igtk_slot]⟩

/-- HMAC_WLAN_BASE_LO_r, R278 of 07. -/
def A.hmacWlanBaseLo (r : Nat) : Nat := win 0x15 + 0x6300 + 0x8 * r
def F.hmacWlanBaseLo_base_lo : Fld := ⟨31, 0, .rw, 0x0⟩
def D.hmacWlanBaseLo : RegDesc := ⟨0x15, 1, 0x6300, [(0x8, 3)], .cores, [F.hmacWlanBaseLo_base_lo]⟩

/-- HMAC_WLAN_BASE_HI_r, R278 of 07. -/
def A.hmacWlanBaseHi (r : Nat) : Nat := win 0x15 + 0x6304 + 0x8 * r
def F.hmacWlanBaseHi_base_hi : Fld := ⟨15, 0, .rw, 0x0⟩
def D.hmacWlanBaseHi : RegDesc := ⟨0x15, 1, 0x6304, [(0x8, 3)], .cores, [F.hmacWlanBaseHi_base_hi]⟩

/-- HMAC_WLAN_TX_MPDU_r, R279 of 07. -/
def A.hmacWlanTxMpdu (r : Nat) : Nat := win 0x15 + 0x6F00 + 0x40 * r
def F.hmacWlanTxMpdu_count : Fld := ⟨31, 0, .ro, 0x0⟩
def D.hmacWlanTxMpdu : RegDesc := ⟨0x15, 1, 0x6F00, [(0x40, 3)], .cores, [F.hmacWlanTxMpdu_count]⟩

/-- HMAC_WLAN_TX_RETRY_r, R279 of 07. -/
def A.hmacWlanTxRetry (r : Nat) : Nat := win 0x15 + 0x6F04 + 0x40 * r
def F.hmacWlanTxRetry_count : Fld := ⟨31, 0, .ro, 0x0⟩
def D.hmacWlanTxRetry : RegDesc := ⟨0x15, 1, 0x6F04, [(0x40, 3)], .cores, [F.hmacWlanTxRetry_count]⟩

/-- HMAC_WLAN_TX_RETRY_DROP_r, R279 of 07. -/
def A.hmacWlanTxRetryDrop (r : Nat) : Nat := win 0x15 + 0x6F08 + 0x40 * r
def F.hmacWlanTxRetryDrop_count : Fld := ⟨31, 0, .ro, 0x0⟩
def D.hmacWlanTxRetryDrop : RegDesc := ⟨0x15, 1, 0x6F08, [(0x40, 3)], .cores, [F.hmacWlanTxRetryDrop_count]⟩

/-- HMAC_WLAN_TX_WINDOW_SHORT_r, R279 of 07. -/
def A.hmacWlanTxWindowShort (r : Nat) : Nat := win 0x15 + 0x6F0C + 0x40 * r
def F.hmacWlanTxWindowShort_count : Fld := ⟨31, 0, .ro, 0x0⟩
def D.hmacWlanTxWindowShort : RegDesc := ⟨0x15, 1, 0x6F0C, [(0x40, 3)], .cores, [F.hmacWlanTxWindowShort_count]⟩

/-- HMAC_WLAN_TX_PN_EXHAUSTED_r, R279 of 07. -/
def A.hmacWlanTxPnExhausted (r : Nat) : Nat := win 0x15 + 0x6F10 + 0x40 * r
def F.hmacWlanTxPnExhausted_count : Fld := ⟨31, 0, .ro, 0x0⟩
def D.hmacWlanTxPnExhausted : RegDesc := ⟨0x15, 1, 0x6F10, [(0x40, 3)], .cores, [F.hmacWlanTxPnExhausted_count]⟩

/-- HMAC_WLAN_TX_KEY_REVOKED_r, R279 of 07. -/
def A.hmacWlanTxKeyRevoked (r : Nat) : Nat := win 0x15 + 0x6F14 + 0x40 * r
def F.hmacWlanTxKeyRevoked_count : Fld := ⟨31, 0, .ro, 0x0⟩
def D.hmacWlanTxKeyRevoked : RegDesc := ⟨0x15, 1, 0x6F14, [(0x40, 3)], .cores, [F.hmacWlanTxKeyRevoked_count]⟩

/-- HMAC_WLAN_RX_MPDU_r, R279 of 07. -/
def A.hmacWlanRxMpdu (r : Nat) : Nat := win 0x15 + 0x6F18 + 0x40 * r
def F.hmacWlanRxMpdu_count : Fld := ⟨31, 0, .ro, 0x0⟩
def D.hmacWlanRxMpdu : RegDesc := ⟨0x15, 1, 0x6F18, [(0x40, 3)], .cores, [F.hmacWlanRxMpdu_count]⟩

/-- HMAC_WLAN_RX_DECRYPT_FAIL_r, R279 of 07. -/
def A.hmacWlanRxDecryptFail (r : Nat) : Nat := win 0x15 + 0x6F1C + 0x40 * r
def F.hmacWlanRxDecryptFail_count : Fld := ⟨31, 0, .ro, 0x0⟩
def D.hmacWlanRxDecryptFail : RegDesc := ⟨0x15, 1, 0x6F1C, [(0x40, 3)], .cores, [F.hmacWlanRxDecryptFail_count]⟩

/-- HMAC_WLAN_RX_REPLAY_r, R279 of 07. -/
def A.hmacWlanRxReplay (r : Nat) : Nat := win 0x15 + 0x6F20 + 0x40 * r
def F.hmacWlanRxReplay_count : Fld := ⟨31, 0, .ro, 0x0⟩
def D.hmacWlanRxReplay : RegDesc := ⟨0x15, 1, 0x6F20, [(0x40, 3)], .cores, [F.hmacWlanRxReplay_count]⟩

/-- HMAC_WLAN_RX_UNPROT_r, R279 of 07. -/
def A.hmacWlanRxUnprot (r : Nat) : Nat := win 0x15 + 0x6F24 + 0x40 * r
def F.hmacWlanRxUnprot_count : Fld := ⟨31, 0, .ro, 0x0⟩
def D.hmacWlanRxUnprot : RegDesc := ⟨0x15, 1, 0x6F24, [(0x40, 3)], .cores, [F.hmacWlanRxUnprot_count]⟩

/-- HMAC_WLAN_RX_UNKNOWN_TA_r, R279 of 07. -/
def A.hmacWlanRxUnknownTa (r : Nat) : Nat := win 0x15 + 0x6F28 + 0x40 * r
def F.hmacWlanRxUnknownTa_count : Fld := ⟨31, 0, .ro, 0x0⟩
def D.hmacWlanRxUnknownTa : RegDesc := ⟨0x15, 1, 0x6F28, [(0x40, 3)], .cores, [F.hmacWlanRxUnknownTa_count]⟩

/-- HMAC_WLAN_MGMT_RATE_DROP_r, R279 of 07. -/
def A.hmacWlanMgmtRateDrop (r : Nat) : Nat := win 0x15 + 0x6F2C + 0x40 * r
def F.hmacWlanMgmtRateDrop_count : Fld := ⟨31, 0, .ro, 0x0⟩
def D.hmacWlanMgmtRateDrop : RegDesc := ⟨0x15, 1, 0x6F2C, [(0x40, 3)], .cores, [F.hmacWlanMgmtRateDrop_count]⟩

/-- HMAC_WLAN_PROTECT_CTS_r, R279 of 07. -/
def A.hmacWlanProtectCts (r : Nat) : Nat := win 0x15 + 0x6F30 + 0x40 * r
def F.hmacWlanProtectCts_count : Fld := ⟨31, 0, .ro, 0x0⟩
def D.hmacWlanProtectCts : RegDesc := ⟨0x15, 1, 0x6F30, [(0x40, 3)], .cores, [F.hmacWlanProtectCts_count]⟩

/-- HMAC_WLAN_PROTECT_LATE_r, R279 of 07. -/
def A.hmacWlanProtectLate (r : Nat) : Nat := win 0x15 + 0x6F34 + 0x40 * r
def F.hmacWlanProtectLate_count : Fld := ⟨31, 0, .ro, 0x0⟩
def D.hmacWlanProtectLate : RegDesc := ⟨0x15, 1, 0x6F34, [(0x40, 3)], .cores, [F.hmacWlanProtectLate_count]⟩

/-- HMAC_WLAN_TB_NO_RESPONSE_r, R279 of 07. -/
def A.hmacWlanTbNoResponse (r : Nat) : Nat := win 0x15 + 0x6F38 + 0x40 * r
def F.hmacWlanTbNoResponse_count : Fld := ⟨31, 0, .ro, 0x0⟩
def D.hmacWlanTbNoResponse : RegDesc := ⟨0x15, 1, 0x6F38, [(0x40, 3)], .cores, [F.hmacWlanTbNoResponse_count]⟩

/-- HMAC_WLAN_STEER_DISASSOC_r, R279 of 07. -/
def A.hmacWlanSteerDisassoc (r : Nat) : Nat := win 0x15 + 0x6F3C + 0x40 * r
def F.hmacWlanSteerDisassoc_count : Fld := ⟨31, 0, .ro, 0x0⟩
def D.hmacWlanSteerDisassoc : RegDesc := ⟨0x15, 1, 0x6F3C, [(0x40, 3)], .cudom, [F.hmacWlanSteerDisassoc_count]⟩

/-- CIP_STATUS, R302 of 08. -/
def A.cipStatus : Nat := win 0xA + 0x0
def F.cipStatus_contexts : Fld := ⟨22, 16, .ro, 0x0⟩
def F.cipStatus_expedited : Fld := ⟨3, 0, .ro, 0x0⟩
def D.cipStatus : RegDesc := ⟨0xA, 1, 0x0, [], .cores, [F.cipStatus_contexts, F.cipStatus_expedited]⟩

/-- CIP_PN_WARN, R302 of 08. -/
def A.cipPnWarn : Nat := win 0xA + 0x8
def F.cipPnWarn_valid : Fld := ⟨31, 31, .w1c, 0x0⟩
def F.cipPnWarn_irq_en : Fld := ⟨30, 30, .rw, 0x0⟩
def F.cipPnWarn_width : Fld := ⟨29, 28, .ro, 0x0⟩
def F.cipPnWarn_slot : Fld := ⟨11, 0, .ro, 0x0⟩
def D.cipPnWarn : RegDesc := ⟨0xA, 1, 0x8, [], .cores, [F.cipPnWarn_valid, F.cipPnWarn_irq_en, F.cipPnWarn_width, F.cipPnWarn_slot]⟩

/-- CIP_MSEC_TX_AN, R302 of 08. -/
def A.cipMsecTxAn : Nat := win 0xA + 0xC
def F.cipMsecTxAn_tx_an : Fld := ⟨31, 0, .rw, 0x0⟩
def D.cipMsecTxAn : RegDesc := ⟨0xA, 1, 0xC, [], .cores, [F.cipMsecTxAn_tx_an]⟩

/-- CIP_JOB_BASE_LO_r, R302 of 08. -/
def A.cipJobBaseLo (r : Nat) : Nat := win 0xA + 0x100 + 0x20 * r
def F.cipJobBaseLo_base_lo : Fld := ⟨31, 0, .rw, 0x0⟩
def D.cipJobBaseLo : RegDesc := ⟨0xA, 1, 0x100, [(0x20, 2)], .cores, [F.cipJobBaseLo_base_lo]⟩

/-- CIP_JOB_BASE_HI_r, R302 of 08. -/
def A.cipJobBaseHi (r : Nat) : Nat := win 0xA + 0x104 + 0x20 * r
def F.cipJobBaseHi_base_hi : Fld := ⟨7, 0, .rw, 0x0⟩
def D.cipJobBaseHi : RegDesc := ⟨0xA, 1, 0x104, [(0x20, 2)], .cores, [F.cipJobBaseHi_base_hi]⟩

/-- CIP_JOB_CTL_r, R302 of 08. -/
def A.cipJobCtl (r : Nat) : Nat := win 0xA + 0x108 + 0x20 * r
def F.cipJobCtl_enable : Fld := ⟨31, 31, .rw, 0x0⟩
def F.cipJobCtl_ring_err : Fld := ⟨30, 30, .w1c, 0x0⟩
def F.cipJobCtl_irq_en : Fld := ⟨29, 29, .rw, 0x0⟩
def F.cipJobCtl_size : Fld := ⟨12, 0, .rw, 0x0⟩
def D.cipJobCtl : RegDesc := ⟨0xA, 1, 0x108, [(0x20, 2)], .cores, [F.cipJobCtl_enable, F.cipJobCtl_ring_err, F.cipJobCtl_irq_en, F.cipJobCtl_size]⟩

/-- CIP_JOB_PTR_r, R302 of 08. -/
def A.cipJobPtr (r : Nat) : Nat := win 0xA + 0x10C + 0x20 * r
def F.cipJobPtr_done : Fld := ⟨27, 16, .ro, 0x0⟩
def F.cipJobPtr_prod : Fld := ⟨11, 0, .rw, 0x0⟩
def D.cipJobPtr : RegDesc := ⟨0xA, 1, 0x10C, [(0x20, 2)], .cores, [F.cipJobPtr_done, F.cipJobPtr_prod]⟩

/-- CIP_SLOT_W0_s, R302 of 08. -/
def A.cipSlotW0 (s : Nat) : Nat := win 0xA + 0x100000 + 0x10 * s
def F.cipSlotW0_class : Fld := ⟨31, 24, .ro, 0xFF⟩
def F.cipSlotW0_length : Fld := ⟨23, 23, .ro, 0x0⟩
def F.cipSlotW0_use : Fld := ⟨22, 20, .ro, 0x0⟩
def F.cipSlotW0_flags : Fld := ⟨2, 0, .ro, 0x0⟩
def D.cipSlotW0 : RegDesc := ⟨0xA, 1, 0x100000, [(0x10, 4096)], .cores, [F.cipSlotW0_class, F.cipSlotW0_length, F.cipSlotW0_use, F.cipSlotW0_flags]⟩

/-- CIP_SLOT_W1_s, R302 of 08. -/
def A.cipSlotW1 (s : Nat) : Nat := win 0xA + 0x100004 + 0x10 * s
def F.cipSlotW1_generation : Fld := ⟨31, 0, .ro, 0x0⟩
def D.cipSlotW1 : RegDesc := ⟨0xA, 1, 0x100004, [(0x10, 4096)], .cores, [F.cipSlotW1_generation]⟩

/-- CIP_SLOT_W2_s, R302 of 08. -/
def A.cipSlotW2 (s : Nat) : Nat := win 0xA + 0x100008 + 0x10 * s
def F.cipSlotW2_pn_lo : Fld := ⟨31, 0, .ro, 0x1⟩
def D.cipSlotW2 : RegDesc := ⟨0xA, 1, 0x100008, [(0x10, 4096)], .cores, [F.cipSlotW2_pn_lo]⟩

/-- CIP_SLOT_W3_s, R302 of 08. -/
def A.cipSlotW3 (s : Nat) : Nat := win 0xA + 0x10000C + 0x10 * s
def F.cipSlotW3_pn_hi : Fld := ⟨31, 0, .ro, 0x0⟩
def D.cipSlotW3 : RegDesc := ⟨0xA, 1, 0x10000C, [(0x10, 4096)], .cores, [F.cipSlotW3_pn_hi]⟩

/-- CIP_MSEC_SA_W0_e, R302 of 08. -/
def A.cipMsecSaW0 (e : Nat) : Nat := win 0xA + 0x200000 + 0x40 * e
def F.cipMsecSaW0_valid : Fld := ⟨31, 31, .rw, 0x0⟩
def F.cipMsecSaW0_dir : Fld := ⟨30, 30, .rw, 0x0⟩
def F.cipMsecSaW0_xpn : Fld := ⟨29, 29, .rw, 0x0⟩
def F.cipMsecSaW0_encrypt : Fld := ⟨28, 28, .rw, 0x1⟩
def F.cipMsecSaW0_tx_sci : Fld := ⟨27, 27, .rw, 0x1⟩
def F.cipMsecSaW0_strict : Fld := ⟨26, 26, .rw, 0x1⟩
def F.cipMsecSaW0_an : Fld := ⟨25, 24, .rw, 0x0⟩
def F.cipMsecSaW0_port : Fld := ⟨23, 20, .rw, 0x0⟩
def F.cipMsecSaW0_slot : Fld := ⟨11, 0, .rw, 0x0⟩
def D.cipMsecSaW0 : RegDesc := ⟨0xA, 1, 0x200000, [(0x40, 128)], .cores, [F.cipMsecSaW0_valid, F.cipMsecSaW0_dir, F.cipMsecSaW0_xpn, F.cipMsecSaW0_encrypt, F.cipMsecSaW0_tx_sci, F.cipMsecSaW0_strict, F.cipMsecSaW0_an, F.cipMsecSaW0_port, F.cipMsecSaW0_slot]⟩

/-- CIP_MSEC_SA_W1_e, R302 of 08. -/
def A.cipMsecSaW1 (e : Nat) : Nat := win 0xA + 0x200004 + 0x40 * e
def F.cipMsecSaW1_ssci : Fld := ⟨31, 0, .rw, 0x0⟩
def D.cipMsecSaW1 : RegDesc := ⟨0xA, 1, 0x200004, [(0x40, 128)], .cores, [F.cipMsecSaW1_ssci]⟩

/-- CIP_MSEC_SA_W2_e, R302 of 08. -/
def A.cipMsecSaW2 (e : Nat) : Nat := win 0xA + 0x200008 + 0x40 * e
def F.cipMsecSaW2_salt0 : Fld := ⟨31, 0, .rw, 0x0⟩
def D.cipMsecSaW2 : RegDesc := ⟨0xA, 1, 0x200008, [(0x40, 128)], .cores, [F.cipMsecSaW2_salt0]⟩

/-- CIP_MSEC_SA_W3_e, R302 of 08. -/
def A.cipMsecSaW3 (e : Nat) : Nat := win 0xA + 0x20000C + 0x40 * e
def F.cipMsecSaW3_salt1 : Fld := ⟨31, 0, .rw, 0x0⟩
def D.cipMsecSaW3 : RegDesc := ⟨0xA, 1, 0x20000C, [(0x40, 128)], .cores, [F.cipMsecSaW3_salt1]⟩

/-- CIP_MSEC_SA_W4_e, R302 of 08. -/
def A.cipMsecSaW4 (e : Nat) : Nat := win 0xA + 0x200010 + 0x40 * e
def F.cipMsecSaW4_salt2 : Fld := ⟨31, 0, .rw, 0x0⟩
def D.cipMsecSaW4 : RegDesc := ⟨0xA, 1, 0x200010, [(0x40, 128)], .cores, [F.cipMsecSaW4_salt2]⟩

/-- CIP_MSEC_SA_W5_e, R302 of 08. -/
def A.cipMsecSaW5 (e : Nat) : Nat := win 0xA + 0x200014 + 0x40 * e
def F.cipMsecSaW5_sci0 : Fld := ⟨31, 0, .rw, 0x0⟩
def D.cipMsecSaW5 : RegDesc := ⟨0xA, 1, 0x200014, [(0x40, 128)], .cores, [F.cipMsecSaW5_sci0]⟩

/-- CIP_MSEC_SA_W6_e, R302 of 08. -/
def A.cipMsecSaW6 (e : Nat) : Nat := win 0xA + 0x200018 + 0x40 * e
def F.cipMsecSaW6_sci1 : Fld := ⟨31, 0, .rw, 0x0⟩
def D.cipMsecSaW6 : RegDesc := ⟨0xA, 1, 0x200018, [(0x40, 128)], .cores, [F.cipMsecSaW6_sci1]⟩

/-- CIP_MSEC_SA_W7_e, R302 of 08. -/
def A.cipMsecSaW7 (e : Nat) : Nat := win 0xA + 0x20001C + 0x40 * e
def F.cipMsecSaW7_replay_window : Fld := ⟨31, 0, .rw, 0x0⟩
def D.cipMsecSaW7 : RegDesc := ⟨0xA, 1, 0x20001C, [(0x40, 128)], .cores, [F.cipMsecSaW7_replay_window]⟩

/-- CIP_MSEC_SA_W8_e, R302 of 08. -/
def A.cipMsecSaW8 (e : Nat) : Nat := win 0xA + 0x200020 + 0x40 * e
def F.cipMsecSaW8_next_pn0 : Fld := ⟨31, 0, .rw, 0x1⟩
def D.cipMsecSaW8 : RegDesc := ⟨0xA, 1, 0x200020, [(0x40, 128)], .cores, [F.cipMsecSaW8_next_pn0]⟩

/-- CIP_MSEC_SA_W9_e, R302 of 08. -/
def A.cipMsecSaW9 (e : Nat) : Nat := win 0xA + 0x200024 + 0x40 * e
def F.cipMsecSaW9_next_pn1 : Fld := ⟨31, 0, .rw, 0x1⟩
def D.cipMsecSaW9 : RegDesc := ⟨0xA, 1, 0x200024, [(0x40, 128)], .cores, [F.cipMsecSaW9_next_pn1]⟩

/-- CIP_MSEC_SA_W10_e, R302 of 08. -/
def A.cipMsecSaW10 (e : Nat) : Nat := win 0xA + 0x200028 + 0x40 * e
def D.cipMsecSaW10 : RegDesc := ⟨0xA, 1, 0x200028, [(0x40, 128)], .cores, []⟩

/-- CIP_MSEC_SA_W11_e, R302 of 08. -/
def A.cipMsecSaW11 (e : Nat) : Nat := win 0xA + 0x20002C + 0x40 * e
def D.cipMsecSaW11 : RegDesc := ⟨0xA, 1, 0x20002C, [(0x40, 128)], .cores, []⟩

/-- CIP_MSEC_SA_W12_e, R302 of 08. -/
def A.cipMsecSaW12 (e : Nat) : Nat := win 0xA + 0x200030 + 0x40 * e
def D.cipMsecSaW12 : RegDesc := ⟨0xA, 1, 0x200030, [(0x40, 128)], .cores, []⟩

/-- CIP_MSEC_SA_W13_e, R302 of 08. -/
def A.cipMsecSaW13 (e : Nat) : Nat := win 0xA + 0x200034 + 0x40 * e
def D.cipMsecSaW13 : RegDesc := ⟨0xA, 1, 0x200034, [(0x40, 128)], .cores, []⟩

/-- CIP_MSEC_SA_W14_e, R302 of 08. -/
def A.cipMsecSaW14 (e : Nat) : Nat := win 0xA + 0x200038 + 0x40 * e
def D.cipMsecSaW14 : RegDesc := ⟨0xA, 1, 0x200038, [(0x40, 128)], .cores, []⟩

/-- CIP_MSEC_SA_W15_e, R302 of 08. -/
def A.cipMsecSaW15 (e : Nat) : Nat := win 0xA + 0x20003C + 0x40 * e
def D.cipMsecSaW15 : RegDesc := ⟨0xA, 1, 0x20003C, [(0x40, 128)], .cores, []⟩

/-- CIP_CLASS_DENY, R303 of 08. -/
def A.cipClassDeny : Nat := win 0xA + 0xF00
def F.cipClassDeny_count : Fld := ⟨31, 0, .ro, 0x0⟩
def D.cipClassDeny : RegDesc := ⟨0xA, 1, 0xF00, [], .cores, [F.cipClassDeny_count]⟩

/-- CIP_USE_DENY, R303 of 08. -/
def A.cipUseDeny : Nat := win 0xA + 0xF04
def F.cipUseDeny_count : Fld := ⟨31, 0, .ro, 0x0⟩
def D.cipUseDeny : RegDesc := ⟨0xA, 1, 0xF04, [], .cores, [F.cipUseDeny_count]⟩

/-- CIP_KEYLEN_ERR, R303 of 08. -/
def A.cipKeylenErr : Nat := win 0xA + 0xF08
def F.cipKeylenErr_count : Fld := ⟨31, 0, .ro, 0x0⟩
def D.cipKeylenErr : RegDesc := ⟨0xA, 1, 0xF08, [], .cores, [F.cipKeylenErr_count]⟩

/-- CIP_KEY_REVOKED, R303 of 08. -/
def A.cipKeyRevoked : Nat := win 0xA + 0xF0C
def F.cipKeyRevoked_count : Fld := ⟨31, 0, .ro, 0x0⟩
def D.cipKeyRevoked : RegDesc := ⟨0xA, 1, 0xF0C, [], .cores, [F.cipKeyRevoked_count]⟩

/-- CIP_PN_EXHAUSTED, R303 of 08. -/
def A.cipPnExhausted : Nat := win 0xA + 0xF10
def F.cipPnExhausted_count : Fld := ⟨31, 0, .ro, 0x0⟩
def D.cipPnExhausted : RegDesc := ⟨0xA, 1, 0xF10, [], .cores, [F.cipPnExhausted_count]⟩

/-- CIP_AUTH_FAIL, R303 of 08. -/
def A.cipAuthFail : Nat := win 0xA + 0xF14
def F.cipAuthFail_count : Fld := ⟨31, 0, .ro, 0x0⟩
def D.cipAuthFail : RegDesc := ⟨0xA, 1, 0xF14, [], .cores, [F.cipAuthFail_count]⟩

/-- CIP_MSEC_RX_LATE_p, R303 of 08. -/
def A.cipMsecRxLate (p : Nat) : Nat := win 0xA + 0x1000 + 0x10 * p
def F.cipMsecRxLate_count : Fld := ⟨31, 0, .ro, 0x0⟩
def D.cipMsecRxLate : RegDesc := ⟨0xA, 1, 0x1000, [(0x10, 16)], .cores, [F.cipMsecRxLate_count]⟩

/-- CIP_MSEC_RX_NO_SA_p, R303 of 08. -/
def A.cipMsecRxNoSa (p : Nat) : Nat := win 0xA + 0x1004 + 0x10 * p
def F.cipMsecRxNoSa_count : Fld := ⟨31, 0, .ro, 0x0⟩
def D.cipMsecRxNoSa : RegDesc := ⟨0xA, 1, 0x1004, [(0x10, 16)], .cores, [F.cipMsecRxNoSa_count]⟩

/-- CIP_MSEC_RX_NOT_VALID_p, R303 of 08. -/
def A.cipMsecRxNotValid (p : Nat) : Nat := win 0xA + 0x1008 + 0x10 * p
def F.cipMsecRxNotValid_count : Fld := ⟨31, 0, .ro, 0x0⟩
def D.cipMsecRxNotValid : RegDesc := ⟨0xA, 1, 0x1008, [(0x10, 16)], .cores, [F.cipMsecRxNotValid_count]⟩

/-- CIP_MSEC_TX_REFUSED_p, R303 of 08. -/
def A.cipMsecTxRefused (p : Nat) : Nat := win 0xA + 0x100C + 0x10 * p
def F.cipMsecTxRefused_count : Fld := ⟨31, 0, .ro, 0x0⟩
def D.cipMsecTxRefused : RegDesc := ⟨0xA, 1, 0x100C, [(0x10, 16)], .cores, [F.cipMsecTxRefused_count]⟩

/-- TIME_CTL, R420 of 12. -/
def A.timeCtl : Nat := win 0x2 + 0x0
def F.timeCtl_holdover : Fld := ⟨5, 5, .ro, 0x0⟩
def F.timeCtl_locked : Fld := ⟨4, 4, .ro, 0x0⟩
def F.timeCtl_step_en : Fld := ⟨3, 3, .rw, 0x1⟩
def F.timeCtl_src : Fld := ⟨2, 2, .rw, 0x0⟩
def F.timeCtl_servo_mode : Fld := ⟨1, 0, .ro, 0x0⟩
def D.timeCtl : RegDesc := ⟨0x2, 1, 0x0, [], .cudom, [F.timeCtl_holdover, F.timeCtl_locked, F.timeCtl_step_en, F.timeCtl_src, F.timeCtl_servo_mode]⟩

/-- TIME_INCR, R420 of 12. -/
def A.timeIncr : Nat := win 0x2 + 0x4
def F.timeIncr_increment : Fld := ⟨31, 0, .ro, 0x20000000⟩
def D.timeIncr : RegDesc := ⟨0x2, 1, 0x4, [], .cores, [F.timeIncr_increment]⟩

/-- TIME_NOW_NS, R420 of 12. -/
def A.timeNowNs : Nat := win 0x2 + 0x10
def F.timeNowNs_ns : Fld := ⟨29, 0, .ro, 0x0⟩
def D.timeNowNs : RegDesc := ⟨0x2, 1, 0x10, [], .cores, [F.timeNowNs_ns]⟩

/-- TIME_NOW_SEC_LO, R420 of 12. -/
def A.timeNowSecLo : Nat := win 0x2 + 0x14
def F.timeNowSecLo_sec_lo : Fld := ⟨31, 0, .ro, 0x0⟩
def D.timeNowSecLo : RegDesc := ⟨0x2, 1, 0x14, [], .cores, [F.timeNowSecLo_sec_lo]⟩

/-- TIME_NOW_HI, R420 of 12. -/
def A.timeNowHi : Nat := win 0x2 + 0x18
def F.timeNowHi_frac : Fld := ⟨31, 16, .ro, 0x0⟩
def F.timeNowHi_sec_hi : Fld := ⟨15, 0, .ro, 0x0⟩
def D.timeNowHi : RegDesc := ⟨0x2, 1, 0x18, [], .cores, [F.timeNowHi_frac, F.timeNowHi_sec_hi]⟩

/-- TIME_COUNT, R420 of 12. -/
def A.timeCount : Nat := win 0x2 + 0x1C
def F.timeCount_count : Fld := ⟨31, 0, .ro, 0x0⟩
def D.timeCount : RegDesc := ⟨0x2, 1, 0x1C, [], .cores, [F.timeCount_count]⟩

/-- TIME_SERVO_CFG, R420 of 12. -/
def A.timeServoCfg : Nat := win 0x2 + 0x100
def F.timeServoCfg_kp_shift : Fld := ⟨31, 28, .rw, 0x1⟩
def F.timeServoCfg_ki_shift : Fld := ⟨27, 24, .rw, 0x4⟩
def F.timeServoCfg_step_thresh : Fld := ⟨23, 16, .rw, 0xA⟩
def F.timeServoCfg_lock_thresh : Fld := ⟨15, 8, .rw, 0xA⟩
def F.timeServoCfg_max_adj : Fld := ⟨7, 4, .rw, 0x2⟩
def F.timeServoCfg_holdover_after : Fld := ⟨3, 0, .rw, 0xA⟩
def D.timeServoCfg : RegDesc := ⟨0x2, 1, 0x100, [], .cudom, [F.timeServoCfg_kp_shift, F.timeServoCfg_ki_shift, F.timeServoCfg_step_thresh, F.timeServoCfg_lock_thresh, F.timeServoCfg_max_adj, F.timeServoCfg_holdover_after]⟩

/-- TIME_OFFSET_NS, R420 of 12. -/
def A.timeOffsetNs : Nat := win 0x2 + 0x104
def F.timeOffsetNs_offset_ns : Fld := ⟨31, 0, .rw, 0x0⟩
def D.timeOffsetNs : RegDesc := ⟨0x2, 1, 0x104, [], .cores, [F.timeOffsetNs_offset_ns]⟩

/-- TIME_OFFSET_FRAC, R420 of 12. -/
def A.timeOffsetFrac : Nat := win 0x2 + 0x108
def F.timeOffsetFrac_offset_frac : Fld := ⟨31, 16, .rw, 0x0⟩
def D.timeOffsetFrac : RegDesc := ⟨0x2, 1, 0x108, [], .cores, [F.timeOffsetFrac_offset_frac]⟩

/-- TIME_SERVO_STATUS, R420 of 12. -/
def A.timeServoStatus : Nat := win 0x2 + 0x10C
def F.timeServoStatus_last_offset : Fld := ⟨31, 20, .ro, 0x0⟩
def F.timeServoStatus_adj : Fld := ⟨19, 0, .ro, 0x0⟩
def D.timeServoStatus : RegDesc := ⟨0x2, 1, 0x10C, [], .cores, [F.timeServoStatus_last_offset, F.timeServoStatus_adj]⟩

/-- TIME_QUALITY, R420 of 12. -/
def A.timeQuality : Nat := win 0x2 + 0x200
def F.timeQuality_fw_synced : Fld := ⟨31, 31, .rw, 0x0⟩
def F.timeQuality_quality : Fld := ⟨23, 16, .ro, 0x3F⟩
def F.timeQuality_holdover_rate : Fld := ⟨15, 8, .rw, 0x32⟩
def F.timeQuality_fw_bound : Fld := ⟨7, 0, .rw, 0xFF⟩
def D.timeQuality : RegDesc := ⟨0x2, 1, 0x200, [], .cudom, [F.timeQuality_fw_synced, F.timeQuality_quality, F.timeQuality_holdover_rate, F.timeQuality_fw_bound]⟩

/-- TIME_PATH, R420 of 12. -/
def A.timePath : Nat := win 0x2 + 0x204
def F.timePath_pd_shift : Fld := ⟨31, 28, .rw, 0x3⟩
def F.timePath_path_delay : Fld := ⟨23, 0, .ro, 0x0⟩
def D.timePath : RegDesc := ⟨0x2, 1, 0x204, [], .cudom, [F.timePath_pd_shift, F.timePath_path_delay]⟩

/-- TIME_BOARD_k, R420 of 12. -/
def A.timeBoard (k : Nat) : Nat := win 0x2 + 0x300 + 0x4 * k
def F.timeBoard_board_tx : Fld := ⟨31, 16, .rw, 0x0⟩
def F.timeBoard_board_rx : Fld := ⟨15, 0, .rw, 0x0⟩
def D.timeBoard : RegDesc := ⟨0x2, 1, 0x300, [(0x4, 16)], .cores, [F.timeBoard_board_tx, F.timeBoard_board_rx]⟩

/-- TIME_CUFF_HEAD0_c, R420 of 12. -/
def A.timeCuffHead0 (c : Nat) : Nat := win 0x2 + 0x1000 + 0x20 * c
def F.timeCuffHead0_valid : Fld := ⟨31, 31, .ro, 0x0⟩
def F.timeCuffHead0_gap : Fld := ⟨30, 30, .ro, 0x0⟩
def F.timeCuffHead0_aborted : Fld := ⟨29, 29, .ro, 0x0⟩
def F.timeCuffHead0_err_ended : Fld := ⟨28, 28, .ro, 0x0⟩
def F.timeCuffHead0_frame_id : Fld := ⟨15, 0, .ro, 0x0⟩
def D.timeCuffHead0 : RegDesc := ⟨0x2, 1, 0x1000, [(0x20, 11)], .cores, [F.timeCuffHead0_valid, F.timeCuffHead0_gap, F.timeCuffHead0_aborted, F.timeCuffHead0_err_ended, F.timeCuffHead0_frame_id]⟩

/-- TIME_CUFF_HEAD1_c, R420 of 12. -/
def A.timeCuffHead1 (c : Nat) : Nat := win 0x2 + 0x1004 + 0x20 * c
def F.timeCuffHead1_count : Fld := ⟨31, 0, .ro, 0x0⟩
def D.timeCuffHead1 : RegDesc := ⟨0x2, 1, 0x1004, [(0x20, 11)], .cores, [F.timeCuffHead1_count]⟩

/-- TIME_CUFF_HEAD2_c, R420 of 12. -/
def A.timeCuffHead2 (c : Nat) : Nat := win 0x2 + 0x1008 + 0x20 * c
def F.timeCuffHead2_frac : Fld := ⟨31, 16, .ro, 0x0⟩
def D.timeCuffHead2 : RegDesc := ⟨0x2, 1, 0x1008, [(0x20, 11)], .cores, [F.timeCuffHead2_frac]⟩

/-- TIME_CUFF_CTL_c, R420 of 12. -/
def A.timeCuffCtl (c : Nat) : Nat := win 0x2 + 0x100C + 0x20 * c
def F.timeCuffCtl_pop : Fld := ⟨31, 31, .w1s, 0x0⟩
def F.timeCuffCtl_irq_en : Fld := ⟨30, 30, .rw, 0x0⟩
def F.timeCuffCtl_level : Fld := ⟨4, 0, .ro, 0x0⟩
def D.timeCuffCtl : RegDesc := ⟨0x2, 1, 0x100C, [(0x20, 11)], .cores, [F.timeCuffCtl_pop, F.timeCuffCtl_irq_en, F.timeCuffCtl_level]⟩

/-- TIME_CUFF_OVERFLOW_c, R421 of 12. -/
def A.timeCuffOverflow (c : Nat) : Nat := win 0x2 + 0xF00 + 0x4 * c
def F.timeCuffOverflow_count : Fld := ⟨31, 0, .ro, 0x0⟩
def D.timeCuffOverflow : RegDesc := ⟨0x2, 1, 0xF00, [(0x4, 11)], .cores, [F.timeCuffOverflow_count]⟩

/-- TIME_STEP, R421 of 12. -/
def A.timeStep : Nat := win 0x2 + 0xF40
def F.timeStep_count : Fld := ⟨31, 0, .ro, 0x0⟩
def D.timeStep : RegDesc := ⟨0x2, 1, 0xF40, [], .cores, [F.timeStep_count]⟩

/-- TIME_OFFSET_DISCARD, R421 of 12. -/
def A.timeOffsetDiscard : Nat := win 0x2 + 0xF44
def F.timeOffsetDiscard_count : Fld := ⟨31, 0, .ro, 0x0⟩
def D.timeOffsetDiscard : RegDesc := ⟨0x2, 1, 0xF44, [], .cores, [F.timeOffsetDiscard_count]⟩

/-- TIME_PATH_DISCARD, R421 of 12. -/
def A.timePathDiscard : Nat := win 0x2 + 0xF48
def F.timePathDiscard_count : Fld := ⟨31, 0, .ro, 0x0⟩
def D.timePathDiscard : RegDesc := ⟨0x2, 1, 0xF48, [], .cores, [F.timePathDiscard_count]⟩

end Sys2Proof.Machine
end

