-- ==== Sys2Proof/Machine/RegMapC.lean ====
section
/-!
DEFINITION. The register map: every register of the spec's register tables, its address, its fields with
their access codes and reset values (R14, R18), and who may write it. The rows follow the register tables of
the chapters in their order. `A.x` is the address of register x, `F.x_f` its field f, `D.x` its row.
-/

namespace Sys2Proof.Machine

/-- PKT_PARSE_CTL, R337 of 09. -/
def A.pktParseCtl : Nat := win 0x3 + 0x0
def F.pktParseCtl_ipv4_csum_en : Fld := ⟨20, 20, .rw, 0x1⟩
def F.pktParseCtl_max_layers : Fld := ⟨12, 8, .rw, 0x10⟩
def F.pktParseCtl_window : Fld := ⟨3, 0, .rw, 0x8⟩
def D.pktParseCtl : RegDesc := ⟨0x3, 1, 0x0, [], .cores, [F.pktParseCtl_ipv4_csum_en, F.pktParseCtl_max_layers, F.pktParseCtl_window]⟩

/-- PKT_TUN_CFG, R337 of 09. -/
def A.pktTunCfg : Nat := win 0x3 + 0x4
def F.pktTunCfg_vxlan_port : Fld := ⟨31, 16, .rw, 0x12B5⟩
def F.pktTunCfg_gre_en : Fld := ⟨3, 3, .rw, 0x1⟩
def F.pktTunCfg_vxlan_en : Fld := ⟨2, 2, .rw, 0x1⟩
def F.pktTunCfg_holael_en : Fld := ⟨1, 1, .rw, 0x1⟩
def F.pktTunCfg_mpls_eth : Fld := ⟨0, 0, .rw, 0x0⟩
def D.pktTunCfg : RegDesc := ⟨0x3, 1, 0x4, [], .cores, [F.pktTunCfg_vxlan_port, F.pktTunCfg_gre_en, F.pktTunCfg_vxlan_en, F.pktTunCfg_holael_en, F.pktTunCfg_mpls_eth]⟩

/-- PKT_UDP_TUN_n, R337 of 09. -/
def A.pktUdpTun (n : Nat) : Nat := win 0x3 + 0x10 + 0x4 * n
def F.pktUdpTun_en : Fld := ⟨31, 31, .rw, 0x0⟩
def F.pktUdpTun_inner : Fld := ⟨30, 30, .rw, 0x0⟩
def F.pktUdpTun_port : Fld := ⟨15, 0, .rw, 0x0⟩
def D.pktUdpTun : RegDesc := ⟨0x3, 1, 0x10, [(0x4, 4)], .cores, [F.pktUdpTun_en, F.pktUdpTun_inner, F.pktUdpTun_port]⟩

/-- PKT_SRC_CFG_s, R337 of 09. -/
def A.pktSrcCfg (s : Nat) : Nat := win 0x3 + 0x40 + 0x4 * s
def F.pktSrcCfg_key_select : Fld := ⟨1, 1, .rw, 0x0⟩
def F.pktSrcCfg_pipeline : Fld := ⟨0, 0, .rw, 0x0⟩
def D.pktSrcCfg : RegDesc := ⟨0x3, 1, 0x40, [(0x4, 19)], .cores, [F.pktSrcCfg_key_select, F.pktSrcCfg_pipeline]⟩

/-- PKT_VERSION_CTL, R337 of 09. -/
def A.pktVersionCtl : Nat := win 0x3 + 0x100
def F.pktVersionCtl_commit_req : Fld := ⟨31, 31, .w1s, 0x0⟩
def F.pktVersionCtl_busy : Fld := ⟨30, 30, .ro, 0x0⟩
def F.pktVersionCtl_seed_busy : Fld := ⟨29, 29, .ro, 0x0⟩
def F.pktVersionCtl_retired : Fld := ⟨28, 28, .w1c, 0x0⟩
def F.pktVersionCtl_retire_irq_en : Fld := ⟨27, 27, .rw, 0x0⟩
def F.pktVersionCtl_staging : Fld := ⟨7, 6, .ro, 0x1⟩
def F.pktVersionCtl_retiring_live : Fld := ⟨5, 5, .ro, 0x0⟩
def F.pktVersionCtl_retiring : Fld := ⟨3, 2, .ro, 0x0⟩
def F.pktVersionCtl_current : Fld := ⟨1, 0, .ro, 0x0⟩
def D.pktVersionCtl : RegDesc := ⟨0x3, 1, 0x100, [], .cores, [F.pktVersionCtl_commit_req, F.pktVersionCtl_busy, F.pktVersionCtl_seed_busy, F.pktVersionCtl_retired, F.pktVersionCtl_retire_irq_en, F.pktVersionCtl_staging, F.pktVersionCtl_retiring_live, F.pktVersionCtl_retiring, F.pktVersionCtl_current]⟩

/-- PKT_COMMIT_RES, R337 of 09. -/
def A.pktCommitRes : Nat := win 0x3 + 0x104
def F.pktCommitRes_commits : Fld := ⟨31, 16, .ro, 0x0⟩
def F.pktCommitRes_status : Fld := ⟨15, 0, .ro, 0x0⟩
def D.pktCommitRes : RegDesc := ⟨0x3, 1, 0x104, [], .cores, [F.pktCommitRes_commits, F.pktCommitRes_status]⟩

/-- PKT_RULE_STAGE, R337 of 09. -/
def A.pktRuleStage : Nat := win 0x3 + 0x108
def F.pktRuleStage_go : Fld := ⟨31, 31, .w1s, 0x0⟩
def F.pktRuleStage_remove : Fld := ⟨30, 30, .rw, 0x0⟩
def F.pktRuleStage_rule_err : Fld := ⟨29, 29, .w1c, 0x0⟩
def F.pktRuleStage_index : Fld := ⟨12, 0, .rw, 0x0⟩
def D.pktRuleStage : RegDesc := ⟨0x3, 1, 0x108, [], .cores, [F.pktRuleStage_go, F.pktRuleStage_remove, F.pktRuleStage_rule_err, F.pktRuleStage_index]⟩

/-- PKT_HASH_SEED, R337 of 09. -/
def A.pktHashSeed : Nat := win 0x3 + 0x200
def F.pktHashSeed_seed : Fld := ⟨31, 0, .rw, 0xFFFFFFFF⟩
def D.pktHashSeed : RegDesc := ⟨0x3, 1, 0x200, [], .cores, [F.pktHashSeed_seed]⟩

/-- PKT_EP_BASE_LO, R337 of 09. -/
def A.pktEpBaseLo : Nat := win 0x3 + 0x210
def F.pktEpBaseLo_base_lo : Fld := ⟨31, 0, .rw, 0x0⟩
def D.pktEpBaseLo : RegDesc := ⟨0x3, 1, 0x210, [], .cores, [F.pktEpBaseLo_base_lo]⟩

/-- PKT_EP_BASE_HI, R337 of 09. -/
def A.pktEpBaseHi : Nat := win 0x3 + 0x214
def F.pktEpBaseHi_ep_en : Fld := ⟨8, 8, .rw, 0x0⟩
def F.pktEpBaseHi_base_hi : Fld := ⟨7, 0, .rw, 0x0⟩
def D.pktEpBaseHi : RegDesc := ⟨0x3, 1, 0x214, [], .cores, [F.pktEpBaseHi_ep_en, F.pktEpBaseHi_base_hi]⟩

/-- PKT_EP_SEED1, R337 of 09. -/
def A.pktEpSeed1 : Nat := win 0x3 + 0x218
def F.pktEpSeed1_seed : Fld := ⟨31, 0, .rw, 0x0⟩
def D.pktEpSeed1 : RegDesc := ⟨0x3, 1, 0x218, [], .cores, [F.pktEpSeed1_seed]⟩

/-- PKT_EP_SEED2, R337 of 09. -/
def A.pktEpSeed2 : Nat := win 0x3 + 0x21C
def F.pktEpSeed2_seed : Fld := ⟨31, 0, .rw, 0x5A5A5A5A⟩
def D.pktEpSeed2 : RegDesc := ⟨0x3, 1, 0x21C, [], .cores, [F.pktEpSeed2_seed]⟩

/-- PKT_EP_INVAL, R337 of 09. -/
def A.pktEpInval : Nat := win 0x3 + 0x220
def F.pktEpInval_go : Fld := ⟨31, 31, .w1s, 0x0⟩
def F.pktEpInval_bucket : Fld := ⟨17, 0, .rw, 0x0⟩
def D.pktEpInval : RegDesc := ⟨0x3, 1, 0x220, [], .cores, [F.pktEpInval_go, F.pktEpInval_bucket]⟩

/-- PKT_FRAG_CTL, R337 of 09. -/
def A.pktFragCtl : Nat := win 0x3 + 0x300
def F.pktFragCtl_hold_en : Fld := ⟨31, 31, .rw, 0x1⟩
def F.pktFragCtl_hold_time : Fld := ⟨15, 0, .rw, 0xA⟩
def D.pktFragCtl : RegDesc := ⟨0x3, 1, 0x300, [], .cores, [F.pktFragCtl_hold_en, F.pktFragCtl_hold_time]⟩

/-- PKT_FRAG_STATUS, R337 of 09. -/
def A.pktFragStatus : Nat := win 0x3 + 0x304
def F.pktFragStatus_held : Fld := ⟨22, 16, .ro, 0x0⟩
def F.pktFragStatus_entries : Fld := ⟨10, 0, .ro, 0x0⟩
def D.pktFragStatus : RegDesc := ⟨0x3, 1, 0x304, [], .cores, [F.pktFragStatus_held, F.pktFragStatus_entries]⟩

/-- PKT_EXC_CFG_c, R337 of 09. -/
def A.pktExcCfg (c : Nat) : Nat := win 0x3 + 0x400 + 0x8 * c
def F.pktExcCfg_to_sump : Fld := ⟨31, 31, .rw, 0x1⟩
def F.pktExcCfg_burst : Fld := ⟨15, 0, .rw, 0x40⟩
def D.pktExcCfg : RegDesc := ⟨0x3, 1, 0x400, [(0x8, 8)], .cores, [F.pktExcCfg_to_sump, F.pktExcCfg_burst]⟩

/-- PKT_EXC_RATE_c, R337 of 09. -/
def A.pktExcRate (c : Nat) : Nat := win 0x3 + 0x404 + 0x8 * c
def F.pktExcRate_rate : Fld := ⟨23, 0, .rw, 0x2710⟩
def D.pktExcRate : RegDesc := ⟨0x3, 1, 0x404, [(0x8, 8)], .cores, [F.pktExcRate_rate]⟩

/-- PKT_SUMP_CTL, R337 of 09. -/
def A.pktSumpCtl : Nat := win 0x3 + 0x480
def F.pktSumpCtl_queue : Fld := ⟨11, 0, .rw, 0xFFF⟩
def D.pktSumpCtl : RegDesc := ⟨0x3, 1, 0x480, [], .cores, [F.pktSumpCtl_queue]⟩

/-- PKT_IND_i, R337 of 09. -/
def A.pktInd (i : Nat) : Nat := win 0x3 + 0x10000 + 0x4 * i
def F.pktInd_queue : Fld := ⟨11, 0, .rw, 0x0⟩
def D.pktInd : RegDesc := ⟨0x3, 1, 0x10000, [(0x4, 256)], .cores, [F.pktInd_queue]⟩

/-- PKT_RULE_VALUE0_n, R337 of 09. -/
def A.pktRuleValue0 (n : Nat) : Nat := win 0x3 + 0x400000 + 0x100 * n
def F.pktRuleValue0_value : Fld := ⟨31, 0, .rw, 0x0⟩
def D.pktRuleValue0 : RegDesc := ⟨0x3, 1, 0x400000, [(0x100, 8192)], .cores, [F.pktRuleValue0_value]⟩

/-- PKT_RULE_VALUE1_n, R337 of 09. -/
def A.pktRuleValue1 (n : Nat) : Nat := win 0x3 + 0x400004 + 0x100 * n
def F.pktRuleValue1_value : Fld := ⟨31, 0, .rw, 0x0⟩
def D.pktRuleValue1 : RegDesc := ⟨0x3, 1, 0x400004, [(0x100, 8192)], .cores, [F.pktRuleValue1_value]⟩

/-- PKT_RULE_VALUE2_n, R337 of 09. -/
def A.pktRuleValue2 (n : Nat) : Nat := win 0x3 + 0x400008 + 0x100 * n
def F.pktRuleValue2_value : Fld := ⟨31, 0, .rw, 0x0⟩
def D.pktRuleValue2 : RegDesc := ⟨0x3, 1, 0x400008, [(0x100, 8192)], .cores, [F.pktRuleValue2_value]⟩

/-- PKT_RULE_VALUE3_n, R337 of 09. -/
def A.pktRuleValue3 (n : Nat) : Nat := win 0x3 + 0x40000C + 0x100 * n
def F.pktRuleValue3_value : Fld := ⟨31, 0, .rw, 0x0⟩
def D.pktRuleValue3 : RegDesc := ⟨0x3, 1, 0x40000C, [(0x100, 8192)], .cores, [F.pktRuleValue3_value]⟩

/-- PKT_RULE_VALUE4_n, R337 of 09. -/
def A.pktRuleValue4 (n : Nat) : Nat := win 0x3 + 0x400010 + 0x100 * n
def F.pktRuleValue4_value : Fld := ⟨31, 0, .rw, 0x0⟩
def D.pktRuleValue4 : RegDesc := ⟨0x3, 1, 0x400010, [(0x100, 8192)], .cores, [F.pktRuleValue4_value]⟩

/-- PKT_RULE_VALUE5_n, R337 of 09. -/
def A.pktRuleValue5 (n : Nat) : Nat := win 0x3 + 0x400014 + 0x100 * n
def F.pktRuleValue5_value : Fld := ⟨31, 0, .rw, 0x0⟩
def D.pktRuleValue5 : RegDesc := ⟨0x3, 1, 0x400014, [(0x100, 8192)], .cores, [F.pktRuleValue5_value]⟩

/-- PKT_RULE_VALUE6_n, R337 of 09. -/
def A.pktRuleValue6 (n : Nat) : Nat := win 0x3 + 0x400018 + 0x100 * n
def F.pktRuleValue6_value : Fld := ⟨31, 0, .rw, 0x0⟩
def D.pktRuleValue6 : RegDesc := ⟨0x3, 1, 0x400018, [(0x100, 8192)], .cores, [F.pktRuleValue6_value]⟩

/-- PKT_RULE_VALUE7_n, R337 of 09. -/
def A.pktRuleValue7 (n : Nat) : Nat := win 0x3 + 0x40001C + 0x100 * n
def F.pktRuleValue7_value : Fld := ⟨31, 0, .rw, 0x0⟩
def D.pktRuleValue7 : RegDesc := ⟨0x3, 1, 0x40001C, [(0x100, 8192)], .cores, [F.pktRuleValue7_value]⟩

/-- PKT_RULE_VALUE8_n, R337 of 09. -/
def A.pktRuleValue8 (n : Nat) : Nat := win 0x3 + 0x400020 + 0x100 * n
def F.pktRuleValue8_value : Fld := ⟨31, 0, .rw, 0x0⟩
def D.pktRuleValue8 : RegDesc := ⟨0x3, 1, 0x400020, [(0x100, 8192)], .cores, [F.pktRuleValue8_value]⟩

/-- PKT_RULE_VALUE9_n, R337 of 09. -/
def A.pktRuleValue9 (n : Nat) : Nat := win 0x3 + 0x400024 + 0x100 * n
def F.pktRuleValue9_value : Fld := ⟨31, 0, .rw, 0x0⟩
def D.pktRuleValue9 : RegDesc := ⟨0x3, 1, 0x400024, [(0x100, 8192)], .cores, [F.pktRuleValue9_value]⟩

/-- PKT_RULE_VALUE10_n, R337 of 09. -/
def A.pktRuleValue10 (n : Nat) : Nat := win 0x3 + 0x400028 + 0x100 * n
def F.pktRuleValue10_value : Fld := ⟨31, 0, .rw, 0x0⟩
def D.pktRuleValue10 : RegDesc := ⟨0x3, 1, 0x400028, [(0x100, 8192)], .cores, [F.pktRuleValue10_value]⟩

/-- PKT_RULE_VALUE11_n, R337 of 09. -/
def A.pktRuleValue11 (n : Nat) : Nat := win 0x3 + 0x40002C + 0x100 * n
def F.pktRuleValue11_value : Fld := ⟨31, 0, .rw, 0x0⟩
def D.pktRuleValue11 : RegDesc := ⟨0x3, 1, 0x40002C, [(0x100, 8192)], .cores, [F.pktRuleValue11_value]⟩

/-- PKT_RULE_VALUE12_n, R337 of 09. -/
def A.pktRuleValue12 (n : Nat) : Nat := win 0x3 + 0x400030 + 0x100 * n
def F.pktRuleValue12_value : Fld := ⟨31, 0, .rw, 0x0⟩
def D.pktRuleValue12 : RegDesc := ⟨0x3, 1, 0x400030, [(0x100, 8192)], .cores, [F.pktRuleValue12_value]⟩

/-- PKT_RULE_VALUE13_n, R337 of 09. -/
def A.pktRuleValue13 (n : Nat) : Nat := win 0x3 + 0x400034 + 0x100 * n
def F.pktRuleValue13_value : Fld := ⟨31, 0, .rw, 0x0⟩
def D.pktRuleValue13 : RegDesc := ⟨0x3, 1, 0x400034, [(0x100, 8192)], .cores, [F.pktRuleValue13_value]⟩

/-- PKT_RULE_VALUE14_n, R337 of 09. -/
def A.pktRuleValue14 (n : Nat) : Nat := win 0x3 + 0x400038 + 0x100 * n
def F.pktRuleValue14_value : Fld := ⟨31, 0, .rw, 0x0⟩
def D.pktRuleValue14 : RegDesc := ⟨0x3, 1, 0x400038, [(0x100, 8192)], .cores, [F.pktRuleValue14_value]⟩

/-- PKT_RULE_VALUE15_n, R337 of 09. -/
def A.pktRuleValue15 (n : Nat) : Nat := win 0x3 + 0x40003C + 0x100 * n
def F.pktRuleValue15_value : Fld := ⟨31, 0, .rw, 0x0⟩
def D.pktRuleValue15 : RegDesc := ⟨0x3, 1, 0x40003C, [(0x100, 8192)], .cores, [F.pktRuleValue15_value]⟩

/-- PKT_RULE_MASK0_n, R337 of 09. -/
def A.pktRuleMask0 (n : Nat) : Nat := win 0x3 + 0x400040 + 0x100 * n
def F.pktRuleMask0_mask : Fld := ⟨31, 0, .rw, 0x0⟩
def D.pktRuleMask0 : RegDesc := ⟨0x3, 1, 0x400040, [(0x100, 8192)], .cores, [F.pktRuleMask0_mask]⟩

/-- PKT_RULE_MASK1_n, R337 of 09. -/
def A.pktRuleMask1 (n : Nat) : Nat := win 0x3 + 0x400044 + 0x100 * n
def F.pktRuleMask1_mask : Fld := ⟨31, 0, .rw, 0x0⟩
def D.pktRuleMask1 : RegDesc := ⟨0x3, 1, 0x400044, [(0x100, 8192)], .cores, [F.pktRuleMask1_mask]⟩

/-- PKT_RULE_MASK2_n, R337 of 09. -/
def A.pktRuleMask2 (n : Nat) : Nat := win 0x3 + 0x400048 + 0x100 * n
def F.pktRuleMask2_mask : Fld := ⟨31, 0, .rw, 0x0⟩
def D.pktRuleMask2 : RegDesc := ⟨0x3, 1, 0x400048, [(0x100, 8192)], .cores, [F.pktRuleMask2_mask]⟩

/-- PKT_RULE_MASK3_n, R337 of 09. -/
def A.pktRuleMask3 (n : Nat) : Nat := win 0x3 + 0x40004C + 0x100 * n
def F.pktRuleMask3_mask : Fld := ⟨31, 0, .rw, 0x0⟩
def D.pktRuleMask3 : RegDesc := ⟨0x3, 1, 0x40004C, [(0x100, 8192)], .cores, [F.pktRuleMask3_mask]⟩

/-- PKT_RULE_MASK4_n, R337 of 09. -/
def A.pktRuleMask4 (n : Nat) : Nat := win 0x3 + 0x400050 + 0x100 * n
def F.pktRuleMask4_mask : Fld := ⟨31, 0, .rw, 0x0⟩
def D.pktRuleMask4 : RegDesc := ⟨0x3, 1, 0x400050, [(0x100, 8192)], .cores, [F.pktRuleMask4_mask]⟩

/-- PKT_RULE_MASK5_n, R337 of 09. -/
def A.pktRuleMask5 (n : Nat) : Nat := win 0x3 + 0x400054 + 0x100 * n
def F.pktRuleMask5_mask : Fld := ⟨31, 0, .rw, 0x0⟩
def D.pktRuleMask5 : RegDesc := ⟨0x3, 1, 0x400054, [(0x100, 8192)], .cores, [F.pktRuleMask5_mask]⟩

/-- PKT_RULE_MASK6_n, R337 of 09. -/
def A.pktRuleMask6 (n : Nat) : Nat := win 0x3 + 0x400058 + 0x100 * n
def F.pktRuleMask6_mask : Fld := ⟨31, 0, .rw, 0x0⟩
def D.pktRuleMask6 : RegDesc := ⟨0x3, 1, 0x400058, [(0x100, 8192)], .cores, [F.pktRuleMask6_mask]⟩

/-- PKT_RULE_MASK7_n, R337 of 09. -/
def A.pktRuleMask7 (n : Nat) : Nat := win 0x3 + 0x40005C + 0x100 * n
def F.pktRuleMask7_mask : Fld := ⟨31, 0, .rw, 0x0⟩
def D.pktRuleMask7 : RegDesc := ⟨0x3, 1, 0x40005C, [(0x100, 8192)], .cores, [F.pktRuleMask7_mask]⟩

/-- PKT_RULE_MASK8_n, R337 of 09. -/
def A.pktRuleMask8 (n : Nat) : Nat := win 0x3 + 0x400060 + 0x100 * n
def F.pktRuleMask8_mask : Fld := ⟨31, 0, .rw, 0x0⟩
def D.pktRuleMask8 : RegDesc := ⟨0x3, 1, 0x400060, [(0x100, 8192)], .cores, [F.pktRuleMask8_mask]⟩

/-- PKT_RULE_MASK9_n, R337 of 09. -/
def A.pktRuleMask9 (n : Nat) : Nat := win 0x3 + 0x400064 + 0x100 * n
def F.pktRuleMask9_mask : Fld := ⟨31, 0, .rw, 0x0⟩
def D.pktRuleMask9 : RegDesc := ⟨0x3, 1, 0x400064, [(0x100, 8192)], .cores, [F.pktRuleMask9_mask]⟩

/-- PKT_RULE_MASK10_n, R337 of 09. -/
def A.pktRuleMask10 (n : Nat) : Nat := win 0x3 + 0x400068 + 0x100 * n
def F.pktRuleMask10_mask : Fld := ⟨31, 0, .rw, 0x0⟩
def D.pktRuleMask10 : RegDesc := ⟨0x3, 1, 0x400068, [(0x100, 8192)], .cores, [F.pktRuleMask10_mask]⟩

/-- PKT_RULE_MASK11_n, R337 of 09. -/
def A.pktRuleMask11 (n : Nat) : Nat := win 0x3 + 0x40006C + 0x100 * n
def F.pktRuleMask11_mask : Fld := ⟨31, 0, .rw, 0x0⟩
def D.pktRuleMask11 : RegDesc := ⟨0x3, 1, 0x40006C, [(0x100, 8192)], .cores, [F.pktRuleMask11_mask]⟩

/-- PKT_RULE_MASK12_n, R337 of 09. -/
def A.pktRuleMask12 (n : Nat) : Nat := win 0x3 + 0x400070 + 0x100 * n
def F.pktRuleMask12_mask : Fld := ⟨31, 0, .rw, 0x0⟩
def D.pktRuleMask12 : RegDesc := ⟨0x3, 1, 0x400070, [(0x100, 8192)], .cores, [F.pktRuleMask12_mask]⟩

/-- PKT_RULE_MASK13_n, R337 of 09. -/
def A.pktRuleMask13 (n : Nat) : Nat := win 0x3 + 0x400074 + 0x100 * n
def F.pktRuleMask13_mask : Fld := ⟨31, 0, .rw, 0x0⟩
def D.pktRuleMask13 : RegDesc := ⟨0x3, 1, 0x400074, [(0x100, 8192)], .cores, [F.pktRuleMask13_mask]⟩

/-- PKT_RULE_MASK14_n, R337 of 09. -/
def A.pktRuleMask14 (n : Nat) : Nat := win 0x3 + 0x400078 + 0x100 * n
def F.pktRuleMask14_mask : Fld := ⟨31, 0, .rw, 0x0⟩
def D.pktRuleMask14 : RegDesc := ⟨0x3, 1, 0x400078, [(0x100, 8192)], .cores, [F.pktRuleMask14_mask]⟩

/-- PKT_RULE_MASK15_n, R337 of 09. -/
def A.pktRuleMask15 (n : Nat) : Nat := win 0x3 + 0x40007C + 0x100 * n
def F.pktRuleMask15_mask : Fld := ⟨31, 0, .rw, 0x0⟩
def D.pktRuleMask15 : RegDesc := ⟨0x3, 1, 0x40007C, [(0x100, 8192)], .cores, [F.pktRuleMask15_mask]⟩

/-- PKT_RULE_ACT0_n, R337 of 09. -/
def A.pktRuleAct0 (n : Nat) : Nat := win 0x3 + 0x400080 + 0x100 * n
def F.pktRuleAct0_action : Fld := ⟨31, 0, .rw, 0x0⟩
def D.pktRuleAct0 : RegDesc := ⟨0x3, 1, 0x400080, [(0x100, 8192)], .cores, [F.pktRuleAct0_action]⟩

/-- PKT_RULE_ACT1_n, R337 of 09. -/
def A.pktRuleAct1 (n : Nat) : Nat := win 0x3 + 0x400084 + 0x100 * n
def F.pktRuleAct1_action : Fld := ⟨31, 0, .rw, 0x0⟩
def D.pktRuleAct1 : RegDesc := ⟨0x3, 1, 0x400084, [(0x100, 8192)], .cores, [F.pktRuleAct1_action]⟩

/-- PKT_RULE_ACT2_n, R337 of 09. -/
def A.pktRuleAct2 (n : Nat) : Nat := win 0x3 + 0x400088 + 0x100 * n
def F.pktRuleAct2_action : Fld := ⟨31, 0, .rw, 0x0⟩
def D.pktRuleAct2 : RegDesc := ⟨0x3, 1, 0x400088, [(0x100, 8192)], .cores, [F.pktRuleAct2_action]⟩

/-- PKT_RULE_ACT3_n, R337 of 09. -/
def A.pktRuleAct3 (n : Nat) : Nat := win 0x3 + 0x40008C + 0x100 * n
def F.pktRuleAct3_action : Fld := ⟨31, 0, .rw, 0x0⟩
def D.pktRuleAct3 : RegDesc := ⟨0x3, 1, 0x40008C, [(0x100, 8192)], .cores, [F.pktRuleAct3_action]⟩

/-- PKT_RULE_LIVE_n, R337 of 09. -/
def A.pktRuleLive (n : Nat) : Nat := win 0x3 + 0x400090 + 0x100 * n
def F.pktRuleLive_free : Fld := ⟨4, 4, .ro, 0x1⟩
def F.pktRuleLive_live_mask : Fld := ⟨3, 0, .ro, 0x0⟩
def D.pktRuleLive : RegDesc := ⟨0x3, 1, 0x400090, [(0x100, 8192)], .cores, [F.pktRuleLive_free, F.pktRuleLive_live_mask]⟩

/-- PKT_STAMPED_0, R338 of 09. -/
def A.pktStamped0 : Nat := win 0x3 + 0xF00
def F.pktStamped0_count : Fld := ⟨31, 0, .ro, 0x0⟩
def D.pktStamped0 : RegDesc := ⟨0x3, 1, 0xF00, [], .cores, [F.pktStamped0_count]⟩

/-- PKT_STAMPED_1, R338 of 09. -/
def A.pktStamped1 : Nat := win 0x3 + 0xF04
def F.pktStamped1_count : Fld := ⟨31, 0, .ro, 0x0⟩
def D.pktStamped1 : RegDesc := ⟨0x3, 1, 0xF04, [], .cores, [F.pktStamped1_count]⟩

/-- PKT_EP_HIT, R338 of 09. -/
def A.pktEpHit : Nat := win 0x3 + 0xF08
def F.pktEpHit_count : Fld := ⟨31, 0, .ro, 0x0⟩
def D.pktEpHit : RegDesc := ⟨0x3, 1, 0xF08, [], .cores, [F.pktEpHit_count]⟩

/-- PKT_EP_MISS, R338 of 09. -/
def A.pktEpMiss : Nat := win 0x3 + 0xF0C
def F.pktEpMiss_count : Fld := ⟨31, 0, .ro, 0x0⟩
def D.pktEpMiss : RegDesc := ⟨0x3, 1, 0xF0C, [], .cores, [F.pktEpMiss_count]⟩

/-- PKT_EP_CACHE_MISS, R338 of 09. -/
def A.pktEpCacheMiss : Nat := win 0x3 + 0xF10
def F.pktEpCacheMiss_count : Fld := ⟨31, 0, .ro, 0x0⟩
def D.pktEpCacheMiss : RegDesc := ⟨0x3, 1, 0xF10, [], .cores, [F.pktEpCacheMiss_count]⟩

/-- PKT_EP_READ_ERR, R338 of 09. -/
def A.pktEpReadErr : Nat := win 0x3 + 0xF14
def F.pktEpReadErr_count : Fld := ⟨31, 0, .ro, 0x0⟩
def D.pktEpReadErr : RegDesc := ⟨0x3, 1, 0xF14, [], .cores, [F.pktEpReadErr_count]⟩

/-- PKT_EP_STALL, R338 of 09. -/
def A.pktEpStall : Nat := win 0x3 + 0xF18
def F.pktEpStall_count : Fld := ⟨31, 0, .ro, 0x0⟩
def D.pktEpStall : RegDesc := ⟨0x3, 1, 0xF18, [], .cores, [F.pktEpStall_count]⟩

/-- PKT_RULE_DROP, R338 of 09. -/
def A.pktRuleDrop : Nat := win 0x3 + 0xF1C
def F.pktRuleDrop_count : Fld := ⟨31, 0, .ro, 0x0⟩
def D.pktRuleDrop : RegDesc := ⟨0x3, 1, 0xF1C, [], .cores, [F.pktRuleDrop_count]⟩

/-- PKT_FRAG_NEW, R338 of 09. -/
def A.pktFragNew : Nat := win 0x3 + 0xF20
def F.pktFragNew_count : Fld := ⟨31, 0, .ro, 0x0⟩
def D.pktFragNew : RegDesc := ⟨0x3, 1, 0xF20, [], .cores, [F.pktFragNew_count]⟩

/-- PKT_FRAG_TABLE_FULL, R338 of 09. -/
def A.pktFragTableFull : Nat := win 0x3 + 0xF24
def F.pktFragTableFull_count : Fld := ⟨31, 0, .ro, 0x0⟩
def D.pktFragTableFull : RegDesc := ⟨0x3, 1, 0xF24, [], .cores, [F.pktFragTableFull_count]⟩

/-- PKT_FRAG_HELD, R338 of 09. -/
def A.pktFragHeld : Nat := win 0x3 + 0xF28
def F.pktFragHeld_count : Fld := ⟨31, 0, .ro, 0x0⟩
def D.pktFragHeld : RegDesc := ⟨0x3, 1, 0xF28, [], .cores, [F.pktFragHeld_count]⟩

/-- PKT_FRAG_EXPIRED, R338 of 09. -/
def A.pktFragExpired : Nat := win 0x3 + 0xF2C
def F.pktFragExpired_count : Fld := ⟨31, 0, .ro, 0x0⟩
def D.pktFragExpired : RegDesc := ⟨0x3, 1, 0xF2C, [], .cores, [F.pktFragExpired_count]⟩

/-- PKT_EXC_COUNT_c, R338 of 09. -/
def A.pktExcCount (c : Nat) : Nat := win 0x3 + 0xF40 + 0x8 * c
def F.pktExcCount_count : Fld := ⟨31, 0, .ro, 0x0⟩
def D.pktExcCount : RegDesc := ⟨0x3, 1, 0xF40, [(0x8, 8)], .cores, [F.pktExcCount_count]⟩

/-- PKT_SUMP_RATE_DROP_c, R338 of 09. -/
def A.pktSumpRateDrop (c : Nat) : Nat := win 0x3 + 0xF44 + 0x8 * c
def F.pktSumpRateDrop_count : Fld := ⟨31, 0, .ro, 0x0⟩
def D.pktSumpRateDrop : RegDesc := ⟨0x3, 1, 0xF44, [(0x8, 8)], .cores, [F.pktSumpRateDrop_count]⟩

/-- SCH_CTL, R356 of 10. -/
def A.schCtl : Nat := win 0x4 + 0x0
def F.schCtl_cfg_err : Fld := ⟨31, 31, .w1c, 0x0⟩
def F.schCtl_enable : Fld := ⟨0, 0, .rw, 0x0⟩
def D.schCtl : RegDesc := ⟨0x4, 1, 0x0, [], .cores, [F.schCtl_cfg_err, F.schCtl_enable]⟩

/-- SCH_POOL_CFG, R356 of 10. -/
def A.schPoolCfg : Nat := win 0x4 + 0x10
def F.schPoolCfg_reserve : Fld := ⟨17, 0, .rw, 0x4000⟩
def D.schPoolCfg : RegDesc := ⟨0x4, 1, 0x10, [], .cudom, [F.schPoolCfg_reserve]⟩

/-- SCH_POOL_STATUS, R356 of 10. -/
def A.schPoolStatus : Nat := win 0x4 + 0x14
def F.schPoolStatus_free_cells : Fld := ⟨17, 0, .ro, 0x20000⟩
def D.schPoolStatus : RegDesc := ⟨0x4, 1, 0x14, [], .cores, [F.schPoolStatus_free_cells]⟩

/-- SCH_Q_FLUSH, R356 of 10. -/
def A.schQFlush : Nat := win 0x4 + 0x20
def F.schQFlush_go : Fld := ⟨31, 31, .w1s, 0x0⟩
def F.schQFlush_queue : Fld := ⟨11, 0, .rw, 0x0⟩
def D.schQFlush : RegDesc := ⟨0x4, 1, 0x20, [], .cores, [F.schQFlush_go, F.schQFlush_queue]⟩

/-- SCH_EGRESS_e, R356 of 10. -/
def A.schEgress (e : Nat) : Nat := win 0x4 + 0x100 + 0x4 * e
def F.schEgress_hold : Fld := ⟨8, 8, .rw, 0x0⟩
def F.schEgress_overhead : Fld := ⟨7, 0, .rw, 0x0⟩
def D.schEgress : RegDesc := ⟨0x4, 1, 0x100, [(0x4, 20)], .cores, [F.schEgress_hold, F.schEgress_overhead]⟩

/-- SCH_Q_W0_q, R356 of 10. -/
def A.schQW0 (q : Nat) : Nat := win 0x4 + 0x100000 + 0x20 * q
def F.schQW0_enable : Fld := ⟨31, 31, .rw, 0x0⟩
def F.schQW0_shaper_en : Fld := ⟨30, 30, .rw, 0x0⟩
def F.schQW0_tier : Fld := ⟨28, 26, .rw, 0x0⟩
def F.schQW0_egress : Fld := ⟨25, 21, .rw, 0x0⟩
def F.schQW0_weight : Fld := ⟨7, 0, .rw, 0x1⟩
def D.schQW0 : RegDesc := ⟨0x4, 1, 0x100000, [(0x20, 4096)], .cores, [F.schQW0_enable, F.schQW0_shaper_en, F.schQW0_tier, F.schQW0_egress, F.schQW0_weight]⟩

/-- SCH_Q_W1_q, R356 of 10. -/
def A.schQW1 (q : Nat) : Nat := win 0x4 + 0x100004 + 0x20 * q
def F.schQW1_station : Fld := ⟨27, 16, .rw, 0x0⟩
def D.schQW1 : RegDesc := ⟨0x4, 1, 0x100004, [(0x20, 4096)], .cores, [F.schQW1_station]⟩

/-- SCH_Q_W2_q, R356 of 10. -/
def A.schQW2 (q : Nat) : Nat := win 0x4 + 0x100008 + 0x20 * q
def F.schQW2_q_limit : Fld := ⟨17, 0, .rw, 0x1000⟩
def D.schQW2 : RegDesc := ⟨0x4, 1, 0x100008, [(0x20, 4096)], .cores, [F.schQW2_q_limit]⟩

/-- SCH_Q_W3_q, R356 of 10. -/
def A.schQW3 (q : Nat) : Nat := win 0x4 + 0x10000C + 0x20 * q
def F.schQW3_yellow_limit : Fld := ⟨17, 0, .rw, 0x800⟩
def D.schQW3 : RegDesc := ⟨0x4, 1, 0x10000C, [(0x20, 4096)], .cores, [F.schQW3_yellow_limit]⟩

/-- SCH_Q_W4_q, R356 of 10. -/
def A.schQW4 (q : Nat) : Nat := win 0x4 + 0x100010 + 0x20 * q
def F.schQW4_idle_slope : Fld := ⟨23, 0, .rw, 0x0⟩
def D.schQW4 : RegDesc := ⟨0x4, 1, 0x100010, [(0x20, 4096)], .cores, [F.schQW4_idle_slope]⟩

/-- SCH_Q_W5_q, R356 of 10. -/
def A.schQW5 (q : Nat) : Nat := win 0x4 + 0x100014 + 0x20 * q
def F.schQW5_hi_credit : Fld := ⟨23, 0, .rw, 0x2400⟩
def D.schQW5 : RegDesc := ⟨0x4, 1, 0x100014, [(0x20, 4096)], .cores, [F.schQW5_hi_credit]⟩

/-- SCH_Q_W6_q, R356 of 10. -/
def A.schQW6 (q : Nat) : Nat := win 0x4 + 0x100018 + 0x20 * q
def F.schQW6_credit : Fld := ⟨31, 0, .ro, 0x0⟩
def D.schQW6 : RegDesc := ⟨0x4, 1, 0x100018, [(0x20, 4096)], .cores, [F.schQW6_credit]⟩

/-- SCH_Q_W7_q, R356 of 10. -/
def A.schQW7 (q : Nat) : Nat := win 0x4 + 0x10001C + 0x20 * q
def F.schQW7_backlogged : Fld := ⟨31, 31, .ro, 0x0⟩
def F.schQW7_eligible : Fld := ⟨30, 30, .ro, 0x0⟩
def F.schQW7_backlog : Fld := ⟨17, 0, .ro, 0x0⟩
def D.schQW7 : RegDesc := ⟨0x4, 1, 0x10001C, [(0x20, 4096)], .cores, [F.schQW7_backlogged, F.schQW7_eligible, F.schQW7_backlog]⟩

/-- SCH_MTR_W0_m, R356 of 10. -/
def A.schMtrW0 (m : Nat) : Nat := win 0x4 + 0x200000 + 0x20 * m
def F.schMtrW0_yellow_drop : Fld := ⟨30, 30, .rw, 0x0⟩
def F.schMtrW0_red_drop : Fld := ⟨29, 29, .rw, 0x1⟩
def F.schMtrW0_colour_src : Fld := ⟨28, 28, .rw, 0x0⟩
def F.schMtrW0_cir : Fld := ⟨23, 0, .rw, 0x0⟩
def D.schMtrW0 : RegDesc := ⟨0x4, 1, 0x200000, [(0x20, 16384)], .cores, [F.schMtrW0_yellow_drop, F.schMtrW0_red_drop, F.schMtrW0_colour_src, F.schMtrW0_cir]⟩

/-- SCH_MTR_W1_m, R356 of 10. -/
def A.schMtrW1 (m : Nat) : Nat := win 0x4 + 0x200004 + 0x20 * m
def F.schMtrW1_pir : Fld := ⟨23, 0, .rw, 0x0⟩
def D.schMtrW1 : RegDesc := ⟨0x4, 1, 0x200004, [(0x20, 16384)], .cores, [F.schMtrW1_pir]⟩

/-- SCH_MTR_W2_m, R356 of 10. -/
def A.schMtrW2 (m : Nat) : Nat := win 0x4 + 0x200008 + 0x20 * m
def F.schMtrW2_cbs : Fld := ⟨23, 0, .rw, 0x0⟩
def D.schMtrW2 : RegDesc := ⟨0x4, 1, 0x200008, [(0x20, 16384)], .cores, [F.schMtrW2_cbs]⟩

/-- SCH_MTR_W3_m, R356 of 10. -/
def A.schMtrW3 (m : Nat) : Nat := win 0x4 + 0x20000C + 0x20 * m
def F.schMtrW3_pbs : Fld := ⟨23, 0, .rw, 0x0⟩
def D.schMtrW3 : RegDesc := ⟨0x4, 1, 0x20000C, [(0x20, 16384)], .cores, [F.schMtrW3_pbs]⟩

/-- SCH_MTR_W4_m, R356 of 10. -/
def A.schMtrW4 (m : Nat) : Nat := win 0x4 + 0x200010 + 0x20 * m
def F.schMtrW4_tc : Fld := ⟨23, 0, .ro, 0x0⟩
def D.schMtrW4 : RegDesc := ⟨0x4, 1, 0x200010, [(0x20, 16384)], .cores, [F.schMtrW4_tc]⟩

/-- SCH_MTR_W5_m, R356 of 10. -/
def A.schMtrW5 (m : Nat) : Nat := win 0x4 + 0x200014 + 0x20 * m
def F.schMtrW5_tp : Fld := ⟨23, 0, .ro, 0x0⟩
def D.schMtrW5 : RegDesc := ⟨0x4, 1, 0x200014, [(0x20, 16384)], .cores, [F.schMtrW5_tp]⟩

/-- SCH_MTR_W6_m, R356 of 10. -/
def A.schMtrW6 (m : Nat) : Nat := win 0x4 + 0x200018 + 0x20 * m
def D.schMtrW6 : RegDesc := ⟨0x4, 1, 0x200018, [(0x20, 16384)], .cores, []⟩

/-- SCH_MTR_W7_m, R356 of 10. -/
def A.schMtrW7 (m : Nat) : Nat := win 0x4 + 0x20001C + 0x20 * m
def D.schMtrW7 : RegDesc := ⟨0x4, 1, 0x20001C, [(0x20, 16384)], .cores, []⟩

/-- SCH_DROP_MGMT_Q, R357 of 10. -/
def A.schDropMgmtQ : Nat := win 0x4 + 0xF00
def F.schDropMgmtQ_count : Fld := ⟨31, 0, .ro, 0x0⟩
def D.schDropMgmtQ : RegDesc := ⟨0x4, 1, 0xF00, [], .cores, [F.schDropMgmtQ_count]⟩

/-- SCH_DROP_DISABLED, R357 of 10. -/
def A.schDropDisabled : Nat := win 0x4 + 0xF04
def F.schDropDisabled_count : Fld := ⟨31, 0, .ro, 0x0⟩
def D.schDropDisabled : RegDesc := ⟨0x4, 1, 0xF04, [], .cores, [F.schDropDisabled_count]⟩

/-- SCH_DROP_METER, R357 of 10. -/
def A.schDropMeter : Nat := win 0x4 + 0xF08
def F.schDropMeter_count : Fld := ⟨31, 0, .ro, 0x0⟩
def D.schDropMeter : RegDesc := ⟨0x4, 1, 0xF08, [], .cores, [F.schDropMeter_count]⟩

/-- SCH_DROP_QLIMIT, R357 of 10. -/
def A.schDropQlimit : Nat := win 0x4 + 0xF0C
def F.schDropQlimit_count : Fld := ⟨31, 0, .ro, 0x0⟩
def D.schDropQlimit : RegDesc := ⟨0x4, 1, 0xF0C, [], .cores, [F.schDropQlimit_count]⟩

/-- SCH_DROP_STORE, R357 of 10. -/
def A.schDropStore : Nat := win 0x4 + 0xF10
def F.schDropStore_count : Fld := ⟨31, 0, .ro, 0x0⟩
def D.schDropStore : RegDesc := ⟨0x4, 1, 0xF10, [], .cores, [F.schDropStore_count]⟩

/-- SCH_FLUSHED, R357 of 10. -/
def A.schFlushed : Nat := win 0x4 + 0xF14
def F.schFlushed_count : Fld := ⟨31, 0, .ro, 0x0⟩
def D.schFlushed : RegDesc := ⟨0x4, 1, 0xF14, [], .cores, [F.schFlushed_count]⟩

/-- SCH_CDM_HOLD, R357 of 10. -/
def A.schCdmHold : Nat := win 0x4 + 0xF18
def F.schCdmHold_count : Fld := ⟨31, 0, .ro, 0x0⟩
def D.schCdmHold : RegDesc := ⟨0x4, 1, 0xF18, [], .cores, [F.schCdmHold_count]⟩

/-- SCH_QC_ENQ_q, R357 of 10. -/
def A.schQcEnq (q : Nat) : Nat := win 0x4 + 0x300000 + 0x20 * q
def F.schQcEnq_count : Fld := ⟨31, 0, .ro, 0x0⟩
def D.schQcEnq : RegDesc := ⟨0x4, 1, 0x300000, [(0x20, 4096)], .cores, [F.schQcEnq_count]⟩

/-- SCH_QC_DEQ_q, R357 of 10. -/
def A.schQcDeq (q : Nat) : Nat := win 0x4 + 0x300004 + 0x20 * q
def F.schQcDeq_count : Fld := ⟨31, 0, .ro, 0x0⟩
def D.schQcDeq : RegDesc := ⟨0x4, 1, 0x300004, [(0x20, 4096)], .cores, [F.schQcDeq_count]⟩

/-- SCH_QC_DROP_GREEN_q, R357 of 10. -/
def A.schQcDropGreen (q : Nat) : Nat := win 0x4 + 0x300008 + 0x20 * q
def F.schQcDropGreen_count : Fld := ⟨31, 0, .ro, 0x0⟩
def D.schQcDropGreen : RegDesc := ⟨0x4, 1, 0x300008, [(0x20, 4096)], .cores, [F.schQcDropGreen_count]⟩

/-- SCH_QC_DROP_YELLOW_q, R357 of 10. -/
def A.schQcDropYellow (q : Nat) : Nat := win 0x4 + 0x30000C + 0x20 * q
def F.schQcDropYellow_count : Fld := ⟨31, 0, .ro, 0x0⟩
def D.schQcDropYellow : RegDesc := ⟨0x4, 1, 0x30000C, [(0x20, 4096)], .cores, [F.schQcDropYellow_count]⟩

/-- SCH_QC_DROP_RED_q, R357 of 10. -/
def A.schQcDropRed (q : Nat) : Nat := win 0x4 + 0x300010 + 0x20 * q
def F.schQcDropRed_count : Fld := ⟨31, 0, .ro, 0x0⟩
def D.schQcDropRed : RegDesc := ⟨0x4, 1, 0x300010, [(0x20, 4096)], .cores, [F.schQcDropRed_count]⟩

/-- SCH_QC_FLUSH_q, R357 of 10. -/
def A.schQcFlush (q : Nat) : Nat := win 0x4 + 0x300014 + 0x20 * q
def F.schQcFlush_count : Fld := ⟨31, 0, .ro, 0x0⟩
def D.schQcFlush : RegDesc := ⟨0x4, 1, 0x300014, [(0x20, 4096)], .cores, [F.schQcFlush_count]⟩

/-- SCH_HIST_q_b, R357 of 10. -/
def A.schHist (q b : Nat) : Nat := win 0x4 + 0x400000 + 0x40 * q + 0x4 * b
def F.schHist_count : Fld := ⟨31, 0, .ro, 0x0⟩
def D.schHist : RegDesc := ⟨0x4, 1, 0x400000, [(0x40, 4096), (0x4, 16)], .cores, [F.schHist_count]⟩

/-- lnq_PLL_CTL, R394 of 11. -/
def A.lnqPllCtl (lnq : Nat) : Nat := win (0xD + lnq) + 0x0
def F.lnqPllCtl_lock_b : Fld := ⟨17, 17, .ro, 0x0⟩
def F.lnqPllCtl_lock_a : Fld := ⟨16, 16, .ro, 0x0⟩
def F.lnqPllCtl_en_b : Fld := ⟨11, 11, .rw, 0x0⟩
def F.lnqPllCtl_rate_b : Fld := ⟨10, 8, .rw, 0x0⟩
def F.lnqPllCtl_en_a : Fld := ⟨3, 3, .rw, 0x0⟩
def F.lnqPllCtl_rate_a : Fld := ⟨2, 0, .rw, 0x0⟩
def D.lnqPllCtl : RegDesc := ⟨0xD, 4, 0x0, [], .cudom, [F.lnqPllCtl_lock_b, F.lnqPllCtl_lock_a, F.lnqPllCtl_en_b, F.lnqPllCtl_rate_b, F.lnqPllCtl_en_a, F.lnqPllCtl_rate_a]⟩

/-- lnq_CTL, R394 of 11. -/
def A.lnqCtl (lnq : Nat) : Nat := win (0xD + lnq) + 0x4
def F.lnqCtl_cfg_err : Fld := ⟨31, 31, .w1c, 0x0⟩
def F.lnqCtl_cfg_reason : Fld := ⟨30, 28, .ro, 0x0⟩
def D.lnqCtl : RegDesc := ⟨0xD, 4, 0x4, [], .cores, [F.lnqCtl_cfg_err, F.lnqCtl_cfg_reason]⟩

/-- lnq_LANE_CFG_l, R394 of 11. -/
def A.lnqLaneCfg (lnq l : Nat) : Nat := win (0xD + lnq) + 0x10 + 0x4 * l
def F.lnqLaneCfg_pll_sel : Fld := ⟨24, 24, .rw, 0x0⟩
def F.lnqLaneCfg_tx_invert : Fld := ⟨20, 20, .rw, 0x0⟩
def F.lnqLaneCfg_rx_invert : Fld := ⟨19, 19, .rw, 0x0⟩
def F.lnqLaneCfg_tx_amp : Fld := ⟨15, 12, .rw, 0x8⟩
def F.lnqLaneCfg_tx_pre : Fld := ⟨11, 8, .rw, 0x0⟩
def F.lnqLaneCfg_tx_post : Fld := ⟨7, 4, .rw, 0x2⟩
def F.lnqLaneCfg_rx_eq : Fld := ⟨3, 0, .rw, 0x0⟩
def D.lnqLaneCfg : RegDesc := ⟨0xD, 4, 0x10, [(0x4, 4)], .cudom, [F.lnqLaneCfg_pll_sel, F.lnqLaneCfg_tx_invert, F.lnqLaneCfg_rx_invert, F.lnqLaneCfg_tx_amp, F.lnqLaneCfg_tx_pre, F.lnqLaneCfg_tx_post, F.lnqLaneCfg_rx_eq]⟩

/-- lnq_LANE_STATUS_l, R394 of 11. -/
def A.lnqLaneStatus (lnq l : Nat) : Nat := win (0xD + lnq) + 0x20 + 0x4 * l
def F.lnqLaneStatus_signal : Fld := ⟨7, 7, .ro, 0x0⟩
def F.lnqLaneStatus_cdr_lock : Fld := ⟨6, 6, .ro, 0x0⟩
def F.lnqLaneStatus_sym_lock : Fld := ⟨5, 5, .ro, 0x0⟩
def F.lnqLaneStatus_rx_inverted : Fld := ⟨4, 4, .ro, 0x0⟩
def F.lnqLaneStatus_in_use : Fld := ⟨3, 3, .ro, 0x0⟩
def F.lnqLaneStatus_tx_idle_e : Fld := ⟨2, 2, .ro, 0x0⟩
def F.lnqLaneStatus_rx_idle_e : Fld := ⟨1, 1, .ro, 0x0⟩
def F.lnqLaneStatus_bad : Fld := ⟨0, 0, .ro, 0x0⟩
def D.lnqLaneStatus : RegDesc := ⟨0xD, 4, 0x20, [(0x4, 4)], .cores, [F.lnqLaneStatus_signal, F.lnqLaneStatus_cdr_lock, F.lnqLaneStatus_sym_lock, F.lnqLaneStatus_rx_inverted, F.lnqLaneStatus_in_use, F.lnqLaneStatus_tx_idle_e, F.lnqLaneStatus_rx_idle_e, F.lnqLaneStatus_bad]⟩

/-- lnq_LANE_TEST_l, R394 of 11. -/
def A.lnqLaneTest (lnq l : Nat) : Nat := win (0xD + lnq) + 0x30 + 0x4 * l
def F.lnqLaneTest_loop : Fld := ⟨31, 30, .rw, 0x0⟩
def F.lnqLaneTest_prbs_gen : Fld := ⟨29, 28, .rw, 0x0⟩
def F.lnqLaneTest_prbs_chk : Fld := ⟨27, 26, .rw, 0x0⟩
def F.lnqLaneTest_chk_lock : Fld := ⟨25, 25, .ro, 0x0⟩
def F.lnqLaneTest_chk_err : Fld := ⟨23, 0, .ro, 0x0⟩
def D.lnqLaneTest : RegDesc := ⟨0xD, 4, 0x30, [(0x4, 4)], .cudom, [F.lnqLaneTest_loop, F.lnqLaneTest_prbs_gen, F.lnqLaneTest_prbs_chk, F.lnqLaneTest_chk_lock, F.lnqLaneTest_chk_err]⟩

/-- lnq_PORT_CFG_m, R394 of 11. -/
def A.lnqPortCfg (lnq m : Nat) : Nat := win (0xD + lnq) + 0x100 + 0x40 * m
def F.lnqPortCfg_enable : Fld := ⟨31, 31, .rw, 0x0⟩
def F.lnqPortCfg_mode : Fld := ⟨30, 28, .rw, 0x0⟩
def F.lnqPortCfg_width : Fld := ⟨27, 26, .rw, 0x0⟩
def F.lnqPortCfg_an_en : Fld := ⟨25, 25, .rw, 0x1⟩
def F.lnqPortCfg_cuff : Fld := ⟨23, 21, .rw, 0x0⟩
def F.lnqPortCfg_max_len : Fld := ⟨13, 0, .rw, 0x5F2⟩
def D.lnqPortCfg : RegDesc := ⟨0xD, 4, 0x100, [(0x40, 4)], .cores, [F.lnqPortCfg_enable, F.lnqPortCfg_mode, F.lnqPortCfg_width, F.lnqPortCfg_an_en, F.lnqPortCfg_cuff, F.lnqPortCfg_max_len]⟩

/-- lnq_PORT_STATUS_m, R394 of 11. -/
def A.lnqPortStatus (lnq m : Nat) : Nat := win (0xD + lnq) + 0x104 + 0x40 * m
def F.lnqPortStatus_link_up : Fld := ⟨31, 31, .ro, 0x0⟩
def F.lnqPortStatus_speed : Fld := ⟨30, 29, .ro, 0x2⟩
def F.lnqPortStatus_remote_fault : Fld := ⟨28, 28, .ro, 0x0⟩
def F.lnqPortStatus_local_fault : Fld := ⟨27, 27, .ro, 0x0⟩
def F.lnqPortStatus_duplex_err : Fld := ⟨26, 26, .ro, 0x0⟩
def F.lnqPortStatus_an_done : Fld := ⟨25, 25, .ro, 0x0⟩
def F.lnqPortStatus_partner_pause : Fld := ⟨24, 23, .ro, 0x0⟩
def F.lnqPortStatus_holdoff : Fld := ⟨22, 22, .ro, 0x0⟩
def F.lnqPortStatus_kl_state : Fld := ⟨21, 19, .ro, 0x0⟩
def F.lnqPortStatus_kl_width : Fld := ⟨18, 17, .ro, 0x0⟩
def F.lnqPortStatus_kl_rate : Fld := ⟨16, 14, .ro, 0x0⟩
def F.lnqPortStatus_kl_rev : Fld := ⟨13, 12, .ro, 0x0⟩
def D.lnqPortStatus : RegDesc := ⟨0xD, 4, 0x104, [(0x40, 4)], .cores, [F.lnqPortStatus_link_up, F.lnqPortStatus_speed, F.lnqPortStatus_remote_fault, F.lnqPortStatus_local_fault, F.lnqPortStatus_duplex_err, F.lnqPortStatus_an_done, F.lnqPortStatus_partner_pause, F.lnqPortStatus_holdoff, F.lnqPortStatus_kl_state, F.lnqPortStatus_kl_width, F.lnqPortStatus_kl_rate, F.lnqPortStatus_kl_rev]⟩

/-- lnq_PORT_PAUSE_m, R394 of 11. -/
def A.lnqPortPause (lnq m : Nat) : Nat := win (0xD + lnq) + 0x108 + 0x40 * m
def F.lnqPortPause_rx_en : Fld := ⟨31, 31, .rw, 0x1⟩
def F.lnqPortPause_tx_en : Fld := ⟨30, 30, .rw, 0x0⟩
def F.lnqPortPause_pause_max : Fld := ⟨15, 8, .rw, 0x5⟩
def F.lnqPortPause_budget : Fld := ⟨7, 0, .rw, 0x14⟩
def D.lnqPortPause : RegDesc := ⟨0xD, 4, 0x108, [(0x40, 4)], .cores, [F.lnqPortPause_rx_en, F.lnqPortPause_tx_en, F.lnqPortPause_pause_max, F.lnqPortPause_budget]⟩

/-- lnq_PORT_FLOW_m, R394 of 11. -/
def A.lnqPortFlow (lnq m : Nat) : Nat := win (0xD + lnq) + 0x10C + 0x40 * m
def F.lnqPortFlow_xoff : Fld := ⟨23, 16, .rw, 0xC0⟩
def F.lnqPortFlow_xon : Fld := ⟨7, 0, .rw, 0x80⟩
def D.lnqPortFlow : RegDesc := ⟨0xD, 4, 0x10C, [(0x40, 4)], .cores, [F.lnqPortFlow_xoff, F.lnqPortFlow_xon]⟩

/-- lnq_PORT_TX_m, R394 of 11. -/
def A.lnqPortTx (lnq m : Nat) : Nat := win (0xD + lnq) + 0x110 + 0x40 * m
def F.lnqPortTx_thresh_reset : Fld := ⟨31, 31, .w1s, 0x0⟩
def F.lnqPortTx_start_thresh : Fld := ⟨13, 0, .ro, 0x200⟩
def D.lnqPortTx : RegDesc := ⟨0xD, 4, 0x110, [(0x40, 4)], .cores, [F.lnqPortTx_thresh_reset, F.lnqPortTx_start_thresh]⟩

/-- lnq_KL_CTL_m, R394 of 11. -/
def A.lnqKlCtl (lnq m : Nat) : Nat := win (0xD + lnq) + 0x114 + 0x40 * m
def F.lnqKlCtl_thrift_en : Fld := ⟨31, 31, .rw, 0x0⟩
def F.lnqKlCtl_idle_e_en : Fld := ⟨30, 30, .rw, 0x1⟩
def F.lnqKlCtl_deep_req : Fld := ⟨29, 29, .rw, 0x0⟩
def F.lnqKlCtl_floor_width : Fld := ⟨28, 27, .rw, 0x0⟩
def F.lnqKlCtl_floor_rate : Fld := ⟨26, 24, .rw, 0x0⟩
def F.lnqKlCtl_max_rate : Fld := ⟨23, 21, .rw, 0x6⟩
def F.lnqKlCtl_lane_err_max : Fld := ⟨20, 16, .rw, 0x10⟩
def F.lnqKlCtl_deep_idle : Fld := ⟨15, 8, .rw, 0xA⟩
def F.lnqKlCtl_lp_idle : Fld := ⟨7, 0, .rw, 0x64⟩
def D.lnqKlCtl : RegDesc := ⟨0xD, 4, 0x114, [(0x40, 4)], .cores, [F.lnqKlCtl_thrift_en, F.lnqKlCtl_idle_e_en, F.lnqKlCtl_deep_req, F.lnqKlCtl_floor_width, F.lnqKlCtl_floor_rate, F.lnqKlCtl_max_rate, F.lnqKlCtl_lane_err_max, F.lnqKlCtl_deep_idle, F.lnqKlCtl_lp_idle]⟩

/-- lnq_KL_THRIFT_m, R394 of 11. -/
def A.lnqKlThrift (lnq m : Nat) : Nat := win (0xD + lnq) + 0x118 + 0x40 * m
def F.lnqKlThrift_thrift_lo : Fld := ⟨31, 24, .rw, 0x28⟩
def F.lnqKlThrift_thrift_hi : Fld := ⟨23, 16, .rw, 0x50⟩
def F.lnqKlThrift_dwell : Fld := ⟨15, 8, .rw, 0xA⟩
def F.lnqKlThrift_up_cells : Fld := ⟨7, 0, .rw, 0x4⟩
def D.lnqKlThrift : RegDesc := ⟨0xD, 4, 0x118, [(0x40, 4)], .cores, [F.lnqKlThrift_thrift_lo, F.lnqKlThrift_thrift_hi, F.lnqKlThrift_dwell, F.lnqKlThrift_up_cells]⟩

/-- lnq_CNT_HALF_LO_m, R394 of 11. -/
def A.lnqCntHalfLo (lnq m : Nat) : Nat := win (0xD + lnq) + 0x120 + 0x40 * m
def F.lnqCntHalfLo_half_lo : Fld := ⟨31, 0, .w1c, 0x0⟩
def D.lnqCntHalfLo : RegDesc := ⟨0xD, 4, 0x120, [(0x40, 4)], .cores, [F.lnqCntHalfLo_half_lo]⟩

/-- lnq_CNT_HALF_HI_m, R394 of 11. -/
def A.lnqCntHalfHi (lnq m : Nat) : Nat := win (0xD + lnq) + 0x124 + 0x40 * m
def F.lnqCntHalfHi_half_hi : Fld := ⟨9, 0, .w1c, 0x0⟩
def D.lnqCntHalfHi : RegDesc := ⟨0xD, 4, 0x124, [(0x40, 4)], .cores, [F.lnqCntHalfHi_half_hi]⟩

/-- lnq_PORT_IRQ_m, R394 of 11. -/
def A.lnqPortIrq (lnq m : Nat) : Nat := win (0xD + lnq) + 0x12C + 0x40 * m
def F.lnqPortIrq_half_en : Fld := ⟨17, 17, .rw, 0x0⟩
def F.lnqPortIrq_link_en : Fld := ⟨16, 16, .rw, 0x0⟩
def F.lnqPortIrq_half : Fld := ⟨1, 1, .ro, 0x0⟩
def F.lnqPortIrq_link_change : Fld := ⟨0, 0, .w1c, 0x0⟩
def D.lnqPortIrq : RegDesc := ⟨0xD, 4, 0x12C, [(0x40, 4)], .cores, [F.lnqPortIrq_half_en, F.lnqPortIrq_link_en, F.lnqPortIrq_half, F.lnqPortIrq_link_change]⟩

/-- lnq_LANE_CODE_ERR_l, R395 of 11. -/
def A.lnqLaneCodeErr (lnq l : Nat) : Nat := win (0xD + lnq) + 0xF00 + 0x8 * l
def F.lnqLaneCodeErr_count : Fld := ⟨31, 0, .ro, 0x0⟩
def D.lnqLaneCodeErr : RegDesc := ⟨0xD, 4, 0xF00, [(0x8, 4)], .cores, [F.lnqLaneCodeErr_count]⟩

/-- lnq_LANE_DISP_ERR_l, R395 of 11. -/
def A.lnqLaneDispErr (lnq l : Nat) : Nat := win (0xD + lnq) + 0xF04 + 0x8 * l
def F.lnqLaneDispErr_count : Fld := ⟨31, 0, .ro, 0x0⟩
def D.lnqLaneDispErr : RegDesc := ⟨0xD, 4, 0xF04, [(0x8, 4)], .cores, [F.lnqLaneDispErr_count]⟩

/-- lnq_AN_RESTART_m, R395 of 11. -/
def A.lnqAnRestart (lnq m : Nat) : Nat := win (0xD + lnq) + 0xF40 + 0x20 * m
def F.lnqAnRestart_count : Fld := ⟨31, 0, .ro, 0x0⟩
def D.lnqAnRestart : RegDesc := ⟨0xD, 4, 0xF40, [(0x20, 4)], .cores, [F.lnqAnRestart_count]⟩

/-- lnq_KL_RETRAIN_m, R395 of 11. -/
def A.lnqKlRetrain (lnq m : Nat) : Nat := win (0xD + lnq) + 0xF44 + 0x20 * m
def F.lnqKlRetrain_count : Fld := ⟨31, 0, .ro, 0x0⟩
def D.lnqKlRetrain : RegDesc := ⟨0xD, 4, 0xF44, [(0x20, 4)], .cores, [F.lnqKlRetrain_count]⟩

/-- lnq_KL_THRIFT_DOWN_m, R395 of 11. -/
def A.lnqKlThriftDown (lnq m : Nat) : Nat := win (0xD + lnq) + 0xF48 + 0x20 * m
def F.lnqKlThriftDown_count : Fld := ⟨31, 0, .ro, 0x0⟩
def D.lnqKlThriftDown : RegDesc := ⟨0xD, 4, 0xF48, [(0x20, 4)], .cores, [F.lnqKlThriftDown_count]⟩

/-- lnq_KL_THRIFT_UP_m, R395 of 11. -/
def A.lnqKlThriftUp (lnq m : Nat) : Nat := win (0xD + lnq) + 0xF4C + 0x20 * m
def F.lnqKlThriftUp_count : Fld := ⟨31, 0, .ro, 0x0⟩
def D.lnqKlThriftUp : RegDesc := ⟨0xD, 4, 0xF4C, [(0x20, 4)], .cores, [F.lnqKlThriftUp_count]⟩

/-- lnq_KL_RATE_FAIL_m, R395 of 11. -/
def A.lnqKlRateFail (lnq m : Nat) : Nat := win (0xD + lnq) + 0xF50 + 0x20 * m
def F.lnqKlRateFail_count : Fld := ⟨31, 0, .ro, 0x0⟩
def D.lnqKlRateFail : RegDesc := ⟨0xD, 4, 0xF50, [(0x20, 4)], .cores, [F.lnqKlRateFail_count]⟩

/-- lnq_KL_LANE_DROP_m, R395 of 11. -/
def A.lnqKlLaneDrop (lnq m : Nat) : Nat := win (0xD + lnq) + 0xF54 + 0x20 * m
def F.lnqKlLaneDrop_count : Fld := ⟨31, 0, .ro, 0x0⟩
def D.lnqKlLaneDrop : RegDesc := ⟨0xD, 4, 0xF54, [(0x20, 4)], .cores, [F.lnqKlLaneDrop_count]⟩

/-- lnq_PORT_HOLDOFF_m, R395 of 11. -/
def A.lnqPortHoldoff (lnq m : Nat) : Nat := win (0xD + lnq) + 0xF58 + 0x20 * m
def F.lnqPortHoldoff_count : Fld := ⟨31, 0, .ro, 0x0⟩
def D.lnqPortHoldoff : RegDesc := ⟨0xD, 4, 0xF58, [(0x20, 4)], .cores, [F.lnqPortHoldoff_count]⟩

/-- lnq_MAC_CNT_m_n, R393 of 11. -/
def A.lnqMacCnt (lnq m n : Nat) : Nat := win (0xD + lnq) + 0x10000 + 0x200 * m + 0x4 * n
def F.lnqMacCnt_count : Fld := ⟨31, 0, .ro, 0x0⟩
def D.lnqMacCnt : RegDesc := ⟨0xD, 4, 0x10000, [(0x200, 4), (0x4, 42)], .cores, [F.lnqMacCnt_count]⟩

end Sys2Proof.Machine
end

