-- ==== Sys2Proof/Machine/RegMapD.lean ====
section
/-!
DEFINITION. The register map: every register of the spec's register tables, its address, its fields with
their access codes and reset values (R14, R18), and who may write it. The rows follow the register tables of
the chapters in their order. `A.x` is the address of register x, `F.x_f` its field f, `D.x` its row.
-/

namespace Sys2Proof.Machine

/-- DMA_CTL, R455 of 13. -/
def A.dmaCtl : Nat := win 0x9 + 0x0
def F.dmaCtl_mgmt_fifo : Fld := ⟨23, 16, .rw, 0x40⟩
def F.dmaCtl_age_limit : Fld := ⟨7, 0, .rw, 0x10⟩
def D.dmaCtl : RegDesc := ⟨0x9, 1, 0x0, [], .any, [F.dmaCtl_mgmt_fifo, F.dmaCtl_age_limit]⟩

/-- DMA_CH_CTL_c, R455 of 13. -/
def A.dmaChCtl (c : Nat) : Nat := win 0x9 + 0x1000 + 0x40 * c
def F.dmaChCtl_enable : Fld := ⟨31, 31, .rw, 0x0⟩
def F.dmaChCtl_kick : Fld := ⟨30, 30, .w1s, 0x0⟩
def F.dmaChCtl_prio : Fld := ⟨29, 28, .rw, 0x0⟩
def F.dmaChCtl_max_burst : Fld := ⟨27, 26, .rw, 0x3⟩
def F.dmaChCtl_done_irq_en : Fld := ⟨24, 24, .rw, 0x0⟩
def F.dmaChCtl_err_irq_en : Fld := ⟨23, 23, .rw, 0x1⟩
def F.dmaChCtl_periph : Fld := ⟨22, 16, .rw, 0x0⟩
def F.dmaChCtl_size : Fld := ⟨12, 0, .rw, 0x0⟩
def D.dmaChCtl : RegDesc := ⟨0x9, 1, 0x1000, [(0x40, 64)], .any, [F.dmaChCtl_enable, F.dmaChCtl_kick, F.dmaChCtl_prio, F.dmaChCtl_max_burst, F.dmaChCtl_done_irq_en, F.dmaChCtl_err_irq_en, F.dmaChCtl_periph, F.dmaChCtl_size]⟩

/-- DMA_CH_BASE_LO_c, R455 of 13. -/
def A.dmaChBaseLo (c : Nat) : Nat := win 0x9 + 0x1004 + 0x40 * c
def F.dmaChBaseLo_base_lo : Fld := ⟨31, 0, .rw, 0x0⟩
def D.dmaChBaseLo : RegDesc := ⟨0x9, 1, 0x1004, [(0x40, 64)], .any, [F.dmaChBaseLo_base_lo]⟩

/-- DMA_CH_BASE_HI_c, R455 of 13. -/
def A.dmaChBaseHi (c : Nat) : Nat := win 0x9 + 0x1008 + 0x40 * c
def F.dmaChBaseHi_base_hi : Fld := ⟨7, 0, .rw, 0x0⟩
def D.dmaChBaseHi : RegDesc := ⟨0x9, 1, 0x1008, [(0x40, 64)], .any, [F.dmaChBaseHi_base_hi]⟩

/-- DMA_CH_CUR_LO_c, R455 of 13. -/
def A.dmaChCurLo (c : Nat) : Nat := win 0x9 + 0x100C + 0x40 * c
def F.dmaChCurLo_cur_lo : Fld := ⟨31, 0, .ro, 0x0⟩
def D.dmaChCurLo : RegDesc := ⟨0x9, 1, 0x100C, [(0x40, 64)], .any, [F.dmaChCurLo_cur_lo]⟩

/-- DMA_CH_CUR_HI_c, R455 of 13. -/
def A.dmaChCurHi (c : Nat) : Nat := win 0x9 + 0x1010 + 0x40 * c
def F.dmaChCurHi_cur_hi : Fld := ⟨7, 0, .ro, 0x0⟩
def D.dmaChCurHi : RegDesc := ⟨0x9, 1, 0x1010, [(0x40, 64)], .any, [F.dmaChCurHi_cur_hi]⟩

/-- DMA_CH_STATUS_c, R455 of 13. -/
def A.dmaChStatus (c : Nat) : Nat := win 0x9 + 0x1014 + 0x40 * c
def F.dmaChStatus_halted : Fld := ⟨31, 31, .ro, 0x0⟩
def F.dmaChStatus_err_code : Fld := ⟨30, 28, .ro, 0x0⟩
def F.dmaChStatus_err_phase : Fld := ⟨27, 26, .ro, 0x0⟩
def F.dmaChStatus_active : Fld := ⟨25, 25, .ro, 0x0⟩
def F.dmaChStatus_idle : Fld := ⟨24, 24, .ro, 0x0⟩
def F.dmaChStatus_done : Fld := ⟨23, 23, .w1c, 0x0⟩
def F.dmaChStatus_hops : Fld := ⟨6, 0, .ro, 0x0⟩
def D.dmaChStatus : RegDesc := ⟨0x9, 1, 0x1014, [(0x40, 64)], .any, [F.dmaChStatus_halted, F.dmaChStatus_err_code, F.dmaChStatus_err_phase, F.dmaChStatus_active, F.dmaChStatus_idle, F.dmaChStatus_done, F.dmaChStatus_hops]⟩

/-- DMA_CH_ERR_LO_c, R455 of 13. -/
def A.dmaChErrLo (c : Nat) : Nat := win 0x9 + 0x1018 + 0x40 * c
def F.dmaChErrLo_err_lo : Fld := ⟨31, 0, .ro, 0x0⟩
def D.dmaChErrLo : RegDesc := ⟨0x9, 1, 0x1018, [(0x40, 64)], .any, [F.dmaChErrLo_err_lo]⟩

/-- DMA_CH_ERR_HI_c, R455 of 13. -/
def A.dmaChErrHi (c : Nat) : Nat := win 0x9 + 0x101C + 0x40 * c
def F.dmaChErrHi_err_hi : Fld := ⟨7, 0, .ro, 0x0⟩
def D.dmaChErrHi : RegDesc := ⟨0x9, 1, 0x101C, [(0x40, 64)], .any, [F.dmaChErrHi_err_hi]⟩

/-- DMA_CH_DESC_DONE_c, R456 of 13. -/
def A.dmaChDescDone (c : Nat) : Nat := win 0x9 + 0x1020 + 0x40 * c
def F.dmaChDescDone_count : Fld := ⟨31, 0, .ro, 0x0⟩
def D.dmaChDescDone : RegDesc := ⟨0x9, 1, 0x1020, [(0x40, 64)], .any, [F.dmaChDescDone_count]⟩

/-- DMA_CH_RX_NO_BUFFER_c, R456 of 13. -/
def A.dmaChRxNoBuffer (c : Nat) : Nat := win 0x9 + 0x1024 + 0x40 * c
def F.dmaChRxNoBuffer_count : Fld := ⟨31, 0, .ro, 0x0⟩
def D.dmaChRxNoBuffer : RegDesc := ⟨0x9, 1, 0x1024, [(0x40, 64)], .any, [F.dmaChRxNoBuffer_count]⟩

/-- DMA_CH_RX_FIFO_DROP_c, R456 of 13. -/
def A.dmaChRxFifoDrop (c : Nat) : Nat := win 0x9 + 0x1028 + 0x40 * c
def F.dmaChRxFifoDrop_count : Fld := ⟨31, 0, .ro, 0x0⟩
def D.dmaChRxFifoDrop : RegDesc := ⟨0x9, 1, 0x1028, [(0x40, 64)], .any, [F.dmaChRxFifoDrop_count]⟩

/-- DMA_CH_SHORT_c, R456 of 13. -/
def A.dmaChShort (c : Nat) : Nat := win 0x9 + 0x102C + 0x40 * c
def F.dmaChShort_count : Fld := ⟨31, 0, .ro, 0x0⟩
def D.dmaChShort : RegDesc := ⟨0x9, 1, 0x102C, [(0x40, 64)], .any, [F.dmaChShort_count]⟩

/-- TSK_CTL, R456 of 13. -/
def A.tskCtl : Nat := win 0x5 + 0x0
def F.tskCtl_core_en : Fld := ⟨23, 0, .rw, 0x0⟩
def D.tskCtl : RegDesc := ⟨0x5, 1, 0x0, [], .cudom, [F.tskCtl_core_en]⟩

/-- TSK_SCH_CFG, R456 of 13. -/
def A.tskSchCfg : Nat := win 0x5 + 0x4
def F.tskSchCfg_aff_t3 : Fld := ⟨27, 26, .rw, 0x2⟩
def F.tskSchCfg_aff_t4 : Fld := ⟨25, 24, .rw, 0x2⟩
def F.tskSchCfg_prio_t3 : Fld := ⟨22, 20, .rw, 0x5⟩
def F.tskSchCfg_prio_t4 : Fld := ⟨18, 16, .rw, 0x3⟩
def F.tskSchCfg_affinity_wait : Fld := ⟨15, 8, .rw, 0x2⟩
def F.tskSchCfg_run_limit : Fld := ⟨7, 0, .rw, 0xA⟩
def D.tskSchCfg : RegDesc := ⟨0x5, 1, 0x4, [], .cores, [F.tskSchCfg_aff_t3, F.tskSchCfg_aff_t4, F.tskSchCfg_prio_t3, F.tskSchCfg_prio_t4, F.tskSchCfg_affinity_wait, F.tskSchCfg_run_limit]⟩

/-- TSK_STATUS, R456 of 13. -/
def A.tskStatus : Nat := win 0x5 + 0x8
def F.tskStatus_ready : Fld := ⟨28, 16, .ro, 0x0⟩
def F.tskStatus_in_flight : Fld := ⟨12, 0, .ro, 0x0⟩
def D.tskStatus : RegDesc := ⟨0x5, 1, 0x8, [], .cores, [F.tskStatus_ready, F.tskStatus_in_flight]⟩

/-- TSK_GET_k, R456 of 13. -/
def A.tskGet (k : Nat) : Nat := win 0x5 + 0x10000 + 0x100 * k
def F.tskGet_valid : Fld := ⟨31, 31, .ro, 0x0⟩
def F.tskGet_held : Fld := ⟨30, 30, .ro, 0x0⟩
def F.tskGet_id : Fld := ⟨15, 0, .ro, 0x0⟩
def D.tskGet : RegDesc := ⟨0x5, 1, 0x10000, [(0x100, 24)], .cores, [F.tskGet_valid, F.tskGet_held, F.tskGet_id]⟩

/-- TSK_DONE_k, R456 of 13. -/
def A.tskDone (k : Nat) : Nat := win 0x5 + 0x10004 + 0x100 * k
def F.tskDone_action : Fld := ⟨31, 30, .wo, 0x0⟩
def F.tskDone_queue : Fld := ⟨29, 18, .wo, 0x0⟩
def F.tskDone_length : Fld := ⟨13, 0, .wo, 0x0⟩
def D.tskDone : RegDesc := ⟨0x5, 1, 0x10004, [(0x100, 24)], .cores, [F.tskDone_action, F.tskDone_queue, F.tskDone_length]⟩

/-- TSK_SUBMIT_RES_k, R456 of 13. -/
def A.tskSubmitRes (k : Nat) : Nat := win 0x5 + 0x10008 + 0x100 * k
def F.tskSubmitRes_id : Fld := ⟨31, 16, .ro, 0x0⟩
def F.tskSubmitRes_status : Fld := ⟨15, 0, .ro, 0x0⟩
def D.tskSubmitRes : RegDesc := ⟨0x5, 1, 0x10008, [(0x100, 24)], .cores, [F.tskSubmitRes_id, F.tskSubmitRes_status]⟩

/-- TSK_CMD_k, R456 of 13. -/
def A.tskCmd (k : Nat) : Nat := win 0x5 + 0x1000C + 0x100 * k
def F.tskCmd_op : Fld := ⟨31, 30, .wo, 0x0⟩
def F.tskCmd_id : Fld := ⟨15, 0, .wo, 0x0⟩
def D.tskCmd : RegDesc := ⟨0x5, 1, 0x1000C, [(0x100, 24)], .cores, [F.tskCmd_op, F.tskCmd_id]⟩

/-- TSK_CMD_RES_k, R456 of 13. -/
def A.tskCmdRes (k : Nat) : Nat := win 0x5 + 0x10010 + 0x100 * k
def F.tskCmdRes_status : Fld := ⟨15, 0, .ro, 0x0⟩
def D.tskCmdRes : RegDesc := ⟨0x5, 1, 0x10010, [(0x100, 24)], .cores, [F.tskCmdRes_status]⟩

/-- TSK_IRQ_CLAIM_k, R456 of 13. -/
def A.tskIrqClaim (k : Nat) : Nat := win 0x5 + 0x10014 + 0x100 * k
def F.tskIrqClaim_line : Fld := ⟨15, 0, .ro, 0xFFFF⟩
def D.tskIrqClaim : RegDesc := ⟨0x5, 1, 0x10014, [(0x100, 24)], .cores, [F.tskIrqClaim_line]⟩

/-- TSK_ITEM_k, R456 of 13: word w of the held item. -/
def A.tskItem (k w : Nat) : Nat := win 0x5 + 0x10040 + 0x100 * k + 0x4 * w
def F.tskItem_word : Fld := ⟨31, 0, .ro, 0x0⟩
def D.tskItem : RegDesc := ⟨0x5, 1, 0x10040, [(0x100, 24), (0x4, 16)], .cores, [F.tskItem_word]⟩

/-- TSK_SUBMIT_k, R456 of 13: word w of a submission. -/
def A.tskSubmit (k w : Nat) : Nat := win 0x5 + 0x10080 + 0x100 * k + 0x4 * w
def F.tskSubmit_word : Fld := ⟨31, 0, .wo, 0x0⟩
def D.tskSubmit : RegDesc := ⟨0x5, 1, 0x10080, [(0x100, 24), (0x4, 16)], .cores, [F.tskSubmit_word]⟩

/-- TSK_IRQ_ROUTE_n, R456 of 13. -/
def A.tskIrqRoute (n : Nat) : Nat := win 0x5 + 0x400 + 0x4 * n
def F.tskIrqRoute_en : Fld := ⟨31, 31, .rw, 0x0⟩
def F.tskIrqRoute_level : Fld := ⟨30, 30, .rw, 0x0⟩
def F.tskIrqRoute_target : Fld := ⟨4, 0, .rw, 0x0⟩
def D.tskIrqRoute : RegDesc := ⟨0x5, 1, 0x400, [(0x4, 256)], .cores, [F.tskIrqRoute_en, F.tskIrqRoute_level, F.tskIrqRoute_target]⟩

/-- TSK_IRQ_SOFT, R456 of 13. -/
def A.tskIrqSoft : Nat := win 0x5 + 0x800
def F.tskIrqSoft_clear : Fld := ⟨31, 16, .w1c, 0x0⟩
def F.tskIrqSoft_set : Fld := ⟨15, 0, .w1s, 0x0⟩
def D.tskIrqSoft : RegDesc := ⟨0x5, 1, 0x800, [], .cores, [F.tskIrqSoft_clear, F.tskIrqSoft_set]⟩

/-- TSK_SUBMIT_BUSY, R457 of 13. -/
def A.tskSubmitBusy : Nat := win 0x5 + 0xF00
def F.tskSubmitBusy_count : Fld := ⟨31, 0, .ro, 0x0⟩
def D.tskSubmitBusy : RegDesc := ⟨0x5, 1, 0xF00, [], .cores, [F.tskSubmitBusy_count]⟩

/-- TSK_CANCELLED, R457 of 13. -/
def A.tskCancelled : Nat := win 0x5 + 0xF04
def F.tskCancelled_count : Fld := ⟨31, 0, .ro, 0x0⟩
def D.tskCancelled : RegDesc := ⟨0x5, 1, 0xF04, [], .cores, [F.tskCancelled_count]⟩

/-- TSK_TOO_LATE, R457 of 13. -/
def A.tskTooLate : Nat := win 0x5 + 0xF08
def F.tskTooLate_count : Fld := ⟨31, 0, .ro, 0x0⟩
def D.tskTooLate : RegDesc := ⟨0x5, 1, 0xF08, [], .cores, [F.tskTooLate_count]⟩

/-- TSK_CANCEL_PKT, R457 of 13. -/
def A.tskCancelPkt : Nat := win 0x5 + 0xF0C
def F.tskCancelPkt_count : Fld := ⟨31, 0, .ro, 0x0⟩
def D.tskCancelPkt : RegDesc := ⟨0x5, 1, 0xF0C, [], .cores, [F.tskCancelPkt_count]⟩

/-- TSK_LOST_DARK, R457 of 13. -/
def A.tskLostDark : Nat := win 0x5 + 0xF10
def F.tskLostDark_count : Fld := ⟨31, 0, .ro, 0x0⟩
def D.tskLostDark : RegDesc := ⟨0x5, 1, 0xF10, [], .cores, [F.tskLostDark_count]⟩

/-- TSK_LONG_RUN, R457 of 13. -/
def A.tskLongRun : Nat := win 0x5 + 0xF14
def F.tskLongRun_count : Fld := ⟨31, 0, .ro, 0x0⟩
def D.tskLongRun : RegDesc := ⟨0x5, 1, 0xF14, [], .cores, [F.tskLongRun_count]⟩

/-- TSK_FWD_BAD, R457 of 13. -/
def A.tskFwdBad : Nat := win 0x5 + 0xF18
def F.tskFwdBad_count : Fld := ⟨31, 0, .ro, 0x0⟩
def D.tskFwdBad : RegDesc := ⟨0x5, 1, 0xF18, [], .cores, [F.tskFwdBad_count]⟩

/-- cl_CLK, R457 of 13. -/
def A.clClk (cl : Nat) : Nat := win (0x6 + cl) + 0x0
def F.clClk_parked : Fld := ⟨2, 2, .rw, 0x0⟩
def F.clClk_freq : Fld := ⟨1, 0, .rw, 0x0⟩
def D.clClk : RegDesc := ⟨0x6, 3, 0x0, [], .cudom, [F.clClk_parked, F.clClk_freq]⟩

/-- cl_CORE_CTL_c, R457 of 13. -/
def A.clCoreCtl (cl c : Nat) : Nat := win (0x6 + cl) + 0x100 + 0x10 * c
def F.clCoreCtl_run : Fld := ⟨31, 31, .rw, 0x0⟩
def D.clCoreCtl : RegDesc := ⟨0x6, 3, 0x100, [(0x10, 8)], .cudom, [F.clCoreCtl_run]⟩

/-- cl_START_LO_c, R457 of 13. -/
def A.clStartLo (cl c : Nat) : Nat := win (0x6 + cl) + 0x104 + 0x10 * c
def F.clStartLo_start_lo : Fld := ⟨31, 0, .rw, 0x0⟩
def D.clStartLo : RegDesc := ⟨0x6, 3, 0x104, [(0x10, 8)], .cudom, [F.clStartLo_start_lo]⟩

/-- cl_START_HI_c, R457 of 13. -/
def A.clStartHi (cl c : Nat) : Nat := win (0x6 + cl) + 0x108 + 0x10 * c
def F.clStartHi_start_hi : Fld := ⟨7, 0, .rw, 0x0⟩
def D.clStartHi : RegDesc := ⟨0x6, 3, 0x108, [(0x10, 8)], .cudom, [F.clStartHi_start_hi]⟩

/-- cl_PERF_THRESH_c, R457 of 13. -/
def A.clPerfThresh (cl c : Nat) : Nat := win (0x6 + cl) + 0x10100 + 0x400 * c
def F.clPerfThresh_thr_stq : Fld := ⟨15, 8, .rw, 0x10⟩
def F.clPerfThresh_thr_miss : Fld := ⟨7, 0, .rw, 0x4⟩
def D.clPerfThresh : RegDesc := ⟨0x6, 3, 0x10100, [(0x400, 8)], .cores, [F.clPerfThresh_thr_stq, F.clPerfThresh_thr_miss]⟩

/-- cl_PERF_LO_c_n, R457 of 13. -/
def A.clPerfLo (cl c n : Nat) : Nat := win (0x6 + cl) + 0x10000 + 0x400 * c + 0x8 * n
def F.clPerfLo_count_lo : Fld := ⟨31, 0, .ro, 0x0⟩
def D.clPerfLo : RegDesc := ⟨0x6, 3, 0x10000, [(0x400, 8), (0x8, 16)], .cores, [F.clPerfLo_count_lo]⟩

/-- cl_PERF_HI_c_n, R457 of 13. -/
def A.clPerfHi (cl c n : Nat) : Nat := win (0x6 + cl) + 0x10004 + 0x400 * c + 0x8 * n
def F.clPerfHi_count_hi : Fld := ⟨15, 0, .ro, 0x0⟩
def D.clPerfHi : RegDesc := ⟨0x6, 3, 0x10004, [(0x400, 8), (0x8, 16)], .cores, [F.clPerfHi_count_hi]⟩

/-- mem_CFG, R486 of 14. -/
def A.memCfg (mem : Nat) : Nat := win (0xB + mem) + 0x0
def F.memCfg_cfg_err : Fld := ⟨31, 31, .w1c, 0x0⟩
def F.memCfg_lock : Fld := ⟨30, 30, .w1s, 0x0⟩
def F.memCfg_ecc_reserve : Fld := ⟨29, 29, .rwl, 0x0⟩
def F.memCfg_hot : Fld := ⟨28, 28, .ro, 0x0⟩
def F.memCfg_ranks : Fld := ⟨7, 6, .rwl, 0x0⟩
def F.memCfg_density : Fld := ⟨5, 4, .rwl, 0x0⟩
def F.memCfg_rate : Fld := ⟨2, 0, .rwl, 0x0⟩
def D.memCfg : RegDesc := ⟨0xB, 2, 0x0, [], .cudom, [F.memCfg_cfg_err, F.memCfg_lock, F.memCfg_ecc_reserve, F.memCfg_hot, F.memCfg_ranks, F.memCfg_density, F.memCfg_rate]⟩

/-- mem_SCHED, R486 of 14. -/
def A.memSched (mem : Nat) : Nat := win (0xB + mem) + 0x4
def F.memSched_wq_high : Fld := ⟨13, 8, .rw, 0x30⟩
def F.memSched_wq_low : Fld := ⟨5, 0, .rw, 0x10⟩
def D.memSched : RegDesc := ⟨0xB, 2, 0x4, [], .cudom, [F.memSched_wq_high, F.memSched_wq_low]⟩

/-- mem_RH_CFG, R486 of 14. -/
def A.memRhCfg (mem : Nat) : Nat := win (0xB + mem) + 0x8
def F.memRhCfg_rh_thresh : Fld := ⟨15, 0, .rw, 0x1000⟩
def D.memRhCfg : RegDesc := ⟨0xB, 2, 0x8, [], .cudom, [F.memRhCfg_rh_thresh]⟩

/-- mem_ECC_CTL, R486 of 14. -/
def A.memEccCtl (mem : Nat) : Nat := win (0xB + mem) + 0xC
def F.memEccCtl_scrub_en : Fld := ⟨31, 31, .rw, 0x1⟩
def F.memEccCtl_scrub_period : Fld := ⟨7, 0, .rw, 0x18⟩
def D.memEccCtl : RegDesc := ⟨0xB, 2, 0xC, [], .cudom, [F.memEccCtl_scrub_en, F.memEccCtl_scrub_period]⟩

/-- mem_ECC_ADDR_LO, R486 of 14. -/
def A.memEccAddrLo (mem : Nat) : Nat := win (0xB + mem) + 0x10
def F.memEccAddrLo_addr_lo : Fld := ⟨31, 0, .ro, 0x0⟩
def D.memEccAddrLo : RegDesc := ⟨0xB, 2, 0x10, [], .cudom, [F.memEccAddrLo_addr_lo]⟩

/-- mem_ECC_ADDR_HI, R486 of 14. -/
def A.memEccAddrHi (mem : Nat) : Nat := win (0xB + mem) + 0x14
def F.memEccAddrHi_valid : Fld := ⟨31, 31, .w1c, 0x0⟩
def F.memEccAddrHi_kind : Fld := ⟨30, 30, .ro, 0x0⟩
def F.memEccAddrHi_addr_hi : Fld := ⟨7, 0, .ro, 0x0⟩
def D.memEccAddrHi : RegDesc := ⟨0xB, 2, 0x14, [], .cudom, [F.memEccAddrHi_valid, F.memEccAddrHi_kind, F.memEccAddrHi_addr_hi]⟩

/-- mem_MIRROR, R486 of 14. -/
def A.memMirror (mem : Nat) : Nat := win (0xB + mem) + 0x18
def F.memMirror_state : Fld := ⟨31, 30, .ro, 0x0⟩
def F.memMirror_held : Fld := ⟨29, 29, .ro, 0x0⟩
def F.memMirror_resync_rate : Fld := ⟨23, 16, .rw, 0x28⟩
def D.memMirror : RegDesc := ⟨0xB, 2, 0x18, [], .cudom, [F.memMirror_state, F.memMirror_held, F.memMirror_resync_rate]⟩

/-- mem_PASR, R486 of 14. -/
def A.memPasr (mem : Nat) : Nat := win (0xB + mem) + 0x1C
def F.memPasr_keep : Fld := ⟨7, 0, .ro, 0x0⟩
def D.memPasr : RegDesc := ⟨0xB, 2, 0x1C, [], .cudom, [F.memPasr_keep]⟩

/-- mem_CHAMBER_W0_c, R486 of 14. -/
def A.memChamberW0 (mem c : Nat) : Nat := win (0xB + mem) + 0x1000 + 0x10 * c
def F.memChamberW0_valid : Fld := ⟨31, 31, .rwl, 0x0⟩
def F.memChamberW0_mirrored : Fld := ⟨30, 30, .rwl, 0x0⟩
def F.memChamberW0_retained : Fld := ⟨29, 29, .rwl, 0x0⟩
def F.memChamberW0_ecc : Fld := ⟨28, 28, .rwl, 0x0⟩
def F.memChamberW0_owner : Fld := ⟨21, 0, .rwl, 0x0⟩
def D.memChamberW0 : RegDesc := ⟨0xB, 2, 0x1000, [(0x10, 32)], .cudom, [F.memChamberW0_valid, F.memChamberW0_mirrored, F.memChamberW0_retained, F.memChamberW0_ecc, F.memChamberW0_owner]⟩

/-- mem_CHAMBER_W1_c, R486 of 14. -/
def A.memChamberW1 (mem c : Nat) : Nat := win (0xB + mem) + 0x1004 + 0x10 * c
def F.memChamberW1_base : Fld := ⟨12, 0, .rwl, 0x0⟩
def D.memChamberW1 : RegDesc := ⟨0xB, 2, 0x1004, [(0x10, 32)], .cudom, [F.memChamberW1_base]⟩

/-- mem_CHAMBER_W2_c, R486 of 14. -/
def A.memChamberW2 (mem c : Nat) : Nat := win (0xB + mem) + 0x1008 + 0x10 * c
def F.memChamberW2_size : Fld := ⟨13, 0, .rwl, 0x0⟩
def D.memChamberW2 : RegDesc := ⟨0xB, 2, 0x1008, [(0x10, 32)], .cudom, [F.memChamberW2_size]⟩

/-- mem_CHAMBER_W3_c, R486 of 14. -/
def A.memChamberW3 (mem c : Nat) : Nat := win (0xB + mem) + 0x100C + 0x10 * c
def F.memChamberW3_name : Fld := ⟨31, 0, .rwl, 0x0⟩
def D.memChamberW3 : RegDesc := ⟨0xB, 2, 0x100C, [(0x10, 32)], .cudom, [F.memChamberW3_name]⟩

/-- mem_ECC_CE, R487 of 14. -/
def A.memEccCe (mem : Nat) : Nat := win (0xB + mem) + 0xF00
def F.memEccCe_count : Fld := ⟨31, 0, .ro, 0x0⟩
def D.memEccCe : RegDesc := ⟨0xB, 2, 0xF00, [], .cudom, [F.memEccCe_count]⟩

/-- mem_ECC_UE, R487 of 14. -/
def A.memEccUe (mem : Nat) : Nat := win (0xB + mem) + 0xF04
def F.memEccUe_count : Fld := ⟨31, 0, .ro, 0x0⟩
def D.memEccUe : RegDesc := ⟨0xB, 2, 0xF04, [], .cudom, [F.memEccUe_count]⟩

/-- mem_SCRUB_CE, R487 of 14. -/
def A.memScrubCe (mem : Nat) : Nat := win (0xB + mem) + 0xF08
def F.memScrubCe_count : Fld := ⟨31, 0, .ro, 0x0⟩
def D.memScrubCe : RegDesc := ⟨0xB, 2, 0xF08, [], .cudom, [F.memScrubCe_count]⟩

/-- mem_MIRROR_REPAIR, R487 of 14. -/
def A.memMirrorRepair (mem : Nat) : Nat := win (0xB + mem) + 0xF0C
def F.memMirrorRepair_count : Fld := ⟨31, 0, .ro, 0x0⟩
def D.memMirrorRepair : RegDesc := ⟨0xB, 2, 0xF0C, [], .cudom, [F.memMirrorRepair_count]⟩

/-- mem_RESYNC_BLOCK, R487 of 14. -/
def A.memResyncBlock (mem : Nat) : Nat := win (0xB + mem) + 0xF10
def F.memResyncBlock_count : Fld := ⟨31, 0, .ro, 0x0⟩
def D.memResyncBlock : RegDesc := ⟨0xB, 2, 0xF10, [], .cudom, [F.memResyncBlock_count]⟩

/-- mem_HELD_ACCESS, R487 of 14. -/
def A.memHeldAccess (mem : Nat) : Nat := win (0xB + mem) + 0xF14
def F.memHeldAccess_count : Fld := ⟨31, 0, .ro, 0x0⟩
def D.memHeldAccess : RegDesc := ⟨0xB, 2, 0xF14, [], .cudom, [F.memHeldAccess_count]⟩

/-- mem_UNMAPPED, R487 of 14. -/
def A.memUnmapped (mem : Nat) : Nat := win (0xB + mem) + 0xF18
def F.memUnmapped_count : Fld := ⟨31, 0, .ro, 0x0⟩
def D.memUnmapped : RegDesc := ⟨0xB, 2, 0xF18, [], .cudom, [F.memUnmapped_count]⟩

/-- mem_OWNER_DENY, R487 of 14. -/
def A.memOwnerDeny (mem : Nat) : Nat := win (0xB + mem) + 0xF1C
def F.memOwnerDeny_count : Fld := ⟨31, 0, .ro, 0x0⟩
def D.memOwnerDeny : RegDesc := ⟨0xB, 2, 0xF1C, [], .cudom, [F.memOwnerDeny_count]⟩

/-- mem_ROW_REFRESH, R487 of 14. -/
def A.memRowRefresh (mem : Nat) : Nat := win (0xB + mem) + 0xF20
def F.memRowRefresh_count : Fld := ⟨31, 0, .ro, 0x0⟩
def D.memRowRefresh : RegDesc := ⟨0xB, 2, 0xF20, [], .cudom, [F.memRowRefresh_count]⟩

/-- mem_RD_PROMOTE, R487 of 14. -/
def A.memRdPromote (mem : Nat) : Nat := win (0xB + mem) + 0xF24
def F.memRdPromote_count : Fld := ⟨31, 0, .ro, 0x0⟩
def D.memRdPromote : RegDesc := ⟨0xB, 2, 0xF24, [], .cudom, [F.memRdPromote_count]⟩

end Sys2Proof.Machine
end

