-- ==== Sys2Proof/Machine/RegMap.lean ====
section
/-!
DEFINITION. The register map by island, and what a register reads at reset.
-/

namespace Sys2Proof.Machine

/-- Registers of AON. -/
def aonRegs : List RegDesc :=
  [D.aonChipId, D.aonModeShadow, D.aonPwrState, D.aonWakeEn, D.aonWakeLevel, D.aonWakeStatus, D.aonWakeFault, D.aonDarkAccessLo, D.aonDarkAccessHi, D.aonThriftCfg, D.aonRenew, D.aonVigilAnchor, D.aonVigilCmp, D.aonVigilStatus, D.aonVigilStamp, D.aonDarkLoss] ++
  [D.aonWakeFaults, D.aonVigilCycles, D.aonVigilLanternMiss, D.aonFaultCause]

/-- Registers of CDM. -/
def cdmRegs : List RegDesc :=
  [D.cdmDeviceMode, D.cdmFailedIslands, D.cdmMbxDoorbell, D.cdmMbxRspStatus, D.cdmCmdCtl, D.cdmCmdHdrErr, D.cdmCmdHostFrameErr, D.cdmCmdHostOverflow, D.cdmCmdAuthFail, D.cdmCmdReplay, D.cdmCmdRateDrop, D.cdmCmdReplyDrop, D.cdmCmdFragAbandon, D.cdmGloveStatus, D.cdmGloveKick, D.cdmGloveCfg] ++
  [D.cdmTempLimit, D.cdmTempStatus, D.cdmLogNext, D.cdmBootStatus, D.cdmDaliCtl, D.cdmDaliTz, D.cdmDaliSchedW0, D.cdmDaliSchedW1, D.cdmLogOverwrite, D.cdmLogSuppressed, D.cdmLogFlashDrop, D.cdmGloveTakeover, D.cdmDaliCollision, D.cdmDaliFrameErr]

/-- Registers of TIME. -/
def timeRegs : List RegDesc :=
  [D.timeCtl, D.timeIncr, D.timeNowNs, D.timeNowSecLo, D.timeNowHi, D.timeCount, D.timeServoCfg, D.timeOffsetNs, D.timeOffsetFrac, D.timeServoStatus, D.timeQuality, D.timePath, D.timeBoard, D.timeCuffHead0, D.timeCuffHead1, D.timeCuffHead2] ++
  [D.timeCuffCtl, D.timeCuffOverflow, D.timeStep, D.timeOffsetDiscard, D.timePathDiscard]

/-- Registers of PKT. -/
def pktRegs : List RegDesc :=
  [D.pktParseCtl, D.pktTunCfg, D.pktUdpTun, D.pktSrcCfg, D.pktVersionCtl, D.pktCommitRes, D.pktRuleStage, D.pktHashSeed, D.pktEpBaseLo, D.pktEpBaseHi, D.pktEpSeed1, D.pktEpSeed2, D.pktEpInval, D.pktFragCtl, D.pktFragStatus, D.pktExcCfg] ++
  [D.pktExcRate, D.pktSumpCtl, D.pktInd, D.pktRuleValue0, D.pktRuleValue1, D.pktRuleValue2, D.pktRuleValue3, D.pktRuleValue4, D.pktRuleValue5, D.pktRuleValue6, D.pktRuleValue7, D.pktRuleValue8, D.pktRuleValue9, D.pktRuleValue10, D.pktRuleValue11, D.pktRuleValue12] ++
  [D.pktRuleValue13, D.pktRuleValue14, D.pktRuleValue15, D.pktRuleMask0, D.pktRuleMask1, D.pktRuleMask2, D.pktRuleMask3, D.pktRuleMask4, D.pktRuleMask5, D.pktRuleMask6, D.pktRuleMask7, D.pktRuleMask8, D.pktRuleMask9, D.pktRuleMask10, D.pktRuleMask11, D.pktRuleMask12] ++
  [D.pktRuleMask13, D.pktRuleMask14, D.pktRuleMask15, D.pktRuleAct0, D.pktRuleAct1, D.pktRuleAct2, D.pktRuleAct3, D.pktRuleLive, D.pktStamped0, D.pktStamped1, D.pktEpHit, D.pktEpMiss, D.pktEpCacheMiss, D.pktEpReadErr, D.pktEpStall, D.pktRuleDrop] ++
  [D.pktFragNew, D.pktFragTableFull, D.pktFragHeld, D.pktFragExpired, D.pktExcCount, D.pktSumpRateDrop]

/-- Registers of SCH. -/
def schRegs : List RegDesc :=
  [D.schCtl, D.schPoolCfg, D.schPoolStatus, D.schQFlush, D.schEgress, D.schQW0, D.schQW1, D.schQW2, D.schQW3, D.schQW4, D.schQW5, D.schQW6, D.schQW7, D.schMtrW0, D.schMtrW1, D.schMtrW2] ++
  [D.schMtrW3, D.schMtrW4, D.schMtrW5, D.schMtrW6, D.schMtrW7, D.schDropMgmtQ, D.schDropDisabled, D.schDropMeter, D.schDropQlimit, D.schDropStore, D.schFlushed, D.schCdmHold, D.schQcEnq, D.schQcDeq, D.schQcDropGreen, D.schQcDropYellow] ++
  [D.schQcDropRed, D.schQcFlush, D.schHist]

/-- Registers of TSK. -/
def tskRegs : List RegDesc :=
  [D.tskCtl, D.tskSchCfg, D.tskStatus, D.tskGet, D.tskDone, D.tskSubmitRes, D.tskCmd, D.tskCmdRes, D.tskIrqClaim, D.tskItem, D.tskSubmit, D.tskIrqRoute, D.tskIrqSoft, D.tskSubmitBusy, D.tskCancelled, D.tskTooLate, D.tskCancelPkt, D.tskLostDark] ++
  [D.tskLongRun, D.tskFwdBad]

/-- Registers of cl. -/
def clRegs : List RegDesc :=
  [D.clClk, D.clCoreCtl, D.clStartLo, D.clStartHi, D.clPerfThresh, D.clPerfLo, D.clPerfHi]

/-- Registers of DMA. -/
def dmaRegs : List RegDesc :=
  [D.dmaCtl, D.dmaChCtl, D.dmaChBaseLo, D.dmaChBaseHi, D.dmaChCurLo, D.dmaChCurHi, D.dmaChStatus, D.dmaChErrLo, D.dmaChErrHi, D.dmaChDescDone, D.dmaChRxNoBuffer, D.dmaChRxFifoDrop, D.dmaChShort]

/-- Registers of CIP. -/
def cipRegs : List RegDesc :=
  [D.cipStatus, D.cipPnWarn, D.cipMsecTxAn, D.cipJobBaseLo, D.cipJobBaseHi, D.cipJobCtl, D.cipJobPtr, D.cipSlotW0, D.cipSlotW1, D.cipSlotW2, D.cipSlotW3, D.cipMsecSaW0, D.cipMsecSaW1, D.cipMsecSaW2, D.cipMsecSaW3, D.cipMsecSaW4] ++
  [D.cipMsecSaW5, D.cipMsecSaW6, D.cipMsecSaW7, D.cipMsecSaW8, D.cipMsecSaW9, D.cipMsecSaW10, D.cipMsecSaW11, D.cipMsecSaW12, D.cipMsecSaW13, D.cipMsecSaW14, D.cipMsecSaW15, D.cipClassDeny, D.cipUseDeny, D.cipKeylenErr, D.cipKeyRevoked, D.cipPnExhausted] ++
  [D.cipAuthFail, D.cipMsecRxLate, D.cipMsecRxNoSa, D.cipMsecRxNotValid, D.cipMsecTxRefused]

/-- Registers of mem. -/
def memRegs : List RegDesc :=
  [D.memCfg, D.memSched, D.memRhCfg, D.memEccCtl, D.memEccAddrLo, D.memEccAddrHi, D.memMirror, D.memPasr, D.memChamberW0, D.memChamberW1, D.memChamberW2, D.memChamberW3, D.memEccCe, D.memEccUe, D.memScrubCe, D.memMirrorRepair] ++
  [D.memResyncBlock, D.memHeldAccess, D.memUnmapped, D.memOwnerDeny, D.memRowRefresh, D.memRdPromote]

/-- Registers of lnq. -/
def lnqRegs : List RegDesc :=
  [D.lnqPllCtl, D.lnqCtl, D.lnqLaneCfg, D.lnqLaneStatus, D.lnqLaneTest, D.lnqPortCfg, D.lnqPortStatus, D.lnqPortPause, D.lnqPortFlow, D.lnqPortTx, D.lnqKlCtl, D.lnqKlThrift, D.lnqCntHalfLo, D.lnqCntHalfHi, D.lnqPortIrq, D.lnqLaneCodeErr] ++
  [D.lnqLaneDispErr, D.lnqAnRestart, D.lnqKlRetrain, D.lnqKlThriftDown, D.lnqKlThriftUp, D.lnqKlRateFail, D.lnqKlLaneDrop, D.lnqPortHoldoff, D.lnqMacCnt]

/-- Registers of rad. -/
def radRegs : List RegDesc :=
  [D.radCtl, D.radSynCtl, D.radSynStatus, D.radSynFreq, D.radTxPending, D.radFeSeqLead, D.radFeSeqLag, D.radCoexCtl, D.radCoexBlank, D.radDetCfg, D.radDetStatus, D.radDetMuteSet, D.radDetRl, D.radTunCtl, D.radTunCmd, D.radTunPreset] ++
  [D.radSynUnlock, D.radSynRetuneFail, D.radSynReqLost, D.radTxSynthNotReady, D.radTxLate, D.radTxAbort, D.radCoexDenied, D.radCoexAbort, D.radMismatchBackoff, D.radMismatchMute, D.radTunerErr, D.radPhyCtl, D.radAgcCfg, D.radAgcStatus, D.radNfCfg, D.radNfStatus] ++
  [D.radNfTable, D.radHsigCrcErr, D.radHsigReject, D.radHsigLenConflict, D.radAgcFalseDetect, D.radAgcRestart, D.radRxObssSkipped, D.radRxDecDark, D.radTxMapInvalid, D.radCalCtl, D.radCalVersion, D.radCalThin, D.radCalTrig, D.radCalState, D.radCalEvm, D.radCalCoefW0] ++
  [D.radCalCoefW1, D.radCalUpdate, D.radCalFrame, D.radCalFrameLate, D.radCalReject, D.radCalRevert, D.radCalRefreshReq, D.radCalCaptureDiscard, D.radCalStepAbort]

/-- Registers of DEC. -/
def decRegs : List RegDesc :=
  [D.decCtl, D.decStatus, D.decOverloadEntry, D.decGalDecoded, D.decGalFail, D.decGalCapped, D.decGalDeadline]

/-- Registers of HMAC. -/
def hmacRegs : List RegDesc :=
  [D.hmacLoadCfg, D.hmacLoadGap, D.hmacMapStatus, D.hmacLoadEmpty, D.hmacMapStoreFull, D.hmacHolCtl, D.hmacHolRound, D.hmacHolChmapLo, D.hmacHolChmapHi, D.hmacHolNextLo, D.hmacHolNextHi, D.hmacHolChmapCtl, D.hmacHolJoin, D.hmacHolAdmit, D.hmacHolAdmitRes, D.hmacHolShare, D.hmacHolAbsence, D.hmacHolKeys] ++
  [D.hmacHolCfg, D.hmacHolChdef, D.hmacHolParentCtl, D.hmacHolParentSched, D.hmacHolParentSched2, D.hmacHolParentEvent, D.hmacHolParentSync, D.hmacHolParentKeys, D.hmacHolParentSupv, D.hmacHolPartnerW0, D.hmacHolPartnerW1, D.hmacHolPartnerW2, D.hmacHolPartnerW3, D.hmacHolPartnerW4, D.hmacHolPartnerW5, D.hmacHolPartnerW6] ++
  [D.hmacHolPartnerW7, D.hmacHolLanternTx, D.hmacHolLanternMiss, D.hmacHolLanternLost, D.hmacHolLinkLost, D.hmacHolPollMiss, D.hmacHolPartnerDim, D.hmacHolPartnerDrop, D.hmacHolRxFcsErr, D.hmacHolRxHdrErr, D.hmacHolRxForeign, D.hmacHolRxAuthFail, D.hmacHolRxReplay, D.hmacHolWindowShort, D.hmacHolFragTx, D.hmacHolRetryDrop] ++
  [D.hmacHolPnExhausted, D.hmacHolKeyRevoked, D.hmacHolAdmitDenied, D.hmacHolEventSkipped, D.hmacHolMapOffer, D.hmacHolMapAdopt, D.hmacHolJoinReq, D.hmacWlanStationW0, D.hmacWlanStationW1, D.hmacWlanStationW2, D.hmacWlanStationW3, D.hmacWlanStationW4, D.hmacWlanStationW5, D.hmacWlanStationW6, D.hmacWlanStationW7, D.hmacWlanCtl] ++
  [D.hmacWlanProtect, D.hmacWlanSteer, D.hmacWlanTrig, D.hmacWlanSound, D.hmacWlanBssCfg, D.hmacWlanBssGkey, D.hmacWlanBssMkey, D.hmacWlanBaseLo, D.hmacWlanBaseHi, D.hmacWlanTxMpdu, D.hmacWlanTxRetry, D.hmacWlanTxRetryDrop, D.hmacWlanTxWindowShort, D.hmacWlanTxPnExhausted, D.hmacWlanTxKeyRevoked, D.hmacWlanRxMpdu] ++
  [D.hmacWlanRxDecryptFail, D.hmacWlanRxReplay, D.hmacWlanRxUnprot, D.hmacWlanRxUnknownTa, D.hmacWlanMgmtRateDrop, D.hmacWlanProtectCts, D.hmacWlanProtectLate, D.hmacWlanTbNoResponse, D.hmacWlanSteerDisassoc]

/-- Registers of xxx. -/
def commonRegs : List RegDesc :=
  [D.xxxIdent, D.xxxEvtSeq]

end Sys2Proof.Machine
end

