-- ==== Sys2Proof/Machine/StCip.lean ====
section
/-!
DEFINITION. The state of the cipher engine that no software register holds: the key store (R280–R297).
-/

namespace Sys2Proof.Machine

/-- A key slot (R286–R297): class 0 traffic, 1 management, 2 firmware, 255 erased; use 0 none, 1 supplied IV, 2–4
counter 32, 48, 64; `pn` the next packet number; the pending shadow holds the old key and its generation. -/
structure KeySlot where
  cls : Nat
  key : List Byte
  gen : Nat
  use : Nat
  pn : Nat
  warned : Bool
  exhausted : Bool
  shadow : Option (Nat × List Byte)
  deriving DecidableEq, Repr

/-- An erased slot with generation 0 (R291). -/
def KeySlot.erased : KeySlot := ⟨255, [], 0, 0, 1, false, false, none⟩

/-- An operation in flight (R280, R292): its number, user, slot, the key and generation latched, its packet number, and
whether it is expedited. -/
structure CipOp where
  id : Nat
  user : CipUser
  slot : Nat
  gen : Nat
  key : List Byte
  pn : Nat
  expedited : Bool
  deriving DecidableEq, Repr

/-- A job taken from a ring (R301): its descriptor, its operation, and once it is done its status and output length. -/
structure CipJob where
  ring : Nat
  desc : List Byte
  op : Option Nat
  result : Option (Nat × Nat)
  deriving DecidableEq, Repr

/-- The engine: operations in flight, jobs in ring order, interrupts of rings written back, as a mask. -/
structure CipState where
  ops : List CipOp
  jobs : List CipJob
  irq : Nat
  /-- frames of wired ports with MACsec waiting for their check: port, bytes, stamp in 2^−16 ns -/
  rx : List (Nat × List Byte × Int)
  /-- ports that transmit, and that receive, under MACsec as CIP went dark: their MACs go by this while it is (R498, R518) -/
  needTx : Nat
  needRx : Nat
  deriving DecidableEq, Repr

def CipState.init : CipState := ⟨[], [], 0, [], 0, 0⟩

end Sys2Proof.Machine
end

