-- ==== Sys2Proof/Machine/StCore.lean ====
section
/-!
DEFINITION. The state of the command transports, the device mode, the power manager, the log and the rest of Cudom that
no software register holds. What a register holds stands in the register file alone.
-/

namespace Sys2Proof.Machine

/-! ### Command packets -/

/-- A request (R53): requester, first header byte less more_fragments and reply, source class, opcode, tag, sequence and
joined parameters; for a network request also its ingress source (port 0–15, radio 16–18), the station or partner entry
it came from, its 802.1Q tags and the key generation it was authenticated under (R73, R78). -/
structure Request where
  who : CmdReq
  hdr0 : Nat
  cls : Nat
  island : Nat
  op : Nat
  tag : Nat
  seq : Nat
  params : List Byte
  ingress : Nat
  station : Nat
  vlan : List Byte
  gen : Nat
  deriving DecidableEq, Repr

/-- A request whose final reply has not been sent (R60); `dispatched` once its target took it (R80). -/
structure Outst where
  req : Request
  dispatched : Bool
  deriving DecidableEq, Repr

/-- A network requester's entry (R75, R76). -/
structure NetPeer where
  mac : Nat
  slot : Nat
  lastSeq : Nat
  replySeq : Nat
  reqReserve : Nat
  replyReserve : Nat
  deriving DecidableEq, Repr

/-- A frame CDM hands to a scheduler management queue: queue, station, bytes. -/
structure MgmtFrame where
  queue : Nat
  station : Nat
  bytes : List Byte
  deriving DecidableEq, Repr

/-- The command transports (R52–R88). -/
structure CmdState where
  /-- core mailbox SRAM, by offset 0–32767 from 0x01_0000 (R66) -/
  mbx : Tbl Byte
  /-- request slots whose doorbell is set, in the order set (R66) -/
  bells : List Nat
  /-- replies held for want of a reply slot (R67) -/
  mbxHeld : List (List Byte)
  /-- host port WRITE frames not yet taken, less their trailer (R70) -/
  hostRaw : List (List Byte)
  /-- the port's waiting replies, with their trailers (R70) -/
  hostWaiting : List (List Byte)
  hostHeld : List (List Byte)
  hostOverflow : Bool
  hostFrameErr : Bool
  hostReady : Bool
  /-- outstanding requests, in order of acceptance -/
  out : List Outst
  /-- open fragmented requests, at most one per requester (R63) -/
  frags : List Request
  seqMbx : Nat
  seqHost : Nat
  seqInt : Nat
  /-- replies of transport 3 -/
  intReplies : List (List Byte)
  peers : List NetPeer
  /-- network command frames of this second, by ingress source (R77) -/
  netCount : Tbl Nat
  /-- a failing frame was logged this second (R74) -/
  netFailLogged : Bool
  /-- frames CDM has for the scheduler's management queues, oldest first: queue, station, bytes -/
  cdmTx : List MgmtFrame
  /-- the TEST_CHALLENGE nonce in force (R86) -/
  nonce : Option (List Byte)
  testRefused : Nat
  testHold : Bool
  /-- elapsed time at which the hold began, ns -/
  testHoldAt : Nat
  /-- the district second whose boundary was last taken -/
  second : Nat
  deriving DecidableEq, Repr

/-- No packet anywhere (R52–R88) (log entry 6). -/
def CmdState.init : CmdState :=
  { mbx := [], bells := [], mbxHeld := [], hostRaw := [], hostWaiting := [], hostHeld := [], hostOverflow := false
    hostFrameErr := false, hostReady := false, out := [], frags := [], seqMbx := 0, seqHost := 0, seqInt := 0, intReplies := []
    peers := [], netCount := [], netFailLogged := false, cdmTx := [], nonce := none, testRefused := 0, testHold := false, testHoldAt := 0, second := 0 }

/-! ### Device mode -/

/-- A pending mode transition (R45): the next mode, the final mode of a chain (R42), the cause it will show (R570), the
request it answers, the islands marked E that firmware lights in SERVICE-like modes, as a mask (R569), whether it still
waits for its steering runs (R278), and the CDM event that records what its request has changed so far (R58, R59). -/
structure Trans where
  target : Mode
  final : Mode
  cause : Nat
  req : Option Request
  light : Nat
  steering : Bool
  eff : Option Nat
  deriving DecidableEq, Repr

/-- A PROVISION_COMMIT whose record is written and whose transition waits for the slot (R539): the islands marked E to light,
the request and its event. -/
structure ProvDue where
  light : Nat
  req : Request
  event : Nat
  deriving DecidableEq, Repr

/-- The device mode (R38–R49). -/
structure ModeState where
  mode : Mode
  prev : Mode
  cause : Nat
  count : Nat
  pending : Option Trans
  /-- islands still to light and to take dark, in order (R493, R494) -/
  toLight : List Nat
  toDark : List Nat
  /-- MODE_SET OFF answered; the reset follows in 10 ms (R43) -/
  offReset : Bool
  /-- the boot ROM has run (R536) -/
  romDone : Bool
  /-- the transition to CALIBRATE waits for the transition slot (R539) -/
  provisionDue : Option ProvDue
  /-- what SERVICE had: core_en, and transmit and receive chain enables by radio (R502) -/
  svcCores : Nat
  svcTx : List Nat
  svcRx : List Nat
  deriving DecidableEq, Repr

def ModeState.init : ModeState :=
  { mode := .off, prev := .off, cause := 0, count := 0, pending := none, toLight := [], toDark := [], offReset := false
    romDone := false, provisionDue := none, svcCores := 0, svcTx := [0, 0, 0], svcRx := [0, 0, 0] }

/-! ### Power manager -/

/-- Island power states, coded as in R488. -/
inductive Pwr where
  | dark | waking | lit | reduced | failed
  deriving DecidableEq, Repr

/-- One island's power (R488–R501); `renewal` while its wake belongs to a renewal. -/
structure IslandPwr where
  st : Pwr
  phase : Phase
  retried : Bool
  bypass : Bool
  secondary : Bool
  fenced : Bool
  darkLogged : Bool
  renewal : Bool
  goingDark : Bool
  deriving DecidableEq, Repr

/-- A dark island's record. -/
def IslandPwr.init : IslandPwr :=
  { st := .dark, phase := .regulator, retried := false, bypass := false, secondary := false, fenced := false,
    darkLogged := false, renewal := false, goingDark := false }

/-- AON (R488–R519, R555–R557). -/
structure AonState where
  resetPin : Bool
  supplyGood : Bool
  /-- STRAP_TEST as sampled (R555) -/
  strapTest : Bool
  xtal32 : Bool
  /-- AON_GPIO0–3 as last sampled (R506) -/
  gpio : Nat
  /-- inside the entry window, or during the entry before it; wake events that wait for its end, and those of them on which Cudom
  will begin a transition (R495, R497) -/
  window : Bool
  entering : Bool
  latched : Nat
  latchedGo : Nat
  /-- VIGIL programme (R510): period ms, radio, listen, thresholds, GPIO mask and level -/
  vgPeriod : Nat
  vgRadio : Nat
  vgListen : Nat
  vgThr0 : Nat
  vgThr1 : Nat
  vgGpioMask : Nat
  vgGpioLevel : Nat
  /-- previous cycle's light comparisons (R510) -/
  vgPrev0 : Bool
  vgPrev1 : Bool
  /-- sampling: between a cycle point and its comparison; the radio of this cycle is being woken or listens; this cycle's round
  boundary in ns (R506) -/
  vgSampling : Bool
  vgListening : Bool
  vgBoundary : Nat
  /-- elapsed time, ns, of the last cycle point; before the first, of the programme or the entry that starts the cycles -/
  vgPoint : Nat
  /-- retention bank for the VIGIL radio: receive gain tables and band table (R507) -/
  vgGains : Tbl Int
  vgBands : Tbl Nat
  deriving DecidableEq, Repr

/-- AON in OFF: SYS_RESET_N low, no wake programme (log entry 6). -/
def AonState.init : AonState :=
  { resetPin := true, supplyGood := true, strapTest := false, xtal32 := false, gpio := 0, window := false, entering := false
    latched := 0, latchedGo := 0, vgPeriod := 0, vgRadio := 0, vgListen := 0, vgThr0 := 0, vgThr1 := 0, vgGpioMask := 0, vgGpioLevel := 0
    vgPrev0 := false, vgPrev1 := false, vgSampling := false, vgListening := false, vgBoundary := 0, vgPoint := 0, vgGains := [], vgBands := [] }

/-! ### Log -/

/-- Names of the events and log entries of the manual. -/
inductive Ev where
  | handshakeTimeout | modeChange | imageVerify | wakeFault | gloveFailed | cudomWatchdog | keyWrite | keyErase | servoMode
  | wakeConfig | vigilProgram | faultClear | provisionCommit | imageActivate | rejoin | imageStage | calInvalidate
  | calRun | retrain | timeStep | timeHoldover | cmdAuthFail | regBypass | oscSecondary | islandDarkAccess
  | prepareLate | keyRetainFail | tempWarn | tempAlarm | thermalTrip | railOut | refFault | daliBusDown
  | bootFallback | synFault | mapStoreFull | holPnWarn | wlanPnWarn | pnWarn | lanternLost | linkLost
  | partnerLeft | partnerDim | partnerDrop | linkUp | linkDown | linkFlap | pauseIgnored | mismatch
  | memEccUe | memUnmapped | memHeldAccess | dramHot | tskLongRun
  deriving DecidableEq, Repr

/-- An event on its way to the log, and a log entry (R527): time, source, sequence, status, severity, flags, name and
detail words. -/
structure Event where
  sec : Nat
  ns : Nat
  frac : Nat
  src : Nat
  seq : Nat
  status : Nat
  sev : Nat
  flags : Nat
  name : Ev
  detail : List Nat
  deriving DecidableEq, Repr

/-- Entries of one name from one source in one second (R530). -/
structure Suppress where
  name : Ev
  src : Nat
  sec : Nat
  taken : Nat
  count : Nat
  firstSeq : Nat
  last : Event
  /-- a suppressed entry would have entered tier 2 -/
  tier2 : Bool
  deriving DecidableEq, Repr

/-- The log (R527–R531, R575). A tier holds its entries oldest first; `CDM_LOG_NEXT_t` gives the next index. -/
structure LogState where
  /-- events raised and not yet taken, oldest first -/
  events : List Event
  tier0 : List Event
  tier1 : List Event
  staging : List Event
  supp : List Suppress
  /-- the indices tiers 0 and 1 give their next entries -/
  next0 : Nat
  next1 : Nat
  /-- each source's next sequence number (R35) -/
  evSeq : Tbl Nat
  /-- elapsed time at which the staging buffer took its first entry, and of the last page write (R529) -/
  stagedAt : Nat
  pageAt : Option Nat
  deriving DecidableEq, Repr

def LogState.init : LogState := ⟨[], [], [], [], [], 0, 0, [], 0, none⟩

/-! ### Cudom -/

/-- A DALI_SEND or scheduled frame on a bus (R541, R542). -/
structure DaliFrame where
  bits24 : Bool
  twice : Bool
  expect : Bool
  frame : Nat
  req : Option Request
  /-- elapsed time of the request or of the schedule's second, ns; arbitrations lost so far (R541) -/
  since : Nat
  losses : Nat
  deriving DecidableEq, Repr

/-- One DALI bus. -/
structure DaliBus where
  /-- the frame on the bus, and frames waiting for it -/
  busy : Option DaliFrame
  queue : List DaliFrame
  /-- last forward frame received from another unit: 24-bit, frame -/
  rx : Option (Bool × Nat)
  /-- the interface-failure state is driven by AON (R492, R44) -/
  failed : Bool
  deriving DecidableEq, Repr

/-- A staged IMAGE_STAGE, verification or LOG_READ in progress. -/
structure CdmJobs where
  stage : List Request
  /-- the flash program of a page of the oldest staged request has started (R83) -/
  stageBegun : Bool
  /-- IMAGE_STAGE requests that have taken their slot's valid flag or changed its bytes (R59) -/
  altered : List Request
  verify : List (Request × Nat)
  logRead : List Request
  calRun : Tbl (List Request)
  retrain : Tbl (List Request)
  /-- KEY_WRITE requests that wait for a pending shadow, with the elapsed time, ns, of their arrival (R293) -/
  keyWait : List (Request × Nat)
  provision : List Request
  deriving DecidableEq, Repr

/-- What the flash interface sends (R561): the JEDEC reset, in two commands, or a quad read from an address of four bytes. -/
inductive FlashOp where
  | enableReset
  | reset
  | read (addr : Nat)
  deriving DecidableEq, Repr

/-- Cudom beside the registers (R520–R545). -/
structure CudomState where
  halted : Bool
  held : Bool
  /-- elapsed time of each glove's last kick, ns -/
  kickL : Nat
  kickR : Nat
  dali0 : DaliBus
  dali1 : DaliBus
  die : List Int
  railMv : List Nat
  rail10mA : List Nat
  tcxoPpb : Int
  laneRefPpb : Int
  refFlags : Nat
  dramTemp : List Int
  dramCode : List Nat
  /-- samples in a row, up to two, at 125 °C or more by sensor (R525), out of range by rail (R526) -/
  tripArm : List Nat
  railArm : List Nat
  warnOn : List Bool
  /-- elapsed time of the last samples (R525) -/
  sampledAt : Nat
  /-- the second of local time in which schedule entries were last sent, and which (R542) -/
  schedSec : Nat
  schedSent : List Nat
  jobs : CdmJobs
  /-- image running: 0 golden, 1 slot A, 2 slot B; its security_version -/
  slotBooted : Nat
  imageVersion : Nat
  /-- what the boot ROM has sent to the flash since reset (R561) -/
  flashSent : List FlashOp
  deriving DecidableEq, Repr

def DaliBus.init : DaliBus := { busy := none, queue := [], rx := none, failed := false }

def CdmJobs.init : CdmJobs := { stage := [], stageBegun := false, altered := [], verify := [], logRead := [], calRun := [], retrain := [], keyWait := [], provision := [] }

/-- Cudom with nothing sampled yet; the golden image until the boot ROM chooses (log entry 6). -/
def CudomState.init : CudomState :=
  { halted := false, held := false, kickL := 0, kickR := 0, dali0 := DaliBus.init, dali1 := DaliBus.init
    die := List.replicate 12 0, railMv := List.replicate 14 0, rail10mA := List.replicate 14 0, tcxoPpb := 0, laneRefPpb := 0
    refFlags := 0, dramTemp := [25, 25], dramCode := [0, 0], tripArm := List.replicate 12 0, railArm := List.replicate 14 0
    warnOn := List.replicate 12 false, sampledAt := 0, schedSec := 0, schedSent := [], jobs := CdmJobs.init, slotBooted := 0, imageVersion := 0, flashSent := [] }

/-- A slot in the provisioning record. -/
structure ProvKey where
  slot : Nat
  cls : Nat
  key : List Byte
  deriving DecidableEq, Repr

/-- The provisioning record (R539). -/
structure ProvRecord where
  district : Nat
  device : Nat
  keys : List ProvKey
  deriving DecidableEq, Repr

/-- The external flash and the fuses; they keep through OFF (R4, R532–R540). Image slots are byte tables over
0–0xFF_FFFF; an erased byte reads 0xFF. -/
structure FlashState where
  slotA : Tbl Byte
  slotB : Tbl Byte
  golden : Tbl Byte
  /-- last IMAGE_VERIFY after the last IMAGE_STAGE found the slot valid -/
  validA : Bool
  validB : Bool
  lastValid : Nat
  /-- boot record: slot 0 A, 1 B -/
  bootSlot : Nat
  trial : Bool
  trialCount : Nat
  /-- board record: its verification holds, fitted radios and quads as masks, fitted DRAM capacity in bytes -/
  boardValid : Bool
  radiosFitted : Nat
  quadsFitted : Nat
  dramBytes : Nat
  /-- provisioning record: district ID, device number, wrapped slots (slot, class, key) -/
  prov : Option ProvRecord
  provReadable : Bool
  netRecord : List NetPeer
  /-- calibration records: valid, lit_count, per radio -/
  calValid : List Bool
  calLit : List Nat
  tier2 : List Event
  tier2Next : Nat
  /-- fuses -/
  stepLetter : Nat
  stepDigit : Nat
  grade : Nat
  minVersion : Nat
  keyHash : List Byte
  testKeyHash : Option (List Byte)
  deviceKey : List Byte
  deriving DecidableEq, Repr

/-- A node as made: every radio and quad and 16 GiB of DRAM fitted, image slots, golden image and records erased, fuses of an FC
part on B0 silicon (log entry 7). -/
def FlashState.init : FlashState :=
  { slotA := [], slotB := [], golden := [], validA := false, validB := false, lastValid := 0, bootSlot := 0, trial := false
    trialCount := 0, boardValid := true, radiosFitted := 7, quadsFitted := 15, dramBytes := 0x400000000, prov := none
    provReadable := true, netRecord := [], calValid := [false, false, false], calLit := [0, 0, 0], tier2 := [], tier2Next := 0
    stepLetter := 1, stepDigit := 0, grade := 1, minVersion := 0, keyHash := List.replicate 48 0, testKeyHash := none
    deviceKey := List.replicate 32 0 }

/-- A frame in an ingress receive FIFO (R33): bytes without FCS, station or partner entry it came from, whether MACsec
accepted it (R299), and its receive stamp in 2^−16 ns (R401). -/
structure RxFrame where
  bytes : List Byte
  station : Nat
  secured : Bool
  stamp : Int
  deriving DecidableEq, Repr

/-- The answer of the last register or memory access: bus error, data of a register read, bytes of a memory read. -/
structure BusAns where
  err : Bool
  data : Word
  bytes : List Byte
  deriving DecidableEq, Repr

end Sys2Proof.Machine
end

