-- ==== Sys2Proof/Machine/StDma.lean ====
section
/-!
DEFINITION. The state of the DMA engine that no software register holds (R422–R440).
-/

namespace Sys2Proof.Machine

/-- A DMA channel beside its registers: the data descriptor in progress as read, bytes moved for it; and on a transmit
channel the frame so far, whether one is open, the queue its first descriptor names, and the address of its last
descriptor read. -/
structure DmaChan where
  desc : Option (List Byte)
  moved : Nat
  frame : List Byte
  inFrame : Bool
  queue : Nat
  lastAt : Nat
  deriving DecidableEq, Repr

def DmaChan.init : DmaChan := ⟨none, 0, [], false, 0, 0⟩

/-- The engine: channels; the channel last served of each priority; bursts of higher priorities that a waiting priority has
seen in a row (R432). -/
structure DmaState where
  chans : Tbl DmaChan
  last : Tbl Nat
  waited : Tbl Nat
  deriving DecidableEq, Repr

/-- Log entry 6. -/
def DmaState.init : DmaState := ⟨[], [], []⟩

end Sys2Proof.Machine
end

