-- ==== Sys2Proof/Machine/StHmac.lean ====
section
/-!
DEFINITION. The state of HMAC that no software register holds: the map store, the Holael links and the WLAN service
(R137–R141, R183–R187, R193–R278).
-/

namespace Sys2Proof.Machine

/-- A map of the map store (R140): header fields, place and size in 64-byte units, and its entries per stream.
`kind` 0 is a receive map, 1 a transmit map. -/
structure HolMap where
  kind : Nat
  mapId : Nat
  band : Nat
  partner : Nat
  width : Nat
  rate : Nat
  streams : Nat
  codedBits : Nat
  groups : Nat
  seq : Nat
  calVersion : Nat
  valid : Bool
  unit : Nat
  entries : List (List Nat)
  deriving DecidableEq, Repr

/-- The SNR average of a peer and band (R137), 2^−8 dB per stream and group; PPDUs averaged; how many an offer waits for (R228, R162);
whether a refresh request asked for the next offer. -/
structure SnrAvg where
  taken : Nat
  vals : List (List Int)
  need : Nat
  refresh : Bool
  deriving DecidableEq, Repr

/-- A map offer under way (R228–R230): attempts made, and the event counter at the last. -/
structure Offer where
  peer : Nat
  band : Nat
  map : HolMap
  attempts : Nat
  lastEc : Option Nat
  deriving DecidableEq, Repr

/-- A replay record (R219): key slot and its generation, highest accepted packet number, numbers seen from high − 63 as a mask whose
bit k is high − k. -/
structure Replay where
  slot : Nat
  gen : Nat
  high : Nat
  seen : Nat
  deriving DecidableEq, Repr

def Replay.empty : Replay := ⟨0, 0, 0, 0⟩

/-- An MSDU HMAC holds to send on a Holael link (R213, R236, R237). -/
structure HMsdu where
  sn : Nat
  payload : List Byte
  tries : Nat
  /-- fragments already sent, and bytes they carried -/
  frags : Nat
  sent : Nat
  /-- the band whose exchange carries it now (R213) -/
  on : Option Nat
  deriving DecidableEq, Repr

/-- A received MSDU, whole or in fragments, held for order (R213). -/
structure RMsdu where
  sn : Nat
  parts : List (Nat × List Byte)
  last : Option Nat
  since : Nat
  /-- receive stamp of the PPDU that completed it, 2^−16 ns -/
  stamp : Int
  deriving DecidableEq, Repr

/-- A link with a partner (0–1 023) or with the parent (1 024), beside its registers (R213–R241). -/
structure HolPeer where
  /-- traffic of a key_id held after exhaustion (R220), with the slot and generation it was held at -/
  held0 : Option (Nat × Nat)
  held1 : Option (Nat × Nat)
  /-- elapsed time of the last valid frame, or of the start of supervision -/
  lastRx : Nat
  /-- event counter at the event that raised the dim level (R234) -/
  dimBase : Nat
  /-- in the event under way, on any band: polled and not yet judged; a valid frame heard (R234) -/
  polled : Bool
  heard : Bool
  /-- absence of the partner (R241): bands, first round, rounds (none open), elapsed start of an open one -/
  absence : Option (Nat × Nat × Option Nat)
  absentSince : Nat
  leaving : Bool
  /-- round of the first event -/
  first : Nat
  /-- an absence to announce to the parent: bands, rounds, first round (R241) -/
  absSend : Option (Nat × Nat × Nat)
  /-- the absence announced to the parent, as absSend; open where the rounds are 0xFFFF -/
  absOwn : Option (Nat × Nat × Nat)
  txq : List HMsdu
  nextSn : Nat
  /-- receive side: next sequence number to release, MSDUs held, and received-whole record for BACK -/
  rxNext : Nat
  rxq : List RMsdu
  ackStart : Nat
  ackMap : Nat
  /-- map refresh requests (R184), by band: unsent, deferred, elapsed time of the last sent -/
  refUnsent : Nat
  refDeferred : Nat
  refSent : Tbl Nat
  /-- map ID last used to send, by band; last offer per band, elapsed -/
  txMapId : Tbl Nat
  rxMapId : Tbl Nat
  offered : Tbl Nat
  deriving DecidableEq, Repr

def HolPeer.init : HolPeer :=
  { held0 := none, held1 := none,
    lastRx := 0, dimBase := 0, polled := false, heard := false, absence := none,
    absentSince := 0, leaving := false, first := 0,
    absSend := none, absOwn := none, txq := [], nextSn := 0, rxNext := 0, rxq := [], ackStart := 0, ackMap := 0,
    refUnsent := 0, refDeferred := 0, refSent := [], txMapId := [], rxMapId := [], offered := [] }

/-- An absence: bands, first round, rounds. -/
structure Absence where
  bands : Nat
  start : Nat
  rounds : Nat
  deriving DecidableEq, Repr

/-- What a member adopted from its parent (R204, R223–R225). -/
structure ParentLink where
  roundUnits : Nat
  reserve : Nat
  map : Nat
  mapVersion : Nat
  anchor : Nat
  nextMap : Nat
  switchRound : Nat
  nextAnchor : Nat
  joinOpen : Bool
  joinOffset : Nat
  joinLen : Nat
  coordPpm : Nat
  hop : Nat
  gi : Nat
  nextRound : Nat
  chdefs : List Nat
  absences : List Absence
  /-- a JOIN_REQ was sent and not given up; its reply came (R223) -/
  joinSent : Bool
  joinAnswered : Bool
  /-- elapsed time the present state's timeout runs from; round of the last lantern heard or missed (R233) -/
  since : Nat
  listened : Option Nat
  deriving DecidableEq, Repr

def ParentLink.init : ParentLink :=
  { roundUnits := 80, reserve := 2, map := 0, mapVersion := 0, anchor := 0, nextMap := 0, switchRound := 0,
    nextAnchor := 0, joinOpen := false, joinOffset := 2, joinLen := 4, coordPpm := 20, hop := 1, gi := 0,
    nextRound := 0, chdefs := [], absences := [], joinSent := false, joinAnswered := false, since := 0, listened := none }

/-- The last Holael PSDU built for a radio: frame identifier, link, frame type, H-SIG's more, RF start and TXTIME in ns, and whether
its RF has started; what it carries: MSDUs by sequence number, whole or as a fragment of so many bytes; and, in a MAP_UPDATE,
whether that is an offer. -/
structure HolSent where
  frameId : Nat
  peer : Option Nat
  type : Nat
  more : Bool
  start : Nat
  air : Nat
  onAir : Bool
  sns : List Nat
  frag : Option Nat
  isOffer : Bool
  deriving DecidableEq, Repr

/-- The event under way on a radio (R205–R211): peer, start and window end in ns of district time; end of the last PPDU in it, of
either end; whether a reply is awaited; whether a missing reply has opened a further exchange, and whether that is still to begin;
the partner's last more; whether a valid frame came; whether LEAVE went out; type of the last frame received that an answer is owed
for. -/
structure HolEvent where
  peer : Nat
  start : Nat
  stop : Nat
  last : Option Nat
  wait : Bool
  reopened : Bool
  again : Bool
  more : Bool
  begun : Bool
  left : Bool
  owed : Option Nat
  deriving DecidableEq, Repr

/-- An event that begins. -/
def HolEvent.at (peer start stop : Nat) : HolEvent :=
  { peer := peer, start := start, stop := stop, last := none, wait := false, reopened := false, again := false, more := false
    begun := false, left := false, owed := none }

/-- Holael beside its registers. -/
structure HolState where
  peers : Tbl HolPeer
  maps : List HolMap
  snr : Tbl SnrAvg
  cands : Tbl HolMap
  offers : List Offer
  /-- pending map change (R203): map, anchor, switch round -/
  change : Option (Nat × Nat × Nat)
  absences : List Absence
  parent : ParentLink
  /-- JOIN_RSPs that answer a JOIN_REQ: device, body, RF start; join frames passed to core software: device, body -/
  joinRsps : List (Nat × List Byte × Nat)
  joinReqs : List (Nat × List Byte)
  /-- replay records, by 4 096 · kind + transmitting device: kind 0 lanterns, 1 join frames, 2 and 3 a partner's key_id 0 and 1,
  4 and 5 the parent's (R219) -/
  seen : Tbl Replay
  /-- event under way, by radio -/
  events : Tbl HolEvent
  /-- bands whose partner queues held data at an event end of this round, of the last round; elapsed time of the last
  refused reservation per band (R239) -/
  congNow : Nat
  congLast : Nat
  refused : Tbl Nat
  /-- last PSDU sent on each radio -/
  sent : Tbl HolSent
  deriving DecidableEq, Repr

/-- Log entry 6. -/
def HolState.init : HolState :=
  { peers := [], maps := [], snr := [], cands := [], offers := [], change := none, absences := [], parent := ParentLink.init, joinRsps := [],
    joinReqs := [], seen := [], events := [], congNow := 0, congLast := 0,
    refused := [], sent := [] }

/-- An MPDU HMAC holds to send to a station (R249, R258): TID, sequence number, bytes, transmissions made, whether core
software asked for its status, frame identifier, fragments sent and the bytes they carried. -/
structure WMpdu where
  tid : Nat
  sn : Nat
  bytes : List Byte
  tries : Nat
  wantStatus : Bool
  frameId : Nat
  frags : Nat
  sent : Nat
  deriving DecidableEq, Repr

/-- A received MSDU held for order (R259), with the stamp of its PPDU, 2^−16 ns. -/
structure WHeld where
  tid : Nat
  sn : Nat
  bytes : List Byte
  since : Nat
  stamp : Int
  deriving DecidableEq, Repr

/-- Fragments received of an MSDU (R244): TID, sequence number, next fragment number, bytes so far. -/
structure WParts where
  tid : Nat
  sn : Nat
  next : Nat
  bytes : List Byte
  deriving DecidableEq, Repr

/-- A station, or the MLD client its entry is a link of, beside the station table (R249–R272). -/
structure WlanPeer where
  txq : List WMpdu
  /-- next sequence number by TID; 8 is for management frames -/
  nextSn : Tbl Nat
  /-- replay counter by 16 · key ID + TID: generation and highest packet number -/
  replay : Tbl (Nat × Nat)
  /-- receive block acknowledgement agreements: window start by TID -/
  baRx : Tbl Nat
  held : List WHeld
  parts : List WParts
  /-- scoreboard of a receive agreement by TID (R160): first sequence number, and the received ones as a mask from there -/
  board : Tbl (Nat × Nat)
  /-- traffic held after exhaustion or erasure until the slot's generation changes (R270, R271): slot and generation -/
  keyHeld : Option (Nat × Nat)
  /-- EMLSR: link of the last exchange, and when the client's transition delay after it is over (R248) -/
  emlsrFree : Option (Nat × Nat)
  deriving DecidableEq, Repr

def WlanPeer.init : WlanPeer :=
  { txq := [], nextSn := [], replay := [], baRx := [], held := [], parts := [], board := [], keyHeld := none, emlsrFree := none }

/-- An entry's own radio-side state: missed triggers in a row, buffered data reported, service period open, last sounding
(elapsed) and whether its matrix is stale, and how many frames power save releases now. -/
structure StaLink where
  missed : Nat
  buffered : Bool
  inSp : Bool
  sounded : Option Nat
  stale : Bool
  credit : Nat
  deriving DecidableEq, Repr

def StaLink.init : StaLink := ⟨0, false, false, none, false, 0⟩

/-- A transmit status record (R275). -/
structure TxStatus where
  frameId : Nat
  station : Nat
  status : Nat
  tries : Nat
  acked : Bool
  aborted : Bool
  link : Nat
  calVersion : Nat
  deriving DecidableEq, Repr

/-- A management frame of the transmit ring (R275): station entry, none for group-addressed; whether it is robust. -/
structure WMgmt where
  frameId : Nat
  station : Option Nat
  robust : Bool
  bytes : List Byte
  tries : Nat
  deriving DecidableEq, Repr

/-- The WLAN exchange under way on a radio: its frame identifier; the station's entry, TID and sequence numbers of the data
MPDUs in it; or the management frame; and the calibration version once its RF has ended. -/
structure WExch where
  frameId : Nat
  entry : Option Nat
  tid : Nat
  sns : List Nat
  mgmt : Option WMgmt
  /-- bytes of the MPDU that this exchange carries as a fragment -/
  frag : Option Nat
  version : Nat
  deriving DecidableEq, Repr

/-- One radio's WLAN service beside its registers. -/
structure WlanRadio where
  exch : Option WExch
  /-- exchanges with the other users of a multi-user PPDU -/
  multi : List WExch
  /-- EMLSR: the entry whose exchange an MU-RTS has opened, whether its CTS has come, and the client's transition delay, ns (R248) -/
  icf : Option (Nat × Bool × Nat)
  /-- WLAN operating channel last used: centre in 78.125 kHz units, width code -/
  chan : Option (Nat × Nat)
  /-- start of the last Holael window that protection was due for, ns (R260); Duration of the last CTS-to-self, µs -/
  shielded : Nat
  ctsDuration : Nat
  /-- same-colour PPDUs from outside the station table, elapsed times (R251); colour in use, which changes at a beacon -/
  colour : List Nat
  colourNow : Nat
  /-- preamble of the last PPDU skipped for its foreign colour (R124) -/
  obss : Option RxPreamble
  /-- addresses passed up (R254) and management frames accepted (R274) in this district second -/
  sec : Nat
  unknown : List Nat
  mgmtCount : Nat
  /-- last basic trigger, elapsed, and its users that have not answered (R265, R266); while TB PPDUs may come, the entries and
  TIDs that MPDUs came from -/
  lastTrig : Option Nat
  trigWait : List Nat
  tb : Option (List (Nat × Nat))
  /-- steering (R276, R277): elapsed end; switch time in district ns set by the first beacon; link no longer scheduled; the
  mapping is being withdrawn -/
  steerEnd : Option Nat
  switchAt : Option Nat
  linkOff : Bool
  withdraw : Bool
  beacons : Nat
  /-- group-addressed frames (BSSID, bytes) and how many a DTIM beacon has released -/
  group : List (Nat × List Byte)
  groupReady : Nat
  /-- addresses that a probe response is due to (R250) -/
  probes : List Nat
  /-- management frames for the receive ring with their stamps, status records for the status ring, frames taken from the transmit ring -/
  mgmtRx : List (List Byte × Int)
  status : List TxStatus
  mgmtTx : List WMgmt
  /-- sequence number of the next group-addressed management frame (R275) -/
  mgmtSn : Nat
  /-- association IDs that the last beacon's TIM shows (R268) -/
  tim : List Nat
  /-- group keys whose traffic is held after exhaustion: slot and generation (R270) -/
  groupHeld : List (Nat × Nat)
  /-- disassociations that the end of steering left to send: address and reason code (R276) -/
  disassoc : List (Nat × Nat)
  deriving DecidableEq, Repr

def WlanRadio.init : WlanRadio :=
  { exch := none, multi := [], icf := none, chan := none, shielded := 0, ctsDuration := 0, colour := [], colourNow := 0, obss := none, sec := 0, unknown := [], mgmtCount := 0
    lastTrig := none, trigWait := [], tb := none, steerEnd := none, switchAt := none, linkOff := false, withdraw := false, beacons := 0
    group := [], groupReady := 0, probes := [], mgmtRx := [], status := [], mgmtTx := [], mgmtSn := 0
    tim := [], groupHeld := [], disassoc := [] }

/-- HMAC beside its registers. `notices` are reports to core software, oldest first: radio, code
(0 STEER_START, 1 COLOR_COLLISION, 3 lantern lost, 4 join frame) and argument. -/
structure HmacState where
  hol : HolState
  wpeers : Tbl WlanPeer
  links : Tbl StaLink
  wrad : Tbl WlanRadio
  notices : List (Nat × Nat × Nat)
  deriving DecidableEq, Repr

def HmacState.init : HmacState := ⟨HolState.init, [], [], [], []⟩

end Sys2Proof.Machine
end

