-- ==== Sys2Proof/Machine/StMem.lean ====
section
/-!
DEFINITION. The state of DRAM and of the packet store that no software register holds (R24, R458–R486).
-/

namespace Sys2Proof.Machine

/-- A line in a queue of a channel (R468–R471): its requester, offset, bank and row, the instant it entered, and whether it was
promoted (R470). -/
structure DramReq where
  who : Requester
  x : Nat
  bank : Nat
  row : Nat
  since : Nat
  promoted : Bool
  deriving DecidableEq, Repr

/-- A request of one line at an offset: the bytes it reads or writes, what its check bytes show, where the line lies. -/
structure DramWait where
  who : Requester
  x : Nat
  len : Nat
  data : Option (List Byte)
  find : EccFind
  bank : Nat
  row : Nat
  since : Nat
  deriving DecidableEq, Repr

/-- The queues of a channel and its scheduler (R468–R470): open rows with the run of hits of each bank, whether it drains writes, the
services since the last read of the drain, and the part of a line time gained, in 1/16 000 line. -/
structure DramChan where
  reads : List DramReq
  writes : List DramReq
  opens : Tbl (Option (Nat × Nat))
  draining : Bool
  sinceRead : Nat
  gained : Nat
  deriving DecidableEq, Repr

/-- Empty queues, every bank precharged. -/
def DramChan.init : DramChan := ⟨[], [], [], false, 0, 0⟩

/-- DRAM beside the registers of MEM0 and MEM1. A byte that nothing has written, or that was lost, has no entry and reads as
a free value of its epoch (R486). -/
structure DramState where
  /-- contents by offset from 0x10_0000_0000; a mirrored chamber's by its visible address -/
  bytes : Tbl (Option Byte)
  epoch : Nat
  /-- lines with the poison check pattern (R477), as offset / 64 -/
  poison : List Nat
  /-- dirty map (R479): 4 KiB blocks, as visible offset / 4 096 -/
  dirty : List Nat
  /-- activate tables (R473) by 1 024 · channel + bank: (row, count) -/
  rows : Tbl (List (Nat × Nat))
  /-- logged once: bit n an unmapped access of channel n since its lock, bit 2 + n a held access of channel n in this hold -/
  logged : Nat
  /-- last MR4 temperature and WCK-to-DQ oscillator reading, by channel (R472, R483) -/
  temp : List Int
  wck : List Nat
  /-- channels whose training failed once (R484), as a mask -/
  failedOnce : Nat
  /-- the channel that last came back from a hold, and when RESYNC began -/
  returning : Nat
  resyncAt : Nat
  /-- queues and schedulers, by channel -/
  chans : Tbl DramChan
  /-- requests that found their queue full, oldest first (R468) -/
  waiting : List DramWait
  /-- start of the refresh window, by channel (R472) -/
  winAt : List Nat
  /-- the scrubber's next line and the instant of its last read, by channel (R478) -/
  scrubPos : List Nat
  scrubAt : List Nat
  deriving DecidableEq, Repr

/-- Log entry 6. -/
def DramState.init : DramState :=
  { bytes := [], epoch := 0, poison := [], dirty := [], rows := [], logged := 0, temp := [25, 25], wck := [0, 0]
    failedOnce := 0, returning := 0, resyncAt := 0, chans := [], waiting := [], winAt := [0, 0], scrubPos := [0, 0]
    scrubAt := [0, 0] }

end Sys2Proof.Machine
end

