-- ==== Sys2Proof/Machine/StPkt.lean ====
section
/-!
DEFINITION. The state of the classifier and of the scheduler that no software register holds (R304–R355).
-/

namespace Sys2Proof.Machine

/-! ### Classifier -/

/-- A decision (R316, R331, R335): exception class, whether the packet is discarded, queue, meter and its colour awareness, and
the fields of the classification record. -/
structure Verdict where
  exc : Option Nat
  drop : Bool
  queue : Nat
  meter : Option Nat
  aware : Bool
  version : Nat
  epHit : Bool
  rule : Nat
  hash : Nat
  tag : Nat
  deriving DecidableEq, Repr

/-- An endpoint lookup that reads DRAM (R319–R321): its 20-byte key, whether it is at the second bucket, and whether an
invalidation was accepted since the present read started. -/
structure Lookup where
  key : List Byte
  second : Bool
  stale : Bool
  deriving DecidableEq, Repr

/-- What parsing found that later steps use: offsets and layers of the record, DEI, DSCP of an IP packet. -/
structure Offsets where
  l2 : Nat
  l3 : Nat
  l4 : Nat
  layers : Nat
  dei : Nat
  dscp : Option Nat
  deriving DecidableEq, Repr

/-- A fragment (R330): its datagram, its offset and length in bytes, and its MF flag. -/
structure Fragment where
  dgram : List Nat
  offset : Nat
  bytes : Nat
  more : Bool
  deriving DecidableEq, Repr

/-- A frame in flight in the classifier (R326): source, stamped version (none for a released held fragment), pipeline, the
frame, what parsing found, the first fragment whose decision is to be recorded, the rule's decision, miss kind and indirection
entry of a spread while a lookup runs, and the decision. -/
structure PktFrame where
  source : Nat
  stamp : Option Nat
  pipe : Nat
  frame : RxFrame
  offs : Offsets
  frag : Option Fragment
  base : Verdict
  missKind : Nat
  spread : Option Nat
  look : Option Lookup
  verdict : Option Verdict
  deriving DecidableEq, Repr

/-- An entry of the fragment table (R331): datagram, decision, creation time (elapsed), bytes seen, end given by MF = 0. -/
structure FragEntry where
  dgram : List Nat
  verdict : Verdict
  born : Nat
  seen : Nat
  total : Option Nat
  deriving DecidableEq, Repr

/-- A held fragment (R333). -/
structure HeldFrag where
  source : Nat
  pipe : Nat
  frame : RxFrame
  offs : Offsets
  frag : Fragment
  since : Nat
  deriving DecidableEq, Repr

/-- A result of the endpoint cache (R321): key, and the action word and tag of a hit. -/
structure EpResult where
  key : List Byte
  bucket : Nat
  hit : Option (Nat × Nat)
  deriving DecidableEq, Repr

/-- A class's token bucket (R336): tokens in millionths of a packet, and the microsecond of its last credit. -/
structure Tokens where
  tok : Nat
  at_ : Nat
  deriving DecidableEq, Repr

/-- PKT beside its registers. -/
structure PktState where
  flight : List PktFrame
  frags : List FragEntry
  held : List HeldFrag
  cache : List EpResult
  tokens : Tbl (Option Tokens)
  /-- a commit waits for the seed (R324) -/
  commitWaits : Bool
  /-- the ingress source each pipeline served last (R305); from 18, Radio H, at reset -/
  turns : Tbl Nat
  /-- when a write of commit_req was last accepted: another in the same cycle makes no second commit (R328) -/
  commitAt : Option Nat
  /-- when the seed of the staging version started (R325; elapsed) -/
  seedAt : Nat
  deriving DecidableEq, Repr

/-- Log entry 6. -/
def PktState.init : PktState := ⟨[], [], [], [], [], false, [], none, 0⟩

/-! ### Scheduler -/

/-- A packet in a queue: bytes, classification record words, colour (0 green, 1 yellow, 2 red), the count at its acceptance,
its receive stamp in 2^−16 ns, and for a radio management queue its station entry (R341, R355). -/
structure SchPkt where
  bytes : List Byte
  record : List Word
  colour : Nat
  at_ : Nat
  stamp : Int
  station : Nat
  deriving DecidableEq, Repr

/-- A queue beside its registers (R343–R346): packets, start tag, credit in 10^−6 byte and the elapsed time it is settled at,
and whether it was backlogged and eligible. -/
structure SchQueue where
  pkts : List SchPkt
  tag : Nat
  credit : Int
  since : Nat
  awake : Bool
  deriving DecidableEq, Repr

def SchQueue.init : SchQueue := ⟨[], 0, 0, 0, false⟩

/-- A meter in force (R348): words 0 to 3, tokens in 10^−6 byte, and when they were credited (elapsed). -/
structure Meter where
  w0 : Word
  w1 : Word
  w2 : Word
  w3 : Word
  tc : Nat
  tp : Nat
  at_ : Nat
  deriving DecidableEq, Repr

/-- SCH beside its registers: queues, virtual times by domain, meters in force, the configurations replaced in a cycle, with its
time (R349), whether CDM is held back (R352), and the free value that a cell of the packet store reads as while nothing has been
written to it (log entry 3). -/
structure SchState where
  queues : Tbl SchQueue
  vtime : Tbl Nat
  meters : Tbl Meter
  replaced : List (Nat × Nat × Meter)
  cdmHeld : Bool
  store : Nat
  deriving DecidableEq, Repr

/-- Log entry 6. -/
def SchState.init : SchState := ⟨[], [], [], [], false, 0⟩

/-! ### Task scheduler -/

/-- States of a work item other than FREE (R444). -/
inductive ItemSt where
  | parked | ready | dispatched (core : Nat)
  deriving DecidableEq, Repr

/-- A work item (R441–R447): slot, generation, state, its 16 words, priority and affinity mode, affinity entry, whether it came
from a core, the packet it carries (first cell, cells), when it became ready and in what order, when it was dispatched
(elapsed), whether its long run was raised, and whether its wait for the recorded core is over. -/
structure Item where
  slot : Nat
  gen : Nat
  st : ItemSt
  words : List Word
  prio : Nat
  aff : Nat
  entry : Nat
  fromCore : Option Nat
  pkt : Option (Nat × Nat)
  readyAt : Nat
  order : Nat
  started : Nat
  long : Bool
  waited : Bool
  deriving DecidableEq, Repr

/-- TSK beside its registers: items not FREE, generations of slots, order of readiness, the affinity table (core plus one),
submissions that wait for a slot (core, and since when), packets SCH has dequeued on egress 19, with their queue, and forwarded
packets that wait for SCH, with their queue (R518). -/
structure TskState where
  items : List Item
  gens : Tbl Nat
  order : Nat
  affinity : Tbl Nat
  waiting : List (Nat × Nat)
  inbox : List (SchPkt × Nat)
  fwd : List (SchPkt × Nat)
  deriving DecidableEq, Repr

/-- Log entry 6. -/
def TskState.init : TskState := ⟨[], [], 0, [], [], [], []⟩

/-- A packet core's clock (R454): when its counters were settled (elapsed), and fifths of a cycle that stand over. -/
structure CoreClk where
  since : Nat
  fifths : Nat
  deriving DecidableEq, Repr

def CoreClk.init : CoreClk := ⟨0, 0⟩

end Sys2Proof.Machine
end

