-- ==== Sys2Proof/Machine/StPort.lean ====
section
/-!
DEFINITION. The state of a wired port that no software register holds (R358–R394).
-/

namespace Sys2Proof.Machine

/-- A frame on the wire: its bytes without FCS, the MACsec slot it is protected under, whether an erase has already ended
it, and the elapsed time, ns, at which it ends by itself (R300, R369, R388, R389) (log entry 94). -/
structure WireFrame where
  bytes : List Byte
  slot : Option Nat
  erased : Bool
  ends : Nat
  deriving DecidableEq, Repr

/-- A lane's receiver (R363): the last 10 bits, bits since the last symbol boundary, the state of the synchronisation state machine,
whether the last symbol stood in an even place, good symbols in a row, and running disparity (true: positive). -/
structure LaneRx where
  sr : Nat
  cnt : Nat
  st : Nat
  even : Bool
  good : Nat
  rd : Bool
  deriving DecidableEq, Repr

/-- Log entry 6. -/
def LaneRx.init : LaneRx := ⟨0, 0, 0, false, 0, false⟩

/-- Why a Kalhar Link passes TRAIN, LOCK and EXCHANGE (R374): bring-up or lane failure, a thrift rate step, a DEEP exit. -/
inductive KlPass where
  | bringUp | thrift | deep
  deriving DecidableEq, Repr

/-- A wired port beside its registers. -/
structure PortState where
  /-- frames of the transmit FIFO, oldest first; the frame on the wire; the last frame that ended and whether its FCS is good -/
  txq : List (List Byte)
  tx : Option WireFrame
  lastTx : Option (List Byte × Bool)
  /-- pause resolved by auto-negotiation: receive, transmit; none while the settings apply as written (R365) -/
  pauseRes : Option (Bool × Bool)
  /-- SGMII: link bit of the PHY, and a speed that waits for the frame boundary (R366) -/
  sgmiiLink : Bool
  speedNext : Option Nat
  /-- PAUSE frames consumed and not yet acted on: quanta; the pause under way ends at this elapsed time; pauses of the last
  100 ms, as start and end (R390) -/
  pauseIn : List Nat
  pauseEnd : Option Nat
  pauses : List (Nat × Nat)
  /-- when the PCS began to report the link good (R369); the end of a hold-off (R391); when the last PAUSE was sent (R392): elapsed -/
  goodAt : Option Nat
  holdEnd : Nat
  pauseAt : Nat
  /-- 10GBASE-X4: remote fault is sent, on a local fault (R368) -/
  sendsFault : Bool
  /-- district second in which an ignored PAUSE was last logged -/
  ignLogged : Option Nat
  /-- the last PAUSE sent asked the partner to stop (R392); quanta of the last PAUSE sent -/
  xoffSent : Bool
  pauseSent : Option Nat
  /-- elapsed times of link-downs, negotiation restarts and entries to TRAIN from ACTIVE within 1 s (R391) -/
  flaps : List Nat
  /-- latched high bits of the octet counters (R394) -/
  rxHigh : Option Nat
  txHigh : Option Nat
  /-- Kalhar Link: the last control block sent (type, arg0, arg1); the parameters received; the pass under way and the step
  it left; the top of the thrift ladder and the change that an ACK scheduled (width, rate codes) -/
  lastCtl : Option (Nat × Nat × Nat)
  params : Tbl Nat
  pass : KlPass
  passFrom : Nat × Nat
  top : Nat × Nat
  change : Option (Nat × Nat)
  /-- Kalhar Link: lane order found reversed (R364); when its state was entered, LOCK last entered, the pass of R374 begun, and the
  change agreed: elapsed -/
  reversed : Bool
  stAt : Nat
  lockAt : Nat
  passAt : Nat
  changeAt : Nat
  /-- own THRIFT_REQ without an answer; elapsed time of the last answer given; windows in a row below the step-down level
  since the last step change (R380, R383) -/
  ownReq : Option (Nat × Nat)
  lastAnswer : Option Nat
  lowRun : Nat
  /-- own DEEP_REQ without an answer (R379) -/
  deepSent : Bool
  /-- Kalhar Link: when the transmitter last had something to send, the receiver last received something, LP_IDLE apart, and when
  LP_IDLE was last sent and received (R378, R379; elapsed) -/
  txAt : Nat
  rxAt : Nat
  lpTxAt : Nat
  lpRxAt : Nat
  deriving DecidableEq, Repr

/-- Log entry 6. -/
def PortState.init : PortState :=
  { txq := [], tx := none, lastTx := none, pauseRes := none, sgmiiLink := false, speedNext := none, pauseIn := []
    pauseEnd := none, pauses := [], goodAt := none, holdEnd := 0, pauseAt := 0, sendsFault := false, reversed := false, stAt := 0
    lockAt := 0, passAt := 0, changeAt := 0, ignLogged := none, xoffSent := false, pauseSent := none, flaps := [], rxHigh := none
    txHigh := none, lastCtl := none, params := [], pass := .bringUp, passFrom := (0, 0), top := (0, 0), change := none
    ownReq := none, lastAnswer := none, lowRun := 0, deepSent := false
    txAt := 0, rxAt := 0, lpTxAt := 0, lpRxAt := 0 }

end Sys2Proof.Machine
end

