-- ==== Sys2Proof/Machine/StRenew.lean ====
section
/-!
DEFINITION. Renewals, and the calibration records of the external flash (R188, R511–R518).
-/

namespace Sys2Proof.Machine

/-- A calibration record (R188): the coefficient set of every calibration channel, loop, chain and gain state, by
512 · channel + 64 · loop + 8 · chain + gain state; receive gain tables; synthesiser band
tables; die temperature in 0.125 °C; the chains recorded as failed, as a mask (R189). -/
structure CalRec where
  sets : Tbl CalSet
  gains : Tbl Int
  bands : Tbl Nat
  temp : Int
  failed : Nat
  deriving DecidableEq, Repr

def CalRec.init : CalRec := ⟨[], [], [], 0, 0⟩

/-- A renewal beside AON_RENEW (R511–R518): part, request, what FENCE saved (registers, HMAC's tables, a radio's calibration and
muted chains), the egresses that PREPARE held and the core_en bits it cleared, as masks, whether the island was FAILED when it
began (R516), and whether PREPARE waits for a steering run. -/
structure Renewal where
  part : Nat
  req : Option Request
  saved : Tbl Word
  hmac : Option HmacState
  cal : Option CalState
  muted : Nat
  holds : Nat
  cores : Nat
  wasFailed : Bool
  waitSteer : Bool
  deriving DecidableEq, Repr

end Sys2Proof.Machine
end

