-- ==== Sys2Proof/Machine/StTime.lean ====
section
/-!
DEFINITION. The state of TIME that no software register holds (R396–R421).
-/

namespace Sys2Proof.Machine

/-- One cuff entry (R404). -/
structure CuffEntry where
  frameId : Nat
  count : Nat
  frac : Nat
  gap : Bool
  aborted : Bool
  errEnded : Bool
  deriving DecidableEq, Repr

/-- A cuff: its entries, oldest first, and whether the next entry stored carries gap (R406, R419). -/
structure Cuff where
  entries : List CuffEntry
  gapDue : Bool
  deriving DecidableEq, Repr

/-- An empty cuff. -/
def Cuff.empty : Cuff := ⟨[], false⟩

/-- TIME: the district clock in units of 2^−28 ns, which the shadow in AON carries while TIME is dark (R396, R419);
the servo's integral in 2^−16 ppb (R411); the rest of the servo (R411, R412, R418). -/
structure TimeState where
  clock : Nat
  integral : Int
  /-- elapsed time of the last accepted sample, ns; none before the first one of mode 1 -/
  lastSample : Option Nat
  /-- elapsed time of the last accepted sample or of the entry to mode 1, from which holdover_after runs (R412) -/
  quietFrom : Nat
  goodRun : Nat
  /-- a sample was accepted since entry to mode 1 (R418) -/
  sampled : Bool
  parentSynced : Bool
  /-- the parent's bound code from its last lantern (R418) -/
  parentBound : Nat
  /-- width code of the anchor for the hop bound: 0 20 MHz to 4 320 MHz -/
  hopWidth : Nat
  /-- a path-delay sample was taken since SYNCED (R416) -/
  pathValid : Bool
  cuffs : Tbl Cuff
  /-- servo mode to return to at WAKE (R419) -/
  savedMode : Nat
  deriving DecidableEq, Repr

/-- TIME after reset: the clock at zero, in mode 0 (R396, R408) (log entry 6). -/
def TimeState.init : TimeState :=
  { clock := 0, integral := 0, lastSample := none, quietFrom := 0, goodRun := 0, sampled := false, parentSynced := false, parentBound := 63
    hopWidth := 0, pathValid := false, cuffs := [], savedMode := 0 }

end Sys2Proof.Machine
end

