-- ==== Sys2Proof/Machine/State.lean ====
section
/-!
DEFINITION. The machine's state as plain data, the two ways a step can stop, and the state after reset.
-/

namespace Sys2Proof.Machine

/-- Faults. Nothing in the spec stops the block as a whole, so no meaning raises one; a command whose event cannot happen changes
nothing (log entry 10). -/
inductive Fault where
  /-- raised by nothing; the spec gives every command an effect (safe) -/
  | stuck
  deriving DecidableEq, Repr

/-- Refusals. -/
inductive Refusal where
  /-- the dispatcher, for a command without a meaning yet (safe) -/
  | notModelled (mnemonic : String)
  deriving DecidableEq, Repr

/-- The whole machine. Limits are compared with `elapsed` or district time where it holds their start (log entry 11). -/
structure State where
  /-- software registers by 40-bit address; an unlisted one reads its reset value (R14, R18) -/
  regs : Tbl Word
  mode : ModeState
  cmd : CmdState
  /-- island power by island ID; 32 and 33 are the gloves' own switches (R574) -/
  pwr : Tbl IslandPwr
  /-- renewals running, by island ID; 1 is that of a glove (R574) -/
  renew : Tbl (Option Renewal)
  /-- calibration records in the external flash, by radio (R188) -/
  calRecs : Tbl CalRec
  aon : AonState
  log : LogState
  cdm : CudomState
  flash : FlashState
  time : TimeState
  /-- key slots 0–0xFFF -/
  keys : Tbl KeySlot
  cip : CipState
  /-- radios 0–2 -/
  rad : Tbl RadState
  dec : GalState
  /-- ingress receive FIFOs by port 0–15, radio 16–18 (R33) -/
  rxFifo : Tbl (List RxFrame)
  hmac : HmacState
  pkt : PktState
  sch : SchState
  tsk : TskState
  /-- wired ports by quad × 4 + MAC -/
  ports : Tbl PortState
  /-- lane receivers by quad × 4 + lane -/
  lanes : Tbl LaneRx
  dma : DmaState
  /-- performance counters' latched high words, by requester (R454) -/
  perf : Tbl Nat
  /-- clocks of the packet cores (R454) -/
  coreClk : Tbl CoreClk
  dram : DramState
  /-- packet store contents by offset; a byte that nothing has written has no entry (R24) -/
  pst : Tbl (Option Byte)
  /-- time since reset, ns -/
  elapsed : Nat
  /-- the model's own: which free value comes next (log entry 3) -/
  free : Nat
  /-- answer of the last register access -/
  bus : BusAns
  /-- bytes the last host port transaction clocked out on HOST_MISO -/
  miso : List Byte
  /-- commands waiting, first in first out -/
  pending : List Instr
  deriving DecidableEq, Repr

/-- The machine right after reset: OFF with SYS_RESET_N low, every island dark, every register at its reset value, no command waiting
(R38, R488, R550, R555) (log entry 1). -/
def State.reset : State :=
  { regs := [], mode := ModeState.init, cmd := CmdState.init, pwr := [], renew := []
    calRecs := [], aon := AonState.init, log := LogState.init, cdm := CudomState.init, flash := FlashState.init
    time := TimeState.init, keys := [], cip := CipState.init, rad := [], dec := GalState.init, rxFifo := []
    hmac := HmacState.init, pkt := PktState.init, sch := SchState.init, tsk := TskState.init, ports := [], lanes := []
    dma := DmaState.init, perf := [], coreClk := [], dram := DramState.init, pst := [], elapsed := 0, free := 0, bus := ⟨false, 0, []⟩
    miso := [], pending := [] }

end Sys2Proof.Machine
end

