-- ==== Sys2Proof/Machine/Regs.lean ====
section
/-!
DEFINITION. The register file: what a register reads at reset, and the one read and the one write of a register and of a
field. Hardware reads and writes registers with these; software goes through `busWrite` (R14–R19).
-/

namespace Sys2Proof.Machine

/-- The registers in island id's window. -/
def islandRegs (id : Nat) : List RegDesc :=
  if id = 0 then aonRegs else if id = 1 then cdmRegs else if id = 2 then timeRegs else if id = 3 then pktRegs
  else if id = 4 then schRegs else if id = 5 then tskRegs else if id ≤ 8 then clRegs else if id = 9 then dmaRegs
  else if id = 10 then cipRegs else if id ≤ 12 then memRegs else if id ≤ 16 then lnqRegs else if id ≤ 19 then radRegs
  else if id = 20 then decRegs else if id = 21 then hmacRegs else []

/-- The island whose window holds a window address. -/
def islandOf (a : Nat) : Nat := (a - 0xF0000000) / 0x1000000

/-- The offset of a window address in its island's window. -/
def offOf (a : Nat) : Nat := (a - 0xF0000000) % 0x1000000

/-- Does the address lie in the island windows (R24)? -/
def inWindows (a : Nat) : Bool := 0xF0000000 ≤ a && a < 0x110000000

/-- The register family at an address. -/
def findReg (a : Nat) : Option RegDesc :=
  (islandRegs (islandOf a) ++ commonRegs).find? (fun d => d.covers (islandOf a) (offOf a))

/-- The reset word of a register. Beside the field resets of the tables: xxx_IDENT (R26; block_rev is 1, log entry 4),
AON_RENEW drain limits (R512), SCH_Q tier and egress, SCH_EGRESS overhead, PKT_SRC_CFG pipeline, DMA_CH_CTL periph. -/
def resetWord (a : Nat) : Word :=
  let id := islandOf a
  let off := offOf a
  if !inWindows a then 0
  else if off = 0xFFF000 ∧ id < 22 then BitVec.ofNat 32 (id * 0x1000000 + 0x10000)
  else if id = 0 ∧ 0x184 ≤ off ∧ off < 0x190 then 0x1F4
  else if id = 4 ∧ 0x100000 ≤ off ∧ off < 0x120000 ∧ off % 32 = 0 then
    let q := (off - 0x100000) / 32
    if q ≤ 18 then BitVec.ofNat 32 (q * 0x200000 + 1) else 0x12600001
  else if id = 4 ∧ 0x100 ≤ off ∧ off < 0x140 then
    F.schEgress_overhead.put 0x18 D.schEgress.resetWord
  else if id = 3 ∧ 0x40 ≤ off ∧ off < 0x8C ∧ off % 4 = 0 then
    let i := (off - 0x40) / 4
    F.pktSrcCfg_pipeline.put (if i ≤ 7 ∨ i = 17 then 0 else 1) D.pktSrcCfg.resetWord
  else if id = 9 ∧ 0x1C00 ≤ off ∧ off < 0x1E40 ∧ off % 0x40 = 0 then
    F.dmaChCtl_periph.put (1 + (off - 0x1C00) / 0x40) D.dmaChCtl.resetWord
  else match findReg a with
    | some d => d.resetWord
    | none => 0

/-- The word a register holds. -/
def State.reg (s : State) (a : Nat) : Word := Tbl.get resetWord s.regs a

/-- The state with a register set, whatever its access code: a write by hardware. -/
def State.setReg (s : State) (a : Nat) (w : Word) : State := { s with regs := Tbl.set resetWord a w s.regs }

/-- A field of a register. -/
def State.fld (s : State) (a : Nat) (f : Fld) : Nat := f.get (s.reg a)

/-- The state with a field of a register set by hardware. -/
def State.setFld (s : State) (a : Nat) (f : Fld) (v : Nat) : State := s.setReg a (f.put v (s.reg a))

/-- Is a one-bit field 1? -/
def State.bit (s : State) (a : Nat) (f : Fld) : Bool := s.fld a f != 0

/-- The state with the registers of an island's window back at their reset values. -/
def State.resetRegs (s : State) (id : Nat) : State :=
  { s with regs := Tbl.drop (fun a => inWindows a && islandOf a == id) s.regs }

end Sys2Proof.Machine
end

