-- ==== Sys2Proof/Machine/Flags.lean ====
section
/-!
DEFINITION. Status bits and counters: saturating and wrapping counters, and what a software write does to a word under
the access codes (R17–R19).
-/

namespace Sys2Proof.Machine

/-- A counter after one event, saturating at 0xFFFF_FFFF. -/
def satInc (w : Word) : Word := if w = 0xFFFFFFFF then w else w + 1

/-- The state after a saturating counter register counts one event. -/
def State.count (s : State) (a : Nat) : State := s.setReg a (satInc (s.reg a))

/-- A saturating counter register advanced by n. -/
def State.countN (s : State) (a n : Nat) : State :=
  s.setReg a (BitVec.ofNat 32 (min 0xFFFFFFFF ((s.reg a).toNat + n)))

/-- One field of a word after a software write of v (R18). A locked RWL field keeps its value. -/
def Fld.write (f : Fld) (locked : Bool) (old v : Word) : Word :=
  let o := f.get old
  let n := f.get v
  match f.acc with
  | .rw | .wo => f.put n old
  | .ro => old
  | .w1c => f.put (o &&& (2 ^ f.width - 1 - n)) old
  | .w1s => f.put (o ||| n) old
  | .rwl => if locked then old else f.put n old

/-- A word after a software write of v: each field by its access code, reserved bits ignored (R17). -/
def RegDesc.write (d : RegDesc) (locked : Bool) (old v : Word) : Word :=
  d.fields.foldl (fun w f => f.write locked w v) old

/-- A word as software reads it: write-only fields read zero (R18). -/
def RegDesc.readView (d : RegDesc) (w : Word) : Word :=
  d.fields.foldl (fun r f => if f.acc = .wo then f.put 0 r else r) w

end Sys2Proof.Machine
end

