-- ==== Sys2Proof/Machine/Ops.lean ====
section
/-!
DEFINITION. The shared operations: power states, requesters, district time, events and their sequences, FAULT_N causes,
and the answers of register accesses.
-/

namespace Sys2Proof.Machine

/-! ### Power states -/

/-- The power record of an island. -/
def State.pw (s : State) (i : Nat) : IslandPwr := Tbl.get (fun _ => IslandPwr.init) s.pwr i

/-- The state with an island's power record set. -/
def State.setPw (s : State) (i : Nat) (p : IslandPwr) : State :=
  { s with pwr := Tbl.set (fun _ => IslandPwr.init) i p s.pwr }

/-- LIT or REDUCED (R488), its mittens not applied to go dark: the island works, if only for the Cudom cores (log entry 14). -/
def State.isUp (s : State) (i : Nat) : Bool := ((s.pw i).st == .lit || (s.pw i).st == .reduced) && !(s.pw i).goingDark

/-- The island serves its neighbours: up, and not fenced by a renewal (R498, R500). -/
def State.isLit (s : State) (i : Nat) : Bool := s.isUp i && !(s.pw i).fenced

/-- In the restore phase of a renewal's wake, in which the Cudom cores reach the island (R500). -/
def State.restoring (s : State) (i : Nat) : Bool :=
  (s.pw i).st == .waking && (s.pw i).renewal && (s.pw i).phase == .restore

/-- The code of a power state (R488). -/
def pwrCode : Pwr → Nat
  | .dark => 0 | .waking => 1 | .lit => 2 | .reduced => 3 | .failed => 4

/-- The code of a wake phase, as AON_WAKE_FAULT.stage gives it. -/
def phaseCode : Phase → Nat
  | .regulator => 0 | .oscillator => 1 | .memory => 2 | .restore => 3 | .logic => 4

/-- Is the island declared failed (CDM_FAILED_ISLANDS)? -/
def State.isFailed (s : State) (i : Nat) : Bool :=
  (s.fld A.cdmFailedIslands F.cdmFailedIslands_failed).testBit i

/-- The state with an island's failed bit set or cleared. -/
def State.setFailed (s : State) (i : Nat) (b : Bool) : State :=
  let m := s.fld A.cdmFailedIslands F.cdmFailedIslands_failed
  let m' := if m.testBit i then m - 2 ^ i else m
  s.setFld A.cdmFailedIslands F.cdmFailedIslands_failed (if b then m' + 2 ^ i else m')

/-- The step code of an island's renewal: 0 none, 1–9 PREPARE to REJOIN (R511). -/
def State.renStep (s : State) (i : Nat) : Nat :=
  if 1 ≤ i ∧ i < 22 then s.fld (A.aonRenew i) F.aonRenew_step else 0

/-- Are an island's mittens on: not lit, or in a renewal from MITTEN to REJOIN (R498)? -/
def State.mittened (s : State) (i : Nat) : Bool := !s.isUp i || 4 ≤ s.renStep i

/-- Does SCH take packets: lit, and no renewal of it under way, whose PREPARE holds PKT, TSK, DMA inject and CDM (R498, R518)? -/
def State.schTakes (s : State) : Bool := s.isLit 4 && s.renStep 4 == 0

/-- A board record's fitted test (R39): radios 17–19 and quads 13–16 by mask, every other island fitted. -/
def State.isFitted (s : State) (i : Nat) : Bool :=
  if 17 ≤ i ∧ i ≤ 19 then s.flash.radiosFitted.testBit (i - 17)
  else if 13 ≤ i ∧ i ≤ 16 then s.flash.quadsFitted.testBit (i - 13)
  else i < 22

/-- Island ID of a radio, a lane quad, a DRAM channel. -/
def radId (r : Nat) : Nat := 17 + r
def lnqId (q : Nat) : Nat := 13 + q
def memId (n : Nat) : Nat := 11 + n

/-! ### Requesters -/

/-- The source identifier that names a requester (R34). -/
def srcId : Requester → Nat
  | .core k => 0x5000 + k.val
  | .glove g => 0x5018 + g.val
  | .dma c => 0x3000 + c.val
  | .island i => i.val

/-- Is the requester a Cudom core? -/
def isCudom : Requester → Bool
  | .glove _ => true
  | _ => false

/-- Is the requester a packet core or a Cudom core? -/
def isAnyCore : Requester → Bool
  | .glove _ => true
  | .core _ => true
  | _ => false

/-- Does an island answer this requester: lit; or, in a renewal, up or in the restore phase and asked by a Cudom core (R500)? -/
def State.answers (s : State) (who : Requester) (i : Nat) : Bool :=
  s.isLit i || ((s.isUp i || s.restoring i) && isCudom who)

/-- May the requester write registers of this writer class? -/
def mayWrite : Writer → Requester → Bool
  | .any, _ => true
  | .cores, r => isAnyCore r
  | .cudom, r => isCudom r

/-! ### District time (R396, R397) -/

/-- Units of 2^−28 ns in a nanosecond. -/
def fracUnits : Nat := 2 ^ 28

/-- District time in whole nanoseconds. -/
def State.nowNs (s : State) : Nat := s.time.clock / fracUnits

/-- District seconds, 48 bits. -/
def State.nowSec (s : State) : Nat := s.nowNs / nsPerSec % 2 ^ 48

/-- Nanoseconds of the second. -/
def State.nowSub (s : State) : Nat := s.nowNs % nsPerSec

/-- The fraction in 2^−16 ns. -/
def State.nowFrac (s : State) : Nat := s.time.clock % fracUnits / 2 ^ 12

/-- The 32-bit district nanosecond count (R397). -/
def State.count32 (s : State) : Nat := s.nowNs % 2 ^ 32

/-! ### Free values -/

/-- A fresh free value and the state that has used it up. -/
def State.freeNat (s : State) : Nat × State := (Config.freeNat s.free, { s with free := s.free + 1 })

/-! ### Events and the log's inlet (R34, R35, R576, R577) -/

/-- Numeric source IDs (R34). -/
def portSrc (q m : Nat) : Nat := 0x1000 + 4 * q + m
def radSrc (r : Nat) : Nat := 0x2000 + r
def dmaSrc (c : Nat) : Nat := 0x3000 + c

/-- The sequence number a source gives its next event. -/
def State.nextSeq (s : State) (src : Nat) : Nat := Tbl.get (fun _ => 0) s.log.evSeq src

/-- The state with a source's sequence set. -/
def State.setSeq (s : State) (src v : Nat) : State :=
  { s with log := { s.log with evSeq := Tbl.set (fun _ => 0) src v s.log.evSeq } }

/-- A source numbers an event (R35) and gives it to the log, which takes it while CDM is lit (R575): time, flags bit 0
while time is not synced (R527) (log entries 16, 17). -/
def State.raise (s : State) (src : Nat) (ev : Ev) (status sev : Nat) (detail : List Nat) : State :=
  let n := s.nextSeq src
  let s' := s.setSeq src ((n + 1) % 0x10000)
  if s.isLit 1 then
    let e : Event :=
      { sec := s.nowSec, ns := s.nowSub, frac := s.nowFrac, src := src, seq := n, status := status, sev := sev,
        flags := if (s.fld A.timeQuality F.timeQuality_quality).testBit 7 then 0 else 1,
        name := ev, detail := detail.map (· % 2 ^ 32) }
    { s' with log := { s'.log with events := s'.log.events ++ [e] } }
  else s'

/-! ### FAULT_N (R544) -/

/-- A cause bit sets in AON_FAULT_CAUSE and FAULT_N is asserted. -/
def State.assertFault (s : State) (cause : Fld) : State :=
  (s.setFld A.aonFaultCause cause 1).setFld A.aonFaultCause F.aonFaultCause_asserted 1

/-! ### Answers of register accesses -/

/-- The access was taken. -/
def State.busOk (s : State) (w : Word) : State := { s with bus := ⟨false, w, []⟩ }

/-- The access returns a bus error (R15). -/
def State.busErr (s : State) : State := { s with bus := ⟨true, 0, []⟩ }

/-! ### The dark responder (R499–R501) -/

/-- A request that the dark responder answers: counted, and the first of the period logged and recorded. -/
def State.darkRecord (s : State) (who : Requester) (i off : Nat) (write : Bool) : State :=
  let s := if 1 ≤ i ∧ i ≤ 21 then s.count (A.aonDarkLoss i) else s
  let p := s.pw i
  if p.darkLogged then s
  else
    let s := s.setPw i { p with darkLogged := true }
    let s := (s.setFld A.aonDarkAccessLo F.aonDarkAccessLo_island i).setFld
      A.aonDarkAccessLo F.aonDarkAccessLo_offset (off % 2 ^ 24)
    let s := ((s.setFld A.aonDarkAccessHi F.aonDarkAccessHi_source (srcId who)).setFld
      A.aonDarkAccessHi F.aonDarkAccessHi_write (if write then 1 else 0)).setFld A.aonDarkAccessHi F.aonDarkAccessHi_valid 1
    s.raise 0 .islandDarkAccess 0 2 [i, off % 2 ^ 24, if write then 1 else 0, srcId who]

/-- An access of a requester to a register: the island takes it, or the dark responder answers with a bus error. -/
def State.access (s : State) (who : Requester) (a : Nat) (write : Bool) (f : State → State) : State :=
  if s.answers who (islandOf a) then f s else (s.darkRecord who (islandOf a) (offOf a) write).busErr

/-! ### Numbers -/

/-- An unsigned field of n bits read as two's complement. -/
def signed (n v : Nat) : Int := if v < 2 ^ (n - 1) then (v : Int) else (v : Int) - 2 ^ n

/-- An integer encoded in n bits, two's complement. -/
def unsigned (n : Nat) (i : Int) : Nat := (i % (2 ^ n : Int)).toNat

/-- An integer clamped between bounds. -/
def clampI (lo hi i : Int) : Int := if i < lo then lo else if hi < i then hi else i

/-- Set bits among the low n bits of a mask, lowest first. -/
def bitsOf (n m : Nat) : List Nat := (List.range n).filter (fun i => m.testBit i)

/-- A mask with bit i set. -/
def setBit (m i : Nat) : Nat := m ||| 2 ^ i

/-- A mask with bit i clear. -/
def clrBit (m i : Nat) : Nat := if m.testBit i then m - 2 ^ i else m

/-- A radio's state. -/
def State.rd (s : State) (r : Nat) : RadState := Tbl.get (fun _ => RadState.init) s.rad r

/-- The state with a radio's state set. -/
def State.setRd (s : State) (r : Nat) (x : RadState) : State :=
  { s with rad := Tbl.set (fun _ => RadState.init) r x s.rad }

end Sys2Proof.Machine
end

