-- ==== Sys2Proof/Machine/Chains.lean ====
section
/-!
DEFINITION. The chains of a radio: how many, which transmit and receive, and the LNA_EN of a radio at rest (R89, R92, R106, R107,
R170).
-/

namespace Sys2Proof.Machine

/-- Is the radio lit? -/
def State.radLit (s : State) (r : Nat) : Bool := s.isLit (radId r)

/-- Chains of a radio (R89). -/
def chainsOf (r : Nat) : Nat := if r = 0 then 4 else 8

/-- A radio's band in units of 78.125 kHz (R89). -/
def bandOf (r : Nat) : Nat × Nat := if r = 0 then (30720, 32000) else if r = 1 then (65920, 75840) else (75840, 91200)

/-- Does a target lie in the radio's band? -/
def inBand (r f : Nat) : Bool := (bandOf r).1 ≤ f && f ≤ (bandOf r).2

/-- Chains that may transmit: enabled, not muted in effect, radio enabled (R92). -/
def State.txChains (s : State) (r : Nat) : Nat :=
  if s.bit (A.radCtl r) F.radCtl_enable then
    s.fld (A.radCtl r) F.radCtl_tx_chain_en &&& (2 ^ chainsOf r - 1) &&& (0xFF - (s.rd r).muted)
  else 0

/-- Chains that receive (R92). -/
def State.rxChains (s : State) (r : Nat) : Nat :=
  if s.bit (A.radCtl r) F.radCtl_enable then s.fld (A.radCtl r) F.radCtl_rx_chain_en &&& (2 ^ chainsOf r - 1) else 0

/-- Mask difference. -/
def without (a b : Nat) : Nat := (bitsOf 8 a).foldl (fun m i => if b.testBit i then m else setBit m i) 0

/-- Number of bits set in an 8-bit mask. -/
def ones (m : Nat) : Nat := (bitsOf 8 m).length

/-- Chains that a calibration step holds (R170). -/
def RadState.stepChains (x : RadState) : Nat :=
  match x.cal.step with
  | some ⟨.loopback t q _, _⟩ => setBit (setBit 0 t.val) q.val
  | _ => 0

/-- The end of the last RF or unwinding on a chain. -/
def RadState.endOf (x : RadState) (c : Nat) : Option Nat := Tbl.find? x.ends c

/-- Chains whose last RF end lies less than a lag ago. -/
def RadState.lagging (x : RadState) (now lag : Nat) : Nat :=
  (bitsOf 8 0xFF).foldl (fun m c => match x.endOf c with | some e => if now < e + lag then setBit m c else m | none => m) 0

/-- The next chain in turn of a mask after the one given: lowest above it, else lowest (R109, R167). -/
def nextInTurn (last m : Nat) : Option Nat :=
  match (bitsOf 8 m).find? (fun c => last < c) with
  | some c => some c
  | none => (bitsOf 8 m).head?

/-! ### LNA_EN -/

/-- Chains whose LNA_EN is held low though they receive: transmitting, in their lag, in the lead of a committed command, or in a
loopback step (R106, R107, R170). -/
def State.lnaHeld (s : State) (r : Nat) : Nat :=
  let x := s.rd r
  let lead := match x.slot with
    | some p => match p.commit with
      | some t => if t ≤ s.nowNs + 50 * F.radFeSeqLead_lna_off_lead.get x.seqLead then p.cmd.chains &&& s.txChains r else 0
      | none => 0
    | none => 0
  x.trsw ||| x.paEn ||| lead ||| x.stepChains ||| x.lagging s.nowNs (50 * F.radFeSeqLag_lna_on_lag.get x.seqLag)

/-- LNA_EN of an enabled radio at rest: high on its receiving chains. -/
def State.restLna (s : State) (r : Nat) : State := s.setRd r { s.rd r with lnaEn := without (s.rxChains r) (s.lnaHeld r) }

/-- The chain enables of an enabled or disabled radio change: LNA_EN follows (R92). -/
def State.setChains (s : State) (r tx rx : Nat) : State :=
  ((s.setFld (A.radCtl r) F.radCtl_tx_chain_en tx).setFld (A.radCtl r) F.radCtl_rx_chain_en rx).restLna r

end Sys2Proof.Machine
end

