-- ==== Sys2Proof/Machine/Crypto.lean ====
section
/-!
DEFINITION. The published algorithms the spec names: AES with GCM, CCM, CTR and CBC (R73, R283), SHA-384 and ECDSA P-384
(R86, R535). They follow the public standards the spec refers to (log entry 5).
-/

namespace Sys2Proof.Machine.Crypto

/-- Big-endian bytes of a number. -/
def toBE : Nat → Nat → List Byte
  | 0, _ => []
  | n + 1, v => BitVec.ofNat 8 (v / 256 ^ n) :: toBE n v

/-- The number that big-endian bytes spell. -/
def ofBE (bs : List Byte) : Nat := bs.foldl (fun a b => a * 256 + b.toNat) 0

/-- The AES S-box, entry x at bits 8x+7 to 8x. -/
def sboxBits : Nat := 0x16BB54B00F2D99416842E6BF0D89A18CDF2855CEE9871E9B948ED9691198F8E19E1DC186B95735610EF6034866B53E708A8BBD4B1F74DDE8C6B4A61C2E2578BA08AE7A65EAF4566CA94ED58D6D37C8E779E4959162ACD3C25C2406490A3A32E0DB0B5EDE14B8EE4688902A22DC4F816073195D643D7EA7C41744975FEC130CCDD2F3FF1021DAB6BCF5389D928F40A351A89F3C507F02F94585334D43FBAAEFD0CF584C4A39BECB6A5BB1FC20ED00D153842FE329B3D63B52A05A6E1B1A2C830975B227EBE28012079A059618C323C7041531D871F1E5A534CCF73F362693FDB7C072A49CAFA2D4ADF04759FA7DC982CA76ABD7FE2B670130C56F6BF27B777C63

/-- The inverse S-box, packed as sboxBits. -/
def invSboxBits : Nat := 0x7D0C2155631469E126D677BA7E042B17619953833CBBEBC8B0F52AAE4D3BE0A0EF9CC9939F7AE52D0D4AB519A97F51605FEC8027591012B131C7078833A8DD1FF45ACD78FEC0DB9A2079D2C64B3E56FC1BBE18AA0E62B76F89C5291D711AF1476EDF751CE837F9E28535ADE72274AC9673E6B4F0CECFF297EADC674F4111913A6B8A130103BDAFC1020F3FCA8F1E2CD00645B3B80558E4F70AD3BC8C00ABD890849D8DA75746155EDAB9EDFD5048706C92B6655DCC5CA4D41698688664F6F87225D18B6D49A25B76B224D92866A12E084EC3FA420B954CEE3D23C2A632947B54CBE9DEC444438E3487FF2F9B8239E37CFBD7F3819EA340BF38A53630D56A0952

def sub (x : Nat) : Nat := sboxBits / 2 ^ (8 * x) % 256
def invSub (x : Nat) : Nat := invSboxBits / 2 ^ (8 * x) % 256

/-- Doubling in GF(2^8). -/
def xtime (a : Nat) : Nat := if a < 128 then 2 * a else (2 * a) % 256 ^^^ 0x1B

/-- The key schedule: `n` more words after the first `nk`, newest first in the accumulator. -/
def expand (nk : Nat) : Nat → Nat → Nat → List (List Nat) → List (List Nat)
  | 0, _, _, acc => acc.reverse
  | n + 1, i, rc, acc =>
    let t := acc.headD []
    let b := acc.getD (nk - 1) []
    let t' :=
      if i % nk = 0 then
        match t.map sub with
        | [a0, a1, a2, a3] => [a1 ^^^ rc, a2, a3, a0]
        | l => l
      else if nk = 8 ∧ i % 8 = 4 then t.map sub
      else t
    expand nk n (i + 1) (if i % nk = 0 then xtime rc else rc) (List.zipWith (· ^^^ ·) b t' :: acc)

/-- Four-byte words of a byte list. -/
def words : List Nat → List (List Nat)
  | a :: b :: c :: d :: r => [a, b, c, d] :: words r
  | _ => []

/-- Round keys of 16 bytes each; 11 for a 16-byte key, 15 for a 32-byte key. -/
def roundKeys (key : List Byte) : List (List Nat) :=
  let nk := key.length / 4
  let ws := expand nk (4 * (nk + 7) - nk) nk 1 ((words (key.map (·.toNat))).reverse)
  let rec go : Nat → List (List Nat) → List (List Nat)
    | 0, _ => []
    | n + 1, l => (l.take 4).flatten :: go n (l.drop 4)
  go (nk + 7) ws

def shiftRows (l : List Nat) : List Nat := [0,5,10,15,4,9,14,3,8,13,2,7,12,1,6,11].map (fun i => l.getD i 0)
def invShiftRows (l : List Nat) : List Nat := [0,13,10,7,4,1,14,11,8,5,2,15,12,9,6,3].map (fun i => l.getD i 0)

def mixCol : List Nat → List Nat
  | [a, b, c, d] =>
    let t := a ^^^ b ^^^ c ^^^ d
    [a ^^^ t ^^^ xtime (a ^^^ b), b ^^^ t ^^^ xtime (b ^^^ c), c ^^^ t ^^^ xtime (c ^^^ d), d ^^^ t ^^^ xtime (d ^^^ a)]
  | l => l

def invMixCol : List Nat → List Nat
  | [a, b, c, d] =>
    let u := xtime (xtime (a ^^^ c))
    let v := xtime (xtime (b ^^^ d))
    mixCol [a ^^^ u, b ^^^ v, c ^^^ u, d ^^^ v]
  | l => l

def mix (l : List Nat) : List Nat := ((words l).map mixCol).flatten
def invMix (l : List Nat) : List Nat := ((words l).map invMixCol).flatten
def xorL (a b : List Nat) : List Nat := List.zipWith (· ^^^ ·) a b

def rounds : List (List Nat) → List Nat → List Nat
  | [], s => s
  | [k], s => xorL k (shiftRows (s.map sub))
  | k :: k' :: ks, s => rounds (k' :: ks) (xorL k (mix (shiftRows (s.map sub))))

/-- AES encryption of one 16-byte block. -/
def aesEnc (key : List Byte) (b : List Byte) : List Byte :=
  match roundKeys key with
  | [] => b
  | k :: ks => (rounds ks (xorL k (b.map (·.toNat)))).map (BitVec.ofNat 8)

def invRounds : List (List Nat) → List Nat → List Nat
  | [], s => s
  | [k], s => xorL k (invShiftRows s |>.map invSub)
  | k :: k' :: ks, s => invRounds (k' :: ks) (invMix (xorL k (invShiftRows s |>.map invSub)))

/-- AES decryption of one 16-byte block. -/
def aesDec (key : List Byte) (b : List Byte) : List Byte :=
  match (roundKeys key).reverse with
  | [] => b
  | k :: ks => (invRounds ks (xorL k (b.map (·.toNat)))).map (BitVec.ofNat 8)

def xorB (a b : List Byte) : List Byte := List.zipWith (· ^^^ ·) a b

/-- Blocks of 16 bytes, the last one possibly short; `n` bounds their number. -/
def blocks : Nat → List Byte → List (List Byte)
  | 0, _ => []
  | n + 1, l => if l.isEmpty then [] else l.take 16 :: blocks n (l.drop 16)

def blocksOf (l : List Byte) : List (List Byte) := blocks (l.length / 16 + 1) l

/-- The block with its counter of the last `cb` bytes raised by one, wrapping. -/
def incr (cb : Nat) (b : List Byte) : List Byte :=
  let h := b.take (16 - cb)
  h ++ toBE cb ((ofBE (b.drop (16 - cb)) + 1) % 256 ^ cb)

/-- CTR keystream applied to data from a first counter block, with a counter of `cb` bytes. -/
def ctrGo (key : List Byte) (cb : Nat) : List (List Byte) → List Byte → List Byte
  | [], _ => []
  | p :: ps, c => xorB p (aesEnc key c) ++ ctrGo key cb ps (incr cb c)

def ctr (key : List Byte) (cb : Nat) (c0 data : List Byte) : List Byte := ctrGo key cb (blocksOf data) c0

/-- CBC encryption of whole blocks. -/
def cbcEncGo (key : List Byte) : List (List Byte) → List Byte → List Byte
  | [], _ => []
  | p :: ps, v => let c := aesEnc key (xorB p v); c ++ cbcEncGo key ps c

def cbcEnc (key iv data : List Byte) : List Byte := cbcEncGo key (blocksOf data) iv

def cbcDecGo (key : List Byte) : List (List Byte) → List Byte → List Byte
  | [], _ => []
  | c :: cs, v => xorB (aesDec key c) v ++ cbcDecGo key cs c

def cbcDec (key iv data : List Byte) : List Byte := cbcDecGo key (blocksOf data) iv

/-- Multiplication in GHASH's field; `n` bits of x remain. -/
def gmulGo (x : Nat) : Nat → Nat → Nat → Nat
  | 0, _, z => z
  | n + 1, v, z =>
    let z' := if x.testBit n then z ^^^ v else z
    gmulGo x n (if v.testBit 0 then v / 2 ^^^ (0xE1 * 2 ^ 120) else v / 2) z'

def gmul (x y : Nat) : Nat := gmulGo x 128 y 0

def pad16 (l : List Byte) : List Byte := l ++ List.replicate ((16 - l.length % 16) % 16) 0

def ghash (h : Nat) (l : List Byte) : Nat :=
  (blocksOf l).foldl (fun y b => gmul (y ^^^ ofBE b) h) 0

/-- The GCM tag of ciphertext and additional data under a 96-bit IV. -/
def gcmTag (key iv aad ct : List Byte) : List Byte :=
  let h := ofBE (aesEnc key (List.replicate 16 0))
  let y := ghash h (pad16 aad ++ pad16 ct ++ toBE 8 (8 * aad.length) ++ toBE 8 (8 * ct.length))
  xorB (toBE 16 y) (aesEnc key (iv ++ [0, 0, 0, 1]))

/-- AES-GCM encryption: ciphertext and 16-byte tag. -/
def gcmSeal (key iv aad pt : List Byte) : List Byte × List Byte :=
  let ct := ctr key 4 (iv ++ [0, 0, 0, 2]) pt
  (ct, gcmTag key iv aad ct)

/-- AES-GCM decryption; none when the tag does not verify. -/
def gcmOpen (key iv aad ct tag : List Byte) : Option (List Byte) :=
  if gcmTag key iv aad ct = tag then some (ctr key 4 (iv ++ [0, 0, 0, 2]) ct) else none

/-- CBC-MAC of whole blocks. -/
def cbcMac (key : List Byte) (l : List Byte) : List Byte :=
  (blocksOf l).foldl (fun y b => aesEnc key (xorB y b)) (List.replicate 16 0)

/-- The CCM tag before its encryption: nonce of 7 to 13 bytes, tag of `m` bytes (NIST SP 800-38C). -/
def ccmMac (key nonce aad pt : List Byte) (m : Nat) : List Byte :=
  let q := 15 - nonce.length
  let fl : Byte := BitVec.ofNat 8 ((if aad.isEmpty then 0 else 64) + 8 * ((m - 2) / 2) + (q - 1))
  let b0 := fl :: nonce ++ toBE q pt.length
  let al := if aad.length < 65280 then toBE 2 aad.length else [0xFF, 0xFE] ++ toBE 4 aad.length
  let a := if aad.isEmpty then [] else pad16 (al ++ aad)
  (cbcMac key (b0 ++ a ++ pad16 pt)).take m

/-- The CCM counter block 0 of a nonce. -/
def ccmA0 (nonce : List Byte) : List Byte :=
  BitVec.ofNat 8 (14 - nonce.length) :: nonce ++ List.replicate (15 - nonce.length) 0

/-- AES-CCM encryption with an m-byte tag. -/
def ccmSeal (key nonce aad pt : List Byte) (m : Nat) : List Byte × List Byte :=
  let q := 15 - nonce.length
  (ctr key q (incr q (ccmA0 nonce)) pt, xorB (ccmMac key nonce aad pt m) (aesEnc key (ccmA0 nonce)))

/-- AES-CCM decryption; none when the tag does not verify. -/
def ccmOpen (key nonce aad ct tag : List Byte) : Option (List Byte) :=
  let q := 15 - nonce.length
  let pt := ctr key q (incr q (ccmA0 nonce)) ct
  if xorB (ccmMac key nonce aad pt tag.length) (aesEnc key (ccmA0 nonce)) = tag then some pt else none

/-! ### SHA-384 -/

def m64 : Nat := 2 ^ 64
def rotr (n x : Nat) : Nat := (x / 2 ^ n ||| x * 2 ^ (64 - n)) % m64

/-- The round constants. -/
def shaK : List Nat :=
  [0x428A2F98D728AE22, 0x7137449123EF65CD, 0xB5C0FBCFEC4D3B2F, 0xE9B5DBA58189DBBC, 0x3956C25BF348B538, 0x59F111F1B605D019, 0x923F82A4AF194F9B, 0xAB1C5ED5DA6D8118] ++
  [0xD807AA98A3030242, 0x12835B0145706FBE, 0x243185BE4EE4B28C, 0x550C7DC3D5FFB4E2, 0x72BE5D74F27B896F, 0x80DEB1FE3B1696B1, 0x9BDC06A725C71235, 0xC19BF174CF692694] ++
  [0xE49B69C19EF14AD2, 0xEFBE4786384F25E3, 0xFC19DC68B8CD5B5, 0x240CA1CC77AC9C65, 0x2DE92C6F592B0275, 0x4A7484AA6EA6E483, 0x5CB0A9DCBD41FBD4, 0x76F988DA831153B5] ++
  [0x983E5152EE66DFAB, 0xA831C66D2DB43210, 0xB00327C898FB213F, 0xBF597FC7BEEF0EE4, 0xC6E00BF33DA88FC2, 0xD5A79147930AA725, 0x6CA6351E003826F, 0x142929670A0E6E70] ++
  [0x27B70A8546D22FFC, 0x2E1B21385C26C926, 0x4D2C6DFC5AC42AED, 0x53380D139D95B3DF, 0x650A73548BAF63DE, 0x766A0ABB3C77B2A8, 0x81C2C92E47EDAEE6, 0x92722C851482353B] ++
  [0xA2BFE8A14CF10364, 0xA81A664BBC423001, 0xC24B8B70D0F89791, 0xC76C51A30654BE30, 0xD192E819D6EF5218, 0xD69906245565A910, 0xF40E35855771202A, 0x106AA07032BBD1B8] ++
  [0x19A4C116B8D2D0C8, 0x1E376C085141AB53, 0x2748774CDF8EEB99, 0x34B0BCB5E19B48A8, 0x391C0CB3C5C95A63, 0x4ED8AA4AE3418ACB, 0x5B9CCA4F7763E373, 0x682E6FF3D6B2B8A3] ++
  [0x748F82EE5DEFB2FC, 0x78A5636F43172F60, 0x84C87814A1F0AB72, 0x8CC702081A6439EC, 0x90BEFFFA23631E28, 0xA4506CEBDE82BDE9, 0xBEF9A3F7B2C67915, 0xC67178F2E372532B] ++
  [0xCA273ECEEA26619C, 0xD186B8C721C0C207, 0xEADA7DD6CDE0EB1E, 0xF57D4F7FEE6ED178, 0x6F067AA72176FBA, 0xA637DC5A2C898A6, 0x113F9804BEF90DAE, 0x1B710B35131C471B] ++
  [0x28DB77F523047D84, 0x32CAAB7B40C72493, 0x3C9EBE0A15C9BEBC, 0x431D67C49C100D4C, 0x4CC5D4BECB3E42B6, 0x597F299CFC657E2A, 0x5FCB6FAB3AD6FAEC, 0x6C44198C4A475817]

def shaInit : List Nat := [0xCBBB9D5DC1059ED8, 0x629A292A367CD507, 0x9159015A3070DD17, 0x152FECD8F70E5939, 0x67332667FFC00B31, 0x8EB44A8768581511, 0xDB0C2E0D64F98FA7, 0x47B5481DBEFA4FA4]

def schedule : Nat → List Nat → List Nat
  | 0, w => w.reverse
  | n + 1, w =>
    let x := w.getD 14 0
    let y := w.getD 1 0
    let s0 := rotr 1 x ^^^ rotr 8 x ^^^ (x / 2 ^ 7)
    let s1 := rotr 19 y ^^^ rotr 61 y ^^^ (y / 2 ^ 6)
    schedule n ((w.getD 15 0 + s0 + w.getD 6 0 + s1) % m64 :: w)

def shaRound (st : List Nat) (kw : Nat × Nat) : List Nat :=
  match st with
  | [a, b, c, d, e, f, g, h] =>
    let t1 := h + (rotr 14 e ^^^ rotr 18 e ^^^ rotr 41 e) + ((e &&& f) ^^^ ((m64 - 1 - e) &&& g)) + kw.1 + kw.2
    let t2 := (rotr 28 a ^^^ rotr 34 a ^^^ rotr 39 a) + ((a &&& b) ^^^ (a &&& c) ^^^ (b &&& c))
    [(t1 + t2) % m64, a, b, c, (d + t1) % m64, e, f, g]
  | l => l

def shaWords : Nat → List Byte → List Nat
  | 0, _ => []
  | n + 1, l => ofBE (l.take 8) :: shaWords n (l.drop 8)

def shaBlock (st : List Nat) (b : List Byte) : List Nat :=
  let w := schedule 64 (shaWords 16 b).reverse
  List.zipWith (fun x y => (x + y) % m64) st ((List.zip shaK w).foldl shaRound st)

def shaGo : Nat → List Byte → List Nat → List Nat
  | 0, _, st => st
  | n + 1, l, st => shaGo n (l.drop 128) (shaBlock st (l.take 128))

/-- SHA-384 of a byte string, 48 bytes. -/
def sha384 (l : List Byte) : List Byte :=
  let z := (240 - (l.length + 1) % 128) % 128
  let p := l ++ (0x80 : Byte) :: List.replicate z 0 ++ toBE 16 (8 * l.length)
  ((shaGo (p.length / 128) p shaInit).take 6).flatMap (toBE 8)

/-! ### ECDSA P-384 -/

def pP : Nat := 2 ^ 384 - 2 ^ 128 - 2 ^ 96 + 2 ^ 32 - 1
def pN : Nat := 0xFFFFFFFFFFFFFFFFFFFFFFFFFFFFFFFFFFFFFFFFFFFFFFFFC7634D81F4372DDF581A0DB248B0A77AECEC196ACCC52973
def pB : Nat := 0xB3312FA7E23EE7E4988E056BE3F82D19181D9C6EFE8141120314088F5013875AC656398D8A2ED19D2A85C8EDD3EC2AEF
def pGx : Nat := 0xAA87CA22BE8B05378EB1C71EF320AD746E1D3B628BA79B9859F741E082542A385502F25DBF55296C3A545E3872760AB7
def pGy : Nat := 0x3617DE4A96262C6F5D9E98BF9292DC29F8F41DBD289A147CE9DA3113B5F0B8C00A60B1CE1D7E819D7A431D7C90EA0E5F

/-- x^e mod m over the low `n` bits of e, from the top. -/
def powMod (m x e : Nat) : Nat → Nat
  | 0 => 1 % m
  | n + 1 =>
    let h := powMod m x (e / 2) n
    if e % 2 = 1 then h * h % m * x % m else h * h % m

def invMod (m x : Nat) : Nat := powMod m x (m - 2) 384
def subM (m a b : Nat) : Nat := (a + m - b % m) % m

/-- A point in Jacobian coordinates; z = 0 is the point at infinity. -/
structure Pt where
  x : Nat
  y : Nat
  z : Nat
  deriving DecidableEq, Repr

def dbl (p : Pt) : Pt :=
  if p.z = 0 ∨ p.y = 0 then ⟨1, 1, 0⟩
  else
    let y2 := p.y * p.y % pP
    let s := 4 * p.x * y2 % pP
    let z2 := p.z * p.z % pP
    let m := 3 * subM pP p.x z2 * (p.x + z2) % pP
    let x3 := subM pP (m * m) (2 * s)
    ⟨x3, subM pP (m * subM pP s x3) (8 * y2 * y2), 2 * p.y * p.z % pP⟩

def add (p q : Pt) : Pt :=
  if p.z = 0 then q
  else if q.z = 0 then p
  else
    let z1 := p.z * p.z % pP
    let z2 := q.z * q.z % pP
    let u1 := p.x * z2 % pP
    let u2 := q.x * z1 % pP
    let s1 := p.y * z2 * q.z % pP
    let s2 := q.y * z1 * p.z % pP
    if u1 = u2 then (if s1 = s2 then dbl p else ⟨1, 1, 0⟩)
    else
      let h := subM pP u2 u1
      let r := subM pP s2 s1
      let h2 := h * h % pP
      let h3 := h2 * h % pP
      let v := u1 * h2 % pP
      let x3 := subM pP (r * r) (h3 + 2 * v)
      ⟨x3, subM pP (r * subM pP v x3) (s1 * h3), p.z * q.z * h % pP⟩

def mulPt (p : Pt) : Nat → Nat → Pt → Pt
  | 0, _, acc => acc
  | n + 1, k, acc =>
    let a := dbl acc
    mulPt p n k (if k.testBit n then add a p else a)

/-- The uncompressed point of 97 bytes, when it lies on the curve. -/
def decodePoint (b : List Byte) : Option Pt :=
  let x := ofBE (b.drop 1 |>.take 48)
  let y := ofBE (b.drop 49 |>.take 48)
  if b.length = 97 ∧ b.headD 0 = 4 ∧ x < pP ∧ y < pP ∧ y * y % pP = (x * x * x + (pP - 3) * x + pB) % pP
  then some ⟨x, y, 1⟩ else none

/-- ECDSA P-384 verification of a signature r then s over SHA-384 of a message. -/
def ecdsaVerify (pub sig msg : List Byte) : Bool :=
  match decodePoint pub with
  | none => false
  | some q =>
    let r := ofBE (sig.take 48)
    let s := ofBE (sig.drop 48 |>.take 48)
    if r = 0 ∨ pN ≤ r ∨ s = 0 ∨ pN ≤ s then false
    else
      let w := invMod pN s
      let z := ofBE (sha384 msg)
      let p := add (mulPt ⟨pGx, pGy, 1⟩ 384 (z * w % pN) ⟨1, 1, 0⟩) (mulPt q 384 (r * w % pN) ⟨1, 1, 0⟩)
      if p.z = 0 then false
      else
        let zi := invMod pP p.z
        p.x * (zi * zi % pP) % pP % pN = r

end Sys2Proof.Machine.Crypto
end

