-- ==== Sys2Proof/Machine/Packets.lean ====
section
/-!
DEFINITION. Command packets on the wire: checks, header, effect word, replies (R53–R58, R64, R69, R87), and where a
reply goes on each transport (R67, R70, R72–R78).
-/

namespace Sys2Proof.Machine

open Crypto (toBE ofBE)

/-! ### Status codes (R87) -/

def ST.ok : Nat := 0x0000
def ST.pending : Nat := 0x0001
def ST.badOpcode : Nat := 0x0010
def ST.badLength : Nat := 0x0011
def ST.badParam : Nat := 0x0012
def ST.badMode : Nat := 0x0013
def ST.denied : Nat := 0x0020
def ST.busy : Nat := 0x0021
def ST.islandDark : Nat := 0x0030
def ST.islandReset : Nat := 0x0031
def ST.admitDenied : Nat := 0x0040
def ST.keyRevoked : Nat := 0x0050
def ST.nonceExhausted : Nat := 0x0051
def ST.synthNotReady : Nat := 0x0060
def ST.txLate : Nat := 0x0061
def ST.windowShort : Nat := 0x0062
def ST.tooLate : Nat := 0x0070
def ST.cancelled : Nat := 0x0071
def ST.versionBusy : Nat := 0x0080
def ST.wakeFault : Nat := 0x0090
def ST.timeout : Nat := 0x00A0
def ST.internal : Nat := 0x00F0

/-! ### Checks -/

/-- One bit of the CRC-16 of R54. -/
def crc16Bit (c : Nat) : Nat := if c.testBit 15 then (2 * c ^^^ 0x1021) % 0x10000 else 2 * c % 0x10000

/-- One byte of the CRC-16 of R54. -/
def crc16Byte (c : Nat) (b : Byte) : Nat :=
  let c := c ^^^ (b.toNat * 256)
  crc16Bit (crc16Bit (crc16Bit (crc16Bit (crc16Bit (crc16Bit (crc16Bit (crc16Bit c)))))))

/-- CRC-16, polynomial 0x1021, initial value 0xFFFF, most significant bit first (R54). -/
def crc16 (bs : List Byte) : Nat := bs.foldl crc16Byte 0xFFFF

/-- One bit of a reflected CRC-32 with polynomial p (in reflected form). -/
def crcRefBit (p c : Nat) : Nat := if c.testBit 0 then c / 2 ^^^ p else c / 2

/-- One byte of a reflected CRC. -/
def crcRefByte (p c : Nat) (b : Byte) : Nat :=
  let c := c ^^^ b.toNat
  crcRefBit p (crcRefBit p (crcRefBit p (crcRefBit p (crcRefBit p (crcRefBit p (crcRefBit p (crcRefBit p c)))))))

/-- CRC-32 of the host port trailer (R69), and the Ethernet FCS polynomial (log entry 5). -/
def crc32 (bs : List Byte) : Nat := bs.foldl (crcRefByte 0xEDB88320) 0xFFFFFFFF ^^^ 0xFFFFFFFF

/-! ### Header (R53) -/

/-- Bytes of padding after n parameter bytes (R55). -/
def padLen (n : Nat) : Nat := (4 - n % 4) % 4

/-- The fields of a packet header. -/
structure Hdr where
  b0 : Nat
  cls : Nat
  island : Nat
  op : Nat
  tag : Nat
  plen : Nat
  seq : Nat
  status : Nat
  chk : Nat
  deriving DecidableEq, Repr

/-- The n bytes from offset i, as a big-endian number; bytes beyond the end count as zero. -/
def beAt (bs : List Byte) (i n : Nat) : Nat := ofBE ((List.range n).map (fun k => bs.getD (i + k) 0))

def parseHdr (bs : List Byte) : Hdr :=
  { b0 := beAt bs 0 1, cls := beAt bs 1 1, island := beAt bs 2 1, op := beAt bs 3 1, tag := beAt bs 4 2,
    plen := beAt bs 6 2, seq := beAt bs 8 4, status := beAt bs 12 2, chk := beAt bs 14 2 }

def Hdr.version (h : Hdr) : Nat := h.b0 / 16
def Hdr.urgent (h : Hdr) : Bool := h.b0.testBit 3
def Hdr.auth (h : Hdr) : Bool := h.b0.testBit 2
def Hdr.more (h : Hdr) : Bool := h.b0.testBit 1
def Hdr.isReply (h : Hdr) : Bool := h.b0.testBit 0

/-- A header's 16 bytes, with its check. -/
def buildHdr (b0 cls island op tag plen seq status : Nat) : List Byte :=
  let h := toBE 1 b0 ++ toBE 1 cls ++ toBE 1 island ++ toBE 1 op ++ toBE 2 tag ++ toBE 2 plen ++ toBE 4 seq ++ toBE 2 status
  h ++ toBE 2 (crc16 h)

def Request.urgent (r : Request) : Bool := r.hdr0.testBit 3

/-- The source class of a requester (R53). -/
def classOf : CmdReq → Nat
  | .mailbox => 0 | .host => 1 | .network _ _ => 2 | .internal => 3

/-! ### Reply sequences (R57) and the places replies go -/

/-- The entry of a network requester (R75). -/
def State.peer? (s : State) (mac slot : Nat) : Option NetPeer :=
  s.cmd.peers.find? (fun p => p.mac == mac && p.slot == slot)

/-- Replace a network requester's entry, in CDM and in the network sequence record (R76). -/
def State.putPeer (s : State) (p : NetPeer) : State :=
  let upd (l : List NetPeer) := l.map (fun q => if q.mac = p.mac ∧ q.slot = p.slot then p else q)
  { s with cmd := { s.cmd with peers := upd s.cmd.peers }, flash := { s.flash with netRecord := upd s.flash.netRecord } }

/-- The device's next reply sequence for a requester. -/
def State.replySeq (s : State) : CmdReq → Nat
  | .mailbox => s.cmd.seqMbx
  | .host => s.cmd.seqHost
  | .internal => s.cmd.seqInt
  | .network mac slot => match s.peer? mac slot with | some p => p.replySeq | none => 0

/-- The reply sequence advances by one (R57); a network one past its reservation raises it by 65 536 (R76). -/
def State.bumpReplySeq (s : State) : CmdReq → State
  | .mailbox => { s with cmd := { s.cmd with seqMbx := (s.cmd.seqMbx + 1) % 2 ^ 32 } }
  | .host => { s with cmd := { s.cmd with seqHost := (s.cmd.seqHost + 1) % 2 ^ 32 } }
  | .internal => { s with cmd := { s.cmd with seqInt := (s.cmd.seqInt + 1) % 2 ^ 32 } }
  | .network mac slot =>
    match s.peer? mac slot with
    | none => s
    | some p =>
      let p := { p with replySeq := p.replySeq + 1 }
      s.putPeer (if p.replyReserve ≤ p.replySeq then { p with replyReserve := p.replyReserve + 65536 } else p)

/-- Mailbox reply slot n as bytes written from offset 0x4000 + 0x1000 n (R66). -/
def writeBytes (t : Tbl Byte) (off : Nat) (bs : List Byte) : Tbl Byte :=
  (bs.foldl (fun (p : Tbl Byte × Nat) b => (Tbl.set (fun _ => 0) p.2 b p.1, p.2 + 1)) (t, off)).1

/-- The n bytes of a byte table from an offset. -/
def readBytes (d : Byte) (t : Tbl Byte) (off n : Nat) : List Byte :=
  (List.range n).map (fun i => Tbl.get (fun _ => d) t (off + i))

/-- A free reply slot: the lowest whose rsp_valid is 0 (R67; which of several, log entry 8). -/
def State.freeSlot (s : State) : Option Nat :=
  (List.range 4).find? (fun n => !(s.fld A.cdmMbxRspStatus F.cdmMbxRspStatus_rsp_valid).testBit n)

/-- Place a mailbox reply in a slot. -/
def State.fillSlot (s : State) (n : Nat) (f : List Byte) : State :=
  let v := s.fld A.cdmMbxRspStatus F.cdmMbxRspStatus_rsp_valid
  { s with cmd := { s.cmd with mbx := writeBytes s.cmd.mbx (0x4000 + 0x1000 * n) f } }.setFld
    A.cdmMbxRspStatus F.cdmMbxRspStatus_rsp_valid (setBit v n)

/-- A mailbox reply takes a free slot, or is held in order (R67) (log entry 12). -/
def State.placeMbx (s : State) (f : List Byte) : State :=
  match s.cmd.mbxHeld, s.freeSlot with
  | [], some n => s.fillSlot n f
  | _, _ => { s with cmd := { s.cmd with mbxHeld := s.cmd.mbxHeld ++ [f] } }

/-- A host port reply joins the 16 waiting ones, or is held in order (R70). -/
def State.placeHost (s : State) (f : List Byte) : State :=
  let f := f ++ toBE 4 (crc32 f)
  if s.cmd.hostHeld.isEmpty ∧ s.cmd.hostWaiting.length < 16 then
    { s with cmd := { s.cmd with hostWaiting := s.cmd.hostWaiting ++ [f] } }
  else { s with cmd := { s.cmd with hostHeld := s.cmd.hostHeld ++ [f] } }

/-- The reset value of a key slot's table. -/
def State.key (s : State) (n : Nat) : KeySlot := Tbl.get (fun _ => KeySlot.erased) s.keys n

/-- The state with a key slot set. -/
def State.setKey (s : State) (n : Nat) (k : KeySlot) : State :=
  { s with keys := Tbl.set (fun _ => KeySlot.erased) n k s.keys }

/-! ### The start of an operation (R286–R290, R296, R297, R572) -/

/-- Warning value and refused value of a counter use: 2, 3, 4 for 32, 48, 64 bits (R297). -/
def pnWarnAt (use : Nat) : Nat := if use = 2 then 2 ^ 32 - 2 ^ 24 else if use = 3 then 2 ^ 48 - 2 ^ 32 else 2 ^ 64 - 2 ^ 32
def pnRefused (use : Nat) : Nat := if use = 2 then 2 ^ 32 - 1 else if use = 3 then 2 ^ 48 - 1 else 2 ^ 64 - 1

/-- The first test of R572 that an operation fails: its status and the counter that advances. `use` is none for a
decryption, 1 for a supplied IV. -/
def State.cipRefusal (s : State) (slot : Nat) (cls : Nat → Bool) (len use : Option Nat) : Option (Nat × Nat) :=
  let k := s.key slot
  if !cls k.cls then some (ST.denied, A.cipClassDeny)
  else if len.any (· != k.key.length) then some (ST.badParam, A.cipKeylenErr)
  else match use with
    | none => none
    | some u =>
      if k.use ≠ 0 ∧ k.use ≠ u then some (ST.denied, A.cipUseDeny)
      else if 2 ≤ u ∧ pnRefused u ≤ k.pn then some (ST.nonceExhausted, A.cipPnExhausted)
      else none

/-- The counter draws a number: the slot's use is set, and the warning fires once per generation. -/
def State.drawPn (s : State) (slot u : Nat) : State :=
  let k := s.key slot
  if u < 2 then s.setKey slot { k with use := u }
  else
    let warn := k.pn + 1 = pnWarnAt u ∧ !k.warned
    let s := s.setKey slot { k with use := u, pn := k.pn + 1, warned := k.warned || decide warn }
    if warn then
      let a := A.cipPnWarn
      let s := ((s.setFld a F.cipPnWarn_valid 1).setFld a F.cipPnWarn_width (u - 1)).setFld a F.cipPnWarn_slot slot
      s.raise 10 .pnWarn 0 2 [slot]
    else s

/-- An operation starts: refused, with its status and one counter; or its use is set and its packet number drawn. -/
def State.cipBegin (s : State) (slot : Nat) (cls : Nat → Bool) (len use : Option Nat) : State × Nat × Nat :=
  match s.cipRefusal slot cls len use with
  | some (st, a) =>
    let s := s.count a
    (if st = ST.nonceExhausted then s.setKey slot { s.key slot with exhausted := true } else s, st, 0)
  | none => match use with
    | some u => (s.drawPn slot u, ST.ok, (s.key slot).pn)
    | none => (s, ST.ok, 0)

/-! ### Network replies (R57, R73, R76, R78) -/

/-- This device's MAC address on the command transport: the destination of the request. The spec gives it no register;
a reply's source address is the request's destination, kept in the first bytes of `vlan` (log entry 9). -/
def netReplyFrame (r : Request) (mac slot seq : Nat) (key : List Byte) (f : List Byte) : List Byte :=
  let sel : List Byte := 1 :: toBE 2 slot ++ [0]
  let hdr := f.take 16
  let (ct, tag) := Crypto.gcmSeal key (toBE 6 mac ++ toBE 4 seq ++ [0, 1]) (sel ++ hdr) (f.drop 16)
  toBE 6 mac ++ r.vlan ++ [0x88, 0xB5] ++ sel ++ hdr ++ ct ++ tag

/-- May a network reply be sent: its key slot unchanged and its sequence below 0xFFFF_FFFF (R76, R78)? -/
def State.netSendable (s : State) (r : Request) (mac slot : Nat) : Bool :=
  let k := s.key slot
  decide (k.cls = 1) && decide (k.gen = r.gen) && (s.peer? mac slot).isSome && decide (s.replySeq r.who < 0xFFFFFFFF) && s.isLit 10

/-- A network reply: sealed and handed to the management queue of the ingress it came from, and only then the reply sequence
advances; the slot's use is a supplied IV from then on (R290); else dropped and counted (R57, R73, R76, R78, R341). -/
def State.placeNet (s : State) (r : Request) (mac slot : Nat) (f : List Byte) : State :=
  if s.netSendable r mac slot then
    let out : MgmtFrame := ⟨r.ingress, r.station, netReplyFrame r mac slot (s.replySeq r.who) (s.key slot).key f⟩
    ({ s with cmd := { s.cmd with cdmTx := s.cmd.cdmTx ++ [out] } }.drawPn slot 1).bumpReplySeq r.who
  else s.count A.cdmCmdReplyDrop

/-- One reply frame to its requester, whose reply sequence advances with a frame sent (R57). -/
def State.place (s : State) (r : Request) (f : List Byte) : State :=
  match r.who with
  | .mailbox => (s.placeMbx f).bumpReplySeq .mailbox
  | .host => (s.placeHost f).bumpReplySeq .host
  | .internal => { s with cmd := { s.cmd with intReplies := s.cmd.intReplies ++ [f] } }.bumpReplySeq .internal
  | .network mac slot => s.placeNet r mac slot f

/-- The bytes of one reply frame. -/
def State.replyFrame (s : State) (r : Request) (status : Nat) (more : Bool) (ps : List Byte) : List Byte :=
  buildHdr (r.hdr0 + (if more then 2 else 0) + 1) r.cls r.island r.op r.tag ps.length (s.replySeq r.who) status
    ++ ps ++ List.replicate (padLen ps.length) 0

/-- Parameters cut into fragments of 4 080 bytes (R64). -/
def chunks : Nat → List Byte → List (List Byte)
  | 0, l => [l]
  | n + 1, l => if l.length ≤ 4080 then [l] else l.take 4080 :: chunks n (l.drop 4080)

/-- Send the fragments of a reply in order. -/
def State.sendFrags (s : State) (r : Request) (status : Nat) : List (List Byte) → State
  | [] => s
  | [p] => s.place r (s.replyFrame r status false p)
  | p :: p' :: ps => (s.place r (s.replyFrame r status true p)).sendFrags r status (p' :: ps)

/-- The effect word (R58): applied with the event's sequence, or zero. -/
def effectWord : Option Nat → Nat
  | some e => 0x10000 + e % 0x10000
  | none => 0

/-- A reply (R57, R58): its effect word, then its parameters. -/
def State.sendReply (s : State) (r : Request) (status : Nat) (eff : Option Nat) (ps : List Byte) : State :=
  s.sendFrags r status (chunks (ps.length / 4080 + 1) (toBE 4 (effectWord eff) ++ ps))

/-- The outstanding request list without one request (R60). -/
def dropOut (l : List Outst) (r : Request) : List Outst :=
  l.filter (fun o => !(o.req.who == r.who && o.req.tag == r.tag))

/-- A final reply: the tag is free again (R60). -/
def State.finish (s : State) (r : Request) (status : Nat) (eff : Option Nat) (ps : List Byte) : State :=
  let s := s.sendReply r status eff ps
  { s with cmd := { s.cmd with out := dropOut s.cmd.out r } }

/-- Is the request still outstanding? -/
def State.isOut (s : State) (r : Request) : Bool := s.cmd.out.any (fun o => o.req == r)

/-- A completion, sent only while the request is outstanding (R59: exactly one). -/
def State.complete (s : State) (r : Option Request) (status : Nat) (eff : Option Nat) (ps : List Byte) : State :=
  match r with
  | some r => if s.isOut r then s.finish r status eff ps else s
  | none => s

/-- Detail words 2 and 3 of an event that a command caused (R577). -/
def cmdDetail : Option Request → List Nat
  | some r => [r.tag + 0x10000 * r.cls, r.seq]
  | none => []

/-- An event that a command caused, and its sequence (R61, R577). -/
def State.raiseCmd (s : State) (src : Nat) (ev : Ev) (sev d0 d1 : Nat) (r : Option Request) : State :=
  s.raise src ev 0 sev ([d0, d1] ++ cmdDetail r)

/-- The final reply of a command that changed state: its event, named in the effect word (R58, R577). -/
def State.finishEv (s : State) (r : Request) (src : Nat) (ev : Ev) (sev d0 d1 : Nat) (ps : List Byte) : State :=
  let n := s.nextSeq src
  (s.raiseCmd src ev sev d0 d1 (some r)).finish r ST.ok (some n) ps

/-- The final reply of a command that ends early: an event that bears the opcode's name records what the command had changed by
then, if anything, and the effect word names it (R58, R59, R577). -/
def State.finishEarly (s : State) (r : Request) (status : Nat) (changed : Option Ev) : State :=
  match changed with
  | none => s.finish r status none []
  | some ev =>
    let n := s.nextSeq r.island
    (s.raiseCmd r.island ev 1 0 0 (some r)).finish r status (some n) []

end Sys2Proof.Machine
end

