-- ==== Sys2Proof/Machine/Operands.lean ====
section
/-!
DEFINITION. The operand forms of command packets: the opcode table with its privileges, flags, parameter lengths and
ranges (R84), and the request checks 4 to 15 (R56).
-/

namespace Sys2Proof.Machine

/-- The opcodes (R84). -/
inductive Opc where
  | query | countersRead | renew | wakeConfig | vigilProgram | faultClear | modeSet | modeGet | abort | testChallenge
  | testEnter | imageStage | imageVerify | imageActivate | logRead | sensorRead | provisionCommit | daliSend | servoMode
  | timeSet | timeGet | keyWrite | keyErase | keyState | retrain | calRun | calInvalidate | calStatus
  deriving DecidableEq, Repr

/-- The operation that an island and operation code name, if the island has it (check 8). -/
def opcOf (island op : Nat) : Option Opc :=
  if 0x15 < island then none
  else if op = 1 then some .query
  else if op = 2 then some .countersRead
  else if op = 3 then (if island = 0 then none else some .renew)
  else match island, op with
    | 0, 0x10 => some .wakeConfig
    | 0, 0x11 => some .vigilProgram
    | 0, 0x12 => some .faultClear
    | 1, 0x10 => some .modeSet
    | 1, 0x11 => some .modeGet
    | 1, 0x12 => some .abort
    | 1, 0x13 => some .testChallenge
    | 1, 0x14 => some .testEnter
    | 1, 0x20 => some .imageStage
    | 1, 0x21 => some .imageVerify
    | 1, 0x22 => some .imageActivate
    | 1, 0x30 => some .logRead
    | 1, 0x40 => some .sensorRead
    | 1, 0x50 => some .provisionCommit
    | 1, 0x60 => some .daliSend
    | 2, 0x10 => some .servoMode
    | 2, 0x11 => some .timeSet
    | 2, 0x12 => some .timeGet
    | 10, 0x10 => some .keyWrite
    | 10, 0x11 => some .keyErase
    | 10, 0x12 => some .keyState
    | 11, 0x10 => some .retrain
    | 12, 0x10 => some .retrain
    | 17, 0x10 => some .calRun
    | 18, 0x10 => some .calRun
    | 19, 0x10 => some .calRun
    | 17, 0x11 => some .calInvalidate
    | 18, 0x11 => some .calInvalidate
    | 19, 0x11 => some .calInvalidate
    | 17, 0x12 => some .calStatus
    | 18, 0x12 => some .calStatus
    | 19, 0x12 => some .calStatus
    | _, _ => none

/-- Opcodes of privilege class A; the others are class M, and class C for firmware keys (R79). -/
def Opc.isA : Opc → Bool
  | .query | .countersRead | .modeGet | .abort | .sensorRead | .daliSend | .timeGet | .keyState | .calStatus => true
  | _ => false

/-- Opcodes that accept fragmented requests (F). -/
def Opc.fragReq : Opc → Bool
  | .imageStage => true
  | .logRead => true
  | _ => false

/-- Opcodes marked X, which ABORT may cancel. -/
def Opc.abortable : Opc → Bool
  | .renew | .imageStage | .imageVerify | .logRead | .calRun => true
  | _ => false

/-- Big-endian parameter field at an offset. -/
def Request.p (r : Request) (i n : Nat) : Nat := beAt r.params i n

/-- Is urgent permitted on the opcode (U)? MODE_SET only with mode RECOVERY. -/
def urgentOk (o : Opc) (ps : List Byte) : Bool :=
  match o with
  | .abort | .daliSend | .keyErase => true
  | .modeSet => beAt ps 0 1 == 0xA
  | _ => false

/-- Parameter length matches the opcode (check 13). -/
def lengthOk (o : Opc) (n : Nat) : Bool :=
  match o with
  | .query | .faultClear | .modeGet | .testChallenge | .timeGet | .retrain | .calInvalidate | .calStatus => n == 0
  | .countersRead | .renew | .modeSet | .abort | .imageVerify | .imageActivate | .sensorRead | .keyErase | .keyState
  | .calRun => n == 4
  | .wakeConfig | .provisionCommit | .daliSend | .servoMode | .logRead => n == 8
  | .vigilProgram => n == 16
  | .testEnter => n == 196
  | .imageStage => 8 ≤ n
  | .timeSet => n == 12
  | .keyWrite => n == 20 || n == 36

/-- Parameter values in range (check 14), as the table, R496, R510, R539, R408 and R409 give them. A length
byte of KEY_WRITE that disagrees with the packet's length is a bad parameter (log entry 18). -/
def valuesOk (o : Opc) (island : Nat) (ps : List Byte) : Bool :=
  let f := beAt ps
  match o with
  | .countersRead => 1 ≤ f 2 2 && f 2 2 ≤ 509
  | .renew => (f 0 1 == 0 || (island == 1 && f 0 1 == 1)) && f 1 1 ≤ 1
  | .wakeConfig => f 0 4 < 1024 && f 4 4 < 1024
  | .vigilProgram =>
    100 ≤ f 0 4 && f 0 4 ≤ 60000 && f 4 1 ≤ 2 && (f 4 1 == 0 || (1 ≤ f 6 2 && f 6 2 ≤ 64))
      && f 8 2 ≤ 4095 && f 10 2 ≤ 4095
  | .modeSet => f 0 1 ≤ 0xB && f 0 1 != 9
  | .imageStage => f 0 1 ≤ 2 && f 4 4 % 4 == 0 && f 4 4 + (ps.length - 8) ≤ 0x1000000
  | .imageVerify | .imageActivate => f 0 1 ≤ 1
  | .logRead => f 0 1 ≤ 2
  | .sensorRead => f 0 1 ≤ 4
  | .provisionCommit => f 0 4 != 0 && f 4 2 ≤ 4095
  | .daliSend => f 0 1 ≤ 1 && (f 1 1 == 16 || f 1 1 == 24) && f 2 1 ≤ 3 && f 4 4 < 2 ^ f 1 1
  | .servoMode => f 0 1 ≤ 2 && (f 0 1 != 2 || (536334042 ≤ f 4 4 && f 4 4 ≤ 537407782))
  | .timeSet => f 6 4 < nsPerSec
  | .keyWrite =>
    f 0 2 < 0x1000 && f 2 1 ≤ 2 && (f 3 1 == 16 || f 3 1 == 32) && ps.length == 4 + f 3 1
  | .keyErase | .keyState => f 0 2 < 0x1000
  | .calRun => f 0 2 < (if island = 17 then 16 else 256) && f 2 1 < 64
  | _ => true

/-- Opcode permitted in the device mode (check 12). -/
def modeOk (m : Mode) (o : Opc) (ps : List Byte) : Bool :=
  match o with
  | .vigilProgram => m != .vigil && m != .hibernate
  | .testChallenge | .testEnter => m == .boot
  | .provisionCommit => m == .provision
  | .servoMode => beAt ps 0 1 == 1 || !(m == .service || m == .thrift || m == .renew || m == .degraded)
  | .renew => m == .service || m == .renew || m == .degraded
  | .calRun => m == .calibrate || m == .test
  | _ => true

/-- Privilege of the transport covers the opcode (check 11, R79, R86). -/
def State.privOk (s : State) (who : CmdReq) (o : Opc) (ps : List Byte) : Bool :=
  let m : Bool := match who with
    | .mailbox => o.isA || s.bit A.cdmCmdCtl F.cdmCmdCtl_mbx_mgmt
    | _ => true
  let c : Bool := match o with
    | .keyWrite => beAt ps 2 1 == 2
    | .keyErase => (s.key (beAt ps 0 2)).cls == 2
    | _ => false
  let t : Bool := match o with
    | .testChallenge | .testEnter => who == .host
    | _ => true
  m && t && (!c || who == .internal)

/-- Target island lit as this requester sees it (check 15): a fenced island is dark to every transport but 3 (R82, R500). -/
def State.targetLit (s : State) (who : CmdReq) (i : Nat) : Bool :=
  s.isLit i || ((s.isUp i || s.restoring i) && who == .internal)

/-- Checks 10 to 15 on a joined request: the first status that fails (R56). Check 15 is passed by QUERY and RENEW. -/
def State.lateChecks (s : State) (r : Request) (o : Opc) (tagCheck : Bool) : Option Nat :=
  if tagCheck ∧ s.cmd.out.any (fun x => x.req.who == r.who && x.req.tag == r.tag) then some ST.badParam
  else if !s.privOk r.who o r.params then some ST.denied
  else if !modeOk s.mode.mode o r.params then some ST.badMode
  else if !lengthOk o r.params.length then some ST.badLength
  else if !valuesOk o r.island r.params then some ST.badParam
  else if o ≠ .query ∧ o ≠ .renew ∧ !s.targetLit r.who r.island then some ST.islandDark
  else none

/-- Checks 4 to 9 on one packet: version, transport, status, length against the bytes received, opcode, urgent (R56, R62). -/
def earlyChecks (h : Hdr) (cls received : Nat) (ps : List Byte) : Option Nat :=
  if h.version ≠ 1 then some ST.badParam
  else if h.cls ≠ cls ∨ h.auth ≠ (cls == 2) then some ST.denied
  else if h.status ≠ 0 then some ST.badParam
  else if 4080 < h.plen ∨ received ≠ h.plen + padLen h.plen ∨ (h.more ∧ h.plen % 4 ≠ 0) then some ST.badLength
  else match opcOf h.island h.op with
    | none => some ST.badOpcode
    | some o => if h.urgent ∧ !urgentOk o ps then some ST.badParam else none

end Sys2Proof.Machine
end

