-- ==== Sys2Proof/Machine/Commands.lean ====
section
/-!
DEFINITION. Accepting requests (R56, R60–R63), dispatching them (R80), and the pumps that take requests from the mailbox
slots and the host port's buffers (R65–R70).
-/

namespace Sys2Proof.Machine

/-- The request a header spells, with its parameters. -/
def mkRequest (who : CmdReq) (h : Hdr) (ps : List Byte) (ingress station : Nat) (vlan : List Byte) (gen : Nat) : Request :=
  { who := who, hdr0 := h.b0 / 4 * 4, cls := h.cls, island := h.island, op := h.op, tag := h.tag, seq := h.seq,
    params := ps, ingress := ingress, station := station, vlan := vlan, gen := gen }

/-- The open fragmented request of a requester (R63). -/
def State.openFrag (s : State) (who : CmdReq) : Option Request := s.cmd.frags.find? (fun f => f.who == who)

/-- The requester's open fragmented request is closed. -/
def State.closeFrag (s : State) (who : CmdReq) : State :=
  { s with cmd := { s.cmd with frags := s.cmd.frags.filter (fun f => !(f.who == who)) } }

/-- An open fragmented request is abandoned: counted, and its tag answered once (R63). -/
def State.abandon (s : State) (f : Request) (status : Nat) : State :=
  ((s.closeFrag f.who).count A.cdmCmdFragAbandon).sendReply f status none []

/-- A command packet answered ST_ISLAND_DARK counts as a request that the dark responder answers (R499); another status does not
(log entry 14). -/
def State.noteDark (s : State) (r : Request) (status : Nat) : State :=
  if status = ST.islandDark ∧ 1 ≤ r.island ∧ r.island ≤ 21 then s.count (A.aonDarkLoss r.island) else s

/-- A checked request becomes outstanding, or is answered by the first of checks 10 to 15 that fails. -/
def State.acceptReq (s : State) (r : Request) : State :=
  match opcOf r.island r.op with
  | none => s.sendReply r ST.badOpcode none []
  | some o =>
    match s.lateChecks r o true with
    | some st => (s.noteDark r st).sendReply r st none []
    | none => { s with cmd := { s.cmd with out := s.cmd.out ++ [⟨r, false⟩] } }

/-- Checks 4 to 15 on a packet that passed checks 1 to 3, with the fragment rules of R62 and R63. `belongs` is the open
request this packet continues. -/
def State.acceptBody (s : State) (h : Hdr) (r : Request) (received : Nat) (belongs : Option Request) : State :=
  let joined := match belongs with | some f => { r with params := f.params ++ r.params, hdr0 := f.hdr0 } | none => r
  match earlyChecks h (classOf r.who) received r.params with
  | some st => match belongs with
    | some f => s.abandon f st
    | none => s.sendReply r st none []
  | none =>
    if 65280 < joined.params.length then s.abandon joined ST.badLength
    else if h.more then
      if (opcOf r.island r.op).any (·.fragReq) then
        let s := s.closeFrag r.who
        { s with cmd := { s.cmd with frags := s.cmd.frags ++ [joined] } }
      else s.abandon joined ST.badLength
    else (s.closeFrag r.who).acceptReq joined

/-- Checks 2 to 15 on a packet (R56): header check and reply bit, then the fragment rules, then the rest. -/
def State.accept (s : State) (h : Hdr) (r : Request) (chkOk : Bool) (received : Nat) : State :=
  if !chkOk then s.count A.cdmCmdHdrErr
  else if h.isReply then s.count A.cdmCmdHdrErr
  else match s.openFrag r.who with
    | some f =>
      if f.tag = r.tag ∧ f.island = r.island ∧ f.op = r.op then s.acceptBody h r received (some f)
      else (s.abandon f ST.badLength).acceptBody h r received none
    | none => s.acceptBody h r received none

/-! ### Transport availability (R65) -/

/-- Is a cluster lit? -/
def State.clusterLit (s : State) : Bool := s.isLit 6 || s.isLit 7 || s.isLit 8

/-- Is a lane quad or radio lit? -/
def State.portLit (s : State) : Bool := [13, 14, 15, 16, 17, 18, 19].any s.isLit

/-- Is a transport available in the mode (R65)? -/
def State.transportUp (s : State) (who : CmdReq) : Bool :=
  match s.mode.mode, who with
  | .off, _ => false
  | _, .internal => true
  | .boot, .host => s.cmd.hostReady
  | _, .host => true
  | .boot, _ => false
  | .vigil, _ => false
  | .hibernate, _ => false
  | .provision, .mailbox | .calibrate, .mailbox | .recovery, .mailbox | .test, .mailbox => s.clusterLit
  | _, .mailbox => true
  | .provision, .network _ _ | .calibrate, .network _ _ | .recovery, .network _ _ | .test, .network _ _ =>
    s.bit A.cdmCmdCtl F.cdmCmdCtl_net_en && s.portLit
  | _, .network _ _ => s.bit A.cdmCmdCtl F.cdmCmdCtl_net_en

/-! ### Mailbox (R66, R67) -/

/-- Cudom copies the request of slot n, clears its doorbell, and checks it; a KEY_WRITE's slot is zeroed (R288). -/
def State.takeMbx (s : State) (n : Nat) : State :=
  let b := readBytes 0 s.cmd.mbx (0x1000 * n) 4096
  let h := parseHdr b
  let r := mkRequest .mailbox h (b.drop 16 |>.take h.plen) 0 0 [] 0
  let d := s.fld A.cdmMbxDoorbell F.cdmMbxDoorbell_req
  let mbx := if h.island = 10 ∧ h.op = 0x10 then writeBytes s.cmd.mbx (0x1000 * n) (List.replicate 4096 0) else s.cmd.mbx
  let s := { s with cmd := { s.cmd with bells := s.cmd.bells.filter (· != n), mbx := mbx } }.setFld
    A.cdmMbxDoorbell F.cdmMbxDoorbell_req (clrBit d n)
  s.accept h r (crc16 (b.take 14) == h.chk) (h.plen + padLen h.plen)

/-- Requests are taken in doorbell order while no reply is held and a glove runs (R66, R67). -/
def State.pumpMbx (s : State) : Nat → State
  | 0 => s
  | n + 1 =>
    if s.cmd.mbxHeld.isEmpty ∧ !s.cdm.halted ∧ !s.cdm.held ∧ s.transportUp .mailbox then
      match s.cmd.bells with
      | [] => s
      | b :: _ => (s.takeMbx b).pumpMbx n
    else s

/-- Every doorbell is cleared and its request discarded when transport 0 is unavailable (R65). -/
def State.dropBells (s : State) : State :=
  { s with cmd := { s.cmd with bells := [] } }.setFld A.cdmMbxDoorbell F.cdmMbxDoorbell_req 0

/-! ### Host port (R69, R70) -/

/-- Requests of a requester that have not been dispatched. -/
def State.undispatched (s : State) (who : CmdReq) : Nat :=
  (s.cmd.out.filter (fun o => o.req.who == who && !o.dispatched)).length

/-- Free request buffers, 0–2: a buffer is held from its WRITE until its request is dispatched or answered. -/
def State.hostFree (s : State) : Nat := 2 - (s.cmd.hostRaw.length + s.undispatched .host)

/-- Cudom takes one request from the port's buffers and checks it. -/
def State.takeHost (s : State) (b : List Byte) : State :=
  let h := parseHdr b
  let r := mkRequest .host h (b.drop 16 |>.take h.plen) 0 0 [] 0
  s.accept h r (crc16 (b.take 14) == h.chk) (b.length - 16)

/-- Requests are taken from the buffers while no reply is held and a glove runs, outside the entry window (R59, R70). -/
def State.pumpHost (s : State) : Nat → State
  | 0 => s
  | n + 1 =>
    if s.cmd.hostHeld.isEmpty ∧ !s.cdm.halted ∧ !s.cdm.held ∧ !s.aon.window then
      match s.cmd.hostRaw with
      | [] => s
      | b :: bs => ({ s with cmd := { s.cmd with hostRaw := bs } }.takeHost b).pumpHost n
    else s

/-- Held host replies move to the port as places free, and the buffers are served again (R70). -/
def State.refillHost (s : State) : State :=
  match s.cmd.hostHeld with
  | f :: fs =>
    if s.cmd.hostWaiting.length < 16 then
      { s with cmd := { s.cmd with hostWaiting := s.cmd.hostWaiting ++ [f], hostHeld := fs } }
    else s
  | [] => s

/-! ### Dispatch (R80) -/

/-- The next undispatched request of a requester: urgent ones first, each kind in order (R80). -/
def State.nextWaiting (s : State) (who : CmdReq) : Option Request :=
  let w := (s.cmd.out.filter (fun o => o.req.who == who && !o.dispatched)).map (·.req)
  match w.find? (·.urgent) with
  | some r => some r
  | none => w.head?

/-- A request is marked dispatched. -/
def State.markDispatched (s : State) (r : Request) : State :=
  { s with cmd := { s.cmd with out := s.cmd.out.map (fun o => if o.req = r then { o with dispatched := true } else o) } }

/-- While host port replies are held, no request leaves the port's request buffers (R70). A mailbox request already copied from
its slot is dispatched though replies are held (R67). -/
def State.blocked (s : State) : CmdReq → Bool
  | .host => !s.cmd.hostHeld.isEmpty
  | _ => false

/-- Dispatch for an opcode (R80): the request it serves and the state that holds it as dispatched; no request when the
source has none for this opcode, when no glove runs, or when a check fails, which is answered (log entries 18, 19). -/
def State.begin (s : State) (src : CmdSource) (o : Opc) : State × Option Request :=
  if s.cdm.halted ∨ s.cdm.held ∨ !s.isLit 1 then (s, none)
  else match src with
    | .waiting who =>
      match s.nextWaiting who with
      | none => (s, none)
      | some r =>
        if opcOf r.island r.op ≠ some o ∨ s.blocked who then (s, none)
        else
          let s := s.markDispatched r
          match s.lateChecks r o false with
          | some st => ((s.noteDark r st).finish r st none [], none)
          | none => (s, some r)
    | .internal island tag seq params =>
      let op := ((List.range 256).find? (fun k => opcOf island k == some o)).getD 0
      let h : Hdr := { b0 := 16, cls := 3, island := island, op := op, tag := tag, plen := params.length, seq := seq,
                       status := 0, chk := 0 }
      let r := mkRequest .internal h params 0 0 [] 0
      if opcOf island op ≠ some o then (s.sendReply r ST.badOpcode none [], none)
      else match s.lateChecks r o true with
        | some st => ((s.noteDark r st).sendReply r st none [], none)
        | none => ({ s with cmd := { s.cmd with out := s.cmd.out ++ [⟨r, true⟩] } }, some r)

/-- Both Cudom cores halt, in VIGIL and HIBERNATE: CDM is REDUCED (R488). -/
def State.haltCores (s : State) : State :=
  let s := { s with cdm := { s.cdm with halted := true } }
  if (s.pw 1).st = .lit then s.setPw 1 { s.pw 1 with st := .reduced } else s

/-- In VIGIL and HIBERNATE the Cudom cores halt again once no request waits or is outstanding and no transition is under way
(R497). -/
def State.doze (s : State) : State :=
  if (s.mode.mode = .vigil ∨ s.mode.mode = .hibernate) ∧ s.mode.pending.isNone ∧ s.cmd.out.isEmpty ∧ s.cmd.hostRaw.isEmpty then
    s.haltCores
  else s

/-- Run an opcode's body on the request that is dispatched for it, then let the cores halt again where they only woke for it. -/
def State.withRequest (s : State) (src : CmdSource) (o : Opc) (body : State → Request → State) : State :=
  match s.begin src o with
  | (s', some r) => (body s' r).doze
  | (s', none) => s'.doze

/-- The first reply of a command that completes later (R59). -/
def State.pend (s : State) (r : Request) : State := s.sendReply r ST.pending none []

/-! ### Commands that end early (R59, R82, R83, R523) -/

/-- What a command under way has changed: an IMAGE_STAGE its slot, a RETRAIN its channel. -/
def State.changedBy (s : State) (r : Request) : Option Ev :=
  match opcOf r.island r.op with
  | some .imageStage => if s.cdm.jobs.altered.contains r then some .imageStage else none
  | some .retrain => if s.cdm.jobs.retrain.any (fun e => e.2.contains r) then some .retrain else none
  | _ => none

/-- The request of a job is taken out of every list of jobs; the program of the oldest staged request ends with it. -/
def CdmJobs.without (j : CdmJobs) (r : Request) : CdmJobs :=
  let drop (t : Tbl (List Request)) : Tbl (List Request) := t.foldl (fun t e => Tbl.set (fun _ => []) e.1 (e.2.filter (· != r)) t) []
  { j with stage := j.stage.filter (· != r), altered := j.altered.filter (· != r)
           stageBegun := j.stageBegun && !(j.stage.head? == some r)
           verify := j.verify.filter (fun e => e.1 != r), logRead := j.logRead.filter (· != r)
           keyWait := j.keyWait.filter (·.1 != r), provision := j.provision.filter (· != r)
           calRun := drop j.calRun, retrain := drop j.retrain }

/-- An outstanding command ends early with a status, and leaves every list of jobs. -/
def State.endEarly (s : State) (r : Request) (status : Nat) : State :=
  if s.isOut r then
    let s := s.finishEarly r status (s.changedBy r)
    { s with cdm := { s.cdm with jobs := s.cdm.jobs.without r } }
  else s

/-- Requests that an island has accepted and not answered, RENEW and QUERY apart. -/
def State.atIsland (s : State) (i : Nat) : List Request :=
  (s.cmd.out.filter (fun o => o.dispatched && o.req.island == i && o.req.op != 1 && o.req.op != 3)).map (·.req)

end Sys2Proof.Machine
end

