-- ==== Sys2Proof/Machine/District.lean ====
section
/-!
DEFINITION. District time: servo, modes, stamps, cuffs, quality and path delay (R396–R421).
-/

namespace Sys2Proof.Machine

open Crypto (toBE ofBE)

/-! ### Servo (R408–R412, R418) -/

/-- Rate limit in 2^−16 ppb: 25 · 2^max_adj ppm, capped at 1 000 ppm. -/
def State.maxAdj (s : State) : Int :=
  (min (25000 * 2 ^ s.fld A.timeServoCfg F.timeServoCfg_max_adj) 1000000 : Nat) * 65536

/-- Step and lock thresholds in 2^−16 ns; 0 acts as 1. -/
def State.stepThresh (s : State) : Int :=
  (max 1 (s.fld A.timeServoCfg F.timeServoCfg_step_thresh) * 1000 * 65536 : Nat)
def State.lockThresh (s : State) : Int :=
  (max 1 (s.fld A.timeServoCfg F.timeServoCfg_lock_thresh) * 10 * 65536 : Nat)

/-- The increment for a rate y in 2^−16 ppb: round(0x2000_0000 · (1 + y / 10^9)), halves upward (R411). -/
def incrementOf (y : Int) : Nat :=
  ((2 * 0x20000000 * (65536 * 1000000000 + y) + 65536 * 1000000000) / (2 * 65536 * 1000000000)).toNat

/-- bound = ceil(4 · log2 ns): the least code whose 2^(code/4) is at least the bound, given in 2^−16 ns; 63 at most
(R418). -/
def boundCode (b : Nat) : Nat :=
  ((List.range 63).find? (fun c => b ^ 4 ≤ 2 ^ c * 65536 ^ 4)).getD 63

/-- 2^(code / 4) ns in 2^−16 ns, rounded up: the least x with x^4 ≥ 2^code · 65536^4, by 48 halvings. -/
def boundOf (code : Nat) : Nat :=
  let t := 2 ^ code * 65536 ^ 4
  ((List.range 48).foldr (fun k lo => if (lo + 2 ^ k) ^ 4 < t then lo + 2 ^ k else lo) 0) + 1

/-- Hop bound by anchor width, 2^−16 ns (R401 table). -/
def hopBound : Nat → Nat
  | 0 => 25 * 65536 | 1 => 15 * 65536 | 2 => 9 * 65536 | 3 => 406323 | _ => 5 * 65536

/-- The quality byte that TIME keeps (R418) (log entry 101). -/
def State.quality (s : State) : Nat :=
  let lanterns := s.bit A.timeCtl F.timeCtl_src
  let hold := s.bit A.timeCtl F.timeCtl_holdover
  let synced := if lanterns then s.time.parentSynced && s.bit A.timeCtl F.timeCtl_locked
    else s.bit A.timeQuality F.timeQuality_fw_synced
  let base := if lanterns then boundOf s.time.parentBound + hopBound s.time.hopWidth
    else s.fld A.timeQuality F.timeQuality_fw_bound * 4 * 65536
  let since := match s.time.lastSample with | some e => s.elapsed - e | none => 0
  let grown := if hold then base + s.fld A.timeQuality F.timeQuality_holdover_rate * since * 65536 / nsPerSec else base
  if !s.time.sampled then (if hold then 0x40 else 0) + 63
  else (if synced then 0x80 else 0) + (if hold then 0x40 else 0) + boundCode grown

/-- TIME_QUALITY.quality follows R418. -/
def State.refreshQuality (s : State) : State := s.setFld A.timeQuality F.timeQuality_quality s.quality

/-- The quality that a lantern carries: as TIME keeps it, or its last one while TIME is dark. -/
def State.qualityNow (s : State) : Nat := if s.isLit 2 then s.quality else s.fld A.timeQuality F.timeQuality_quality

/-- Entry to mode 1 from mode 0 or 2: the integral starts from the increment in force, the first sample uses t = 1 s,
and the quality is synced 0, bound 63 until it comes (R408, R418). -/
def State.enterServo (s : State) : State :=
  if s.isLit 2 ∧ s.fld A.timeCtl F.timeCtl_servo_mode ≠ 1 then
    let inc := s.fld A.timeIncr F.timeIncr_increment
    let y : Int := ((inc : Int) - 0x20000000) * 1000000000 * 65536 / 0x20000000
    let s := s.setFld A.timeCtl F.timeCtl_servo_mode 1
    { s with time := { s.time with integral := -y, lastSample := none, quietFrom := s.elapsed, goodRun := 0,
                                   sampled := false } }.refreshQuality
  else s

/-- The clock moved by a signed change in 2^−16 ns; it never falls below zero. -/
def State.stepClock (s : State) (d : Int) : State :=
  { s with time := { s.time with clock := ((s.time.clock : Int) + d * 4096).toNat } }

/-- A step: counted and logged with the change in ns as two words, and the lock is lost (R409, R412, R413). -/
def State.noteStep (s : State) (d : Int) (r : Option Request) : State :=
  let ns := unsigned 64 (d / 65536)
  let s := (s.count A.timeStep).raise 2 .timeStep 0 1 ([ns % 2 ^ 32, ns / 2 ^ 32] ++ cmdDetail r)
  let s := s.setFld A.timeCtl F.timeCtl_locked 0
  { s with time := { s.time with goodRun := 0 } }

/-- Lock state after a sample of this size (R412). -/
def State.lockAfter (s : State) (th : Int) : State :=
  let a := if th < 0 then -th else th
  let s := if a < s.lockThresh then { s with time := { s.time with goodRun := s.time.goodRun + 1 } }
    else { s with time := { s.time with goodRun := 0 } }
  if 4 * s.lockThresh ≤ a then s.setFld A.timeCtl F.timeCtl_locked 0
  else if 8 ≤ s.time.goodRun then s.setFld A.timeCtl F.timeCtl_locked 1 else s

/-- An accepted offset sample θ in 2^−16 ns (R411): a step, or the PI servo; then lock, holdover and quality. -/
def State.servoSample (s : State) (th : Int) : State :=
  let a := if th < 0 then -th else th
  let t : Int := match s.time.lastSample with
    | some e => (max 1000000 (s.elapsed - e) : Nat)
    | none => 1000000000
  let s1 := { s with time := { s.time with lastSample := some s.elapsed, quietFrom := s.elapsed, sampled := true } }.setFld
    A.timeCtl F.timeCtl_holdover 0
  let s1 := s1.setFld A.timeServoStatus F.timeServoStatus_last_offset (unsigned 12 (clampI (-2047) 2047 (th / 65536)))
  if s.bit A.timeCtl F.timeCtl_step_en ∧ s.stepThresh < a then
    ((s1.stepClock (-th)).noteStep (-th) none).refreshQuality
  else
    let r := th * 1000000000 / t
    let i := s.time.integral + r / 2 ^ s.fld A.timeServoCfg F.timeServoCfg_ki_shift
    let y := clampI (-s.maxAdj) s.maxAdj (-(r / 2 ^ s.fld A.timeServoCfg F.timeServoCfg_kp_shift + i))
    let s2 := { s1 with time := { s1.time with integral := i } }.setFld A.timeIncr F.timeIncr_increment (incrementOf y)
    let s2 := s2.setFld A.timeServoStatus F.timeServoStatus_adj (unsigned 20 (clampI (-524288) 524287 (y / 65536)))
    (s2.lockAfter th).refreshQuality

/-- A sample from a source: applied in mode 1 from the selected source while TIME is lit, else discarded (R410, R419). -/
def State.offerSample (s : State) (fromLantern : Bool) (th : Int) : State :=
  if !s.isLit 2 then s
  else if s.fld A.timeCtl F.timeCtl_servo_mode = 1 ∧ s.bit A.timeCtl F.timeCtl_src = fromLantern then s.servoSample th
  else s.count A.timeOffsetDiscard

/-- A path-delay sample in 2^−16 ns (R416): outside 0 to 10 µs discarded, else averaged in units of 2^−8 ns. -/
def State.pathSample (s : State) (d : Int) : State :=
  if !s.isLit 2 then s
  else if d < 0 ∨ 10000 * 65536 < d then s.count A.timePathDiscard
  else
    let p : Int := s.fld A.timePath F.timePath_path_delay
    let d8 := d / 256
    let sh := min 8 (s.fld A.timePath F.timePath_pd_shift)
    let p' := if s.time.pathValid then p + (d8 - p) / 2 ^ sh else d8
    { s with time := { s.time with pathValid := true } }.setFld A.timePath F.timePath_path_delay p'.toNat

/-! ### Stamps and cuffs (R400–R407) -/

/-- Wired corrections in 2^−16 ns (transmit, receive fixed) by lane rate in Mbaud and SGMII speed in Mb/s (R401). -/
def wiredCorr (mbaud sgmii : Nat) : Int × Int :=
  let ps (x : Int) : Int := x * 65536 / 100
  if sgmii = 100 then (ps 5760, ps 15840)
  else if sgmii = 10 then (ps 5760, ps 87840)
  else if mbaud = 1250 then (ps 5760, ps 8640)
  else if mbaud = 2500 then (ps 3200, ps 4800)
  else if mbaud = 3125 then (ps 2688, ps 4032)
  else if mbaud = 5000 then (ps 1920, ps 2880)
  else if mbaud = 6250 then (ps 1664, ps 2496)
  else if mbaud = 10000 then (ps 1280, ps 1920)
  else (ps 1152, ps 1728)

/-- Radio corrections in 2^−16 ns (transmit, receive) by width code: 0 20 MHz to 4 320 MHz, 5 DSSS (R401). -/
def radioCorr : Nat → Int × Int
  | 0 => (580 * 65536, 860 * 65536)
  | 1 => (380 * 65536, 560 * 65536)
  | 2 => (280 * 65536, 410 * 65536)
  | 3 => (230 * 65536, 335 * 65536)
  | 4 => (205 * 65536, 19496960)
  | _ => (320 * 65536, 1100 * 65536)

/-- A board correction field in 2^−16 ns (0.1 ns units). -/
def State.boardTx (s : State) (k : Nat) : Int := signed 16 (s.fld (A.timeBoard k) F.timeBoard_board_tx) * 65536 / 10
def State.boardRx (s : State) (k : Nat) : Int := signed 16 (s.fld (A.timeBoard k) F.timeBoard_board_rx) * 65536 / 10

/-- A district time in 2^−16 ns as count and fraction (R397). -/
def stampOf (t : Int) : Nat × Nat := ((t / 65536 % 2 ^ 32).toNat, (t % 65536).toNat)

/-- The district time now, 2^−16 ns. -/
def State.now16 (s : State) : Int := (s.time.clock / 4096 : Nat)

/-- The cuff of index c. -/
def State.cuff (s : State) (c : Nat) : Cuff := Tbl.get (fun _ => Cuff.empty) s.time.cuffs c

/-- The state with a cuff set, its register view following (level, head). -/
def State.setCuff (s : State) (c : Nat) (q : Cuff) : State :=
  let s := { s with time := { s.time with cuffs := Tbl.set (fun _ => Cuff.empty) c q s.time.cuffs } }
  let s := s.setFld (A.timeCuffCtl c) F.timeCuffCtl_level q.entries.length
  match q.entries with
  | [] => ((s.setReg (A.timeCuffHead0 c) 0).setReg (A.timeCuffHead1 c) 0).setReg (A.timeCuffHead2 c) 0
  | e :: _ =>
    let b (x : Bool) : Nat := if x then 1 else 0
    let h0 := 2 ^ 31 + b e.gap * 2 ^ 30 + b e.aborted * 2 ^ 29 + b e.errEnded * 2 ^ 28 + e.frameId % 65536
    ((s.setReg (A.timeCuffHead0 c) (BitVec.ofNat 32 h0)).setReg (A.timeCuffHead1 c) (BitVec.ofNat 32 e.count)).setReg
      (A.timeCuffHead2 c) (BitVec.ofNat 32 (e.frac % 65536 * 65536))

/-- A stamp for cuff c: stored, or dropped and counted when TIME is dark or the cuff holds 16 (R406, R419). -/
def State.storeStamp (s : State) (c frameId : Nat) (t : Int) (aborted errEnded : Bool) : State :=
  let q := s.cuff c
  if !s.isLit 2 ∨ 16 ≤ q.entries.length then
    { s with time := { s.time with cuffs := Tbl.set (fun _ => Cuff.empty) c { q with gapDue := true } s.time.cuffs } }.count
      (A.timeCuffOverflow c)
  else
    let (n, f) := stampOf t
    s.setCuff c ⟨q.entries ++ [⟨frameId, n, f, q.gapDue, aborted, errEnded⟩], false⟩

/-! ### Commands of TIME -/

/-- SERVO_MODE (R408) (log entry 18). -/
def execServoMode (src : CmdSource) (s : State) : Host.Outcome State Fault Refusal :=
  .next (s.withRequest src .servoMode fun s r =>
    let m := r.p 0 1
    let s := if m = 1 then s.enterServo
      else if m = 2 then
        (s.setFld A.timeCtl F.timeCtl_servo_mode 2).setFld A.timeIncr F.timeIncr_increment (r.p 4 4)
      else s.setFld A.timeCtl F.timeCtl_servo_mode 0
    s.finishEv r 2 .servoMode 1 m (s.fld A.timeIncr F.timeIncr_increment) [])

/-- TIME_SET (R409): seconds and nanoseconds, fraction 0; refused in mode 1. -/
def execTimeSet (src : CmdSource) (s : State) : Host.Outcome State Fault Refusal :=
  .next (s.withRequest src .timeSet fun s r =>
    if s.fld A.timeCtl F.timeCtl_servo_mode = 1 then s.finish r ST.badMode none []
    else
      let t := (r.p 0 6 * nsPerSec + r.p 6 4) * fracUnits
      let d : Int := ((t : Int) - s.time.clock) / 4096
      let n := s.nextSeq 2
      let s := ({ s with time := { s.time with clock := t } }.noteStep d (some r)).refreshQuality
      s.finish r ST.ok (some n) [])

/-- TIME_GET: seconds 6, nanoseconds 4, fraction 2 (R84, R399). -/
def execTimeGet (src : CmdSource) (s : State) : Host.Outcome State Fault Refusal :=
  .next (s.withRequest src .timeGet fun s r =>
    s.finish r ST.ok none (toBE 6 s.nowSec ++ toBE 4 s.nowSub ++ toBE 2 s.nowFrac))

/-- A read of TIME_NOW_NS latches seconds, fraction and count of the same instant (R399). -/
def execTimeNowRead (who : Requester) (s : State) : Host.Outcome State Fault Refusal :=
  .next (s.access who (A.timeNowNs) false fun s =>
    let s := s.setReg A.timeNowNs (BitVec.ofNat 32 s.nowSub)
    let s := s.setReg A.timeNowSecLo (BitVec.ofNat 32 (s.nowSec % 2 ^ 32))
    let s := s.setReg A.timeNowHi (BitVec.ofNat 32 (s.nowFrac * 65536 + s.nowSec / 2 ^ 32))
    let s := s.setReg A.timeCount (BitVec.ofNat 32 s.count32)
    s.busOk (BitVec.ofNat 32 s.nowSub))

/-- TIME_OFFSET_SUBMIT: a write of TIME_OFFSET_FRAC submits the firmware offset (R410) (log entry 101). -/
def execTimeOffsetSubmit (who : Requester) (w : Word) (s : State) : Host.Outcome State Fault Refusal :=
  .next (s.access who (A.timeOffsetFrac) true fun s =>
    if !isAnyCore who then s.busOk 0
    else
      let s := s.setReg A.timeOffsetFrac (w &&& 0xFFFF0000)
      let ns := signed 32 (s.reg A.timeOffsetNs).toNat
      (s.offerSample false (ns * 65536 + ((w.toNat / 65536 : Nat) : Int))).busOk 0)

/-- The time without an accepted sample after which TIME enters holdover, ns; 0 acts as 1 (R412). -/
def State.holdoverAfter (s : State) : Nat := max 1 (s.fld A.timeServoCfg F.timeServoCfg_holdover_after) * 100000000

/-- HOLDOVER_ENTRY: no accepted sample for holdover_after in mode 1: y is held at −i (R412). -/
def execHoldoverEntry (s : State) : Host.Outcome State Fault Refusal :=
  .next (if s.isLit 2 ∧ s.fld A.timeCtl F.timeCtl_servo_mode = 1 ∧ !s.bit A.timeCtl F.timeCtl_holdover ∧
      s.time.quietFrom + s.holdoverAfter ≤ s.elapsed then
    let y := clampI (-s.maxAdj) s.maxAdj (-s.time.integral)
    let s := s.setFld A.timeCtl F.timeCtl_holdover 1
    let s := s.setFld A.timeIncr F.timeIncr_increment (incrementOf y)
    let s := s.setFld A.timeServoStatus F.timeServoStatus_adj (unsigned 20 (clampI (-524288) 524287 (y / 65536)))
    (s.raise 2 .timeHoldover 0 2 []).refreshQuality
  else s)

/-- CUFF_POP: the head entry goes; a pop of an empty cuff does nothing (R407) (log entry 101). -/
def execCuffPop (who : Requester) (c : Fin 11) (s : State) : Host.Outcome State Fault Refusal :=
  .next (s.access who (A.timeCuffCtl c) true fun s =>
    if !isAnyCore who then s.busOk 0
    else
      let q := s.cuff c.val
      (s.setCuff c.val { q with entries := q.entries.drop 1 }).busOk 0)

/-! ### The passing of time (R396) -/

/-- One 500 MHz cycle: district time advances by the increment in force, but in OFF, where no clock runs; 2 ns have passed
(log entry 2). -/
def State.cycle (s : State) : State :=
  { s with elapsed := s.elapsed + 2
           time := if s.mode.mode = .off then s.time
             else { s.time with clock := s.time.clock + s.fld A.timeIncr F.timeIncr_increment } }

end Sys2Proof.Machine
end

