-- ==== Sys2Proof/Machine/TskCore.lean ====
section
/-!
DEFINITION. Work items: their slots, the packets they carry, creation and end (R441–R450); cells of the packet store.
-/

namespace Sys2Proof.Machine

open Crypto (toBE)

/-! ### Cells (R351) -/

/-- Cells of a packet of n bytes. -/
def cellsOf (n : Nat) : Nat := (n + 255) / 256

/-- Free cells of the store. -/
def State.freeCells (s : State) : Nat := s.fld A.schPoolStatus F.schPoolStatus_free_cells
def State.setFree (s : State) (n : Nat) : State := s.setFld A.schPoolStatus F.schPoolStatus_free_cells n

/-! ### Items -/

def State.setTsk (s : State) (t : TskState) : State := { s with tsk := t }

/-- TSK_STATUS follows the items. -/
def State.showTsk (s : State) : State :=
  let a := A.tskStatus
  (s.setFld a F.tskStatus_in_flight s.tsk.items.length).setFld a F.tskStatus_ready
    (s.tsk.items.filter (fun i => i.st == .ready)).length

/-- The item's ID. -/
def Item.id (i : Item) : Nat := i.gen * 4096 + i.slot

/-- The lowest slot that is free (log entry 103). -/
def State.slotFree (s : State) : Option Nat :=
  (List.range 4096).find? (fun n => !s.tsk.items.any (fun i => i.slot == n))

/-- Byte 2 and the ID put into an item's first word: bytes 0, 1 and 3 are TSK's, and so is pkt. -/
def itemWord0 (id b2 core : Nat) (fromCore pkt : Bool) : Word :=
  BitVec.ofNat 32 (id + (b2 / 4 * 4 + (if pkt then 2 else 0) + b2 % 2) * 2 ^ 16
    + ((if fromCore then 128 else 0) + core) * 2 ^ 24)

/-- An item is created in a slot: READY, or PARKED; the slot's next generation is noted. -/
def State.createItem (s : State) (slot b2 : Nat) (core : Option Nat) (words : List Word) (pkt : Option (Nat × Nat))
    (parked : Bool) : State :=
  let gen := Tbl.get (fun _ => 0) s.tsk.gens slot
  let w0 := itemWord0 (gen * 4096 + slot) b2 (core.getD 0) core.isSome pkt.isSome
  let i : Item :=
    { slot := slot, gen := gen, st := if parked then .parked else .ready, words := w0 :: words.drop 1, prio := b2 / 32
      aff := b2 / 8 % 4, entry := ((words.drop 1).headD 0).toNat % 4096, fromCore := core, pkt := pkt, readyAt := s.elapsed
      order := s.tsk.order, started := 0, long := false, waited := false }
  (s.setTsk { s.tsk with items := s.tsk.items ++ [i], gens := Tbl.set (fun _ => 0) slot ((gen + 1) % 16) s.tsk.gens
                         order := s.tsk.order + 1 }).showTsk

/-- The words of a core's submission window. -/
def State.submitted (s : State) (k : Nat) : List Word := (List.range 16).map (fun w => s.reg (A.tskSubmit k w))

/-- A core's submission is taken into a slot: its ID and ST_OK stand in TSK_SUBMIT_RES (R443). -/
def State.takeSubmission (s : State) (k slot : Nat) : State :=
  let ws := s.submitted k
  let b2 := (ws.headD 0).toNat / 2 ^ 16 % 256
  let id := Tbl.get (fun _ => 0) s.tsk.gens slot * 4096 + slot
  let s := s.createItem slot (b2 - b2 / 2 % 2 * 2) (some k) ws none (b2.testBit 2)
  s.setReg (A.tskSubmitRes k) (BitVec.ofNat 32 (id * 65536))

/-- A free slot goes to the submission that has waited longest. -/
def State.serveWaiting (s : State) : State :=
  match s.tsk.waiting, s.slotFree with
  | (k, _) :: rest, some slot => (s.setTsk { s.tsk with waiting := rest }).takeSubmission k slot
  | _, _ => s

/-- An item enters FREE: its packet's cells return to SCH, and a waiting submission may have its slot. -/
def State.freeItem (s : State) (i : Item) : State :=
  let s := match i.pkt with | some (_, n) => s.setFree (s.freeCells + n) | none => s
  ((s.setTsk { s.tsk with items := s.tsk.items.erase i }).showTsk).serveWaiting

/-- The item that a core holds. -/
def State.heldBy (s : State) (k : Nat) : Option Item := s.tsk.items.find? (fun i => i.st == .dispatched k)

/-- A core's window of the held item is empty again. -/
def State.dropHeld (s : State) (k : Nat) : State := (List.range 16).foldl (fun s w => s.setReg (A.tskItem k w) 0) s

/-- Cells that packets handed to TSK hold. -/
def State.tskCells (s : State) : Nat :=
  (s.tsk.items.filterMap (·.pkt)).foldl (fun a p => a + p.2) (s.tsk.inbox.foldl (fun a p => a + cellsOf p.1.bytes.length) 0)

/-- A cluster goes down: the items dispatched on its cores are lost (R450), and what its cores submitted and wait for. -/
def State.clusterLost (s : State) (cl : Nat) : State :=
  let mine := s.tsk.items.filter (fun i => match i.st with | .dispatched k => k / 8 == cl | _ => false)
  let s := s.setTsk { s.tsk with waiting := s.tsk.waiting.filter (fun x => x.1 / 8 != cl) }
  let s := (List.range 8).foldl (fun s c => s.dropHeld (8 * cl + c)) s
  mine.foldl (fun s i => (s.freeItem i).count A.tskLostDark) s

/-! ### Core clocks and performance counters (R453–R455) -/

/-- A performance counter of a core advances; 48 bits, wrapping. -/
def State.perfAdd (s : State) (k n d : Nat) : State :=
  let lo := A.clPerfLo (k / 8) (k % 8) n
  let hi := A.clPerfHi (k / 8) (k % 8) n
  let v := ((s.reg hi).toNat % 65536 * 2 ^ 32 + (s.reg lo).toNat + d) % 2 ^ 48
  (s.setReg lo (BitVec.ofNat 32 v)).setReg hi (BitVec.ofNat 32 (v / 2 ^ 32))

/-- What c cycles add to events 0 to 14: CYCLES c; the slots of events 2 to 5 add up to 2 · c (R455); how they divide, and what the
other events add, up to the slots or cycles there were, is what the core ran: free values (log entry 104). -/
def perfGains (c : Nat) (v : Nat → Nat) : List Nat :=
  let a := v 0 % (2 * c + 1)
  let b := v 1 % (2 * c - a + 1)
  let d := v 2 % (2 * c - a - b + 1)
  [c, v 3 % (2 * c + 1), a, b, d, 2 * c - a - b - d] ++ (List.range 6).map (fun i => v (4 + i) % (2 * c + 1))
    ++ (List.range 3).map (fun i => v (10 + i) % (c + 1))

/-- A core's counters settled to now: the cycles of its cluster's clock, 400 MHz times freq + 1, while the cluster is lit and not
parked. -/
def State.settleCore (s : State) (k : Nat) : State :=
  let x := Tbl.get (fun _ => CoreClk.init) s.coreClk k
  let on := s.isUp (6 + k / 8) && !s.bit (A.clClk (k / 8)) F.clClk_parked
  let t := x.fifths + (if on then 2 * (s.fld (A.clClk (k / 8)) F.clClk_freq + 1) * (s.elapsed - x.since) else 0)
  let s := { s with coreClk := Tbl.set (fun _ => CoreClk.init) k ⟨s.elapsed, t % 5⟩ s.coreClk }
  if t / 5 = 0 then s
  else
    let gains := perfGains (t / 5) (fun i => Config.freeNat (s.free + i))
    (List.range 15).foldl (fun s n => s.perfAdd k n (gains.getD n 0)) { s with free := s.free + 13 }

/-- The counters of a cluster's cores settled, before its clock changes. -/
def State.settleCluster (s : State) (cl : Nat) : State := (List.range 8).foldl (fun s c => s.settleCore (8 * cl + c)) s

/-- A cluster is parked, its state kept with the clock stopped, or unparked: REDUCED while it is parked (R453, R488). -/
def State.parkCluster (s : State) (cl : Nat) (parked : Bool) : State :=
  let s := (s.settleCluster cl).setFld (A.clClk cl) F.clClk_parked (if parked then 1 else 0)
  let p := s.pw (6 + cl)
  s.setPw (6 + cl) { p with st := match p.st, parked with
    | .lit, true => .reduced
    | .reduced, false => .lit
    | st, _ => st }

/-- A cluster's clocks start as it is lit. -/
def State.startClocks (s : State) (cl : Nat) : State :=
  { s with coreClk := (List.range 8).foldl (fun t c => Tbl.set (fun _ => CoreClk.init) (8 * cl + c) ⟨s.elapsed, 0⟩ t) s.coreClk }

end Sys2Proof.Machine
end

