-- ==== Sys2Proof/Machine/IslandReset.lean ====
section
/-!
DEFINITION. What an island loses when it goes dark or is reset: its registers and its hidden state (R27, R35, R120, R419).
-/

namespace Sys2Proof.Machine

/-- A radio reset: the grant input is a pin and keeps its level. -/
def State.resetRadio (s : State) (r : Nat) : State := s.setRd r { RadState.init with gnt := (s.rd r).gnt }

/-- A PPDU of a lit radio loses the codewords it had in DEC: lost with cause DEC_DARK and counted once (R158). -/
def State.decLostOf (s : State) (r n : Nat) : State :=
  let x := s.rd r
  let mark (q : Rx) : Rx := if q.num = n then { q with lost := some .decDark, counted := true } else q
  let seen := [x.rx, x.done].any (fun q => q.any (fun q => q.num == n && q.counted))
  if !s.isLit (17 + r) then s
  else
    let s := s.setRd r { x with rx := x.rx.map mark, done := x.done.map mark, loss := some .decDark }
    if seen then s else s.count (A.radRxDecDark r)

/-- Codewords lost with DEC: each PPDU they belong to is counted once (R158). -/
def State.decLost (s : State) : State :=
  let cs := s.dec.waiting ++ s.dec.cells.map (fun c => c.2.cw)
  ((cs.map (fun c => (c.radio, c.ppdu))).eraseDups).foldl (fun s x => s.decLostOf x.1 x.2) { s with dec := GalState.init }

/-- Cuffs empty; entries unread are counted as dropped, and the next entry stored carries gap (R419). -/
def State.cuffsLost (s : State) : State :=
  (List.range 11).foldl (fun s c =>
    let q := Tbl.get (fun _ => Cuff.empty) s.time.cuffs c
    if q.entries.isEmpty then s
    else { s with time := { s.time with cuffs := Tbl.set (fun _ => Cuff.empty) c ⟨[], true⟩ s.time.cuffs } }.countN
      (A.timeCuffOverflow c) q.entries.length) s

/-- A radio's frames and events end with it: its receive FIFO, its exchange and its Holael event. -/
def State.radioLost (s : State) (r : Nat) : State :=
  let x := Tbl.get (fun _ => WlanRadio.init) s.hmac.wrad r
  let h := { s.hmac with wrad := Tbl.set (fun _ => WlanRadio.init) r { x with exch := none, multi := [], probes := [], tb := none,
                                                                              mgmtRx := [], status := [] } s.hmac.wrad
                         hol := { s.hmac.hol with events := Tbl.erase r s.hmac.hol.events } }
  ({ s with hmac := h, rxFifo := Tbl.erase (16 + r) s.rxFifo }).resetRadio r

/-- Every item is FREE; the cells of their packets return to SCH (R518). -/
def State.itemsLost (s : State) : State := (s.setFree (s.freeCells + s.tskCells)).setTsk TskState.init

/-- SCH loses the packet store: what cells read as is open again, and packets handed to TSK are lost; their items stay
(log entry 92). -/
def State.storeLost (s : State) : State :=
  let s := { s with sch := { SchState.init with store := s.free }, pst := [], free := s.free + 1 }
  s.setTsk { s.tsk with items := s.tsk.items.map (fun i => { i with pkt := none }), inbox := [] }

/-- The hidden state of an island at reset. -/
def State.resetHidden (s : State) (i : Nat) : State :=
  if i = 2 then { s with time := { s.time with lastSample := none, goodRun := 0, sampled := false, parentSynced := false
                                               parentBound := 63 } }
  else if i = 3 then { s with pkt := PktState.init }
  else if i = 4 then s.storeLost
  else if i = 5 then s.itemsLost
  else if 6 ≤ i ∧ i ≤ 8 then s.clusterLost (i - 6)
  else if i = 9 then { s with dma := DmaState.init }
  else if i = 10 then
    s.keys.foldl (fun s e => s.setKey e.1 { e.2 with shadow := none }) 
      { s with cip := { CipState.init with needTx := s.cip.needTx, needRx := s.cip.needRx } }
  else if i = 11 then { s with dram := { s.dram with logged := clrBit (clrBit s.dram.logged 0) 2, chans := Tbl.erase 0 s.dram.chans
                                                     rows := Tbl.drop (fun k => k / 1024 == 0) s.dram.rows } }
  else if i = 12 then { s with dram := { s.dram with logged := clrBit (clrBit s.dram.logged 1) 3, chans := Tbl.erase 1 s.dram.chans
                                                     rows := Tbl.drop (fun k => k / 1024 == 1) s.dram.rows } }
  else if 13 ≤ i ∧ i ≤ 16 then { s with ports := Tbl.drop (fun p => p / 4 == i - 13) s.ports
                                        lanes := Tbl.drop (fun l => l / 4 == i - 13) s.lanes
                                        rxFifo := Tbl.drop (fun p => decide (p < 16) && p / 4 == i - 13) s.rxFifo }
  else if 17 ≤ i ∧ i ≤ 19 then s.radioLost (i - 17)
  else if i = 20 then s.decLost
  else if i = 21 then
    (List.range 3).foldl (fun s r => s.setRd r { s.rd r with rxWin := none }) { s with hmac := HmacState.init }
  else s

/-- Does an address lie in one of these register families? -/
def inFamilies (ds : List RegDesc) (a : Nat) : Bool := ds.any (fun d => d.covers (islandOf a) (offOf a))

/-- Registers that stand through an island's dark time: TIME's increment and CUFF_OVERFLOW (R419, R421); a MEM island's chamber
table, configuration and PASR mask through VIGIL and HIBERNATE (R466, R485). -/
def keptRegs (i : Nat) (vigil : Bool) : List RegDesc :=
  if i = 2 then [D.timeIncr, D.timeCuffOverflow]
  else if vigil && (i == 11 || i == 12) then
    [D.memCfg, D.memPasr, D.memMirror, D.memChamberW0, D.memChamberW1, D.memChamberW2, D.memChamberW3]
  else []

/-- The sources that an island's reset resets beside its own (R34, R35): its ports, radio, channels. -/
def islandSources (i : Nat) : List Nat :=
  if 13 ≤ i ∧ i ≤ 16 then i :: (List.range 4).map (portSrc (i - 13))
  else if 17 ≤ i ∧ i ≤ 19 then [i, radSrc (i - 17)]
  else if i = 9 then i :: (List.range 64).map dmaSrc
  else [i]

/-- The ports that valid SA entries of a direction secure: 0 receive, 1 transmit (R298). -/
def State.msecPorts (s : State) (dir : Nat) : Nat :=
  (List.range 128).foldl (fun m e =>
    if s.bit (A.cipMsecSaW0 e) F.cipMsecSaW0_valid ∧ s.fld (A.cipMsecSaW0 e) F.cipMsecSaW0_dir = dir then
      setBit m (s.fld (A.cipMsecSaW0 e) F.cipMsecSaW0_port)
    else m) 0

/-- Is CIP lit, its mittens on or off, so that its SA table stands? -/
def State.cipOn (s : State) : Bool := (s.pw 10).st == .lit || (s.pw 10).st == .reduced

/-- Does a port need CIP to transmit, or to receive: by the SA table, or, while CIP is dark, as it stood before (R498)? -/
def State.secured (s : State) (p : Nat) (tx : Bool) : Bool :=
  (if s.cipOn then s.msecPorts (if tx then 1 else 0) else if tx then s.cip.needTx else s.cip.needRx).testBit p

/-- An island loses power, or is reset: its registers, its hidden state and its event sequences. `vigil` where it goes dark for
VIGIL or HIBERNATE. -/
def State.clearIsland (s : State) (i : Nat) (vigil : Bool) : State :=
  let s := if i = 2 then
      { s with time := { s.time with savedMode := s.fld A.timeCtl F.timeCtl_servo_mode } }.cuffsLost
    else if i = 10 ∧ s.cipOn then
      { s with cip := { s.cip with needTx := s.msecPorts 1, needRx := s.msecPorts 0 } }
    else s
  let kept := s.regs.filter (fun e => inWindows e.1 && islandOf e.1 == i && inFamilies (keptRegs i vigil) e.1)
  let s := kept.foldl (fun s e => s.setReg e.1 e.2) (s.resetRegs i)
  (islandSources i).foldl (fun s x => s.setSeq x 0) (s.resetHidden i)

end Sys2Proof.Machine
end

