-- ==== Sys2Proof/Machine/Modes.lean ====
section
/-!
DEFINITION. The device mode: its word, a completed change, entry to DEGRADED and RECOVERY, and the declaration of a failed
island (R38–R49, R291, R521, R537, R540, R544, R570, R577).
-/

namespace Sys2Proof.Machine

/-- The code of a mode (R38). -/
def modeCode : Mode → Nat
  | .off => 0 | .boot => 1 | .provision => 2 | .calibrate => 3 | .service => 4 | .thrift => 5 | .vigil => 6
  | .hibernate => 7 | .renew => 8 | .degraded => 9 | .recovery => 10 | .test => 11

/-- The mode of a code. -/
def modeOf (n : Nat) : Option Mode :=
  [Mode.off, .boot, .provision, .calibrate, .service, .thrift, .vigil, .hibernate, .renew, .degraded, .recovery, .test][n]?

/-- CDM_DEVICE_MODE (R48, R49). -/
def State.deviceModeWord (s : State) : Word :=
  let p := s.mode.pending
  BitVec.ofNat 32 (modeCode s.mode.mode * 2 ^ 28 + modeCode s.mode.prev * 2 ^ 24
    + (match p with | some t => modeCode t.target * 2 ^ 20 + 2 ^ 19 | none => 0)
    + s.mode.cause % 256 * 256 + s.mode.count % 256)

/-! ### Islands of a mode (R38, R39, R493, R494) -/

/-- What the mode table gives an island: lit, dark, or either. T is lit, in the reduced form of THRIFT. -/
def need (m : Mode) (i : Nat) : Option Bool :=
  match m with
  | .off => some false
  | .boot => if i ≤ 1 then some true else if i = 2 ∨ i = 11 ∨ i = 12 then none else some false
  | .provision => if i ≤ 5 ∨ (9 ≤ i ∧ i ≤ 12) then some true else none
  | .calibrate => if i ≤ 2 ∨ i = 11 ∨ i = 12 ∨ 17 ≤ i then some true else none
  | .service | .renew | .degraded => if (6 ≤ i ∧ i ≤ 8) ∨ (13 ≤ i ∧ i ≤ 16) then none else some true
  | .thrift => some true
  | .vigil | .hibernate => some (decide (i ≤ 2))
  | .recovery => if i ≤ 1 then some true else if 17 ≤ i then some false else none
  | .test => if i ≤ 1 then some true else none

/-- The order in which islands start to wake (R493). -/
def wakeOrder : List Nat := [1, 11, 12, 2, 10, 3, 4, 5, 9, 20, 21, 17, 18, 19, 13, 14, 15, 16, 6, 7, 8]

/-- Islands that are lit or on their way. -/
def State.litMask (s : State) : Nat :=
  (List.range 22).foldl (fun m i => if (s.pw i).st = .lit ∨ (s.pw i).st = .reduced ∨ (s.pw i).st = .waking then setBit m i else m) 0

/-- The islands to light and to take dark for a mode, of the E islands those in a mask lit; renewals keep theirs. An island that is
still going dark is lit once it is dark (R47) (log entry 24). -/
def State.planPower (s : State) (m : Mode) (light : Nat) : State :=
  let want (i : Nat) : Bool := s.isFitted i && (match need m i with | some b => b | none => light.testBit i)
  let free := wakeOrder.filter (fun i => s.renStep i == 0)
  { s with mode := { s.mode with
      toLight := free.filter (fun i => want i && ((s.pw i).st == .dark || (s.pw i).goingDark))
      toDark := (free.filter (fun i => !want i && s.litMask.testBit i && !(s.pw i).goingDark)).reverse } }

/-- AON closes an island's switch and begins its wake sequence (R489). -/
def State.startWake (s : State) (i : Nat) (renewal : Bool) : State :=
  s.setPw i { IslandPwr.init with st := .waking, renewal := renewal, fenced := renewal, darkLogged := (s.pw i).darkLogged }

/-- Transport 0's doorbells are dropped where the mode takes the transport away, or its last cluster goes (R65). -/
def State.settleTransports (s : State) : State := if s.transportUp .mailbox then s else s.dropBells

/-- AON applies an island's mittens and opens its switch, which ends a wake sequence under way (R494). -/
def State.startDark (s : State) (i : Nat) : State :=
  let p := s.pw i
  let s := s.setPw i { p with st := if p.st = .waking then .dark else p.st, goingDark := true, darkLogged := false }
  if 6 ≤ i ∧ i ≤ 8 then s.settleTransports else s

/-- Islands of a mode transition that wake, or go dark, now. -/
def State.wakingNow (s : State) : List Nat := wakeOrder.filter (fun i => (s.pw i).st == .waking && !(s.pw i).renewal)
def State.darkeningNow (s : State) : List Nat := wakeOrder.filter (fun i => (s.pw i).goingDark && s.renStep i == 0)

/-- The next islands of the lists start: at most four wake at once, and they go dark one after another. The switch of the last
one opens the entry window of VIGIL and HIBERNATE (R495) (log entries 24, 25). -/
def State.pumpPower (s : State) : State :=
  let ups := (s.mode.toLight.filter (fun i => !(s.pw i).goingDark)).take (4 - s.wakingNow.length)
  let s := { s with mode := { s.mode with toLight := s.mode.toLight.filter (fun i => !ups.contains i) } }
  let s := ups.foldl (fun s i => s.startWake i false) s
  match s.darkeningNow, s.mode.toDark with
  | [], i :: rest =>
    let s := { s with mode := { s.mode with toDark := rest } }.startDark i
    if rest.isEmpty ∧ s.aon.entering then { s with aon := { s.aon with window := true, entering := false } } else s
  | _, _ => s

/-- Every island of the transition has switched. -/
def State.powerSettled (s : State) : Bool :=
  s.mode.toLight.isEmpty && s.mode.toDark.isEmpty && s.wakingNow.isEmpty && s.darkeningNow.isEmpty

/-! ### THRIFT and back (R502) -/

/-- The chain enables and core_en bits of SERVICE, noted. -/
def State.noteService (s : State) : State :=
  { s with mode := { s.mode with
      svcCores := s.fld A.tskCtl F.tskCtl_core_en
      svcTx := (List.range 3).map (fun r => s.fld (A.radCtl r) F.radCtl_tx_chain_en)
      svcRx := (List.range 3).map (fun r => s.fld (A.radCtl r) F.radCtl_rx_chain_en) } }

/-- core_en as SERVICE had it. -/
def State.restoreCores (s : State) : State := if s.isLit 5 then s.setFld A.tskCtl F.tskCtl_core_en s.mode.svcCores else s

/-- The return to SERVICE: clusters unparked, core_en and chain enables as SERVICE had them (log entry 30). -/
def State.restoreService (s : State) : State :=
  let s := (List.range 3).foldl (fun s k => if (s.pw (6 + k)).st = .reduced then s.parkCluster k false else s) s
  let s := s.restoreCores
  (List.range 3).foldl (fun s r =>
    if s.radLit r then s.setChains r (s.mode.svcTx.getD r 0) (s.mode.svcRx.getD r 0) else s) s

/-- The slot that an image runs from is trial: first SERVICE on it clears trial and burns min_version (R537). -/
def State.endTrial (s : State) : State :=
  if s.flash.trial ∧ s.cdm.slotBooted = s.flash.bootSlot + 1 then
    { s with flash := { s.flash with trial := false, trialCount := 0,
                                     minVersion := max s.flash.minVersion s.cdm.imageVersion } }.setFld
      A.cdmBootStatus F.cdmBootStatus_trial 0
  else s

/-- A glove's own switch, on. -/
def gloveOn : IslandPwr := { IslandPwr.init with st := .lit }

/-- The Cudom cores start: CDM is LIT, and the watchdogs restart with a full time (R521). -/
def State.startCores (s : State) : State :=
  let s := { s with cdm := { s.cdm with halted := false, kickL := s.elapsed, kickR := s.elapsed } }
  if (s.pw 1).st = .reduced then s.setPw 1 { s.pw 1 with st := .lit } else s

/-- Both gloves reset: left PRIMARY, right STANDBY, watchdogs restarted (R521). -/
def State.resetGloves (s : State) : State :=
  let s := (s.setFld A.cdmGloveStatus F.cdmGloveStatus_left_role 0).setFld A.cdmGloveStatus F.cdmGloveStatus_right_role 1
  ({ s with cdm := { s.cdm with held := false } }.setPw 32 gloveOn).setPw 33 gloveOn |>.startCores

/-- Every key slot cleared with generation 0; a KEY_WRITE that waits returns ST_BUSY (R291, R293). -/
def State.clearKeys (s : State) : State :=
  let w := s.cdm.jobs.keyWait
  let s := { s with keys := [], cdm := { s.cdm with jobs := { s.cdm.jobs with keyWait := [] } } }
  w.foldl (fun s x => s.complete (some x.1) ST.busy none []) s

/-- What entering a mode brings with it. -/
def State.onEntry (s : State) (m : Mode) (cause : Nat) : State :=
  match m with
  | .service => s.enterServo.endTrial
  | .thrift => s.enterServo
  | .renew => s.enterServo
  | .degraded => s.enterServo
  | .recovery =>
    let s := (s.clearKeys.resetGloves).assertFault F.aonFaultCause_recovery
    if cause = 1 then { s with flash := { s.flash with prov := none } } else s
  | .test => s.clearKeys
  | .vigil | .hibernate =>
    let on := s.mode.prev == .vigil || s.mode.prev == .hibernate
    { s with aon := { s.aon with vgPoint := s.elapsed, vgSampling := false
                                 vgPrev0 := on && s.aon.vgPrev0, vgPrev1 := on && s.aon.vgPrev1 } }
  | _ => s

/-- A completed mode change: mode, previous mode, cause, count, shadow, and MODE_CHANGE (R41, R570, R577)
(log entries 26, 30). -/
def State.setMode (s : State) (m : Mode) (cause : Nat) (r : Option Request) : State :=
  let s := { s with mode := { s.mode with mode := m, prev := s.mode.mode, cause := cause,
                                          count := (s.mode.count + 1) % 256 } }
  let s := s.setFld A.aonModeShadow F.aonModeShadow_mode (modeCode m)
  let sev := if m = .degraded ∨ m = .recovery then 3 else 1
  let s := s.raiseCmd 1 .modeChange sev s.deviceModeWord.toNat (s.fld A.cdmFailedIslands F.cdmFailedIslands_failed) r
  (s.onEntry m cause).settleTransports

/-- A PROVISION_COMMIT whose transition can no longer begin completes: the record stands (R539) (log entry 32). -/
def State.endProvision (s : State) : State :=
  match s.mode.provisionDue with
  | some d =>
    if s.mode.mode = .provision then s
    else { s with mode := { s.mode with provisionDue := none } }.complete (some d.req) ST.ok (some d.event) []
  | none => s

/-- A pending transition is preempted: its request completes with ST_BAD_MODE (R47), and shows a mode it had changed (R58). -/
def State.preempt (s : State) : State :=
  match s.mode.pending with
  | some t => { s with mode := { s.mode with pending := none }, aon := { s.aon with entering := false, window := false } }.complete
      t.req ST.badMode t.eff []
  | none => s

/-- Entry to DEGRADED with cause 0x04, except in OFF, TEST and RECOVERY, and once only (R41, R44, R47). The islands that SERVICE
lights are lit again; of those marked E, the ones that firmware chooses (R569). -/
def State.enterDegraded (s : State) (light : Nat) : State :=
  match s.mode.mode with
  | .off | .test | .recovery | .degraded => s
  | m =>
    let s := (s.preempt.setMode .degraded 4 none).endProvision
    let s := if m = .thrift ∨ m = .vigil ∨ m = .hibernate then s.startCores.restoreService else s
    (s.planPower .degraded light).pumpPower

/-- The renewals running end with the image that ran them (log entry 71): before DARK the island is unfenced and goes on; later
it stays dark. -/
def State.dropRenewals (s : State) : State :=
  s.renew.foldl (fun s e =>
    match e.2 with
    | none => s
    | some r =>
      let i := e.1
      let s := { s with renew := Tbl.set (fun _ => none) i none s.renew }
      let s := if i < 22 then
          let early := s.renStep i ≤ 4
          let s := (s.setFld (A.aonRenew i) F.aonRenew_step 0).setFld (A.aonRenew i) F.aonRenew_result 3
          if early then s.setPw i { s.pw i with fenced := false, renewal := false }
          else s.setPw i IslandPwr.init
        else s
      s.complete r.req ST.internal none []) s

/-- Entry to RECOVERY, except in OFF, TEST and RECOVERY: the golden image runs, and chooses the islands marked E (R41, R43, R47,
R521, R569). -/
def State.enterRecovery (s : State) (cause : Nat) (r : Option Request) (light : Nat) : State :=
  match s.mode.mode with
  | .off | .test | .recovery => s
  | _ =>
    let s := { s with cdm := { s.cdm with slotBooted := 0 } }.setFld A.cdmBootStatus F.cdmBootStatus_booted_slot 2
    (((s.preempt.dropRenewals.setMode .recovery cause r).endProvision).planPower .recovery light).pumpPower

/-- An island is declared failed: requests outstanding at it complete with ST_ISLAND_RESET, it stays dark with its mittens on, and
the device enters DEGRADED (R41, R82, R97, R491). -/
def State.declareFailed (s : State) (i light : Nat) : State :=
  let s := (s.atIsland i).foldl (fun s r => s.endEarly r ST.islandReset) s
  let s := (s.setFailed i true).clearIsland i false
  let s := (s.setPw i { IslandPwr.init with st := .failed, darkLogged := (s.pw i).darkLogged }).enterDegraded light
  s.pumpPower

end Sys2Proof.Machine
end

