-- ==== Sys2Proof/Machine/Synth.lean ====
section
/-!
DEFINITION. The radio unit's shared operations and its synthesiser pair (R89–R97, R115, R150).
-/

namespace Sys2Proof.Machine

/-! ### Synthesisers -/

/-- lock_state of synthesiser n: 0 off, 1 tuning, 2 locked, 3 fault. -/
def State.synState (s : State) (r n : Nat) : Nat :=
  s.fld (A.radSynStatus r) (if n = 0 then F.radSynStatus_lock_state0 else F.radSynStatus_lock_state1)

/-- The state with a synthesiser's lock_state set; retune_busy follows. -/
def State.setSyn (s : State) (r n v : Nat) : State :=
  let s := s.setFld (A.radSynStatus r) (if n = 0 then F.radSynStatus_lock_state0 else F.radSynStatus_lock_state1) v
  let busy := s.synState r 0 = 1 ∨ s.synState r 1 = 1
  s.setFld (A.radSynStatus r) F.radSynStatus_retune_busy (if busy then 1 else 0)

/-- The active synthesiser. -/
def State.synActive (s : State) (r : Nat) : Nat := s.fld (A.radSynStatus r) F.radSynStatus_active

/-- The frequency a synthesiser holds or seeks. -/
def State.synFreq (s : State) (r n : Nat) : Nat := s.fld (A.radSynFreq r n) F.radSynFreq_freq

/-- A synthesiser's hidden record. -/
def RadState.syn (x : RadState) (n : Nat) : Syn := if n = 0 then x.syn0 else x.syn1

def RadState.setSyn (x : RadState) (n : Nat) (y : Syn) : RadState :=
  if n = 0 then { x with syn0 := y } else { x with syn1 := y }

/-- The synthesiser that holds a centre, LOCKED; the active one first. -/
def State.holding (s : State) (r f : Nat) : Option Nat :=
  let a := s.synActive r
  [a, 1 - a].find? (fun n => s.synState r n == 2 && s.synFreq r n == f)

/-- Is a synthesiser in TUNING toward a centre? -/
def State.tuningTo (s : State) (r f : Nat) : Bool :=
  (List.range 2).any (fun n => s.synState r n == 1 && s.synFreq r n == f)

/-- Every noise table entry back at 0x8000 (R150). -/
def State.clearNoise (s : State) (r : Nat) : State :=
  let lo := win (radId r) + 0x10000
  { s with regs := Tbl.drop (fun a => lo ≤ a && a < lo + 0x4000) s.regs }

/-! ### The tuner bus (R114–R116) -/

/-- Is the tuner bus off: no clock selected, or the radio in its safe state (R91, R116)? -/
def State.tunOff (s : State) (r : Nat) : Bool :=
  s.fld (A.radTunCtl r) F.radTunCtl_tuner_sclk == 0 || !s.bit (A.radCtl r) F.radCtl_enable

/-- The writes of a preset, in entry order up to the first entry that is not valid (R114). -/
def State.presetOps (s : State) (r p : Nat) : List TunOp :=
  ((List.range 8).takeWhile (fun e => s.bit (A.radTunPreset r p e) F.radTunPreset_valid)).map (fun e =>
    let a := A.radTunPreset r p e
    ⟨2 * s.fld a F.radTunPreset_ext, s.fld a F.radTunPreset_usid, s.fld a F.radTunPreset_addr,
      BitVec.ofNat 8 (s.fld a F.radTunPreset_data)⟩)

/-- The broadcast write to the trigger register (R114). -/
def trigOp : TunOp := ⟨0, 0, 0x1C, Config.trigByte⟩

/-- A synthesiser becomes active, or locks in place: with a preset issued the trigger write goes out (R97, R114, R115). -/
def State.trigger (s : State) (r n : Nat) : State :=
  if ((s.rd r).syn n).issued ∧ !s.tunOff r then s.setRd r { s.rd r with tunSent := (s.rd r).tunSent ++ [trigOp] } else s

/-- A software command that waits starts when no preset is being issued and no committed command needs a switch (R116). -/
def State.startTuner (s : State) (r : Nat) : State :=
  let x := s.rd r
  let a := A.radTunCmd r
  if s.bit a F.radTunCmd_go ∧ !x.tunGo ∧ !s.tunOff r ∧ x.syn0.writes.isEmpty ∧ x.syn1.writes.isEmpty
      ∧ !(x.slot.any (fun p => p.commit.isSome && p.switch)) then
    s.setRd r { x with tunGo := true, tunSent := [⟨s.fld a F.radTunCmd_kind, s.fld a F.radTunCmd_usid, s.fld a F.radTunCmd_addr,
      BitVec.ofNat 8 (s.fld a F.radTunCmd_data)⟩] }
  else s

/-! ### Calibration steps that end early (R102, R169) -/

/-- CAL_STATE.step follows. -/
def State.showStep (s : State) (r : Nat) : State :=
  s.setFld (A.radCalState r) F.radCalState_step
    (match (s.rd r).cal.step with | some ⟨.loopback _ _ _, _⟩ => 1 | some ⟨.probe _, _⟩ => 2 | none => 0)

/-- A step under way ends early: discarded whole and counted; one that yields to a command resumes after its RF (R102, R169). -/
def State.dropStep (s : State) (r : Nat) (yields : Bool) : State :=
  let c := (s.rd r).cal
  match c.step with
  | none => s
  | some k =>
    (((s.setRd r { s.rd r with cal := { c with step := none, yielded := if yields then some k.step else c.yielded } }).showStep
      r).count (A.radCalStepAbort r)).restLna r

/-! ### Commitment undone -/

/-- The state of a committed command whose RF has not started as it returns to waiting: its edges unwind with E = T (R96, R117,
R118, R571). -/
def State.unwindSlot (s : State) (r : Nat) (gnt : Bool) : State :=
  let x := s.rd r
  match x.slot with
  | some p =>
    match p.commit with
    | some t =>
      let chains := bitsOf 8 (p.cmd.chains &&& s.txChains r)
      s.setRd r { x with slot := some { p with commit := none, switch := false, gntWait := gnt }
                         ends := chains.foldl (fun e c => Tbl.insert c t e) x.ends
                         coexEnd := if x.coexReq ∧ x.air.isNone then some t else x.coexEnd }
    | none => s
  | none => s

/-- Synthesiser n begins TUNING toward a target, with a preset where one is named (R93, R94). In place, the channel changes, so the
noise table empties (R150). A command committed on that synthesiser returns to waiting. -/
def State.tune (s : State) (r n f : Nat) (preset : Option Nat) : State :=
  let inPlace := n = s.synActive r ∧ s.synFreq r n ≠ f
  let took := (s.rd r).slot.any (fun p => p.commit.isSome && s.holding r p.cmd.centre == some n)
  let s := (s.setFld (A.radSynFreq r n) F.radSynFreq_freq f).setSyn r n 1
  let w := match preset with | some p => if s.tunOff r then [] else s.presetOps r p | none => []
  let s := s.setRd r ((s.rd r).setSyn n ⟨w, !w.isEmpty, false⟩)
  let s := if took then s.unwindSlot r false else s
  if inPlace then s.clearNoise r else s

/-- Is the air free of the radio's PPDUs and of commitments (R97, R106, R180)? -/
def State.radIdle (s : State) (r : Nat) : Bool :=
  let x := s.rd r
  x.air.isNone && x.rx.isNone && !(x.slot.any (·.commit.isSome))

/-- A retune request (R94, R97): outside the band it is lost; with no synthesiser in FAULT the standby is retuned; with
one in FAULT the other, in place, once the radio is idle; with both in FAULT the request is lost. A probe step under way
ends (R169). -/
def State.retune (s : State) (r f : Nat) (preset : Option Nat) : State :=
  let a := s.synActive r
  if !inBand r f then s.count (A.radSynReqLost r)
  else if s.synState r 0 = 3 ∧ s.synState r 1 = 3 then s.count (A.radSynReqLost r)
  else
  let probing : Bool := match (s.rd r).cal.step with | some ⟨.probe _, _⟩ => true | _ => false
  let s := if probing then s.dropStep r false else s
  if s.synState r 0 ≠ 3 ∧ s.synState r 1 ≠ 3 then s.tune r (1 - a) f preset
  else if s.radIdle r then s.tune r (if s.synState r 0 = 3 then 1 else 0) f preset
  else s.setRd r { s.rd r with retune := some (f, preset) }

/-- A retune that waited for the radio to be idle is taken (R97). -/
def State.takeRetune (s : State) (r : Nat) : State :=
  match (s.rd r).retune with
  | some (f, p) =>
    if s.radIdle r then
      ((s.setRd r { s.rd r with retune := none }).setFld (A.radSynCtl r) F.radSynCtl_retune_req 0).retune r f p
    else s
  | none => s

/-! ### The pending slot's register -/

/-- Does a calibration step hold the synthesiser or chains that a command needs (R100)? -/
def RadState.stepBlocks (x : RadState) (syn : Option Nat) (chains : Nat) : Bool :=
  match x.cal.step with
  | some ⟨.loopback t q _, _⟩ => chains.testBit t.val || chains.testBit q.val
  | some ⟨.probe n, _⟩ => syn == some n.val
  | none => false

/-- The blanking windows in force: none without sync_en (R117). -/
def State.blanksOn (s : State) (r : Nat) : List (Nat × Nat) :=
  if s.bit (A.radCoexCtl r) F.radCoexCtl_sync_en then (s.rd r).blanks else []

/-- Would airtime from T overlap a blanking window (R117)? -/
def State.blanked (s : State) (r t air : Nat) : Bool := (s.blanksOn r).any (fun w => t < w.2 && w.1 < t + air)

/-- The time from a start to the next blanking window, at most `most`: none inside a window. -/
def State.untilBlank (s : State) (r start most : Nat) : Nat :=
  (s.blanksOn r).foldl (fun m w => if start < w.2 then min m (w.1 - start) else m) most

/-- Does the command in the slot need a switch: with neither synthesiser in FAULT, does the one that holds its centre, or will, stand
by (R97, R99)? -/
def State.needsSwitch (s : State) (r : Nat) (p : Slot) : Bool :=
  if s.synState r 0 = 3 ∨ s.synState r 1 = 3 then false
  else match s.holding r p.cmd.centre with
    | some n => n != s.synActive r
    | none => s.synFreq r (s.synActive r) != p.cmd.centre || s.synState r (s.synActive r) == 0

/-- The commit lead in ns: that of the tables, and 2 µs for a switch (R99). -/
def State.leadOf (s : State) (r : Nat) (p : Slot) : Nat := max p.lead (if s.needsSwitch r p then 2000 else 0)

/-- The RF start that a commit now would give (R100). -/
def State.startAt (s : State) (r : Nat) (p : Slot) : Nat := max p.earliest (s.nowNs + s.leadOf r p)

/-- waiting_on of the command in the slot: 0 committed, 1 synthesiser, 2 calibration step, 3 grant or blanking. -/
def State.waitingOn (s : State) (r : Nat) (p : Slot) : Nat :=
  let x := s.rd r
  if p.commit.isSome then 0
  else match s.holding r p.cmd.centre with
    | none => 1
    | some n =>
      if x.stepBlocks (some n) p.cmd.chains then 2
      else if (p.gntWait && !x.gnt) || s.blanked r (s.startAt r p) p.cmd.airNs then 3
      else 0

/-- A waiting command whose centre no synthesiser holds or seeks asks for a retune at once, one that waits already for the radio to
be idle apart (R101). -/
def State.chase (s : State) (r : Nat) : State :=
  match (s.rd r).slot with
  | some p =>
    let f := p.cmd.centre
    if p.commit.isNone ∧ inBand r f ∧ !(s.synState r 0 == 3 && s.synState r 1 == 3) ∧ (s.holding r f).isNone ∧ !s.tuningTo r f
        ∧ (s.rd r).retune.map (·.1) ≠ some f then s.retune r f none
    else s
  | none => s

/-- rad_TX_PENDING follows the slot; the command in it asks for the retune that it needs, and a software command of the tuner bus
starts when it may. -/
def State.showSlot (s : State) (r : Nat) : State :=
  let s := (s.chase r).startTuner r
  match (s.rd r).slot with
  | none => s.setReg (A.radTxPending r) 0
  | some p =>
    s.setReg (A.radTxPending r) (BitVec.ofNat 32
      (2 ^ 31 + (if p.cmd.response then 2 ^ 30 else 0) + s.waitingOn r p * 2 ^ 28 + p.cmd.frameId % 65536))

/-- A committed command returns to waiting; a retune that waited for the radio may be taken. -/
def State.unwind (s : State) (r : Nat) (gnt : Bool) : State := ((s.unwindSlot r gnt).takeRetune r).showSlot r

/-! ### Commands -/

/-- RETUNE_REQUEST: the protocol sequencer's request (R94) (log entry 42). -/
def execRetuneRequest (r : Rad) (target : Nat) (preset : Option (Fin 16)) (s : State) : Host.Outcome State Fault Refusal :=
  .next (if s.radLit r then (s.retune r target (preset.map (·.val))).showSlot r else s)

/-- RETUNE_REQUEST_REG: a write of rad_SYN_CTL with retune_req 1; lost to a sequencer request of the same cycle (R95). -/
def execRetuneRequestReg (who : Requester) (r : Rad) (w : Word) (sameCycle : Bool) (s : State) :
    Host.Outcome State Fault Refusal :=
  .next (s.access who (A.radSynCtl r) true fun s =>
    let s := (s.setReg (A.radSynCtl r) (D.radSynCtl.write false (s.reg (A.radSynCtl r)) w)).busOk 0
    if F.radSynCtl_retune_req.get w = 0 then s
    else
      let s := s.setFld (A.radSynCtl r) F.radSynCtl_retune_req 0
      if sameCycle then s.count (A.radSynReqLost r)
      else
        let p := if F.radSynCtl_preset_en.get w = 1 then some (F.radSynCtl_preset.get w) else none
        let s := (s.retune r (F.radSynCtl_target_freq.get w) p).showSlot r
        if (s.rd r).retune.isSome then s.setFld (A.radSynCtl r) F.radSynCtl_retune_req 1 else s)

/-- The key of a synthesiser's band table entry for a frequency: its 20 MHz sub-band. -/
def bandKey (n f : Nat) : Nat := 512 * n + f / 256 % 512

/-- A band result of loop 5: a tuning margin below a quarter of the band, in 1/256, stages the band found for the sub-band (R164). -/
def State.bandResult (s : State) (r key band margin : Nat) : State :=
  let c := (s.rd r).cal
  if (s.fld (A.radCalCtl r) F.radCalCtl_loop_en).testBit 5 ∧ margin < 64 then
    (s.setRd r { s.rd r with cal := { c with bandNew := Tbl.insert key band c.bandNew } }).setFld
      (A.radCalState r) F.radCalState_staged 1
  else s

/-- SYN_LOCK: lock with the preset's writes complete: LOCKED as standby, or as active when the other is in FAULT, the trigger then
following at lock; the retune's band and margin go to loop 5 (R93, R97, R115, R164). -/
def execSynLock (r : Rad) (n : Fin 2) (band margin : Nat) (s : State) : Host.Outcome State Fault Refusal :=
  .next (if s.isUp (radId r) ∧ s.synState r n = 1 then
    let s := s.setSyn r n 2
    let y := (s.rd r).syn n
    let s := s.setRd r { (s.rd r).setSyn n { y with writes := [], retried := false } with
      tunSent := if y.writes.isEmpty then (s.rd r).tunSent else y.writes }
    let s := s.bandResult r (bandKey n (s.synFreq r n)) band margin
    let s := if s.synState r (1 - n) = 3 then (s.setFld (A.radSynStatus r) F.radSynStatus_active n).trigger r n else s
    s.showSlot r
  else s)

/-- SYN_LOCK_TIMEOUT: one retry, then FAULT, SYN_RETUNE_FAIL and SYN_FAULT; the other works alone as active; both in
FAULT fail the radio (R97). -/
def execSynLockTimeout (r : Rad) (n : Fin 2) (light : Nat) (s : State) : Host.Outcome State Fault Refusal :=
  .next (if s.isUp (radId r) ∧ s.synState r n = 1 then
    let y := (s.rd r).syn n
    if !y.retried then s.setRd r ((s.rd r).setSyn n { y with retried := true })
    else
      let f := s.synFreq r n
      let s := ((s.setSyn r n 3).count (A.radSynRetuneFail r)).raise (radSrc r) .synFault 0 2 [n, f]
      if s.synState r (1 - n) = 3 then s.declareFailed (radId r) light
      else
        let moved := s.synActive r = n ∧ f ≠ s.synFreq r (1 - n)
        let s := s.setFld (A.radSynStatus r) F.radSynStatus_active (1 - n)
        let s := if moved then s.clearNoise r else s
        s.showSlot r
  else s)

/-- The command in the slot stays with the active synthesiser: committed on it, or a response (R93, R105). -/
def RadState.staysActive (x : RadState) : Bool :=
  x.slot.any (fun p => (p.commit.isSome && !p.switch) || p.cmd.response)

/-- SYN_SWITCH_COMPLETE: between PPDUs the locked standby becomes active, its preset triggered; the noise table empties
with the change of centre or width, one of the radio's (R89, R93, R114, R115, R150). -/
def execSynSwitchComplete (r : Rad) (width : Fin 5) (s : State) : Host.Outcome State Fault Refusal :=
  .next (let a := s.synActive r
  if s.radLit r ∧ width.val ≤ maxWidth r ∧ s.synState r (1 - a) = 2 ∧ (s.rd r).air.isNone ∧ (s.rd r).rx.isNone
      ∧ !(s.rd r).staysActive then
    let changed := s.synFreq r a ≠ s.synFreq r (1 - a) ∨ s.fld (A.radNfStatus r) F.radNfStatus_width ≠ width
    let s := s.setFld (A.radSynStatus r) F.radSynStatus_active (1 - a)
    let s := (s.setFld (A.radNfStatus r) F.radNfStatus_width width).setFld (A.radNfStatus r) F.radNfStatus_groups
      ([59, 117, 245, 490, 980].getD width 59)
    let s := match (s.rd r).slot with
      | some p => s.setRd r { s.rd r with slot := some { p with switch := false } }
      | none => s
    let s := s.trigger r (1 - a)
    (if changed then s.clearNoise r else s).showSlot r
  else s)

end Sys2Proof.Machine
end

