-- ==== Sys2Proof/Machine/WlanCore.lean ====
section
/-!
DEFINITION. WLAN shared operations below the radio: radios', stations' and links' records, status records, the exchange under
way and what becomes of its frames (R249, R258, R275).
-/

namespace Sys2Proof.Machine

/-- A radio's WLAN service. -/
def State.wr (s : State) (r : Nat) : WlanRadio := Tbl.get (fun _ => WlanRadio.init) s.hmac.wrad r
def State.setWr (s : State) (r : Nat) (x : WlanRadio) : State :=
  { s with hmac := { s.hmac with wrad := Tbl.set (fun _ => WlanRadio.init) r x s.hmac.wrad } }

/-- An entry's link record. -/
def State.lk (s : State) (n : Nat) : StaLink := Tbl.get (fun _ => StaLink.init) s.hmac.links n
def State.setLk (s : State) (n : Nat) (x : StaLink) : State :=
  { s with hmac := { s.hmac with links := Tbl.set (fun _ => StaLink.init) n x s.hmac.links } }

/-- Where a station entry's shared record stands: its own, or that of its MLD client (R249). -/
def State.wkey (s : State) (n : Nat) : Nat :=
  if s.bit (A.hmacWlanStationW2 n) F.hmacWlanStationW2_mld then
    4096 + s.fld (A.hmacWlanStationW2 n) F.hmacWlanStationW2_mld_index
  else n

/-- The record of an entry's station or MLD client. -/
def State.wp (s : State) (n : Nat) : WlanPeer := Tbl.get (fun _ => WlanPeer.init) s.hmac.wpeers (s.wkey n)
def State.setWp (s : State) (n : Nat) (x : WlanPeer) : State :=
  { s with hmac := { s.hmac with wpeers := Tbl.set (fun _ => WlanPeer.init) (s.wkey n) x s.hmac.wpeers } }

/-- The state of a station entry: 0 FREE, 1 AUTH, 2 ASSOC, 3 AUTHORIZED. -/
def State.sta (s : State) (n : Nat) : Nat := s.fld (A.hmacWlanStationW1 n) F.hmacWlanStationW1_state

/-- First entry of a radio, and a radio's entries (R252). -/
def firstEntry (r : Nat) : Nat := 512 * r
def entries (r : Nat) : List Nat := (List.range 512).map (512 * r + ·)

/-- The address of an entry. -/
def State.staMac (s : State) (n : Nat) : Nat :=
  s.fld (A.hmacWlanStationW1 n) F.hmacWlanStationW1_mac_hi * 2 ^ 32 + (s.reg (A.hmacWlanStationW0 n)).toNat

/-- Retry limit by TID: 7 for BK and BE, 5 for VI, 3 for VO (R258). -/
def retryLimit (tid : Nat) : Nat := if 6 ≤ tid then 3 else if 4 ≤ tid then 5 else 7

/-- Has the management share of a radio's FIFO room for n bytes more (R436)? -/
def State.mgmtRoom (s : State) (r n : Nat) : Bool :=
  let x := s.wr r
  decide (x.mgmtRx.foldl (fun a f => a + f.1.length) (16 * x.status.length) + n ≤ 1024 * max 16 (s.fld A.dmaCtl F.dmaCtl_mgmt_fifo))

/-- A status record joins a radio's transmit status (R275), or finds the share full. -/
def State.report (s : State) (r frameId station status tries : Nat) (acked aborted : Bool) (version : Nat) : State :=
  let x := s.wr r
  if s.mgmtRoom r 16 then
    s.setWr r { x with status := x.status ++ [⟨frameId, station, status, min 16 tries, acked, aborted, r, version⟩] }
  else s.count (A.dmaChRxFifoDrop (50 + 3 * r))

/-- COEX_REQ held over an expected reception falls, but where a window or RF still holds it (R117) (log entry 44). -/
def State.dropReq (s : State) (r : Nat) : State :=
  let x := s.rd r
  if x.air.isNone ∧ x.rxWin.isNone ∧ x.coexEnd.isNone ∧ !(x.slot.any (·.commit.isSome)) then
    s.setRd r { x with coexReq := false, coexPri := false }
  else s

/-- The exchange that an MU-RTS opened on a radio is over: the client's other links are free after its transition delay (R248). -/
def State.endIcf (s : State) (r : Nat) : State :=
  match (s.wr r).icf with
  | some (n, _, d) =>
    let s := s.setWr r { s.wr r with icf := none }
    s.setWp n { s.wp n with emlsrFree := some (r, s.elapsed + d) }
  | none => s

/-- An exchange on a radio is over; one with an EMLSR client ends what its MU-RTS opened (R248). -/
def State.endExch (s : State) (r : Nat) (e : WExch) : State :=
  let x := s.wr r
  let s := (if x.exch = some e then s.setWr r { x with exch := none }
    else s.setWr r { x with multi := x.multi.filter (· != e) }).dropReq r
  if (s.wr r).icf.any (fun i => e.entry == some i.1) then s.endIcf r else s

/-- The response to an exchange on a radio: data MPDUs acknowledged leave; others stay for another try, or are dropped at
their retry limit; a management frame acknowledged or out of tries completes (R258, R275). -/
def State.settleExch (s : State) (r : Nat) (e : WExch) (acked : List Nat) : State :=
  let s := s.endExch r e
  match e.entry, e.mgmt with
  | some n, none =>
    let part (m : WMpdu) : WMpdu := match e.frag with
      | some b => if m.tid == e.tid && e.sns.contains m.sn && acked.contains m.sn then
          { m with frags := m.frags + 1, sent := m.sent + b, tries := 0 } else m
      | none => m
    let q := { s.wp n with txq := (s.wp n).txq.map part }
    let mine (m : WMpdu) : Bool := m.tid == e.tid && e.sns.contains m.sn && (e.frag.isNone || m.bytes.length ≤ m.sent
      || !acked.contains m.sn)
    let ok (m : WMpdu) : Bool := mine m && acked.contains m.sn
    let dead (m : WMpdu) : Bool := mine m && !acked.contains m.sn && decide (retryLimit m.tid < m.tries)
    let s := s.setWp n { q with txq := q.txq.filter (fun m => !ok m && !dead m) }
    let s := s.countN (A.hmacWlanTxMpdu r) (q.txq.filter ok).length
    let s := s.countN (A.hmacWlanTxRetryDrop r) (q.txq.filter dead).length
    (q.txq.filter (fun m => m.wantStatus && (ok m || dead m))).foldl (fun s m =>
      s.report r m.frameId n (if ok m then 0 else 0x00A0) m.tries (ok m) false e.version) s
  | some n, some m =>
    if acked.isEmpty ∧ m.tries ≤ 7 then s.setWr r { s.wr r with mgmtTx := m :: (s.wr r).mgmtTx }
    else
      let s := if acked.isEmpty then s.count (A.hmacWlanTxRetryDrop r) else s.count (A.hmacWlanTxMpdu r)
      s.report r m.frameId n (if acked.isEmpty then 0x00A0 else 0) m.tries (!acked.isEmpty) false e.version
  | none, _ => s

/-- The exchange under way on a radio is answered. -/
def State.closeExch (s : State) (r : Nat) (acked : List Nat) : State :=
  match (s.wr r).exch with
  | none => s
  | some e => s.settleExch r e acked

/-- An acknowledgement from a station answers its exchange among those of a multi-user PPDU, or the one under way. -/
def State.answerExch (s : State) (r : Nat) (n : Option Nat) (acked : List Nat) : State :=
  match (s.wr r).multi.find? (fun e => e.entry == n) with
  | some e => s.settleExch r e acked
  | none => s.closeExch r acked

/-- Exchanges that were not answered are settled. -/
def State.closeAll (s : State) (r : Nat) : State :=
  (s.wr r).multi.foldl (fun s e => s.settleExch r e []) (s.closeExch r [])

/-- A radio's command for its exchange completed: with status OK the response is awaited, or a frame without one completes;
otherwise the frames are reported, and those whose key was revoked leave (R103, R271, R275). -/
def State.exchDone (s : State) (r : Nat) (c : TxCmd) (status : Nat) (aborted : Bool) (version : Nat) (e : WExch) : State :=
  if c.isHolael ∨ c.cal.isSome ∨ c.response ∨ e.frameId ≠ c.frameId then s
  else if status = 0 ∧ !aborted then
    match e.entry, e.mgmt with
    | some _, _ =>
      let now (x : WExch) : WExch := if x = e then { e with version := version } else x
      s.setWr r { s.wr r with exch := (s.wr r).exch.map now, multi := (s.wr r).multi.map now }
    | none, some m => (s.endExch r e).report r m.frameId 0xFFF 0 m.tries false false version
    | none, none => s.endExch r e
  else
    let s := s.endExch r e
    match e.entry, e.mgmt with
    | st, some m => s.report r m.frameId (st.getD 0xFFF) status m.tries false aborted version
    | some n, none =>
      let q := s.wp n
      let mine (m : WMpdu) : Bool := m.tid == e.tid && e.sns.contains m.sn
      let s := if status = 0x0050 then s.setWp n { q with txq := q.txq.filter (fun m => !mine m) } else s
      (q.txq.filter (fun m => mine m && m.wantStatus)).foldl (fun s m =>
        s.report r m.frameId n status m.tries false aborted version) s
    | none, none => s

/-- A radio's command completed: its exchange, or those of a multi-user PPDU, learn of it. -/
def State.wlanDone (s : State) (r : Nat) (c : TxCmd) (status : Nat) (aborted : Bool) (version : Nat) : State :=
  ((s.wr r).exch.toList ++ (s.wr r).multi).foldl (fun s e => s.exchDone r c status aborted version e) s

/-- An exchange once its RF has started: each MPDU in it, or its management frame, has been transmitted once more (R258). -/
def State.exchStart (s : State) (r : Nat) (e : WExch) : State :=
  match e.entry, e.mgmt with
  | _, some m =>
    let s := if 0 < m.tries then s.count (A.hmacWlanTxRetry r) else s
    s.setWr r { s.wr r with exch := some { e with mgmt := some { m with tries := m.tries + 1 } } }
  | some n, none =>
    let q := s.wp n
    let mine (m : WMpdu) : Bool := m.tid == e.tid && e.sns.contains m.sn
    let s := s.setWp n { q with txq := q.txq.map (fun m => if mine m then { m with tries := m.tries + 1 } else m) }
    s.countN (A.hmacWlanTxRetry r) (q.txq.filter (fun m => mine m && decide (0 < m.tries))).length
  | none, none => s

/-- The RF of a radio's command starts: that of its exchanges, if it is theirs. -/
def State.wlanStart (s : State) (r : Nat) (c : TxCmd) : State :=
  if c.isHolael ∨ c.cal.isSome ∨ c.response then s
  else ((s.wr r).exch.toList ++ (s.wr r).multi).foldl (fun s e => if e.frameId = c.frameId then s.exchStart r e else s) s

/-- The key slot of an entry's key ID. -/
def State.staSlot (s : State) (n kid : Nat) : Nat :=
  if kid % 2 = 0 then s.fld (A.hmacWlanStationW3 n) F.hmacWlanStationW3_key_slot0
  else s.fld (A.hmacWlanStationW3 n) F.hmacWlanStationW3_key_slot1

/-- May an EMLSR client be sent to on this link: no exchange with it open on another, and the transition delay after one there over
(R248)? -/
def State.emlsrMay (s : State) (r n : Nat) : Bool :=
  !s.bit (A.hmacWlanStationW2 n) F.hmacWlanStationW2_emlsr
    || ((List.range 3).all (fun k => k == r || (s.wr k).icf.all (fun i => s.wkey i.1 != s.wkey n))
      && (s.wp n).emlsrFree.all (fun f => f.1 == r || decide (f.2 ≤ s.elapsed)))

/-- Has the client's CTS to an MU-RTS opened an exchange with it on this link? -/
def State.icfOpen (s : State) (r n : Nat) : Bool := (s.wr r).icf.any (fun i => i.1 == n && i.2.1)

/-- May frames go to an entry now: not asleep unless released, inside its service period where it has an agreement, and
its traffic key not held (R267, R268, R270)? -/
def State.staMay (s : State) (n : Nat) : Bool :=
  let l := s.lk n
  let slot := s.staSlot n (s.fld (A.hmacWlanStationW3 n) F.hmacWlanStationW3_tx_key_id)
  (!s.bit (A.hmacWlanStationW2 n) F.hmacWlanStationW2_ps || 0 < l.credit || l.inSp)
    && (s.fld (A.hmacWlanStationW4 n) F.hmacWlanStationW4_twt == 255 || l.inSp)
    && (s.wp n).keyHeld != some (slot, (s.key slot).gen)

end Sys2Proof.Machine
end

