-- ==== Sys2Proof/Machine/Transmit.lean ====
section
/-!
DEFINITION. Transmission: the pending slot, commitment, RF start and end, front-end edges, coexistence, mismatch detection
and the tuner bus (R98–R119, R142, R571).
-/

namespace Sys2Proof.Machine

/-! ### Slot and completion -/

/-- A 32-bit nanosecond count near now as nanoseconds of district time. -/
def State.absNs (s : State) (c : Nat) : Nat :=
  ((s.nowNs : Int) + signed 32 ((c + 2 ^ 32 - s.count32) % 2 ^ 32)).toNat

/-- The sequencing table in force: leads and lags in ns. -/
def RadState.lnaOff (x : RadState) : Nat := 50 * F.radFeSeqLead_lna_off_lead.get x.seqLead
def RadState.trswTx (x : RadState) : Nat := 50 * F.radFeSeqLead_trsw_tx_lead.get x.seqLead
def RadState.paOn (x : RadState) : Nat := 50 * F.radFeSeqLead_pa_on_lead.get x.seqLead
def RadState.lnaOn (x : RadState) : Nat := 50 * F.radFeSeqLag_lna_on_lag.get x.seqLag
def RadState.trswRx (x : RadState) : Nat := 50 * F.radFeSeqLag_trsw_rx_lag.get x.seqLag
def RadState.paOff (x : RadState) : Nat := 50 * F.radFeSeqLag_pa_off_lag.get x.seqLag

/-- The commit lead in ns of the tables in force, less the switch term (R99). -/
def State.tableLead (s : State) (r : Nat) : Nat :=
  let x := s.rd r
  let coex := if s.bit (A.radCtl r) F.radCtl_coex_en then 250 * s.fld (A.radCoexCtl r) F.radCoexCtl_coex_lead else 0
  max (max x.lnaOff x.trswTx) (max (max x.paOn coex) 1000)

/-- A calibration frame that did not go out: CAL_FRAME_LATE, and it stays due (R178). -/
def State.calLate (s : State) (r : Nat) (c : TxCmd) (status : Nat) : State :=
  if c.cal.isSome ∧ (status = ST.txLate ∨ status = ST.synthNotReady ∨ status = ST.windowShort) then
    s.count (A.radCalFrameLate r) else s

/-- A lantern that went out is counted (R197, R243). -/
def State.lanternSent (s : State) (c : TxCmd) (status : Nat) (aborted : Bool) : State :=
  if c.isHolael ∧ c.cls = 1 ∧ status = ST.ok ∧ !aborted then s.count A.hmacHolLanternTx else s

/-- A command completes with nothing radiated, or after its RF: HMAC gets frame, status and version (R103, R180). -/
def State.txDone (s : State) (r : Nat) (c : TxCmd) (status : Nat) (aborted : Bool) (version : Nat) : State :=
  (((s.setRd r { s.rd r with last := some ⟨c.frameId, status, aborted, version⟩ }).wlanDone r c status aborted version).calLate
    r c status).lanternSent c status aborted

/-- A command enters the empty slot: its starts and the lead of the tables in force are fixed; a start in the past or a crossed range
completes at once (R99, R104). -/
def State.enterSlot (s : State) (r : Nat) (c : TxCmd) : State :=
  let e := s.absNs c.earliest
  let d := s.absNs c.deadline
  if d < e ∨ d < s.nowNs then (s.count (A.radTxLate r)).txDone r c ST.txLate false 0
  else (s.setRd r { s.rd r with slot := some ⟨c, e, d, s.tableLead r, none, false, false⟩ }).showSlot r

/-- Commands that HMAC holds are issued in order while the slot is free; one that is late completes at once (R98, R104). -/
def State.issueHeld (s : State) (r : Nat) : List TxCmd → State
  | [] => s.setRd r { s.rd r with held := [] }
  | c :: l =>
    if (s.rd r).slot.isSome then s.setRd r { s.rd r with held := c :: l } else (s.enterSlot r c).issueHeld r l

/-- May a step use what it needs: a loopback step with gain control IDLE and no Holael window, a probe on a standby synthesiser that
neither tunes nor failed (R169, R170)? -/
def State.stepIdle (s : State) (r : Nat) (k : CalStep) : Bool :=
  match k with
  | .loopback _ _ _ => (s.rd r).rxWin.isNone && s.fld (A.radAgcStatus r) F.radAgcStatus_state == 0
  | .probe n => s.synActive r != n && s.synState r n != 1 && s.synState r n != 3

/-- May a step start or resume: not transmitting, no command committed, no other step running or resuming first, and none that a
waiting command would have to wait for (R100, R102, R169, R170)? -/
def State.stepMay (s : State) (r : Nat) (k : CalStep) : Bool :=
  let x := s.rd r
  x.air.isNone && x.slot.all (·.commit.isNone) && x.cal.step.isNone && x.cal.yielded.all (· == k) && s.stepIdle r k
    && x.slot.all (fun p =>
      !{ x with cal := { x.cal with step := some ⟨k, 0⟩ } }.stepBlocks (s.holding r p.cmd.centre) p.cmd.chains)

/-- A calibration step that yielded resumes once it may (R102). -/
def State.resumeStep (s : State) (r : Nat) : State :=
  let x := s.rd r
  match x.cal.yielded with
  | some k =>
    if s.stepMay r k then
      ((s.setRd r { x with cal := { x.cal with step := some ⟨k, s.elapsed⟩, yielded := none } }).showStep r).restLna r
    else s
  | none => s

/-- The slot empties, and HMAC issues what it holds; a step that yielded may resume. -/
def State.freeSlotOf (s : State) (r : Nat) : State :=
  let s := s.setRd r { s.rd r with slot := none }
  ((s.issueHeld r (s.rd r).held).resumeStep r).showSlot r

/-- The valid map of kind, partner, band and ID in the store (R133, R142). -/
def State.findMap (s : State) (kind partner band mapId : Nat) : Option HolMap :=
  s.hmac.hol.maps.find? (fun m => m.valid && m.kind == kind && m.partner == partner && m.band == band && m.mapId == mapId)

/-- The transmit map that a command names, if it names one. -/
def State.cmdMap (s : State) (r : Nat) (c : TxCmd) : Option HolMap := c.map.bind (fun x => s.findMap 1 x.1 r x.2)

/-- TXTIME that an H-SIG gives under a map, or under base loading at a width without one (R125, R132, R135). -/
def hsigAir (w width : Nat) (m : Option HolMap) : Nat :=
  match m with
  | some m => holTxTime (hsigStreams w) (nSym (hsigLength w) m.rate m.codedBits) (hsigGi w)
  | none => holTxTime (hsigStreams w) (nSym (hsigLength w) 0 (baseBits width)) (hsigGi w)

/-- A Holael command takes its length, streams and airtime from its H-SIG; any other keeps its own. -/
def State.timed (s : State) (r : Nat) (c : TxCmd) : TxCmd :=
  match c.hsig with
  | some w => { c with tx := Tx.holael c.tx.width (hsigStreams w), length := hsigLength w, airNs := hsigAir w c.tx.width (s.cmdMap r c) }
  | none => c

/-- Why a transmit command radiates nothing at all, if so: zero length, or of a Holael PPDU an excessive one, and then a map that is
not valid (R126, R142) (log entry 117). -/
def State.txRefused (s : State) (r : Nat) (c : TxCmd) : Option Nat :=
  if c.length = 0 ∨ (c.isHolael ∧ 5484000 < c.airNs) then some ST.badLength
  else if c.map.isSome ∧ (s.cmdMap r c).isNone then some ST.badParam
  else none

/-- Does a command go before others: a response, or a lantern, which nothing displaces or delays (R98, R197)? -/
def urgent (c : TxCmd) : Bool := c.response || (c.isHolael && c.cls == 1)

/-- A command joins those that HMAC holds: an urgent one, or one that another displaced, after the urgent ones, any other last. -/
def holdCmd (front : Bool) (c : TxCmd) (l : List TxCmd) : List TxCmd :=
  if front then l.takeWhile urgent ++ c :: l.dropWhile urgent else l ++ [c]

/-- The protocol sequencer issues a transmit command (R98): a response displaces an uncommitted command or waits behind a
committed one; a lantern, never deferred nor displaced, likewise (R197); no other command is issued to an occupied slot: HMAC holds
it (log entry 67). A response uses the active synthesiser (R105). -/
def State.issueTx (s : State) (r : Nat) (c : TxCmd) : State :=
  let c := if c.response then { c with centre := s.synFreq r (s.synActive r) } else c
  match s.txRefused r c with
  | some st =>
    let s := if st = ST.badParam then s.count (A.radTxMapInvalid r) else s
    s.txDone r c st false 0
  | none =>
    let x := s.rd r
    match x.slot with
    | none => (s.enterSlot r c).issueHeld r x.held
    | some p =>
      if urgent c ∧ p.commit.isNone ∧ !(p.cmd.isHolael && p.cmd.cls == 1) then
        let s := (s.setRd r { x with slot := none }).enterSlot r c
        s.issueHeld r (holdCmd true p.cmd x.held)
      else s.setRd r { x with held := holdCmd (urgent c) c x.held }

/-- TX_COMMAND (R98): a PPDU that the radio does not transmit (R121) is no command of the protocol sequencer's. -/
def execTxCommand (r : Rad) (c : TxCmd) (s : State) : Host.Outcome State Fault Refusal :=
  .next (if s.radLit r ∧ txFmtOk r c.tx then s.issueTx r (s.timed r c) else s)

/-- TX_COMMIT: the conditions of R100 hold: the RF start is fixed; detector and observation selections are set for the
PPDU (R109, R167). The PHY has its symbols ready when this comes. -/
def execTxCommit (r : Rad) (s : State) : Host.Outcome State Fault Refusal :=
  .next (match (s.rd r).slot with
  | none => s
  | some p =>
    let x := s.rd r
    if s.radLit r ∧ p.commit.isNone ∧ s.bit (A.radCtl r) F.radCtl_enable ∧ s.waitingOn r p = 0
        ∧ s.nowNs + s.leadOf r p ≤ p.deadline then
      let chains := p.cmd.chains &&& s.txChains r
      let det := if s.bit (A.radCtl r) F.radCtl_det_en then nextInTurn x.detTurn chains else none
      let cap := if p.cmd.cal.isSome then (bitsOf 8 chains).head? else nextInTurn x.cal.turn chains
      (s.setRd r { x with slot := some { p with commit := some (s.startAt r p), switch := s.needsSwitch r p, gntWait := false }
                          detSel := det.getD x.detSel, obsSel := cap.getD x.obsSel }).showSlot r
    else s)

/-- TX_COMMIT_DEADLINE: uncommitted at the latest commit instant: ST_SYNTH_NOT_READY or ST_TX_LATE (R103). -/
def execTxCommitDeadline (r : Rad) (s : State) : Host.Outcome State Fault Refusal :=
  .next (match (s.rd r).slot with
  | none => s
  | some p =>
    if s.radLit r ∧ p.commit.isNone ∧ p.deadline ≤ s.nowNs + s.leadOf r p then
      if s.waitingOn r p = 1 then
        ((s.count (A.radTxSynthNotReady r)).txDone r p.cmd ST.synthNotReady false 0).freeSlotOf r
      else ((s.count (A.radTxLate r)).txDone r p.cmd ST.txLate false 0).freeSlotOf r
    else s)

/-! ### RF start and end -/

/-- The gain state on a chain after back-off: two states lower (R165). -/
def gsAfter (gs : Nat) (backed : Bool) : Nat := if backed then min 7 (gs + 2) else gs

/-- The gain state a chain transmits a command in: the one commanded; for a calibration frame the highest (lowest-numbered) it has
used in the last second, or 0 (R176), but in a CAL_RUN the one under calibration (R188); then two lower when backed off. A command
that leaves it open gets a free one. -/
def State.chainGs (s : State) (r : Nat) (c : TxCmd) (ch : Nat) : Nat :=
  let x := s.rd r
  let used := (x.cal.rfLog.filter (fun l => !l.cal && l.chains.testBit ch && s.nowNs ≤ l.stop + nsPerSec)).map (·.gs.getD ch 0)
  let own := if c.cal.isSome ∧ c.gs.isEmpty then (used.min?).getD 0
    else match c.gs[ch]? with | some g => g.val | none => Config.gainState r c.frameId ch % 8
  gsAfter own (x.backedOff.testBit ch)

/-- The capture that a PPDU starting now on these chains will give: none when its RF is shorter than 16 µs (R167, R177). -/
def State.captureOf (s : State) (r : Nat) (c : TxCmd) (chains : Nat) : Option Capture :=
  if c.airNs < 16000 then none
  else if c.cal.isSome then match bitsOf 8 chains with
    | [] => none
    | n :: ns => some ⟨n, s.chainGs r c n, false, ns⟩
  else (nextInTurn (s.rd r).cal.turn chains).map (fun n => ⟨n, s.chainGs r c n, false, []⟩)

/-- RF of the PPDU in the air stops now: E on its chains, the log of RF time, the detector's measurement where the RF lasted 8 µs, the
capture spoiled when early, COEX_REQ (R108, R109, R167). -/
def State.stopRf (s : State) (r : Nat) (a : Air) (early : Bool) (req : Bool) : State :=
  let x := s.rd r
  let now := s.nowNs
  let short := now < a.start + 16000
  let cap := if early then x.cal.capture.map (fun c => { c with bad := true })
    else if short then none else x.cal.capture
  let log := ⟨a.chains, a.gs, a.start, now, a.cmd.cal.isSome⟩
  let det := if a.start + 8000 ≤ now then a.det else none
  let s := s.setRd r { x with air := none, coexReq := req, coexPri := req && x.coexPri
                              ends := (bitsOf 8 a.chains).foldl (fun e c => Tbl.insert c now e) x.ends
                              detTurn := det.getD x.detTurn
                              detCount := match det with
                                | some d => Tbl.set (fun _ => 0) d (Tbl.get (fun _ => 0) x.detCount d + 1) x.detCount
                                | none => x.detCount
                              idleSince := s.elapsed
                              cal := { x.cal with capture := cap, rfLog := x.cal.rfLog ++ [log] } }
  ((s.takeRetune r).resumeStep r).showSlot r

/-- A transmission ends early: the frame is reported aborted and TX_ABORT counted (R96, R108, R119, R571). -/
def State.abortRf (s : State) (r : Nat) (status : Nat) : State :=
  match (s.rd r).air with
  | some a => ((s.stopRf r a true false).count (A.radTxAbort r)).txDone r a.cmd status true a.version
  | none => s

/-- Does the active synthesiser hold the centre of a command, LOCKED (R101)? -/
def State.onActive (s : State) (r f : Nat) : Bool := s.holding r f == some (s.synActive r)

/-- An MSDU once a frame that carries it goes out: transmitted whole, or a fragment further (R236, R237). -/
def HMsdu.after (m : HMsdu) (frag : Option Nat) : HMsdu :=
  match frag with
  | some k => { m with frags := m.frags + 1, sent := m.sent + k }
  | none => { m with tries := m.tries + 1, frags := 0, sent := 0 }

/-- A link once a frame to it goes out on a band: polled, its MSDUs transmitted, a refresh request or an absence sent (R184, R241). -/
def HolPeer.after (q : HolPeer) (r now : Nat) (x : HolSent) : HolPeer :=
  let refresh : Bool := x.type == 6 && !x.isOffer
  { q with polled := q.polled || immediate x.type
           txq := q.txq.map (fun m => if x.sns.contains m.sn then m.after x.frag else m)
           refUnsent := if refresh then clrBit q.refUnsent r else q.refUnsent
           refSent := if refresh then Tbl.insert r now q.refSent else q.refSent
           absSend := if x.type = 7 then none else q.absSend
           absOwn := if x.type = 7 then q.absSend else q.absOwn.filter (fun a => a.2.1 != 0xFFFF) }

/-- The RF of a Holael PPDU on a link starts: its start is known, and with it the end of the last PPDU of the event (R207, R415); what
it carries has been sent. -/
def State.holStart (s : State) (r : Nat) (c : TxCmd) (t : Nat) : State :=
  match Tbl.find? s.hmac.hol.sent r with
  | some x =>
    if !c.isHolael ∨ x.frameId ≠ c.frameId ∨ x.onAir then s
    else
      let h := s.hmac.hol
      let h := { h with sent := Tbl.insert r { x with start := t, onAir := true } h.sent }
      match x.peer with
      | none => { s with hmac := { s.hmac with hol := h } }
      | some p =>
        let q := Tbl.get (fun _ => HolPeer.init) h.peers p
        let offer (o : Offer) : Offer := if x.isOffer ∧ o.peer = p ∧ o.band = r then { o with attempts := o.attempts + 1 } else o
        let events := match Tbl.find? h.events r with
          | some e => if e.peer = p then Tbl.insert r { e with last := some (t + x.air), left := e.left || x.type == 8 } h.events
            else h.events
          | none => h.events
        let first := q.txq.any (fun m => x.sns.contains m.sn && x.frag.isSome && m.frags == 0 && m.tries == 0)
        let s := { s with hmac := { s.hmac with hol := { h with
          events := events, peers := Tbl.set (fun _ => HolPeer.init) p (q.after r s.elapsed x) h.peers
          offers := (h.offers.map offer).filter (·.attempts < 5) } } }
        let s := if x.isOffer then s.count A.hmacHolMapOffer else s
        if first then s.count A.hmacHolFragTx else s
  | none => s

/-- TX_RF_START: the grant is sampled; granted, the PPDU radiates on its transmitting chains under the version in force;
refused, nothing radiates and the command waits for the grant (R92, R100, R101, R118). -/
def execTxRfStart (r : Rad) (s : State) : Host.Outcome State Fault Refusal :=
  .next (match (s.rd r).slot with
  | none => s
  | some p =>
    let x := s.rd r
    if s.radLit r ∧ p.commit.any (fun t => decide (t ≤ s.nowNs)) ∧ x.air.isNone ∧ !p.switch ∧ s.onActive r p.cmd.centre then
      if s.bit (A.radCtl r) F.radCtl_coex_en ∧ !x.gnt then (s.count (A.radCoexDenied r)).unwind r true
      else
        let chains := p.cmd.chains &&& s.txChains r
        let det := if s.bit (A.radCtl r) F.radCtl_det_en then nextInTurn x.detTurn chains else none
        let cap := s.captureOf r p.cmd chains
        let a : Air := ⟨p.cmd, s.nowNs, chains, (List.range 8).map (s.chainGs r p.cmd ·), (s.reg (A.radCalVersion r)).toNat, det⟩
        let s := (s.holStart r p.cmd (p.commit.getD s.nowNs)).wlanStart r p.cmd
        (s.setRd r { x with air := some a, slot := none
                            cal := { x.cal with capture := cap
                                                turn := if p.cmd.cal.isSome then x.cal.turn
                                                  else (cap.map (·.chain)).getD x.cal.turn } }).freeSlotOf r
    else s)

/-- TX_RF_END: RF ends; the completion carries the version of the PPDU (R108, R176, R180). -/
def execTxRfEnd (r : Rad) (s : State) : Host.Outcome State Fault Refusal :=
  .next (match (s.rd r).air with
  | none => s
  | some a =>
    if s.radLit r then
      let req := a.cmd.reply ∧ s.bit (A.radCtl r) F.radCtl_coex_en ∧ s.bit (A.radCoexCtl r) F.radCoexCtl_rx_req_en
      let s := (s.stopRf r a false req).txDone r a.cmd ST.ok false a.version
      if a.cmd.cal.isSome then
        let c := (s.rd r).cal
        let s := s.setRd r { s.rd r with cal := { c with
          served := (bitsOf 8 a.chains).foldl (fun t n => Tbl.insert n s.elapsed t) c.served } }
        let s := s.count (A.radCalFrame r)
        if a.cmd.gs.isEmpty then
          s.setFld (A.radCalState r) F.radCalState_cal_frames_due (s.fld (A.radCalState r) F.radCalState_cal_frames_due - 1)
        else s
      else s
    else s)

/-- A PPDU in reception is reported to the PHY as lost (R96, R571). -/
def State.loseRx (s : State) (r : Nat) : State :=
  match (s.rd r).rx with
  | some q => s.setRd r { s.rd r with rx := some { q with lost := some .radio }, loss := some .radio }
  | none => s

/-- The first command of a list that a condition holds for ends with a status. -/
def State.endHeld (s : State) (r : Nat) (hit : TxCmd → Bool) (status : Nat) (note : State → TxCmd → State) : State × Nat :=
  let out := (s.rd r).held.filter hit
  let s := s.setRd r { s.rd r with held := (s.rd r).held.filter (fun c => !hit c) }
  (out.foldl (fun s c => (note s c).txDone r c status false 0) s, out.length)

/-- Frames of a radio that a condition holds for end with a status: one on air is aborted, one that has not started is not sent.
`note` counts each, and the number that had not started comes with the state. -/
def State.endFrames (s : State) (r : Nat) (hit : TxCmd → Bool) (status : Nat) (note : State → TxCmd → State) : State × Nat :=
  let s := match (s.rd r).air with
    | some a => if hit a.cmd then (note s a.cmd).abortRf r status else s
    | none => s
  let (s, n) := s.endHeld r hit status note
  match (s.rd r).slot with
  | some p => if hit p.cmd then (((note s p.cmd).unwind r false).freeSlotOf r |>.txDone r p.cmd status false 0, n + 1) else (s, n)
  | none => (s, n)

/-- SYN_LOCK_LOSS: RF is aborted or the reception lost; a committed command that needs it unwinds; it relocks on the same
target (R96). -/
def execSynLockLoss (r : Rad) (n : Fin 2) (s : State) : Host.Outcome State Fault Refusal :=
  .next (if s.radLit r ∧ s.synState r n = 2 then
    let s := s.count (A.radSynUnlock r)
    let s := if s.synActive r = n then (s.abortRf r ST.ok).loseRx r else s
    let needs := (s.rd r).slot.any (fun p => p.commit.isSome && s.holding r p.cmd.centre == some n.val)
    let s := s.setSyn r n 1
    (if needs then s.unwindSlot r false else s).showSlot r
  else s)

/-! ### Front-end edges (R106, R107) -/

/-- When the RF that follows a chain's last RF end starts: of the PPDU in the air, or of the committed one. -/
def State.nextOn (s : State) (r c : Nat) : Option Nat :=
  let x := s.rd r
  let own := match x.slot with
    | some p => if (p.cmd.chains &&& s.txChains r).testBit c then p.commit else none
    | none => none
  match x.air with
  | some a => if a.chains.testBit c then some a.start else own
  | none => own

/-- Chains with a lag edge due: E + lag has come, and the next RF on the chain lies at least `limit` after E and is not yet in its
lead of `lead` (R107). -/
def State.lagDue (s : State) (r lag lead limit : Nat) : Nat :=
  ((s.rd r).ends.filter (fun e => decide (e.2 + lag ≤ s.nowNs) && match s.nextOn r e.1 with
    | some t => decide (e.2 + limit ≤ t) && decide (s.nowNs + lead < t)
    | none => true)).foldl (fun m e => setBit m e.1) 0

/-- The front-end pins of a radio at rest: LNA_EN high on receiving chains of an enabled one; a disabled one goes to its safe state
through the lag edges still to come (R91, R92, R571). -/
def State.restPins (s : State) (r : Nat) : State :=
  if s.bit (A.radCtl r) F.radCtl_enable then s.restLna r
  else
    let x := s.rd r
    let pa := x.lagging s.nowNs x.paOff
    let sw := x.lagging s.nowNs x.trswRx
    let rest : Bool := pa == 0 && sw == 0
    let coex := x.coexReq && x.coexEnd.isSome
    s.setRd r { x with lnaEn := 0, paEn := x.paEn &&& pa, trsw := x.trsw &&& sw, coexReq := coex, coexPri := coex && x.coexPri
                       detSel := if rest then 0 else x.detSel, obsSel := if rest then 0 else x.obsSel }

/-- FRONT_END_EDGE: one timed edge of the sequencing table (R91, R99, R107, R118, R143, R571). A lead edge belongs to the committed
command, a lag edge to the last RF end of each chain. -/
def execFrontEndEdge (r : Rad) (k : FeEdge) (s : State) : Host.Outcome State Fault Refusal :=
  .next (let x := s.rd r
  let now := s.nowNs
  let lead (n : Nat) : Bool := x.slot.any (fun p => p.commit.any (fun t => decide (t ≤ now + n)))
  let chains := match x.slot with | some p => p.cmd.chains &&& s.txChains r | none => 0
  let pa := s.lagDue r x.paOff x.paOn (x.paOff + x.paOn)
  let sw := s.lagDue r x.trswRx x.trswTx (x.lnaOn + x.lnaOff)
  let ln := s.lagDue r x.lnaOn x.lnaOff (x.lnaOn + x.lnaOff)
  let on := s.bit (A.radCtl r) F.radCtl_enable
  if !s.radLit r then s
  else match k with
  | .coexReq =>
    if s.bit (A.radCtl r) F.radCtl_coex_en ∧ lead (250 * s.fld (A.radCoexCtl r) F.radCoexCtl_coex_lead) then
      let cls := match x.slot with | some p => p.cmd.cls | none => 0
      s.setRd r { x with coexReq := true, coexPri := (s.fld (A.radCoexCtl r) F.radCoexCtl_pri_mask).testBit cls, coexEnd := none }
    else s
  | .coexEnd =>
    if x.coexEnd.any (fun t => decide (t ≤ now)) then
      (s.setRd r { x with coexReq := false, coexPri := false, coexEnd := none }).restPins r
    else s
  | .lnaOff =>
    if lead x.lnaOff then
      let s := s.setRd r { x with lnaEn := without x.lnaEn chains
                                  idleGain := if s.fld (A.radAgcStatus r) F.radAgcStatus_state = 0 then
                                    s.fld (A.radAgcStatus r) F.radAgcStatus_gain else x.idleGain }
      (s.setFld (A.radAgcStatus r) F.radAgcStatus_state 4).setFld (A.radAgcStatus r) F.radAgcStatus_gain (s.rd r).idleGain
    else s
  | .trswTx => if lead x.trswTx then s.setRd r { x with trsw := x.trsw ||| chains } else s
  | .paOn => if lead x.paOn then s.setRd r { x with paEn := x.paEn ||| chains } else s
  | .paOff => let s := s.setRd r { x with paEn := without x.paEn pa }
    if on then s else s.restPins r
  | .trswRx => let s := s.setRd r { x with trsw := without x.trsw sw }
    if on then s else s.restPins r
  | .lnaOn => s.setRd r { x with lnaEn := x.lnaEn ||| without (ln &&& s.rxChains r) (x.trsw ||| x.paEn ||| x.stepChains) }
  | .lnaSettled =>
    if s.fld (A.radAgcStatus r) F.radAgcStatus_state = 4 then
      (s.setRd r { x with idleSince := s.elapsed }).setFld (A.radAgcStatus r) F.radAgcStatus_state 0
    else s)

/-- Do a pair of sequencing words satisfy R106? -/
def seqOk (lead lag : Word) : Bool :=
  let lo := F.radFeSeqLead_lna_off_lead.get lead
  let tt := F.radFeSeqLead_trsw_tx_lead.get lead
  let po := F.radFeSeqLead_pa_on_lead.get lead
  let ln := F.radFeSeqLag_lna_on_lag.get lag
  let tr := F.radFeSeqLag_trsw_rx_lag.get lag
  let pf := F.radFeSeqLag_pa_off_lag.get lag
  lo ≤ 80 && tt ≤ 80 && po ≤ 80 && ln ≤ 80 && tr ≤ 80 && pf ≤ 80 && tt ≤ lo && po + 4 ≤ tt && pf + 4 ≤ tr && tr ≤ ln

/-- FE_SEQ_SUBMIT: a write of rad_FE_SEQ_LAG submits the pair; one that breaks a constraint sets seq_err (R106). -/
def execFeSeqSubmit (who : Requester) (r : Rad) (w : Word) (s : State) : Host.Outcome State Fault Refusal :=
  .next (s.access who (A.radFeSeqLag r) true fun s =>
    let s := (s.setReg (A.radFeSeqLag r) (D.radFeSeqLag.write false (s.reg (A.radFeSeqLag r)) w)).busOk 0
    let lead := s.reg (A.radFeSeqLead r)
    let lag := s.reg (A.radFeSeqLag r)
    if seqOk lead lag then s.setRd r { s.rd r with seqNext := some (lead, lag) }
    else s.setFld (A.radFeSeqLag r) F.radFeSeqLag_seq_err 1)

/-- FE_SEQ_APPLY: with no command committed and no PPDU in the air the submitted table takes effect (R106). -/
def execFeSeqApply (r : Rad) (s : State) : Host.Outcome State Fault Refusal :=
  .next (match (s.rd r).seqNext with
  | some (lead, lag) =>
    if s.radLit r ∧ s.radIdle r then s.setRd r { s.rd r with seqLead := lead, seqLag := lag, seqNext := none } else s
  | none => s)

/-- RADIO_DISABLE: a write of rad_CTL with enable 0 (R571): RF ends, committed commands unwind and wait, a reception is
lost, and the front end goes to its safe state through the lag edges. -/
def execRadioDisable (who : Requester) (r : Rad) (w : Word) (s : State) : Host.Outcome State Fault Refusal :=
  .next (s.access who (A.radCtl r) true fun s =>
    if !isCudom who ∨ F.radCtl_enable.get w ≠ 0 then s.busOk 0
    else
      let s := ((s.abortRf r ST.ok).unwind r false).loseRx r
      let s := s.setReg (A.radCtl r) (D.radCtl.write false (s.reg (A.radCtl r)) w)
      ((s.restPins r).showSlot r).busOk 0)

/-! ### Coexistence (R117–R119) -/

/-- A committed command not yet radiating whose airtime would overlap a blanking window unwinds (R117). -/
def State.blankCheck (s : State) (r : Nat) : State :=
  match (s.rd r).slot with
  | some p => match p.commit with
    | some t => if s.blanked r t p.cmd.airNs then s.unwind r false else s
    | none => s.showSlot r
  | none => s

/-- One radio at a rising edge of COEX_SYNC. -/
def State.syncEdge (s : State) (r : Nat) : State :=
  let len := s.fld (A.radCoexBlank r) F.radCoexBlank_blank_len
  if s.radLit r ∧ s.bit (A.radCoexCtl r) F.radCoexCtl_sync_en ∧ len ≠ 0 then
    let b := s.nowNs + 1000 * s.fld (A.radCoexBlank r) F.radCoexBlank_blank_start
    (s.setRd r { s.rd r with blanks := (s.rd r).blanks ++ [(b, b + 1000 * len)] }).blankCheck r
  else s

/-- COEX_SYNC_EDGE: the edge is shared by all radios; it schedules a window in each that applies it. -/
def execCoexSyncEdge (s : State) : Host.Outcome State Fault Refusal :=
  .next (((s.syncEdge 0).syncEdge 1).syncEdge 2)

/-- COEX_BLANK_START: a scheduled window opens. -/
def execCoexBlankStart (r : Rad) (s : State) : Host.Outcome State Fault Refusal :=
  .next (if s.radLit r ∧ !(s.rd r).blanks.isEmpty ∧ !(s.rd r).blankOpen then
    (s.setRd r { s.rd r with blankOpen := true }).blankCheck r else s)

/-- COEX_BLANK_END: the open window closes and waiting commands may recommit. -/
def execCoexBlankEnd (r : Rad) (s : State) : Host.Outcome State Fault Refusal :=
  .next (if s.radLit r ∧ (s.rd r).blankOpen then
    (s.setRd r { s.rd r with blankOpen := false, blanks := (s.rd r).blanks.drop 1 }).showSlot r else s)

/-- COEX_GNT_RISE: a command waiting for the grant may recommit (R118). -/
def execCoexGntRise (r : Rad) (s : State) : Host.Outcome State Fault Refusal :=
  .next ((s.setRd r { s.rd r with gnt := true }).showSlot r)

/-- COEX_GNT_FALL: with abort_en a PPDU in the air stops (R119) (log entry 44). -/
def execCoexGntFall (r : Rad) (s : State) : Host.Outcome State Fault Refusal :=
  .next (let s := s.setRd r { s.rd r with gnt := false }
  if s.radLit r ∧ s.bit (A.radCtl r) F.radCtl_coex_en ∧ s.bit (A.radCoexCtl r) F.radCoexCtl_abort_en
      ∧ (s.rd r).air.isSome then
    (s.count (A.radCoexAbort r)).abortRf r ST.ok
  else s.showSlot r)

/-! ### Mismatch detection (R109–R113) -/

/-- Return loss in 0.1 dB as rad_DET_RL_n shows it. -/
def rlCode (x : Int) : Nat := if x < 0 then 0 else if 254 ≤ x then 254 else x.toNat

/-- MISMATCH_AVERAGE: four measurements of a chain, forward less reverse level in 0.1 dB, form an average that may back
the chain off, release it or mute it; there is none before the chain has been measured four times (R109, R110) (log entry 41). -/
def execMismatchAverage (r : Rad) (c : Chain) (m0 m1 m2 m3 : Int) (s : State) : Host.Outcome State Fault Refusal :=
  .next (let x := s.rd r
  if s.radLit r ∧ s.bit (A.radCtl r) F.radCtl_det_en ∧ c.val < chainsOf r ∧ !x.muted.testBit c
      ∧ 4 ≤ Tbl.get (fun _ => 0) x.detCount c then
    let cfg := A.radDetCfg r
    let rl := (m0 + m1 + m2 + m3) / 4 + signed 8 (s.fld cfg F.radDetCfg_coupler_offset)
    let s := s.setFld (A.radDetRl r c) F.radDetRl_rl (rlCode rl)
    let s := s.setFld (A.radDetRl r c) F.radDetRl_meas_count ((s.fld (A.radDetRl r c) F.radDetRl_meas_count + 1) % 65536)
    let st := A.radDetStatus r
    let backed := s.fld st F.radDetStatus_backed_off
    let run := if (s.fld cfg F.radDetCfg_release_rl : Int) ≤ rl then Tbl.get (fun _ => 0) x.release c + 1 else 0
    let s := s.setRd r { x with detCount := Tbl.set (fun _ => 0) c (Tbl.get (fun _ => 0) x.detCount c - 4) x.detCount
                                release := Tbl.set (fun _ => 0) c (if 16 ≤ run then 0 else run) x.release
                                relDue := if 16 ≤ run ∧ backed.testBit c then setBit x.relDue c else x.relDue }
    let s := if rl < s.fld cfg F.radDetCfg_backoff_rl ∧ !backed.testBit c then
        (s.setFld st F.radDetStatus_backed_off (setBit backed c)).count (A.radMismatchBackoff r)
      else s
    if rl < s.fld cfg F.radDetCfg_mute_rl then
      let s := s.setFld st F.radDetStatus_muted (setBit (s.fld st F.radDetStatus_muted) c)
      (s.count (A.radMismatchMute r)).raise (radSrc r) .mismatch 0 2 [r, c, rlCode rl]
    else s
  else s)

/-- DET_CFG_WRITE: thresholds take effect whole, or cfg_err is set and the write discarded (R113) (log entry 45). -/
def execDetCfgWrite (who : Requester) (r : Rad) (w : Word) (s : State) : Host.Outcome State Fault Refusal :=
  .next (s.access who (A.radDetCfg r) true fun s =>
    if !isCudom who then s.busOk 0
    else if F.radDetCfg_mute_rl.get w < F.radDetCfg_backoff_rl.get w
        ∧ F.radDetCfg_backoff_rl.get w < F.radDetCfg_release_rl.get w then
      ((s.setReg (A.radDetCfg r) w).setFld (A.radDetStatus r) F.radDetStatus_cfg_err 0).busOk 0
    else (s.setFld (A.radDetStatus r) F.radDetStatus_cfg_err 1).busOk 0)

/-- MUTE_CLEAR: writing 1 to a muted bit unmutes the chain (R111); the change applies between PPDUs (R180). -/
def execMuteClear (who : Requester) (r : Rad) (w : Word) (s : State) : Host.Outcome State Fault Refusal :=
  .next (s.access who (A.radDetStatus r) true fun s =>
    if !isCudom who then s.busOk 0
    else (s.setReg (A.radDetStatus r) (D.radDetStatus.write false (s.reg (A.radDetStatus r)) w)).busOk 0)

/-- MUTE_SET: chains named are muted from the next PPDU boundary; not counted (R111). -/
def execMuteSet (who : Requester) (r : Rad) (w : Word) (s : State) : Host.Outcome State Fault Refusal :=
  .next (s.access who (A.radDetMuteSet r) true fun s =>
    if !isCudom who then s.busOk 0
    else
      let m := F.radDetMuteSet_mute_set.get w &&& (2 ^ chainsOf r - 1)
      (s.setRd r { s.rd r with muteDue := (s.rd r).muteDue ||| m }).busOk 0)

/-! ### Tuner bus (R114–R116) -/

/-- TUNER_COMMAND: a write of rad_TUN_CMD with go 1 issues the command; with the bus off it is not issued (R91, R114, R116).
One written while a preset is issued or a switch pends starts afterwards, go reading 1 meanwhile (log entry 42). -/
def execTunerCommand (who : Requester) (r : Rad) (w : Word) (s : State) : Host.Outcome State Fault Refusal :=
  .next (s.access who (A.radTunCmd r) true fun s =>
    let s := (s.setReg (A.radTunCmd r) (D.radTunCmd.write false (s.reg (A.radTunCmd r)) w)).busOk 0
    if s.tunOff r then s.setFld (A.radTunCmd r) F.radTunCmd_go 0 else s.startTuner r)

/-- TUNER_COMMAND_DONE: a read with a parity error, or a Register Write or Read above address 31, sets err and counts
TUNER_ERR; a good read leaves its data (R114). -/
def execTunerCommandDone (r : Rad) (data : Byte) (parityErr : Bool) (s : State) : Host.Outcome State Fault Refusal :=
  .next (let a := A.radTunCmd r
  if s.radLit r ∧ s.bit a F.radTunCmd_go ∧ (s.rd r).tunGo then
    let s := s.setRd r { s.rd r with tunGo := false }
    let kind := s.fld a F.radTunCmd_kind
    let read := kind % 2 = 1
    let bad := (read ∧ parityErr) ∨ (kind < 2 ∧ 31 < s.fld a F.radTunCmd_addr)
    let s := (s.setFld a F.radTunCmd_go 0).setFld a F.radTunCmd_err (if bad then 1 else 0)
    if bad then s.count (A.radTunerErr r)
    else if read then s.setFld a F.radTunCmd_data data.toNat else s
  else s)

end Sys2Proof.Machine
end

