-- ==== Sys2Proof/Machine/Phy.lean ====
section
/-!
DEFINITION. Reception: Holael windows, gain control, H-SIG and the noise floor (R124–R150).
-/

namespace Sys2Proof.Machine

/-! ### Gain control (R143–R146) -/

/-- AGC state codes: 0 IDLE, 1 DETECT, 2 SETTLE, 3 FROZEN, 4 TX. -/
def State.agc (s : State) (r : Nat) : Nat := s.fld (A.radAgcStatus r) F.radAgcStatus_state
def State.setAgc (s : State) (r v : Nat) : State := s.setFld (A.radAgcStatus r) F.radAgcStatus_state v
def State.gain (s : State) (r : Nat) : Nat := s.fld (A.radAgcStatus r) F.radAgcStatus_gain
def State.setGain (s : State) (r v : Nat) : State := s.setFld (A.radAgcStatus r) F.radAgcStatus_gain v

/-- round(n / d) of integers with d > 0, halves upward. -/
def roundDiv (n d : Int) : Int := (2 * n + d) / (2 * d)

/-- The gain after a measured level in 2^−8 dBFS by the hysteresis rule (R144): beyond 4 dB from the target it moves by
round((level − target) / 3) steps, downward for a level above the target, clamped to 0 and max_gain. -/
def State.stepGain (s : State) (r : Nat) (level : Int) : State :=
  let t := signed 8 (s.fld (A.radAgcCfg r) F.radAgcCfg_agc_target) * 256
  let d := level - t
  if -1024 ≤ d ∧ d ≤ 1024 then s
  else
    let hi := min 25 (s.fld (A.radAgcCfg r) F.radAgcCfg_max_gain)
    s.setGain r (clampI 0 hi ((s.gain r : Int) - roundDiv d 768)).toNat

/-- Is a Holael window in force? -/
def State.inWin (s : State) (r : Nat) : Bool := (s.rd r).rxWin.isSome

/-- The radio can receive: a chain enabled to, and its active synthesiser LOCKED (R92, R96, R97). -/
def State.canReceive (s : State) (r : Nat) : Bool := s.rxChains r != 0 && s.synState r (s.synActive r) == 2

/-- Entry to DETECT: a loopback step ends (R169); the gain of the last frozen reception from the window's partner with hint_en
(R146), then one step from the level measured; a saturating converter first takes 24 dB off and measures again (R143). -/
def State.toDetect (s : State) (r : Nat) (level : Int) (again : Option Int) : State :=
  let looping : Bool := match (s.rd r).cal.step with | some ⟨.loopback _ _ _, _⟩ => true | _ => false
  let s := if looping then s.dropStep r false else s
  let x := s.rd r
  let hint := match x.rxWin with
    | some w => if s.bit (A.radAgcCfg r) F.radAgcCfg_hint_en then w.partner.bind (Tbl.find? x.frozen) else none
    | none => none
  let s := s.setRd r { x with idleGain := if s.agc r = 0 then s.gain r else x.idleGain, rx := some (Rx.start x.rxNum)
                              rxNum := x.rxNum + 1, detectAt := s.elapsed }
  let s := match hint with | some g => s.setGain r g | none => s
  let s := s.setAgc r 1
  match again with
  | some l => (s.setGain r (s.gain r - 8)).stepGain r l
  | none => s.stepGain r level

/-- AGC_STF_DETECT: in IDLE the gain has stepped over the levels measured; an STF correlation, or a level rise of 10 dB, takes gain
control to DETECT, and the second measurement there to SETTLE (R143) (log entries 41, 43). -/
def execAgcStfDetect (r : Rad) (idle : List Int) (level : Int) (again second : Option Int) (s : State) :
    Host.Outcome State Fault Refusal :=
  .next (if s.radLit r ∧ s.agc r = 0 ∧ s.canReceive r then
    let s := (idle.foldl (fun s l => s.stepGain r l) s).toDetect r level again
    match second with | some l => (s.stepGain r l).setAgc r 2 | none => s
  else s)

/-- The receiver is idle from now. -/
def State.nowIdle (s : State) (r : Nat) : State := s.setRd r { s.rd r with idleSince := s.elapsed }

/-- AGC_DETECT_TIMEOUT: no L-LTF within 8 µs: IDLE, AGC_FALSE_DETECT. -/
def execAgcDetectTimeout (r : Rad) (s : State) : Host.Outcome State Fault Refusal :=
  .next (if s.radLit r ∧ (s.agc r = 1 ∨ s.agc r = 2) ∧ (s.rd r).detectAt + 8000 ≤ s.elapsed then
    (((s.setRd r { s.rd r with rx := none }).nowIdle r).setAgc r 0).count (A.radAgcFalseDetect r) else s)

/-- AGC_LLTF_FOUND: SETTLE, entered now from DETECT if it was not before, took at most two further steps; the gain freezes and is
kept for the window's partner (R143, R146). -/
def execAgcLltfFound (r : Rad) (settle : List Int) (s : State) : Host.Outcome State Fault Refusal :=
  .next (if s.radLit r ∧ (s.agc r = 1 ∨ s.agc r = 2) then
    let s := (settle.take 2).foldl (fun s l => s.stepGain r l) s
    let s := s.setAgc r 3
    match (s.rd r).rxWin.bind (·.partner) with
    | some p => s.setRd r { s.rd r with frozen := Tbl.insert p (s.gain r) (s.rd r).frozen }
    | none => s
  else s)

/-- AGC_RESTART: in FROZEN, outside Holael windows, with restart_en, a 12 dB rise with an STF abandons the PPDU (R145). -/
def execAgcRestart (r : Rad) (level : Int) (again : Option Int) (s : State) : Host.Outcome State Fault Refusal :=
  .next (if s.radLit r ∧ s.agc r = 3 ∧ !s.inWin r ∧ s.bit (A.radPhyCtl r) F.radPhyCtl_restart_en then
    (s.count (A.radAgcRestart r)).toDetect r level again else s)

/-- The pilots of data symbols received are taken in turn (R148). -/
def State.trackPilots (s : State) (r : Nat) (syms : List (List (Int × Int × Int))) : State :=
  match (s.rd r).rx with
  | some q => s.setRd r { s.rd r with rx := some (syms.foldl Rx.track q) }
  | none => s

/-- RX_PPDU_END: gain control returns to IDLE; the receiver is free, of a PPDU discarded under R133 not before T + D (R133, R143).
`syms` are the pilots of the symbols since the last codeword. A command that waited may go (R97, R117). -/
def execRxPpduEnd (r : Rad) (syms : List (List (Int × Int × Int))) (s : State) : Host.Outcome State Fault Refusal :=
  .next (match (s.rd r).rx with
  | none => s
  | some q =>
    if s.radLit r ∧ q.busyUntil ≤ s.nowNs then
      let s := s.trackPilots r syms
      let x := s.rd r
      let s := (s.setRd r { x with rx := none, done := x.rx }).nowIdle r
      let s := s.dropReq r
      let s := if s.agc r = 4 then s else s.setAgc r 0
      (s.takeRetune r).showSlot r
    else s)

/-! ### H-SIG (R128–R133) -/

/-- The link an H-SIG names in a window: the parent, 1 024, for this member's own partner number in a window for it; none for another
partner there; else the partner number that it carries. -/
def State.linkOf (s : State) (win : RxWin) (w : Nat) : Option Nat :=
  if win.partner = some 1024 then
    if hsigPartner w = s.fld A.hmacHolParentSched2 F.hmacHolParentSched2_partner then some 1024 else none
  else some (hsigPartner w)

/-- The receive map that an H-SIG names. -/
def State.hsigMap (s : State) (r w : Nat) (win : RxWin) : Option HolMap :=
  (s.linkOf win w).bind (fun p => s.findMap 0 p r (hsigMapId w))

/-- The TXTIME that an H-SIG implies under the map or base loading it names; none where it needs a map that is absent. -/
def State.hsigTxTime (s : State) (r w : Nat) (win : RxWin) : Option Nat :=
  if usesMap (hsigType w) then (s.hsigMap r w win).map (fun m => hsigAir w win.width (some m))
  else some (hsigAir w win.width none)

/-- The first list of R133. -/
def State.hsigBad (s : State) (r w : Nat) (win : RxWin) : Bool :=
  hsigVersion w != 0 || 9 ≤ hsigType w || hsigGi w == 3 || hsigLength w == 0
    || ones (s.rxChains r) < hsigStreams w
    || (usesMap (hsigType w) && (s.hsigMap r w win).isNone)

/-- HSIG_DECODED: in a Holael window the two symbols after L-SIG, 96 soft bits, are decoded (R128, R131, R133): a failed check leaves a
WLAN PPDU; a bad field or a length in conflict discards it, the receiver busy until T + D. It is decoded at T + 28 µs. -/
def execHsigDecoded (r : Rad) (soft : List Int) (lsig : Nat) (s : State) : Host.Outcome State Fault Refusal :=
  .next (match (s.rd r).rxWin, (s.rd r).rx with
  | some win, some q =>
    let hsig := hsigDecode soft
    if !s.radLit r ∨ q.lost.isSome then s
    else if hsigField hsig 47 40 ≠ hsigCrc hsig then s.count (A.radHsigCrcErr r)
    else
      let d := lsigDuration lsig
      let busy := s.setRd r { s.rd r with rx := some { q with discard := true, busyUntil := s.nowNs - 28000 + d } }
      if s.hsigBad r hsig win then busy.count (A.radHsigReject r)
      else match s.hsigTxTime r hsig win with
        | some t =>
          if d < t + 4000 ∧ t ≤ d then s.setRd r { s.rd r with rx := some { q with hsig := some (hsig, win) } }
          else busy.count (A.radHsigLenConflict r)
        | none => busy.count (A.radHsigReject r)
  | _, _ => s)

/-! ### Noise floor (R149, R150) -/

/-- An entry of the noise table, 0.25 dBm; none while no window has measured the group. -/
def State.noise (s : State) (r c g : Nat) : Option Int :=
  let v := s.fld (A.radNfTable r c (g / 2)) (if g % 2 = 0 then F.radNfTable_nf_even else F.radNfTable_nf_odd)
  if v = 0x8000 then none else some (signed 16 v)

/-- One group after a window: n + (x − n) / 2^nf_shift, the first window taken whole. -/
def State.noiseIn (s : State) (r c g : Nat) (x : Int) : State :=
  let sh := min 6 (s.fld (A.radNfCfg r) F.radNfCfg_nf_shift)
  let v := match s.noise r c g with | some n => n + (x - n) / 2 ^ sh | none => x
  s.setFld (A.radNfTable r c (g / 2)) (if g % 2 = 0 then F.radNfTable_nf_even else F.radNfTable_nf_odd)
    (unsigned 16 (clampI (-32767) 32767 v))

/-- The groups of one chain. -/
def State.noiseChain (s : State) (r c : Nat) : Nat → List Int → State
  | _, [] => s
  | g, x :: xs => (s.noiseIn r c g x).noiseChain r c (g + 1) xs

/-- What a receive gain step adds on a chain, 0.25 dB: by the table of loop 4, else its nominal 3 dB a step (R149). -/
def State.gainOf (s : State) (r c g : Nat) : Int := (Tbl.find? (s.rd r).cal.gainTable (32 * c + g)).getD (12 * g)

/-- NF_WINDOW: an idle 12.8 µs window, begun after 16 µs of idle, measures each enabled receive chain: 0.25 dBm per subcarrier at the
converter for each group, referred to the RX pins through the gain in force; chain c's values stand at position c (R149) (log
entry 41). -/
def execNfWindow (r : Rad) (vals : List (List Int)) (s : State) : Host.Outcome State Fault Refusal :=
  .next (if s.radLit r ∧ s.bit (A.radCtl r) F.radCtl_enable ∧ s.bit (A.radNfCfg r) F.radNfCfg_nf_en ∧ s.radIdle r
      ∧ s.agc r = 0 ∧ s.canReceive r ∧ (s.rd r).idleSince + 28800 ≤ s.elapsed then
    let groups := s.fld (A.radNfStatus r) F.radNfStatus_groups
    let s := (bitsOf 8 (s.rxChains r)).foldl (fun s c =>
      s.noiseChain r c 0 (((vals.getD c []).take groups).map (fun v => v - s.gainOf r c (s.gain r)))) s
    s.setFld (A.radNfStatus r) F.radNfStatus_windows ((s.fld (A.radNfStatus r) F.radNfStatus_windows + 1) % 65536)
  else s)

/-! ### Group SNRs of a Holael PPDU (R137) -/

/-- The idle floor of each receiving chain in a group, mW. -/
def State.idleFloor (s : State) (r g : Nat) : List (Option Rat) :=
  (bitsOf 8 (s.rxChains r)).map (fun c => (s.noise r c g).map mwOf)

/-- The group SNRs that a PPDU's training gives, the data subcarriers in ascending order (R134, R137, R147). -/
def State.trainSnr (s : State) (r width streams : Nat) (train : List ToneRx) : List (List Int) :=
  if train.isEmpty then []
  else
    let ks := dataSubs width
    groupSnrs width streams ((train.zipIdx).map (fun t =>
      toneSnrs streams (Config.ltf width (ks.getD t.2 0)) t.1 (s.idleFloor r (t.2 / 4))))

end Sys2Proof.Machine
end

