-- ==== Sys2Proof/Machine/Gallery.lean ====
section
/-!
DEFINITION. The gallery: submission, dispatch, overload, completion and deadlines of codewords (R123, R124, R151–R158).
Times are half nanoseconds of elapsed time.
-/

namespace Sys2Proof.Machine

/-- Elapsed time in half nanoseconds. -/
def State.half (s : State) : Nat := 2 * s.elapsed

/-- Cell time for i iterations, half nanoseconds: 42.5 ns + i · 20 ns (R151). -/
def cellTime (i : Nat) : Nat := 85 + 40 * i

/-- The iteration limit in force. -/
def State.maxIter (s : State) : Nat := s.fld A.decCtl F.decCtl_max_iter

/-- Dispatch order: earliest deadline, then submission cycle, then radio, then order of submission (R155). -/
def Codeword.before (a b : Codeword) : Bool :=
  a.deadline < b.deadline || (a.deadline == b.deadline && (a.at_ < b.at_ || (a.at_ == b.at_ &&
    (a.radio < b.radio || (a.radio == b.radio && a.num < b.num)))))

/-- Insert a codeword into a list in dispatch order. -/
def insertCw (c : Codeword) : List Codeword → List Codeword
  | [] => [c]
  | d :: l => if c.before d then c :: d :: l else d :: insertCw c l

/-- Work left in the running cells at their limits. -/
def State.runningWork (s : State) : Nat :=
  s.dec.cells.foldl (fun a e => a + (e.2.start + cellTime e.2.limit - s.half)) 0

/-- R156 over waiting codewords in deadline order: the work before each fits six cells until its deadline. -/
def fits (now one : Nat) : Nat → List Codeword → Bool
  | _, [] => true
  | w, c :: l => w + one ≤ 6 * (c.deadline - now) && fits now one (w + one) l

/-- Is the gallery in overload (R156)? -/
def State.overloaded (s : State) : Bool :=
  !fits s.half (cellTime s.maxIter) s.runningWork (s.dec.waiting.foldr insertCw [])

/-- DEC_STATUS follows the gallery; with nothing waiting the test of R156 holds. -/
def State.showDec (s : State) : State :=
  let s := s.setFld A.decStatus F.decStatus_waiting s.dec.waiting.length
  let s := s.setFld A.decStatus F.decStatus_cells_busy (s.dec.cells.foldl (fun m e => setBit m e.1) 0)
  if s.dec.waiting.isEmpty then s.setFld A.decStatus F.decStatus_overload 0 else s

/-- The overload test is made; an entry is counted (R156) (log entry 46). -/
def State.testOverload (s : State) : State :=
  let o := s.overloaded
  let s := if o ∧ !s.bit A.decStatus F.decStatus_overload then s.count A.decOverloadEntry else s
  s.setFld A.decStatus F.decStatus_overload (if o then 1 else 0)

/-- The PPDU that a radio's codewords and frames belong to: the one in reception, else the last received. -/
def RadState.ppdu (x : RadState) : Option Rx := if x.rx.isSome then x.rx else x.done

/-- The record of a PPDU set, where the radio still has it. -/
def RadState.setPpdu (x : RadState) (q : Rx) : RadState :=
  if x.rx.any (·.num == q.num) then { x with rx := some q }
  else if x.done.any (·.num == q.num) then { x with done := some q }
  else x

/-- A codeword's bits are erased with cause DEC_DEADLINE: its PPDU keeps its place (R157). -/
def State.eraseCw (s : State) (r ppdu place : Nat) : State :=
  let x := s.rd r
  match [x.rx, x.done].find? (fun q => q.any (·.num == ppdu)) with
  | some (some q) => s.setRd r (x.setPpdu { q with erased := q.erased ++ [place] })
  | _ => s

/-- A codeword is abandoned: counted for its radio, its bits erased (R157). -/
def State.abandonCw (s : State) (r ppdu place : Nat) : State := (s.count (A.decGalDeadline r)).eraseCw r ppdu place

/-- Is a WLAN PPDU's colour foreign: not the radio's (R124, R251)? -/
def State.foreignColour (s : State) (r : Nat) (c : Option Nat) : Bool :=
  match c with
  | some k => s.bit (A.radPhyCtl r) F.radPhyCtl_obss_skip && k != (Tbl.get (fun _ => WlanRadio.init) s.hmac.wrad r).colourNow
  | none => false

/-- The PPDU needs the dark DEC: lost with cause DEC_DARK, counted once (R158). -/
def State.decDark (s : State) (r : Nat) (q : Rx) : State :=
  let s := s.setRd r { (s.rd r).setPpdu { q with lost := some .decDark, counted := true } with loss := some .decDark }
  if q.counted then s else s.count (A.radRxDecDark r)

/-- The PPDU's colour is foreign: counted once, its preamble fields and duration reported to HMAC (R124). -/
def State.obssSkip (s : State) (r : Nat) (q : Rx) (pre : RxPreamble) : State :=
  if q.counted then s
  else
    let s := s.setRd r ((s.rd r).setPpdu { q with counted := true })
    (s.setWr r { s.wr r with obss := some pre }).count (A.radRxObssSkipped r)

/-- A codeword of a PPDU joins those that wait, or is abandoned for want of room (R153, R154). -/
def State.submitCw (s : State) (r : Nat) (q : Rx) (prot : Bool) (left us : Nat) : State :=
  let s := s.setRd r ((s.rd r).setPpdu { q with cws := q.cws + 1 })
  if 2048 ≤ s.dec.waiting.length then (s.abandonCw r q.num q.cws).testOverload
  else
    let c : Codeword := ⟨r, q.num, q.cws, s.half + 2 * (left + 1000 * us), prot, s.half, s.dec.num⟩
    { s with dec := { s.dec with waiting := s.dec.waiting ++ [c], num := s.dec.num + 1 } }.testOverload.showDec

/-- Does the radio submit codewords of a WLAN PPDU: one that it receives, in a format with LDPC (R121, R123)? -/
def ldpcPpdu (r : Nat) (pre : RxPreamble) : Bool := rxPreOk r pre && pre.tx.fmt != .dsss && pre.tx.fmt != .nonHt && pre.tx.fmt != .holael

/-- CODEWORD_SUBMIT: a received codeword, `left` ns before its PPDU's end, with the pilots of the symbols since the last one (R148,
R153): deadline 10 µs after the end, or 200 µs for the ordinary class; protected if Holael or solicited for voice or video. Nothing
of a PPDU lost or discarded, nor of a Holael one without an accepted H-SIG, is submitted (R128, R133); DEC dark loses the PPDU
(R158); a foreign colour is not submitted (R124) (log entry 120). -/
def execCodewordSubmit (r : Rad) (k : CwKind) (left : Nat) (syms : List (List (Int × Int × Int))) (s : State) :
    Host.Outcome State Fault Refusal :=
  .next (let s := s.trackPilots r syms
  match (s.rd r).ppdu with
  | none => s
  | some q =>
    if !s.radLit r ∨ q.lost.isSome ∨ q.discard then s
    else match k with
    | .holael => match q.hsig with
      | some (w, _) =>
        if !s.isLit 20 then s.decDark r q else s.submitCw r q true left (if immediate (hsigType w) then 10 else 200)
      | none => s
    | .wlan vv pre =>
      if !ldpcPpdu r pre then s
      else if !s.isLit 20 then s.decDark r q
      else if s.foreignColour r pre.colour then s.obssSkip r q pre
      else s.submitCw r q vv left 10)

/-- The waiting codeword next in order. -/
def State.nextCw (s : State) : Option Codeword := (s.dec.waiting.foldr insertCw []).head?

/-- GALLERY_DISPATCH: a free cell takes the next codeword; a best-effort one in overload runs at most 4 iterations and is
counted in GAL_CAPPED (R155, R156) (log entry 46). -/
def execGalleryDispatch (cell : Fin 6) (s : State) : Host.Outcome State Fault Refusal :=
  .next (if s.isLit 20 ∧ (Tbl.find? s.dec.cells cell).isNone then
    match s.nextCw with
    | none => s
    | some c =>
      let s := s.testOverload
      let cap := s.bit A.decStatus F.decStatus_overload && !c.isProtected
      let s := if cap then s.count (A.decGalCapped c.radio) else s
      let run : CellRun := ⟨c, if cap then 4 else s.maxIter, s.half⟩
      { s with dec := { s.dec with waiting := s.dec.waiting.filter (fun d => d.num != c.num)
                                   cells := Tbl.insert cell run s.dec.cells } }.showDec
  else s)

/-- A cell is free again. -/
def State.freeCell (s : State) (cell : Nat) : State :=
  { s with dec := { s.dec with cells := Tbl.erase cell s.dec.cells } }.showDec

/-- CODEWORD_DECODE_DONE: by convergence delivered decoded, at its limit delivered as failed (R152). -/
def execCodewordDecodeDone (cell : Fin 6) (converged : Bool) (s : State) : Host.Outcome State Fault Refusal :=
  .next (match Tbl.find? s.dec.cells cell with
  | some run =>
    if s.isLit 20 then
      (s.freeCell cell).count (if converged then A.decGalDecoded run.cw.radio else A.decGalFail run.cw.radio)
    else s
  | none => s)

/-- CODEWORD_DEADLINE: a waiting codeword with less than 122.5 ns left is abandoned; a running one at its deadline stops and
is delivered only if its checks are satisfied, else abandoned (R157). -/
def execCodewordDeadline (cell : Option (Fin 6)) (satisfied : Bool) (s : State) : Host.Outcome State Fault Refusal :=
  .next (if !s.isLit 20 then s
  else match cell with
  | some n => match Tbl.find? s.dec.cells n with
    | some run =>
      if s.half < run.cw.deadline then s
      else if satisfied then (s.freeCell n).count (A.decGalDecoded run.cw.radio)
      else (s.freeCell n).abandonCw run.cw.radio run.cw.ppdu run.cw.place
    | none => s
  | none => match s.nextCw with
    | some c =>
      if s.half + 245 ≤ c.deadline then s
      else { s with dec := { s.dec with waiting := s.dec.waiting.filter (fun d => d.num != c.num) } }.showDec.abandonCw
        c.radio c.ppdu c.place
    | none => s)

/-- DEC_CTL_WRITE: max_iter from 4 to 20 applies to later dispatches; another value sets cfg_err (R152). -/
def execDecCtlWrite (who : Requester) (w : Word) (s : State) : Host.Outcome State Fault Refusal :=
  .next (s.access who (A.decCtl) true fun s =>
    let n := F.decCtl_max_iter.get w
    let s := if F.decCtl_cfg_err.get w = 1 then s.setFld A.decCtl F.decCtl_cfg_err 0 else s
    (if 4 ≤ n ∧ n ≤ 20 then s.setFld A.decCtl F.decCtl_max_iter n else s.setFld A.decCtl F.decCtl_cfg_err 1).busOk 0)

end Sys2Proof.Machine
end

