-- ==== Sys2Proof/Machine/Calibration.lean ====
section
/-!
DEFINITION. Calibration on live traffic (R164–R191). Levels and angles are in 0.01 dB and 0.01 degrees.
-/

namespace Sys2Proof.Machine

/-- The state with a radio's calibration set. -/
def State.setCal (s : State) (r : Nat) (c : CalState) : State := s.setRd r { s.rd r with cal := c }

/-- Is a loop enabled (R164)? -/
def State.loopOn (s : State) (r n : Nat) : Bool := (s.fld (A.radCalCtl r) F.radCalCtl_loop_en).testBit n

/-- Key of a flowstone entry or set: loop, chain, gain state; loop 3 is kept per chain (R172). -/
def calKey (loop chain gs : Nat) : Nat := 64 * loop + 8 * chain + (if loop = 3 then 0 else gs)

/-- Estimates in one flowstone entry: 2^fs_shift, 3 to 8. -/
def State.fsDepth (s : State) (r : Nat) : Nat := 2 ^ (min 8 (max 3 (s.fld (A.radCalCtl r) F.radCalCtl_fs_shift)))

/-- Absolute value. -/
def absI (x : Int) : Int := if x < 0 then -x else x

/-- Does a new mean leave the dead band around the set in force (R164)? -/
def outOfBand (loop : Nat) (est est2 : Int) (f : CalSet) : Bool :=
  match loop with
  | 0 => 50 < absI (est - f.est)
  | 1 => 50 < absI (est - f.est)
  | 2 => 30 < absI (est - f.est)
  | _ => 100 < absI (est - f.est) || 20 < absI (est2 - f.est2)

/-- A staged set replaces any earlier one of the same loop, chain and gain state; of loop 3, of the same chain (R172, R181). -/
def stageIn (l : List Staged) (n : Staged) : List Staged :=
  l.filter (fun m => calKey m.loop m.chain m.gs != calKey n.loop n.chain n.gs) ++ [n]

/-- Does anything wait for application? -/
def CalState.waits (c : CalState) : Bool := !c.staged.isEmpty || c.gainNew.isSome || !c.bandNew.isEmpty

/-- CAL_STATE.staged follows. -/
def State.showStaged (s : State) (r : Nat) : State :=
  s.setFld (A.radCalState r) F.radCalState_staged (if (s.rd r).cal.waits then 1 else 0)

/-- One estimate of a loop enters the flowstone; a full entry stages a set, rejects it, or does neither, and clears
(R172, R173). `pred` is the EVM that a set computed from the mean would have; an alignment set leaves a chain's EVM as measured
(log entry 41). -/
def State.flowIn (s : State) (r loop chain gs : Nat) (est est2 evm pred : Int) (coefs : List (Int × Int)) : State :=
  if !s.loopOn r loop ∨ (loop = 2 ∧ 4 < gs) then s
  else
    let c := (s.rd r).cal
    let k := calKey loop chain gs
    let f := Tbl.get (fun _ => Flow.empty) c.flow k
    let f : Flow := ⟨f.sum + est, f.sum2 + est2, f.evm + evm, f.count + 1⟩
    if f.count < s.fsDepth r then s.setCal r { c with flow := Tbl.set (fun _ => Flow.empty) k f c.flow }
    else
      let n : Int := f.count
      let m := f.sum / n
      let m2 := f.sum2 / n
      let e := f.evm / n
      let s := s.setCal r { c with flow := Tbl.erase k c.flow }
      let c := (s.rd r).cal
      if !outOfBand loop m m2 (Tbl.get (fun _ => CalSet.none) c.inForce k) then s
      else if loop < 3 ∧ e + 50 < pred then s.count (A.radCalReject r)
      else (s.setCal r { c with staged := stageIn c.staged ⟨loop, chain, gs, ⟨m, m2, if loop = 3 then e else pred, coefs⟩, e⟩
                         }).showStaged r

/-- A capture counts toward the watch of R182; the eighth restores the old sets when the mean EVM is more than 3 dB worse
than the one recorded: that mean is then the EVM measured under the sets leaving force, the one recorded the EVM that the
restored sets have. -/
def State.watchIn (s : State) (r chain gs : Nat) (evm : Int) : State :=
  let c := (s.rd r).cal
  let k := 8 * chain + gs
  match Tbl.find? c.watch k with
  | none => s
  | some w =>
    if w.taken + 1 < 8 then
      s.setCal r { c with watch := Tbl.insert k { w with taken := w.taken + 1, sum := w.sum + evm } c.watch }
    else if w.oldEvm + 300 < (w.sum + evm) / 8 then
      let old := w.old.map (fun o => { o with set := { o.set with evm := w.oldEvm }, measured := (w.sum + evm) / 8 })
      ((s.setCal r { c with watch := Tbl.erase k c.watch, staged := old.foldl stageIn c.staged }).showStaged r).count
        (A.radCalRevert r)
    else s.setCal r { c with watch := Tbl.erase k c.watch }

/-- CAPTURE_COMPLETE: discarded when the PPDU ended early, a set was applied meanwhile, the input clipped or the power lay
too low; else one estimate for each of loops 0 to 3 (R168, R172, R177, R182) (log entry 41). -/
def execCaptureComplete (r : Rad) (e : CapEst) (clipped low : Bool) (s : State) : Host.Outcome State Fault Refusal :=
  .next (match (s.rd r).cal.capture with
  | none => s
  | some q =>
    if !s.radLit r then s
    else
      let next : Option Capture := match q.rest, (s.rd r).air with
        | n :: ns, some a => some ⟨n, s.chainGs r a.cmd n, q.bad, ns⟩
        | _, _ => none
      let s := s.setRd r { s.rd r with obsSel := (next.map (·.chain)).getD (s.rd r).obsSel
                                       cal := { (s.rd r).cal with capture := next } }
      if q.bad ∨ clipped ∨ low then s.count (A.radCalCaptureDiscard r)
      else
        let s := s.flowIn r 0 q.chain q.gs e.leak 0 e.evm e.pred0 []
        let s := s.flowIn r 1 q.chain q.gs e.image 0 e.evm e.pred1 []
        let s := s.flowIn r 2 q.chain q.gs e.predist 0 e.evm e.pred2 e.coefs
        let s := s.flowIn r 3 q.chain q.gs e.phase e.gain e.evm 0 []
        s.watchIn r q.chain q.gs e.evm)

/-! ### Application (R179–R187) -/

/-- The next version's update field. -/
def nextUpdate (u : Nat) : Nat := if u = 0xFFFFFF then 1 else u + 1

/-- An EVM as rad_CAL_EVM shows it: magnitude in 0.25 dB. -/
def evmCode (e : Int) : Nat := (clampI 0 254 (-e / 25)).toNat

/-- The 20 predistortion coefficients of a chain and gain state, in force; a set that names fewer has zeros for the rest (R166). -/
def State.putCoefs (s : State) (r c g : Nat) (l : List (Int × Int)) : State :=
  (List.range 20).foldl (fun s k =>
    let x := l.getD k (0, 0)
    (s.setFld (A.radCalCoefW0 r c g k) F.radCalCoefW0_coef_i (unsigned 18 x.1)).setFld
      (A.radCalCoefW1 r c g k) F.radCalCoefW1_coef_q (unsigned 18 x.2)) s

/-- Flowstone entries of a chain, or of the chain's gain state where one is given, cleared; loop 3's belongs to all of them (R174). -/
def dropFlow (f : Tbl Flow) (chain : Nat) (gs : Option Nat) : Tbl Flow :=
  Tbl.drop (fun k => k / 8 % 8 == chain && (match gs with | some g => k % 8 == g || k / 64 == 3 | none => true)) f

/-- One staged set enters force (R174, R180, R182). A further set for a chain and gain state under watch starts the 8 captures anew;
a revert then restores what the earlier one replaced too, but of the same loop the set last replaced (log entry 48). -/
def State.applySet (s : State) (r : Nat) (n : Staged) : State :=
  let c := (s.rd r).cal
  let k := calKey n.loop n.chain n.gs
  let old : Staged := { n with set := Tbl.get (fun _ => CalSet.none) c.inForce k, measured := n.set.evm }
  let wk := 8 * n.chain + n.gs
  let w : Watch := match Tbl.find? c.watch wk with
    | some w => { w with taken := 0, sum := 0, oldEvm := n.measured, old := stageIn w.old old }
    | none => ⟨0, 0, n.measured, [old]⟩
  let s := s.setCal r { c with inForce := Tbl.insert k n.set c.inForce
                               flow := dropFlow c.flow n.chain (if n.loop = 3 then none else some n.gs)
                               watch := if n.loop < 3 then Tbl.insert wk w c.watch else c.watch
                               capture := c.capture.map (fun q => if q.chain = n.chain then { q with bad := true } else q) }
  let s := s.setReg (A.radCalEvm r (n.chain % 8)) (BitVec.ofNat 32
    (n.gs % 8 * 65536 + evmCode n.measured * 256 + evmCode n.set.evm))
  if n.loop = 2 ∧ n.gs ≤ 4 then s.putCoefs r (n.chain % 8) n.gs n.set.coefs else s

/-- Refresh hold-off of a radio, ns (R184). -/
def State.refreshHoldoff (s : State) (r : Nat) : Nat := 1000000 * s.fld (A.radCalTrig r) F.radCalTrig_refresh_holdoff

/-- A map refresh request to a partner on a band (R184): nothing while one is unsent; deferred within refresh_holdoff of
the last sent. -/
def State.askRefresh (s : State) (r p : Nat) : State :=
  let q := Tbl.get (fun _ => HolPeer.init) s.hmac.hol.peers p
  let q' :=
    if q.refUnsent.testBit r then q
    else match Tbl.find? q.refSent r with
      | some t => if s.elapsed < t + s.refreshHoldoff r then { q with refDeferred := setBit q.refDeferred r }
        else { q with refUnsent := setBit q.refUnsent r }
      | none => { q with refUnsent := setBit q.refUnsent r }
  { s with hmac := { s.hmac with hol := { s.hmac.hol with
      peers := Tbl.set (fun _ => HolPeer.init) p q' s.hmac.hol.peers } } }

/-- A loading trigger: CAL_REFRESH_REQ, and a request to every partner with a valid transmit map on the band (R183). -/
def State.loadingTrigger (s : State) (r : Nat) : State :=
  let s := s.count (A.radCalRefreshReq r)
  let ps := ((s.hmac.hol.maps.filter (fun m => m.valid && m.kind == 1 && m.band == r)).map (·.partner)).eraseDups
  if s.isLit 21 then ps.foldl (fun s p => s.askRefresh r p) s else s

/-- Transmit maps with more streams than the radio has transmitting chains become not valid (R185). -/
def State.trimMaps (s : State) (r : Nat) : State :=
  let n := ones (s.txChains r)
  { s with hmac := { s.hmac with hol := { s.hmac.hol with maps := s.hmac.hol.maps.map (fun m =>
      if m.kind = 1 ∧ m.band = r ∧ n < m.streams then { m with valid := false } else m) } } }

/-- The radio of a station table entry (R252). -/
def entryRadio (n : Nat) : Nat := if n < 512 then 0 else if n < 1024 then 1 else 2

/-- The radio's WLAN steering matrices are stale (R187). -/
def State.staleSteering (s : State) (r : Nat) : State :=
  let s := s.setCal r { (s.rd r).cal with steerStale := true }
  { s with hmac := { s.hmac with links := s.hmac.links.map (fun e =>
      if entryRadio e.1 = r then (e.1, { e.2 with stale := true }) else e) } }

/-- Did an alignment application move a chain too far against the reference chain, the lowest that transmits (R187)? -/
def alignMoved (trig : Nat) (tx : List Nat) (inForce : Tbl CalSet) (l : List Staged) : Bool :=
  let al := l.filter (fun n => n.loop == 3)
  let move (ch : Nat) : Int × Int := match al.reverse.find? (fun n => n.chain == ch) with
    | some n =>
      let f := Tbl.get (fun _ => CalSet.none) inForce (calKey 3 n.chain 0)
      (n.set.est - f.est, n.set.est2 - f.est2)
    | none => (0, 0)
  let r0 := move (tx.headD 0)
  (tx ++ al.map (·.chain)).any (fun ch => (100 * trig : Int) < absI ((move ch).1 - r0.1) || 50 < absI ((move ch).2 - r0.2))

/-- Back-off and mute changes due (R110, R111, R180): bits not yet in effect. -/
def State.changesDue (s : State) (r : Nat) : Bool :=
  let x := s.rd r
  s.fld (A.radDetStatus r) F.radDetStatus_muted != x.muted || s.fld (A.radDetStatus r) F.radDetStatus_backed_off != x.backedOff
    || x.relDue != 0 || x.muteDue != 0

/-- A back-off or mute change of a chain clears its flowstone entries, and a capture still to come of it is discarded (R174). -/
def State.freshChain (s : State) (r ch : Nat) : State :=
  let c := (s.rd r).cal
  s.setCal r { c with flow := dropFlow c.flow ch none
                      capture := c.capture.map (fun q => if q.chain = ch then { q with bad := true } else q) }

/-- Is an application a loading trigger: a back-off or mute change, or an EVM that moves by more than evm_trigger, 0 for any
application but one of receive gain alone (R183, R186)? -/
def loads (trig : Nat) (changed : List Nat) (c : CalState) : Bool :=
  !changed.isEmpty || (trig == 0 && (!c.staged.isEmpty || !c.bandNew.isEmpty))
    || c.staged.any (fun n => (10 * trig : Int) < absI (n.measured - n.set.evm))

/-- CAL_APPLY: with no PPDU in the air and none committed, everything staged and every change due applies under one new
version, at most one in 10 ms unless a back-off or mute change is due (R180–R187). Partners are asked for a refresh by the maps valid
before those with too many streams are marked (log entry 48). -/
def execCalApply (r : Rad) (s : State) : Host.Outcome State Fault Refusal :=
  .next (let x := s.rd r
  let c := x.cal
  let due := s.changesDue r
  let spaced : Bool := match c.lastApply with | some t => decide (t + 10000000 ≤ s.elapsed) | none => true
  if s.radLit r ∧ s.radIdle r ∧ (due ∨ (c.waits ∧ spaced)) then
    let st := A.radDetStatus r
    let muted := s.fld st F.radDetStatus_muted ||| x.muteDue
    let backed := without (s.fld st F.radDetStatus_backed_off) x.relDue
    let changed := bitsOf 8 ((muted ^^^ x.muted) ||| (backed ^^^ x.backedOff))
    let trig := s.fld (A.radCalTrig r) F.radCalTrig_evm_trigger
    let moved := alignMoved (s.fld (A.radCalTrig r) F.radCalTrig_phase_trigger) (bitsOf 8 (s.txChains r)) c.inForce c.staged
    let load := loads trig changed c
    let s := (s.setFld st F.radDetStatus_muted muted).setFld st F.radDetStatus_backed_off backed
    let s := s.setRd r { x with muted := muted, backedOff := backed, relDue := 0, muteDue := 0 }
    let s := c.staged.foldl (fun s n => s.applySet r n) s
    let s := changed.foldl (fun s ch => s.freshChain r ch) s
    let c := (s.rd r).cal
    let s := s.setCal r { c with staged := [], gainNew := none, bandNew := [], lastApply := some s.elapsed
                                 gainTable := c.gainNew.getD c.gainTable
                                 bands := c.bandNew.foldl (fun t e => Tbl.insert e.1 e.2 t) c.bands }
    let v := A.radCalVersion r
    let s := (s.setFld v F.radCalVersion_update (nextUpdate (s.fld v F.radCalVersion_update))).count (A.radCalUpdate r)
    let s := s.showStaged r
    let s := if load then s.loadingTrigger r else s
    let s := if changed.isEmpty then s else s.trimMaps r
    if moved then s.staleSteering r else s
  else s)

/-- REFRESH_HOLDOFF_EXPIRY: one further request to the partner is released (R184). -/
def execRefreshHoldoffExpiry (r : Rad) (p : Fin 1025) (s : State) : Host.Outcome State Fault Refusal :=
  .next (let q := Tbl.get (fun _ => HolPeer.init) s.hmac.hol.peers p
  if s.isLit 21 ∧ q.refDeferred.testBit r ∧ (Tbl.find? q.refSent r).all (fun t => t + s.refreshHoldoff r ≤ s.elapsed) then
    let q := { q with refDeferred := clrBit q.refDeferred r, refUnsent := setBit q.refUnsent r }
    { s with hmac := { s.hmac with hol := { s.hmac.hol with
        peers := Tbl.set (fun _ => HolPeer.init) p q s.hmac.hol.peers } } }
  else s)

/-! ### Steps (R169–R171) -/

/-- CAL_STEP_START: while not transmitting and with no command committed; a loopback step of a receive gain update, not in a Holael
window and only with gain control IDLE, holds LNA_EN of its chains low; a probe on the standby synthesiser (R169, R170). -/
def execCalStepStart (r : Rad) (k : CalStep) (s : State) : Host.Outcome State Fault Refusal :=
  .next (let x := s.rd r
  let mine : Bool := match k with
    | .loopback t q _ => s.loopOn r 4 && t.val < chainsOf r && q.val < chainsOf r && x.cal.gainRun.isSome
    | .probe _ => s.loopOn r 5
  if s.radLit r ∧ mine ∧ s.stepMay r k then
    ((((s.setCal r { x.cal with step := some ⟨k, s.elapsed⟩, yielded := none }).showStep r).restLna r).showSlot r)
  else s)

/-- All 26 gain steps of every receive chain of the radio are measured (R171). -/
def gainComplete (r : Nat) (done : Tbl Int) : Bool :=
  (List.range (chainsOf r)).all (fun c => (List.range 26).all (fun g => (Tbl.find? done (32 * c + g)).isSome))

/-- Has a receive gain left the 0.25 dB dead band of the table in force (R164)? -/
def gainMoved (table done : Tbl Int) : Bool := done.any (fun e => 1 < absI (e.2 - Tbl.get (fun _ => 0) table e.1))

/-- CAL_STEP_END: the result of a loopback step (gain in 0.25 dB) joins the receive gain update, which ends with the last
one and is staged when a value leaves the dead band; a probe's result is the band of a 20 MHz sub-band, with the tuning margin
found there in 1/256 of the band (R164, R171) (log entry 48). -/
def execCalStepEnd (r : Rad) (value : Int) (sub margin : Nat) (s : State) : Host.Outcome State Fault Refusal :=
  .next (let c := (s.rd r).cal
  match c.step with
  | none => s
  | some ⟨k, _⟩ =>
    if !s.radLit r then s
    else match k with
    | .loopback _ q g =>
      let done := Tbl.insert (32 * q.val + g.val) value c.gainDone
      let s := ((s.setCal r { c with step := none, gainDone := done }).showStep r).restLna r
      if c.gainRun.isSome ∧ gainComplete r done then
        let c := (s.rd r).cal
        ((s.setCal r { c with gainRun := none, gainAt := s.elapsed
                              gainNew := if gainMoved c.gainTable done then some done else c.gainNew }).showStaged r).showSlot r
      else s.showSlot r
    | .probe n =>
      let s := (s.setCal r { c with step := none }).showStep r
      (s.bandResult r (512 * n.val + sub % 512) value.toNat margin).showSlot r)

/-- CAL_STEP_ABORT: a step that a waiting command needs out of its way yields: discarded whole and counted, to resume after the
command's RF (R102, R169). A step that gain control, a retune or a Holael window ends is ended where that happens. -/
def execCalStepAbort (r : Rad) (s : State) : Host.Outcome State Fault Refusal :=
  .next (let x := s.rd r
  if s.radLit r ∧ x.slot.any (fun p => p.commit.isNone && x.stepBlocks (s.holding r p.cmd.centre) p.cmd.chains) then
    (s.dropStep r true).showSlot r
  else s)

/-- Die temperature of the sensor nearest the radio, 0.125 °C (R171, R525). -/
def State.radTemp (s : State) (r : Nat) : Int := s.cdm.die.getD (9 + r) 0

/-- RX_GAIN_TRIGGER: 2 °C from the last table, or 10 s after it, starts an update (R164, R171) (log entry 48). -/
def execRxGainTrigger (r : Rad) (s : State) : Host.Outcome State Fault Refusal :=
  .next (let c := (s.rd r).cal
  if s.radLit r ∧ s.loopOn r 4 ∧ c.gainRun.isNone
      ∧ (16 ≤ absI (s.radTemp r - c.gainTemp) ∨ c.gainAt + 10 * nsPerSec ≤ s.elapsed) then
    s.setCal r { c with gainRun := some s.elapsed, gainDone := [], gainTemp := s.radTemp r }
  else s)

/-- RX_GAIN_UPDATE_TIMEOUT: an update not finished within 1 s is abandoned and started again (R171) (log entry 43). -/
def execRxGainUpdateTimeout (r : Rad) (s : State) : Host.Outcome State Fault Refusal :=
  .next (let c := (s.rd r).cal
  if s.radLit r ∧ c.gainRun.any (fun t => t + nsPerSec ≤ s.elapsed) then
    s.setCal r { c with gainRun := some s.elapsed, gainDone := [], gainTemp := s.radTemp r }
  else s)

/-! ### Thin chains (R175) -/

/-- The thin window in ns; 0 acts as 1 ms. -/
def State.thinWindow (s : State) (r : Nat) : Nat := 1000000 * max 1 (s.fld (A.radCalThin r) F.radCalThin_thin_window)

/-- RF of the PPDU in the air so far, as the log will have it. -/
def State.rfNow (s : State) (r : Nat) : List RfLog :=
  match (s.rd r).air with
  | some a => [⟨a.chains, a.gs, a.start, s.nowNs, a.cmd.cal.isSome⟩]
  | none => []

/-- RF time of a chain within the window, calibration frames apart (R175). -/
def State.rfTime (s : State) (r c : Nat) : Nat :=
  let lo := s.nowNs - s.thinWindow r
  (((s.rd r).cal.rfLog ++ s.rfNow r).filter (fun l => !l.cal && l.chains.testBit c)).foldl (fun a l =>
    a + (l.stop - max lo l.start)) 0

/-! ### Opcodes -/

/-- CAL_INVALIDATE: the radio's record is marked invalid; the sets in force stay (R190). -/
def execCalInvalidate (src : CmdSource) (s : State) : Host.Outcome State Fault Refusal :=
  .next (s.withRequest src .calInvalidate fun s r =>
    let s := { s with flash := { s.flash with calValid := s.flash.calValid.set (r.island - 17) false } }
    s.finishEv r r.island .calInvalidate 1 0 0 [])

/-- CAL_STATUS: calibration version 4, muted chains 2, reserved 2 (R84, R111). -/
def execCalStatus (src : CmdSource) (s : State) : Host.Outcome State Fault Refusal :=
  .next (s.withRequest src .calStatus fun s r =>
    let n := r.island - 17
    s.finish r ST.ok none (Crypto.toBE 4 (s.reg (A.radCalVersion n)).toNat
      ++ Crypto.toBE 2 (s.fld (A.radDetStatus n) F.radDetStatus_muted) ++ [0, 0]))

end Sys2Proof.Machine
end

