-- ==== Sys2Proof/Machine/Lanes.lean ====
section
/-!
DEFINITION. What runs on a serial lane: the 8b/10b code, symbol lock, Kalhar Link training sequences, frames in columns and control
blocks (R363, R364, R370–R373). A code group is a number of 10 bits, the first on the wire highest (log entry 124).
-/

namespace Sys2Proof.Machine

/-! ### The 8b/10b code (IEEE 802.3 clause 36) -/

/-- 5b/6b sub-blocks of D.0 to D.31 at negative running disparity. -/
def d6 : List Nat :=
  [0b100111, 0b011101, 0b101101, 0b110001, 0b110101, 0b101001, 0b011001, 0b111000, 0b111001, 0b100101, 0b010101, 0b110100
   , 0b001101, 0b101100, 0b011100, 0b010111, 0b011011, 0b100011, 0b010011, 0b110010, 0b001011, 0b101010, 0b011010, 0b111010
   , 0b110011, 0b100110, 0b010110, 0b110110, 0b001110, 0b101110, 0b011110, 0b101011]

/-- 3b/4b sub-blocks of data and of special symbols at negative running disparity. -/
def d4 : List Nat := [0b1011, 0b1001, 0b0101, 0b1100, 0b1101, 0b1010, 0b0110, 0b1110]
def k4 : List Nat := [0b1011, 0b0110, 0b1010, 0b1100, 0b1101, 0b0101, 0b1001, 0b0111]

/-- Ones among the low n bits. -/
def onesOf (n c : Nat) : Nat := ((List.range n).filter (fun i => c.testBit i)).length

/-- Running disparity (true: positive) after a sub-block of n bits. -/
def rdAfter (rd : Bool) (n c : Nat) : Bool :=
  if n < 2 * onesOf n c then true
  else if 2 * onesOf n c < n then false
  else if (n = 6 ∧ c = 0b000111) ∨ (n = 4 ∧ c = 0b0011) then true
  else if (n = 6 ∧ c = 0b111000) ∨ (n = 4 ∧ c = 0b1100) then false
  else rd

/-- The code group of a data (k false) or special symbol at a running disparity. -/
def encode10 (k : Bool) (v : Nat) (rd : Bool) : Nat :=
  let x := v % 32
  let y := v / 32 % 8
  let c := if k ∧ x = 28 then 0b001111 else d6.getD x 0
  let c := if rd ∧ (onesOf 6 c ≠ 3 ∨ c = 0b111000) then 63 - c else c
  let rd := rdAfter rd 6 c
  let e :=
    if k then (if rd then 15 - k4.getD y 0 else k4.getD y 0)
    else if y = 7 ∧ ((!rd && [17, 18, 20].contains x) || (rd && [11, 13, 14].contains x)) then (if rd then 0b1000 else 0b0111)
    else
      let e := d4.getD y 0
      if rd ∧ (onesOf 4 e ≠ 2 ∨ e = 0b1100) then 15 - e else e
  c * 16 + e

/-- The symbols of the code table: 256 data symbols, and the special symbols K28.0 to K28.7, K23.7, K27.7, K29.7 and K30.7. -/
def symbols : List (Bool × Nat) :=
  (List.range 256).map (fun v => (false, v)) ++ ([28, 60, 92, 124, 156, 188, 220, 252, 247, 251, 253, 254]).map (fun v => (true, v))

/-- The symbol of a code group at a running disparity; none where the group is not in that column of the table. -/
def decode10 (g : Nat) (rd : Bool) : Option (Bool × Nat) := symbols.find? (fun s => encode10 s.1 s.2 rd == g)

/-- The symbol of a code group of either column. -/
def anyDecode (g : Nat) : Option (Bool × Nat) := (decode10 g false).orElse (fun _ => decode10 g true)

/-! ### Symbol lock (R363; clause 36) -/

/-- Does a group begin with a comma? K28.1, K28.5 and K28.7 do. -/
def isComma (g : Nat) : Bool := g / 8 == 0b0011111 || g / 8 == 0b1100000

/-- What a group counts as: an invalid symbol (R363), a valid one of the wrong disparity, or neither. -/
inductive GroupErr where
  | code | disp | good
  deriving DecidableEq, Repr

def groupErr (g : Nat) (rd : Bool) : GroupErr :=
  if (decode10 g rd).isSome then .good else if (decode10 g !rd).isSome then .disp else .code

/-- The next state of the synchronisation state machine, states numbered LOSS_OF_SYNC 0, COMMA_DETECT and ACQUIRE_SYNC 1 to 5,
SYNC_ACQUIRED_1 6, then SYNC_ACQUIRED_2, 2A, 3, 3A, 4, 4A; with the count of good groups in the A states. -/
def syncNext (st good : Nat) (ok comma data even : Bool) : Nat × Nat :=
  let bad := !ok || (comma && even)
  let back := if good = 3 then 1 else 0
  if st = 0 then (if comma then 1 else 0, 0)
  else if st = 1 ∨ st = 3 then (if data then st + 1 else 0, 0)
  else if st = 5 then (if data then 6 else 0, 0)
  else if st = 2 ∨ st = 4 then (if bad then 0 else if comma then st + 1 else st, 0)
  else if st = 6 then (if bad then 7 else 6, 0)
  else if st = 7 ∨ st = 9 ∨ st = 11 then (if bad then (if st = 11 then 0 else st + 2) else st + 1, if bad then 0 else 1)
  else if bad then (if st = 12 then 0 else st + 1, 0)
  else if back = 1 then (if st = 8 then 6 else st - 3, 0)
  else (st, good + 1)

/-- A lane's receiver after a group, and what the group counts as; before lock is sought no symbol is told apart. -/
def LaneRx.group (x : LaneRx) (g : Nat) : LaneRx × GroupErr :=
  let e := groupErr g x.rd
  let data := (decode10 g x.rd).any (fun s => !s.1)
  let (st, good) := syncNext x.st x.good (e == .good) (isComma g) data x.even
  ({ x with st := st, good := good, even := if st = 1 ∨ st = 3 ∨ st = 5 then true else !x.even
            rd := rdAfter (rdAfter x.rd 6 (g / 16)) 4 (g % 16), cnt := 0 }, if x.st = 0 then .good else e)

/-- A lane's receiver after a bit: out of sync, a comma at any place sets the symbol boundary. -/
def LaneRx.bit (x : LaneRx) (b : Bool) : LaneRx × GroupErr :=
  let x := { x with sr := (2 * x.sr + (if b then 1 else 0)) % 1024, cnt := x.cnt + 1 }
  if x.st = 0 ∧ isComma x.sr then { x with rd := x.sr / 512 == 1 }.group x.sr
  else if x.cnt = 10 then x.group x.sr else (x, .good)

/-- After a run of bits: the receiver, invalid symbols, and symbols of wrong disparity. -/
def LaneRx.run (x : LaneRx) (bits : List Bool) : LaneRx × Nat × Nat :=
  bits.foldl (fun (r : LaneRx × Nat × Nat) b =>
    match r.1.bit b with
    | (y, .code) => (y, r.2.1 + 1, r.2.2)
    | (y, .disp) => (y, r.2.1, r.2.2 + 1)
    | (y, .good) => (y, r.2.1, r.2.2)) (x, 0, 0)

/-- Has the receiver symbol lock? -/
def LaneRx.locked (x : LaneRx) : Bool := 6 ≤ x.st

/-! ### Training sequences of Kalhar Link (R364) -/

/-- A training sequence read: TS1 or TS2, lane number, revision, rate and width codes, flags, and whether the lane is inverted. -/
structure Training where
  second : Bool
  lane : Nat
  rev : Nat
  rate : Nat
  width : Nat
  flags : Nat
  inverted : Bool
  deriving DecidableEq, Repr

/-- The 16 symbols of a training sequence: K28.5, D10.2 or D5.2, five values, and the second symbol again. -/
def readTraining (inverted : Bool) (gs : List Nat) : Option Training :=
  let syms := gs.map (fun g => anyDecode (if inverted then 1023 - g else g))
  let d (i : Nat) : Option Nat := match syms.getD i none with | some (false, v) => some v | _ => none
  match d 1, d 2, d 3, d 4, d 5, d 6 with
  | some t, some l, some rev, some rate, some w, some f =>
    if syms.length = 16 ∧ syms.head? = some (some (true, 188)) ∧ (t = 74 ∨ t = 69) ∧ (syms.drop 7).all (· == some (false, t)) then
      some ⟨t == 69, l, rev, rate, w, f, inverted⟩
    else none
  | _, _, _, _, _, _ => none

/-- The training sequence on a lane, as received or inverted. -/
def trainingOf (gs : List Nat) : Option Training := (readTraining false gs).orElse (fun _ => readTraining true gs)

/-! ### Frames and control blocks (R370–R373) -/

/-- A symbol of Kalhar Link. -/
inductive KlSym where
  | start | term | error | idle | marker | ctl
  | data (b : Nat)
  deriving DecidableEq, Repr

/-- Its value in the code table: special or data, and the byte (R370). -/
def KlSym.code : KlSym → Bool × Nat
  | .start => (true, 251) | .term => (true, 253) | .error => (true, 254) | .idle => (true, 188) | .marker => (true, 124)
  | .ctl => (true, 28) | .data b => (false, b)

/-- Columns of a frame of n bytes with FCS on w lanes, without the idle column behind it (R371). -/
def klCols (w n : Nat) : Nat := (n + 1 + w) / w

/-- The symbol of a frame, its bytes with FCS, in a column on a lane of w (R371); `bad` where it is ended with /E/ before /T/. -/
def klFrameSym (w : Nat) (f : List Nat) (bad : Bool) (col lane : Nat) : KlSym :=
  let i := col * w + lane
  let n := f.length + (if bad then 1 else 0)
  if i = 0 then .start
  else if i ≤ f.length then .data (f.getD (i - 1) 0)
  else if bad ∧ i = n then .error
  else if i = n + 1 then .term else .idle

/-- One copy of a control block: four symbols, /C/ and three values. -/
def ctlCopy (gs : List Nat) : Option (Nat × Nat × Nat) :=
  match gs.map anyDecode with
  | [some (true, 28), some (false, t), some (false, a), some (false, b)] => some (t, a, b)
  | _ => none

/-- The control block received: of lane 0 where its copy is whole, else of the lowest lane whose copy is (R373). -/
def ctlOf (copies : List (List Nat)) : Option (Nat × Nat × Nat) := copies.findSome? ctlCopy

end Sys2Proof.Machine
end

