-- ==== Sys2Proof/Machine/Memory.lean ====
section
/-!
DEFINITION. The physical address space: the dark responder, DRAM chambers and checks, the packet store, and reads and writes
of ranges by the device's own engines (R24, R25, R460–R467, R476–R481, R499–R501).
-/

namespace Sys2Proof.Machine

/-! ### Chambers (R460–R466) -/

/-- First DRAM address. -/
def dramBase : Nat := 0x1000000000

/-- A chamber entry; base and visible size in bytes. -/
structure Chamber where
  mirrored : Bool
  retained : Bool
  ecc : Bool
  owner : Nat
  base : Nat
  size : Nat
  deriving DecidableEq, Repr

/-- Entry c of a MEM island's table, as its words give it. -/
def State.chamber (s : State) (n c : Nat) : Chamber :=
  let w0 := A.memChamberW0 n c
  { mirrored := s.bit w0 F.memChamberW0_mirrored, retained := s.bit w0 F.memChamberW0_retained
    ecc := s.bit w0 F.memChamberW0_ecc, owner := s.fld w0 F.memChamberW0_owner
    base := 0x200000 * s.fld (A.memChamberW1 n c) F.memChamberW1_base
    size := 0x200000 * s.fld (A.memChamberW2 n c) F.memChamberW2_size }

/-- Bytes of DRAM that a chamber consumes (R462). -/
def Chamber.span (c : Chamber) : Nat := if c.mirrored then 2 * c.size else c.size

/-- The valid entries of a MEM island's table. -/
def State.chambers (s : State) (n : Nat) : List Chamber :=
  ((List.range 32).filter (fun c => s.bit (A.memChamberW0 n c) F.memChamberW0_valid)).map (s.chamber n)

/-- The table in force: of a lit MEM island. -/
def State.chamberTable (s : State) : List Chamber := if s.isLit 11 then s.chambers 0 else s.chambers 1

/-- The chamber whose data or alias holds an offset. -/
def State.chamberAt (s : State) (x : Nat) : Option Chamber :=
  s.chamberTable.find? (fun c => c.base ≤ x && x < c.base + c.span)

/-- Is the top eighth reserved for check bytes (R461)? -/
def State.eccReserve (s : State) : Bool :=
  s.bit (A.memCfg 0) F.memCfg_ecc_reserve && s.bit (A.memCfg 1) F.memCfg_ecc_reserve

/-- The channel of an offset (R460). -/
def chanOf (x : Nat) : Nat := x / 4096 % 2

/-- Is a channel held (R480)? -/
def State.held (s : State) (n : Nat) : Bool := s.bit (A.memMirror n) F.memMirror_held

/-- Mirror state, 0 IN_SYNC, 1 SINGLE, 2 RESYNC, one for the device and shown in both islands. -/
def State.mirror (s : State) : Nat :=
  s.fld (A.memMirror (if s.isLit 11 then 0 else 1)) F.memMirror_state
def State.setMirror (s : State) (v : Nat) : State :=
  (s.setFld (A.memMirror 0) F.memMirror_state v).setFld (A.memMirror 1) F.memMirror_state v

/-- The island an access is issued by (R465). -/
def issuer : Requester → Nat
  | .core k => 6 + k.val / 8
  | .glove _ => 1
  | .dma _ => 9
  | .island i => i.val

/-- A channel that serves mirrored chambers for this requester. -/
def State.serving (s : State) (who : Requester) : List Nat :=
  [0, 1].filter (fun n => s.answers who (memId n) && !s.held n)

/-- The channel whose copy an access to a chamber reads: of its address; of a mirrored chamber out of sync, the live one
(log entry 112). -/
def State.servedBy (s : State) (who : Requester) (c : Chamber) (x : Nat) : Nat :=
  if !c.mirrored then chanOf x
  else
    let n := if s.mirror = 2 then 1 - s.dram.returning else chanOf x
    if (s.serving who).contains n then n else 1 - n

/-- A channel's refusal: the dark responder, or the bus error of a hold, counted, the first logged (R480). -/
def State.chanRefuse (s : State) (who : Requester) (n x : Nat) (write : Bool) : State :=
  if !s.answers who (memId n) then s.darkRecord who (memId n) x write
  else
    let s := s.count (A.memHeldAccess n)
    if s.dram.logged.testBit (2 + n) then s
    else ({ s with dram := { s.dram with logged := setBit s.dram.logged (2 + n) } }).raise (memId n) .memHeldAccess 0 2
      [x % 2 ^ 32, x / 2 ^ 32, srcId who]

/-- The checks on an access to one line at an offset: the state with what they count, and the chamber where it is allowed. -/
def State.dramCheck (s : State) (who : Requester) (x : Nat) (write : Bool) : State × Option Chamber :=
  let n := chanOf x
  if s.flash.dramBytes ≤ x then (s, none)
  else if !s.isLit 11 ∧ !s.isLit 12 then (s.darkRecord who (memId n) x write, none)
  else if s.eccReserve ∧ s.flash.dramBytes / 8 * 7 ≤ x then (s, none)
  else match s.chamberAt x with
    | none =>
      if !s.answers who (memId n) then (s.darkRecord who (memId n) x write, none)
      else
        let s := s.count (A.memUnmapped n)
        if s.dram.logged.testBit n ∨ !s.bit (A.memCfg n) F.memCfg_lock then (s, none)
        else (({ s with dram := { s.dram with logged := setBit s.dram.logged n } }).raise (memId n) .memUnmapped 0 2
          [x % 2 ^ 32, x / 2 ^ 32, srcId who], none)
    | some c =>
      if c.base + c.size ≤ x then (s, none)
      else if write ∧ !isCudom who ∧ !c.owner.testBit (issuer who) then (s.count (A.memOwnerDeny n), none)
      else if c.mirrored then
        (if (s.serving who).isEmpty then (s.chanRefuse who n x write, none) else (s, some c))
      else if (s.serving who).contains n then (s, some c) else (s.chanRefuse who n x write, none)

/-! ### ECC records (R476, R477) -/

/-- mem_ECC_ADDR: an uncorrectable record is not replaced by a correctable one. -/
def State.eccRecord (s : State) (n x kind : Nat) : State :=
  let a := A.memEccAddrHi n
  if kind = 0 ∧ s.bit a F.memEccAddrHi_valid ∧ s.fld a F.memEccAddrHi_kind = 1 then s
  else
    let p := dramBase + x / 64 * 64
    let s := (s.setFld a F.memEccAddrHi_valid 1).setFld a F.memEccAddrHi_kind kind
    (s.setFld a F.memEccAddrHi_addr_hi (p / 2 ^ 32)).setReg (A.memEccAddrLo n) (BitVec.ofNat 32 (p % 2 ^ 32))

/-- An uncorrectable word that a channel reports: counted, recorded and logged. -/
def State.eccUe (s : State) (n x : Nat) : State :=
  ((s.count (A.memEccUe n)).eccRecord n x 1).raise (memId n) .memEccUe 0 3 [(dramBase + x) % 2 ^ 32, (dramBase + x) / 2 ^ 32]

/-- A correctable error on a read of a channel. -/
def State.eccCe (s : State) (n x : Nat) : State := (s.count (A.memEccCe n)).eccRecord n x 0

/-! ### Contents -/

/-- A byte of DRAM; one that nothing has written since its contents were last lost is a free value (log entry 3). -/
def State.dramByte (s : State) (x : Nat) : Byte :=
  match Tbl.get (fun _ => none) s.dram.bytes x with
  | some b => b
  | none => Config.freeByte s.dram.epoch x

/-- Bytes stored in a table of bytes. -/
def putBytes (t : Tbl (Option Byte)) (x : Nat) (bs : List Byte) : Tbl (Option Byte) :=
  (bs.foldl (fun (p : Tbl (Option Byte) × Nat) b => (Tbl.set (fun _ => none) p.2 (some b) p.1, p.2 + 1)) (t, x)).1

/-- A read of n bytes inside one line, with what its check bytes show; none is a bus error (log entry 111). -/
def State.dramRead (s : State) (who : Requester) (x n : Nat) (e : EccFind) : State × Option (List Byte) :=
  match s.dramCheck who x false with
  | (s, none) => (s, none)
  | (s, some c) =>
    let data := (List.range n).map (fun i => s.dramByte (x + i))
    let n := s.servedBy who c x
    if !c.ecc then (s, some data)
    else if s.dram.poison.contains (x / 64) then (s.eccUe n x, none)
    else match e with
      | .clean => (s, some data)
      | .single => (s.eccCe n x, some data)
      | .double both =>
        if c.mirrored ∧ s.mirror = 0 ∧ !both then (s.count (A.memMirrorRepair n), some data)
        else (s.eccUe n x, none)

/-- A write inside one line; true where it completes without a bus error. A partial write to a line of an ECC chamber reads
it first; an uncorrectable word, reported by a bus error, poisons the line, which a full-line write clears (R471, R477, R487)
(log entry 111). -/
def State.dramWrite (s : State) (who : Requester) (x : Nat) (bs : List Byte) (e : EccFind) : State × Bool :=
  match s.dramCheck who x true with
  | (s, none) => (s, false)
  | (s, some c) =>
    let d := { s.dram with bytes := putBytes s.dram.bytes x bs
                           dirty := if c.mirrored ∧ s.mirror = 1 ∧ !s.dram.dirty.contains (x / 4096)
                             then s.dram.dirty ++ [x / 4096] else s.dram.dirty }
    let full := x % 64 = 0 ∧ bs.length = 64
    if !c.ecc then ({ s with dram := d }, true)
    else if full then ({ s with dram := { d with poison := d.poison.filter (· != x / 64) } }, true)
    else
      let repaired := c.mirrored ∧ s.mirror = 0
      let bad : Bool := match e with | .double both => !repaired || both | _ => false
      let n := s.servedBy who c x
      if d.poison.contains (x / 64) then ({ s with dram := d }.eccUe n x, false)
      else if bad then ({ s with dram := { d with poison := d.poison ++ [x / 64] } }.eccUe n x, false)
      else
        let s := { s with dram := d }
        (match e with
          | .single => s.eccCe (s.servedBy who c x) x
          | .double _ => s.count (A.memMirrorRepair (s.servedBy who c x))
          | .clean => s, true)

/-! ### The packet store -/

/-- A byte of the packet store (log entry 3). -/
def State.pstByte (s : State) (x : Nat) : Byte :=
  match Tbl.get (fun _ => none) s.pst x with
  | some b => b
  | none => Config.freeByte s.sch.store (2 ^ 41 + x)

/-! ### Undefined contents -/

/-- Free values for the addresses from lo up to hi (log entry 3). -/
def freeBytes (n lo hi : Nat) : List Byte := (List.range (hi - lo)).map (fun i => Config.freeByte n (2 ^ 42 + lo + i))

/-- A range of the address map whose contents the spec leaves undefined: its bytes of the packet store and of DRAM are free
values (R440, R573; log entry 3). -/
def State.spoil (s : State) (a n : Nat) : State :=
  let lo := max a 0x80000000
  let dlo := max a dramBase
  { s with
    pst := putBytes s.pst (lo - 0x80000000) (freeBytes s.free lo (min (a + n) 0x82000000))
    dram := { s.dram with bytes := putBytes s.dram.bytes (dlo - dramBase)
                            (freeBytes s.free dlo (min (a + n) (dramBase + 0x400000000))) }
    free := s.free + 1 }

/-! ### Ranges -/

/-- The pieces of a range that lie in one line each: start and length. -/
def lines : Nat → Nat → Nat → List (Nat × Nat)
  | 0, _, _ => []
  | k + 1, x, n => if n = 0 then [] else
    let m := min n (64 - x % 64)
    (x, m) :: lines k (x + m) (n - m)

/-- A read of a range of the address map by an engine, stopping at the first bus error. -/
def State.memRead (s : State) (who : Requester) (a n : Nat) : State × Option (List Byte) :=
  if 0x80000000 ≤ a ∧ a + n ≤ 0x82000000 then
    if s.answers who 4 then (s, some ((List.range n).map (fun i => s.pstByte (a - 0x80000000 + i))))
    else (s.darkRecord who 4 a false, none)
  else if dramBase ≤ a ∧ a + n ≤ dramBase + 0x400000000 then
    (lines (n + 1) (a - dramBase) n).foldl (fun (r : State × Option (List Byte)) l =>
      match r.2 with
      | none => r
      | some acc => match r.1.dramRead who l.1 l.2 .clean with
        | (s, some b) => (s, some (acc ++ b))
        | (s, none) => (s, none)) (s, some [])
  else (s, none)

/-- A write of a range of the address map by an engine, stopping at the first bus error. -/
def State.memWrite (s : State) (who : Requester) (a : Nat) (bs : List Byte) : State × Bool :=
  let n := bs.length
  if 0x80000000 ≤ a ∧ a + n ≤ 0x82000000 then
    if s.answers who 4 then ({ s with pst := putBytes s.pst (a - 0x80000000) bs }, true)
    else (s.darkRecord who 4 a true, false)
  else if dramBase ≤ a ∧ a + n ≤ dramBase + 0x400000000 then
    (lines (n + 1) (a - dramBase) n).foldl (fun (r : State × Bool) l =>
      if r.2 then r.1.dramWrite who l.1 ((bs.drop (l.1 - (a - dramBase))).take l.2) .clean else r) (s, true)
  else (s, false)

end Sys2Proof.Machine
end

