-- ==== Sys2Proof/Machine/MacCount.lean ====
section
/-!
DEFINITION. The MAC counters of the wired ports: they wrap, and set half-range flags (R393); the ports' receive FIFOs (R33).
-/

namespace Sys2Proof.Machine

/-- The half-range flag of counter index n of a port, and `half` in PORT_IRQ. -/
def State.macHalf (s : State) (p n : Nat) : State :=
  let q := p / 4
  let m := p % 4
  let s := if n < 32 then s.setReg (A.lnqCntHalfLo q m) (s.reg (A.lnqCntHalfLo q m) ||| BitVec.ofNat 32 (2 ^ n))
    else s.setReg (A.lnqCntHalfHi q m) (s.reg (A.lnqCntHalfHi q m) ||| BitVec.ofNat 32 (2 ^ (n - 32)))
  s.setFld (A.lnqPortIrq q m) F.lnqPortIrq_half 1

/-- A 32-bit MAC counter counts one, wrapping. -/
def State.macCount (s : State) (p n : Nat) : State :=
  let a := A.lnqMacCnt (p / 4) (p % 4) n
  let v := (s.reg a).toNat
  let s := s.setReg a (BitVec.ofNat 32 (v + 1))
  if v = 2 ^ 31 - 1 then s.macHalf p n else s

/-- A 40-bit octet counter, its low word at index n, advances by k; its bits 39:32 stand in [7:0] of index n + 1. -/
def State.macOctets (s : State) (p n k : Nat) : State :=
  let lo := A.lnqMacCnt (p / 4) (p % 4) n
  let hi := A.lnqMacCnt (p / 4) (p % 4) (n + 1)
  let v := (s.reg hi).toNat % 256 * 2 ^ 32 + (s.reg lo).toNat
  let v' := (v + k) % 2 ^ 40
  let s := (s.setReg lo (BitVec.ofNat 32 (v' % 2 ^ 32))).setReg hi (BitVec.ofNat 32 (v' / 2 ^ 32))
  if v < 2 ^ 39 ∧ 2 ^ 39 ≤ v' then s.macHalf p n else s

/-- A frame joins an ingress receive FIFO of a wired port, 256 KiB, and counts as delivered with its n octets on the wire; one that
finds it full is dropped and counted (R33). -/
def State.deliverPort (s : State) (p n : Nat) (bytes : List Byte) (secured : Bool) (stamp : Int) : State :=
  let q := Tbl.get (fun _ => []) s.rxFifo p
  if 262144 < (q.foldl (fun a f => a + f.bytes.length) 0) + bytes.length then s.macCount p 22
  else
    let s := { s with rxFifo := Tbl.set (fun _ => []) p (q ++ [RxFrame.mk bytes 0 secured stamp]) s.rxFifo }
    (s.macCount p 2).macOctets p 0 n

end Sys2Proof.Machine
end

