-- ==== Sys2Proof/Machine/PortCore.lean ====
section
/-!
DEFINITION. Wired ports below the commands: modes, lanes, rates, what becomes of the frame on the wire, the link's rise and
fall, and the frames SCH hands over (R358–R361, R369, R374, R388–R391).
-/

namespace Sys2Proof.Machine

/-- A port's state. -/
def State.port (s : State) (p : Nat) : PortState := Tbl.get (fun _ => PortState.init) s.ports p
def State.setPort (s : State) (p : Nat) (x : PortState) : State :=
  { s with ports := Tbl.set (fun _ => PortState.init) p x s.ports }

/-- Registers of a port. -/
def pCfg (p : Nat) : Nat := A.lnqPortCfg (p / 4) (p % 4)
def pStat (p : Nat) : Nat := A.lnqPortStatus (p / 4) (p % 4)

def State.portLitAt (s : State) (p : Nat) : Bool := s.isLit (lnqId (p / 4))
def State.portOn (s : State) (p : Nat) : Bool := s.portLitAt p && s.bit (pCfg p) F.lnqPortCfg_enable
def State.pMode (s : State) (p : Nat) : Nat := s.fld (pCfg p) F.lnqPortCfg_mode
def State.linkUp (s : State) (p : Nat) : Bool := s.bit (pStat p) F.lnqPortStatus_link_up
def State.klState (s : State) (p : Nat) : Nat := s.fld (pStat p) F.lnqPortStatus_kl_state
def State.klWidth (s : State) (p : Nat) : Nat := s.fld (pStat p) F.lnqPortStatus_kl_width
def State.klRate (s : State) (p : Nat) : Nat := s.fld (pStat p) F.lnqPortStatus_kl_rate
def State.pHold (s : State) (p : Nat) : Bool := s.bit (pStat p) F.lnqPortStatus_holdoff

/-- A port that works and is not held down (R391). -/
def State.portLive (s : State) (p : Nat) : Bool := s.portOn p && !s.pHold p

/-- An enabled Kalhar Link that is not held down. -/
def State.isKl (s : State) (p : Nat) : Bool := s.portLive p && s.pMode p == 5

/-! ### Modes, lanes, rates (R358–R361) -/

/-- Line rate in Mbaud by rate code. -/
def rateMbaud (c : Nat) : Nat := [1250, 2500, 3125, 5000, 6250, 10000, 12500].getD c 0

/-- The lanes of a mode and width at MAC position m; none where the position may not carry it. -/
def lanesOf (mode width m : Nat) : Option (List Nat) :=
  if 1 ≤ mode ∧ mode ≤ 3 then some [m]
  else if mode = 4 then (if m = 0 then some [0, 1, 2, 3] else none)
  else if mode = 5 then
    if width = 0 then some [m]
    else if width = 1 then (if m % 2 = 0 then some [m, m + 1] else none)
    else if width = 2 ∧ m = 0 then some [0, 1, 2, 3] else none
  else none

/-- The lanes of a port as configured. -/
def State.portLanes (s : State) (p : Nat) : List Nat :=
  (lanesOf (s.pMode p) (s.fld (pCfg p) F.lnqPortCfg_width) (p % 4)).getD []

/-- The first lanes of a Kalhar Link of a width code, in the order the training sequences gave (R364). -/
def State.klLanes (s : State) (p width : Nat) : List Nat :=
  (if (s.port p).reversed then (s.portLanes p).reverse else s.portLanes p).take (2 ^ width)

/-- The lanes a port uses: of a Kalhar Link those of the width in use. -/
def State.activeLanes (s : State) (p : Nat) : List Nat :=
  if s.pMode p = 5 then s.klLanes p (s.klWidth p) else s.portLanes p

/-- Rate code of an Ethernet mode. -/
def modeRate (mode : Nat) : Nat := if mode = 3 ∨ mode = 4 then 2 else 0

/-- The PLL a lane selects: false A, true B. -/
def State.lanePll (s : State) (q l : Nat) : Bool := s.bit (A.lnqLaneCfg q l) F.lnqLaneCfg_pll_sel

/-- A PLL's fields. -/
def pllEn (b : Bool) : Fld := if b then F.lnqPllCtl_en_b else F.lnqPllCtl_en_a
def pllRate (b : Bool) : Fld := if b then F.lnqPllCtl_rate_b else F.lnqPllCtl_rate_a
def pllLock (b : Bool) : Fld := if b then F.lnqPllCtl_lock_b else F.lnqPllCtl_lock_a

/-- The other enabled ports of a port's quad. -/
def State.otherPorts (s : State) (p : Nat) : List Nat :=
  ((List.range 4).map (4 * (p / 4) + ·)).filter (fun k => k != p && s.portOn k)

/-- Does a port own a PLL: is it a Kalhar Link whose lanes select it? -/
def State.ownsPll (s : State) (k : Nat) (b : Bool) : Bool :=
  s.pMode k == 5 && (s.portLanes k).any (fun l => s.lanePll (k / 4) l == b)

/-- The data rate of a port in Mb/s: of the mode, the SGMII speed, the Kalhar Link step in use. -/
def State.portMbps (s : State) (p : Nat) : Nat :=
  let m := s.pMode p
  if m = 2 then [10, 100, 1000].getD (s.fld (pStat p) F.lnqPortStatus_speed) 1000
  else if m = 3 then 2500 else if m = 4 then 10000
  else if m = 5 then 2 ^ s.klWidth p * rateMbaud (s.klRate p) * 8 / 10 else 1000

/-- The longest frame of a port; on a Kalhar Link whose ends differ, the smaller value (R376). -/
def State.maxLen (s : State) (p : Nat) : Nat :=
  let own := min 9600 (max 1518 (s.fld (pCfg p) F.lnqPortCfg_max_len))
  match if s.pMode p = 5 then Tbl.find? (s.port p).params 4 else none with
  | some v => if v < own / 64 then 64 * v else own
  | none => own

/-- The lane rate and SGMII speed that correct a port's stamps (R401). -/
def State.portCorr (s : State) (p : Nat) : Int × Int :=
  let m := s.pMode p
  wiredCorr (if m = 5 then rateMbaud (s.klRate p) else rateMbaud (modeRate m))
    (if m = 2 then [10, 100, 1000].getD (s.fld (pStat p) F.lnqPortStatus_speed) 1000 else 0)

/-! ### Frames on the wire (R388, R389) -/

/-- The receive or transmit counter index, from a base, of a frame's kind: unicast, multicast, broadcast. -/
def castIdx (base : Nat) (f : List Byte) : Nat :=
  if (f.take 6).all (· == 0xFF) then base + 2 else if (f.getD 0 0).toNat.testBit 0 then base + 1 else base

/-- The size bin of a frame of n bytes with FCS. -/
def sizeBin (n : Nat) : Nat :=
  if n ≤ 64 then 0 else if n ≤ 127 then 1 else if n ≤ 255 then 2 else if n ≤ 511 then 3 else if n ≤ 1023 then 4
  else if n ≤ 1518 then 5 else 6

/-- The counters of a frame sent good. -/
def State.countSent (s : State) (p : Nat) (f : List Byte) : State :=
  (((s.macOctets p 24 (f.length + 4)).macCount p 26).macCount p (castIdx 27 f)).macCount p (31 + sizeBin (f.length + 4))

/-- A speed that waited for the frame boundary takes effect (R366). -/
def State.boundary (s : State) (p : Nat) : State :=
  match (s.port p).speedNext with
  | some v => (s.setFld (pStat p) F.lnqPortStatus_speed v).setPort p { s.port p with speedNext := none }
  | none => s

/-- The frame on the wire ends: good and counted, unless an erase ended it (log entry 94). -/
def State.endFrame (s : State) (p : Nat) : State :=
  let x := s.port p
  match x.tx with
  | some f =>
    let s := s.setPort p { x with tx := none, lastTx := some (f.bytes, !f.erased), txAt := min f.ends s.elapsed }
    (if f.erased then s else s.countSent p f.bytes).boundary p
  | none => s

/-- How long a frame of n bytes without FCS holds the wire, ns: preamble, frame and FCS; on Kalhar Link its columns and one of idle
(R371) (log entry 94). -/
def State.frameNs (s : State) (p n : Nat) : Nat :=
  if s.pMode p = 5 then (klCols (2 ^ s.klWidth p) (n + 4) + 1) * 10000 / rateMbaud (s.klRate p)
  else (n + 12) * 8000 / max 1 (s.portMbps p)

/-- Is the start of frames paused (R390)? -/
def State.paused (s : State) (p : Nat) : Bool := (s.port p).pauseEnd.any (fun t => decide (s.elapsed < t))

/-- Is a frame on the wire? -/
def State.onWire (s : State) (p : Nat) : Bool := (s.port p).tx.any (fun f => decide (s.elapsed < f.ends))

/-- A frame whose time on the wire is over has ended (log entry 94). -/
def State.endedFrame (s : State) (p : Nat) : State :=
  if (s.port p).tx.any (fun f => decide (f.ends ≤ s.elapsed)) then s.endFrame p else s

/-- An erase of a slot ends a frame that it protects with a bad FCS (R300, R389). -/
def State.revokePort (s : State) (p slot : Nat) : State :=
  let x := s.port p
  match x.tx with
  | some f =>
    if f.slot = some slot ∧ !f.erased ∧ s.elapsed < f.ends then
      ((s.setPort p { x with tx := some { f with erased := true } }).macCount p 39).count (A.cipMsecTxRefused p)
    else s
  | none => s

/-- Frames of the FIFO and the wire are discarded, counted in TX_DISCARD_DOWN (R369). -/
def State.discardTx (s : State) (p : Nat) : State :=
  let x := s.port p
  let n := x.txq.length + (if x.tx.isSome then 1 else 0)
  (List.range n).foldl (fun s _ => s.macCount p 40) ((s.setPort p { x with txq := [], tx := none }).boundary p)

/-! ### Link state (R369, R374, R391) -/

/-- A flap is noted (R391) (log entry 96). -/
def State.flap (s : State) (p : Nat) : State :=
  let x := s.port p
  s.setPort p { x with flaps := x.flaps.filter (fun t => s.elapsed < t + nsPerSec) ++ [s.elapsed] }

/-- link_up rises: LINK_UP, link_change. -/
def State.linkRise (s : State) (p : Nat) : State :=
  if s.linkUp p then s
  else ((s.setFld (pStat p) F.lnqPortStatus_link_up 1).setFld (A.lnqPortIrq (p / 4) (p % 4))
    F.lnqPortIrq_link_change 1).raise (portSrc (p / 4) (p % 4)) .linkUp 0 2 [p]

/-- link_up falls: LINK_DOWN, link_change, LINK_DOWN counted; the frame on the wire is cut off, frames to send are discarded,
and a frame in reception is aborted. -/
def State.linkFall (s : State) (p : Nat) (receiving : Bool) : State :=
  if !s.linkUp p then s
  else
    let s := s.endedFrame p
    let s := (s.setFld (pStat p) F.lnqPortStatus_link_up 0).setFld (A.lnqPortIrq (p / 4) (p % 4)) F.lnqPortIrq_link_change 1
    let s := (s.macCount p 41).raise (portSrc (p / 4) (p % 4)) .linkDown 0 2 [p]
    let s := if receiving then s.macCount p 21 else s
    (s.discardTx p).flap p

/-- SCH offers a frame to a MAC. While link_up is 0 it is accepted and discarded. -/
def State.portTake (s : State) (p : Nat) (f : List Byte) : State :=
  if s.linkUp p then s.setPort p { s.port p with txq := (s.port p).txq ++ [f] } else s.macCount p 40

/-- Does the MAC have room for a frame of n bytes: link down, which discards; or up, with room in the 16 KiB FIFO, no pause
(R390) and a Kalhar Link in ACTIVE (R374)? -/
def State.portRoom (s : State) (p n : Nat) : Bool :=
  s.portLitAt p && (!s.linkUp p ||
    (!s.paused p && (s.pMode p != 5 || s.klState p == 4) &&
      decide ((s.port p).txq.foldl (fun a f => a + f.length) 0 + n ≤ 16384)))

end Sys2Proof.Machine
end

