-- ==== Sys2Proof/Machine/Cipher.lean ====
section
/-!
DEFINITION. The cipher engine: the start of an operation, packet numbers, key commands, job rings, MACsec reception
(R280–R303, R572).
-/

namespace Sys2Proof.Machine

open Crypto (toBE ofBE)

/-! ### Job descriptors (R283–R285, R301) -/

/-- Little-endian field of a descriptor: n bytes from i. -/
def dle (d : List Byte) (i n : Nat) : Nat := ofBE ((List.range n).map (fun k => d.getD (i + n - 1 - k) 0))

def CipJob.decrypt (j : CipJob) : Bool := (dle j.desc 0 1).testBit 6
def CipJob.expedited (j : CipJob) : Bool := (dle j.desc 0 1).testBit 5
def CipJob.pad2 (j : CipJob) : Bool := (dle j.desc 0 1).testBit 4
def CipJob.mode (j : CipJob) : Nat := dle j.desc 0 1 % 16
def CipJob.tagLen (j : CipJob) : Nat := dle j.desc 1 1
def CipJob.slot (j : CipJob) : Nat := dle j.desc 2 2
def CipJob.ivLen (j : CipJob) : Nat := dle j.desc 6 1
def CipJob.iv (j : CipJob) : List Byte := (j.desc.drop 8).take j.ivLen
def CipJob.aadAddr (j : CipJob) : Nat := dle j.desc 24 5
def CipJob.aadLen (j : CipJob) : Nat := dle j.desc 32 3
def CipJob.length (j : CipJob) : Nat := dle j.desc 36 3
def CipJob.inAddr (j : CipJob) : Nat := dle j.desc 40 5
def CipJob.outAddr (j : CipJob) : Nat := dle j.desc 48 5
def CipJob.tagAddr (j : CipJob) : Nat := dle j.desc 56 5

/-- Bytes of a job's output buffer: its length, with CBC's padding of method 2 on encryption the next multiple of 16 (R284). -/
def CipJob.outLen (j : CipJob) : Nat := if j.mode = 4 ∧ j.pad2 ∧ !j.decrypt then (j.length / 16 + 1) * 16 else j.length

/-- The first n bytes of an output buffer become zeros, as far as it can be written (R285, R294, R301). -/
def State.wipeOut (s : State) (j : CipJob) (n : Nat) : State := (s.memWrite (.island 10) j.outAddr (List.replicate n 0)).1

/-! ### Slots (R289, R292–R295) -/

/-- The generation after g. -/
def nextGen (g : Nat) : Nat := if g = 0xFFFFFFFF then 1 else g + 1

/-- Network requesters of a slot are cleared, in CDM and in the record (R75, R76). -/
def State.dropPeers (s : State) (slot : Nat) : State :=
  { s with cmd := { s.cmd with peers := s.cmd.peers.filter (·.slot != slot) }
           flash := { s.flash with netRecord := s.flash.netRecord.filter (·.slot != slot) } }

/-- A change of a slot's generation clears the replay state of the receivers that hang on it: network requesters, and the MACsec
receive SAs' next_pn; HMAC's receivers compare generations (R219, R289) (log entry 81). -/
def State.dropReplay (s : State) (slot : Nat) : State :=
  ((List.range 128).filter (fun e => s.fld (A.cipMsecSaW0 e) F.cipMsecSaW0_dir == 0
      && s.fld (A.cipMsecSaW0 e) F.cipMsecSaW0_slot == slot && s.bit (A.cipMsecSaW0 e) F.cipMsecSaW0_valid)).foldl
    (fun s e => (s.setReg (A.cipMsecSaW8 e) 1).setReg (A.cipMsecSaW9 e) 0) (s.dropPeers slot)

/-- A key is written: a new generation; the old key stays in the shadow while its operations are in flight. -/
def State.putKey (s : State) (slot cls : Nat) (key : List Byte) : State :=
  let k := s.key slot
  let busy := s.cip.ops.any (fun o => o.slot == slot && o.gen == k.gen)
  (s.setKey slot { cls := cls, key := key, gen := nextGen k.gen, use := 0, pn := 1, warned := false, exhausted := false
                   shadow := if busy then some (k.gen, k.key) else none }).dropReplay slot

/-- An accepted KEY_WRITE: its class rules, then the write (R84, R287, R295). -/
def State.keyWrite (s : State) (r : Request) : State :=
  let slot := r.p 0 2
  let cls := r.p 2 1
  let k := s.key slot
  if (cls ≠ 0 ∧ r.p 3 1 = 16) ∨ (k.cls ≠ 255 ∧ k.cls ≠ cls) then s.finish r ST.badParam none []
  else
    let s := s.putKey slot cls ((r.params.drop 4).take (r.p 3 1))
    s.finishEv r 10 .keyWrite 1 slot (s.key slot).gen (toBE 4 (s.key slot).gen)

/-- KEY_WRITE waits while the slot's pending shadow is in use. -/
def execKeyWrite (src : CmdSource) (s : State) : Host.Outcome State Fault Refusal :=
  .next (s.withRequest src .keyWrite fun s r =>
    if (s.key (r.p 0 2)).shadow.isSome then
      { s with cdm := { s.cdm with jobs := { s.cdm.jobs with keyWait := s.cdm.jobs.keyWait ++ [(r, s.elapsed)] } } }
    else s.keyWrite r)

/-- KEY_WRITE_PENDING_TIMEOUT: the oldest waiting KEY_WRITE has waited 1 ms and returns ST_BUSY (R293). -/
def execKeyWritePendingTimeout (s : State) : Host.Outcome State Fault Refusal :=
  .next (match s.cdm.jobs.keyWait with
  | [] => s
  | x :: rest =>
    if x.2 + 1000000 ≤ s.elapsed then
      ({ s with cdm := { s.cdm with jobs := { s.cdm.jobs with keyWait := rest } } }).complete (some x.1) ST.busy none []
    else s)

/-- The waiting KEY_WRITEs of a slot go on, in order of arrival, while its shadow is clear. -/
def State.resumeKey (s : State) (slot : Nat) : State :=
  s.cdm.jobs.keyWait.foldl (fun s x =>
    if x.1.p 0 2 = slot ∧ (s.key slot).shadow.isNone then
      let s := { s with cdm := { s.cdm with jobs := { s.cdm.jobs with keyWait := s.cdm.jobs.keyWait.filter (· != x) } } }
      if s.isOut x.1 then s.keyWrite x.1 else s
    else s) s

/-- CIP_STATUS follows the contexts in use; eight are kept for expedited operations, and count as in use beyond the other 56
(R280) (log entry 81). -/
def State.showCip (s : State) : State :=
  let n := s.cip.ops.length
  (s.setFld A.cipStatus F.cipStatus_contexts n).setFld A.cipStatus F.cipStatus_expedited (min 8 (n - 56))

/-- An erase ends what its key protects on a radio: a frame not started is not sent, one on air is aborted, each counted (R222, R271,
R294). -/
def State.revokeRadio (s : State) (r slot : Nat) : State :=
  let hit (c : TxCmd) : Bool := c.keySlot == some slot
  let note (s : State) (c : TxCmd) : State := s.count (if c.isHolael then A.hmacHolKeyRevoked else A.hmacWlanTxKeyRevoked r)
  let onAir := (s.rd r).air.any (fun a => hit a.cmd)
  let s := (s.endFrames r hit ST.keyRevoked note).1
  if onAir then s.count A.cipKeyRevoked else s

/-- KEY_ERASE: every operation on the slot is aborted, its job completing with ST_KEY_REVOKED and zeros in its output; the shadow
goes, the class is erased and the generation advances (R294) (log entry 36). -/
def execKeyErase (src : CmdSource) (s : State) : Host.Outcome State Fault Refusal :=
  .next (s.withRequest src .keyErase fun s r =>
    let slot := r.p 0 2
    let gone := s.cip.ops.filter (fun o => o.slot == slot)
    let ids := gone.map (·.id)
    let jobs := s.cip.jobs.map (fun (j : CipJob) => if j.result.isNone && j.op.any ids.contains
      then { j with result := some (ST.keyRevoked, 0) } else j)
    let hit := s.cip.jobs.filter (fun (j : CipJob) => j.result.isNone && j.op.any ids.contains)
    let s := { s with cip := { s.cip with ops := s.cip.ops.filter (fun o => o.slot != slot), jobs := jobs } }.showCip
    let s := hit.foldl (fun s j => s.wipeOut j j.outLen) s
    let s := s.countN A.cipKeyRevoked gone.length
    let s := gone.foldl (fun s o => match o.user with | .port p => s.count (A.cipMsecTxRefused p) | _ => s) s
    let s := [0, 1, 2].foldl (fun s k => s.revokeRadio k slot) s
    let s := (List.range 16).foldl (fun s p => s.revokePort p slot) s
    let k := s.key slot
    let s := (s.setKey slot { KeySlot.erased with gen := nextGen k.gen }).dropReplay slot
    (s.finishEv r 10 .keyErase 1 slot (s.key slot).gen []).resumeKey slot)

/-- KEY_STATE (R84). -/
def execKeyState (src : CmdSource) (s : State) : Host.Outcome State Fault Refusal :=
  .next (s.withRequest src .keyState fun s r =>
    let k := s.key (r.p 0 2)
    let flags := (if k.shadow.isSome then 1 else 0) + (if k.warned then 2 else 0) + (if k.exhausted then 4 else 0)
    s.finish r ST.ok none (toBE 1 k.cls ++ toBE 1 flags ++ [0, 0] ++ toBE 4 k.gen))

/-! ### Jobs (R283–R285, R301) -/

/-- A descriptor's own fault, before its slot is looked at: mode, lengths and fields that are to be zero. -/
def CipJob.bad (j : CipJob) : Option Nat :=
  let m := j.mode
  let tagOk := if m ≤ 1 then j.tagLen = 16 ∨ j.tagLen = 12 ∨ j.tagLen = 8 ∨ j.tagLen = 4
    else if m = 2 then 4 ≤ j.tagLen ∧ j.tagLen ≤ 16 ∧ j.tagLen % 2 = 0 else True
  let ivOk := if m ≤ 1 then j.ivLen = 12 else if m = 2 then 7 ≤ j.ivLen ∧ j.ivLen ≤ 13 else j.ivLen = 16
  if 4 < m ∨ !decide tagOk ∨ !decide ivOk ∨ 4096 ≤ j.slot ∨ (m ≠ 1 ∧ 65535 < j.aadLen) then some ST.badParam
  else if m = 2 ∧ 2 ^ (8 * (15 - j.ivLen)) ≤ j.length then some ST.badLength
  else if m = 1 ∧ j.length ≠ 0 then some ST.badLength
  else if m = 3 ∧ 2 ^ 32 < ofBE (j.iv.drop 12) + (j.length + 15) / 16 then some ST.badParam
  else if m = 4 ∧ (!j.pad2 ∨ j.decrypt) ∧ j.length % 16 ≠ 0 then some ST.badLength
  else none

/-- The CBC padding of method 2 stripped; none where it is malformed. -/
def unpad2 (l : List Byte) : Option (List Byte) :=
  let r := l.reverse.dropWhile (· == 0)
  match r with
  | b :: rest => if b = 0x80 ∧ l.length - rest.length ≤ 16 then some rest.reverse else none
  | [] => none

/-- What a job computes from its inputs: status, output, tag to write. -/
def CipJob.compute (j : CipJob) (key aad inp tag : List Byte) : Nat × List Byte × List Byte :=
  match j.mode, j.decrypt with
  | 2, false => let (c, t) := Crypto.ccmSeal key j.iv aad inp j.tagLen; (ST.ok, c, t)
  | 2, true => match Crypto.ccmOpen key j.iv aad inp tag with
    | some p => (ST.ok, p, [])
    | none => (ST.denied, [], [])
  | 3, _ => (ST.ok, Crypto.ctr key 4 j.iv inp, [])
  | 4, false =>
    let pad := if j.pad2 then 0x80 :: List.replicate (15 - inp.length % 16) 0 else []
    (ST.ok, Crypto.cbcEnc key j.iv (inp ++ pad), [])
  | 4, true =>
    let p := Crypto.cbcDec key j.iv inp
    if j.pad2 then (match unpad2 p with
      | some q => (ST.ok, q, [])
      | none => (ST.badParam, [], []))
    else (ST.ok, p, [])
  | _, false => let (c, t) := Crypto.gcmSeal key j.iv aad inp; (ST.ok, c, t.take j.tagLen)
  | _, true =>
    if (Crypto.gcmTag key j.iv aad inp).take j.tagLen = tag then (ST.ok, Crypto.ctr key 4 (j.iv ++ [0, 0, 0, 2]) inp, [])
    else (ST.denied, [], [])

/-! ### Operations (R280, R292) -/

/-- The class test of a user. -/
def cipCls : CipUser → Nat → Bool
  | .hmac, c => c == 0
  | .port _, c => c == 0
  | .network, c => c == 1
  | .job r, c => if r.val = 0 then c == 0 else c == 1 || c == 2

/-- A job's result is noted. -/
def State.setJob (s : State) (p : CipJob → Bool) (f : CipJob → CipJob) : State :=
  { s with cip := { s.cip with jobs := s.cip.jobs.map (fun j => if p j then f j else j) } }

/-- The first fetched job of a ring without an operation or a result. -/
def State.nextJob (s : State) (r : Nat) : Option CipJob :=
  s.cip.jobs.find? (fun j => j.ring == r && j.op.isNone && j.result.isNone)

/-- Has an operation a context to take: one of 64, of which eight are kept for expedited operations (R280)? -/
def State.cipRoom (s : State) (expedited : Bool) : Bool :=
  decide (s.cip.ops.length < 64) && (expedited || decide ((s.cip.ops.filter (!·.expedited)).length < 56))

/-- The key length a user's protocol fixes: `len` of HMAC's frame (16 CCMP-128, 32 GCMP-256 and Holael); 32 for management; a
MACsec suite is that of its key's length (R287) (log entry 81). -/
def cipLen (u : CipUser) (len : Fin 33) : Option Nat :=
  match u with
  | .hmac => some len
  | .network => some 32
  | _ => none

/-- The use an encryption sets: HMAC's counter of 48 bits, a port's of 32, or of 64 where its transmit SA on the slot is XPN; a
supplied IV (R290, R297). -/
def State.cipUse (s : State) (u : CipUser) (slot : Nat) : Nat :=
  match u with
  | .hmac => 3
  | .port p => if (List.range 128).any (fun e => s.bit (A.cipMsecSaW0 e) F.cipMsecSaW0_valid
      && s.bit (A.cipMsecSaW0 e) F.cipMsecSaW0_dir && s.fld (A.cipMsecSaW0 e) F.cipMsecSaW0_port == p.val
      && s.fld (A.cipMsecSaW0 e) F.cipMsecSaW0_slot == slot && s.bit (A.cipMsecSaW0 e) F.cipMsecSaW0_xpn) then 4 else 2
  | _ => 1

/-- CIP_OPERATION_START: an operation takes a context if one it may use is free, is checked against its slot and latches key,
generation and packet number. A job takes its slot, direction and priority from its descriptor; command packets are expedited
(R281) (log entry 81). -/
def execCipOperationStart (u : CipUser) (id : Nat) (slot : Fin 4096) (encrypt : Bool) (len : Fin 33) (expedited : Bool)
    (s : State) : Host.Outcome State Fault Refusal :=
  .next (if !s.isLit 10 ∨ s.cip.ops.any (·.id == id) then s
  else match u with
  | .job r => match s.nextJob r with
    | none => s
    | some j =>
      if !s.cipRoom j.expedited then s
      else match j.bad with
        | some st => s.setJob (· == j) (fun j => { j with result := some (st, 0) })
        | none =>
          let (s, st, _) := s.cipBegin j.slot (cipCls u) none (if j.decrypt then none else some 1)
          if st ≠ ST.ok then s.setJob (· == j) (fun j => { j with result := some (st, 0) })
          else
            let k := s.key j.slot
            let s := s.setJob (· == j) (fun j => { j with op := some id })
            { s with cip := { s.cip with ops := s.cip.ops ++ [(⟨id, u, j.slot, k.gen, k.key, 0, j.expedited⟩ : CipOp)] } }.showCip
  | _ =>
    let expedited := expedited || u == .network
    if !s.cipRoom expedited then s
    else
      let (s, st, pn) := s.cipBegin slot (cipCls u) (cipLen u len) (if encrypt then some (s.cipUse u slot) else none)
      if st ≠ ST.ok then (match u with | .port p => if encrypt then s.count (A.cipMsecTxRefused p) else s | _ => s)
      else
        let k := s.key slot
        { s with cip := { s.cip with ops := s.cip.ops ++ [(⟨id, u, slot, k.gen, k.key, pn, expedited⟩ : CipOp)] } }.showCip)

/-- A ring halts with ring_err. -/
def State.ringErr (s : State) (r : Nat) : State :=
  (s.setFld (A.cipJobCtl r) F.cipJobCtl_ring_err 1).setFld (A.cipJobCtl r) F.cipJobCtl_enable 0

/-- The address of a ring's next write-back descriptor plus k. -/
def State.jobAddr (s : State) (r k : Nat) : Nat :=
  let size := max 1 (s.fld (A.cipJobCtl r) F.cipJobCtl_size)
  let i := (s.fld (A.cipJobPtr r) F.cipJobPtr_done + k) % size
  (s.fld (A.cipJobBaseHi r) F.cipJobBaseHi_base_hi * 2 ^ 32 + (s.reg (A.cipJobBaseLo r)).toNat) / 64 * 64 + 64 * i

/-- The faulting job is to be written back with ST_BAD_PARAM; the ring halts (R301). -/
def State.jobFault (s : State) (j : CipJob) : State :=
  (s.setJob (· == j) (fun j => { j with result := some (ST.badParam, 0) })).ringErr j.ring

/-- A job runs: inputs read, result written; a failed tag or malformed padding leaves zeros (R285). -/
def State.runJob (s : State) (j : CipJob) (key : List Byte) : State :=
  let me : Requester := .island 10
  let hasAad := j.mode ≤ 2
  let (s, aad) := if hasAad then s.memRead me j.aadAddr j.aadLen else (s, some [])
  let (s, inp) := s.memRead me j.inAddr j.length
  let (s, tag) := if hasAad ∧ j.decrypt then s.memRead me j.tagAddr j.tagLen else (s, some [])
  match aad, inp, tag with
  | some aad, some inp, some tag =>
    let (st, out, t) := j.compute key aad inp tag
    let s := if st = ST.denied then s.count A.cipAuthFail else s
    let bytes := if st = ST.ok then out else List.replicate j.length 0
    let (s, ok) := s.memWrite me j.outAddr bytes
    let (s, ok2) := if ok ∧ hasAad ∧ !j.decrypt then s.memWrite me j.tagAddr t else (s, true)
    if ok ∧ ok2 then s.setJob (· == j) (fun j => { j with result := some (st, if st = ST.ok then out.length else 0) })
    else (s.wipeOut j bytes.length).jobFault j
  | _, _, _ => s.jobFault j

/-- CIP_OPERATION_DONE: the operation ends; the last of an old generation clears the pending shadow (R292, R293). -/
def execCipOperationDone (id : Nat) (s : State) : Host.Outcome State Fault Refusal :=
  .next (match s.cip.ops.find? (·.id == id) with
  | none => s
  | some o =>
    let s := { s with cip := { s.cip with ops := s.cip.ops.filter (·.id != id) } }.showCip
    let s := match s.cip.jobs.find? (fun j => j.op == some id && j.result.isNone) with
      | some j => s.runJob j o.key
      | none => s
    let k := s.key o.slot
    match k.shadow with
    | some (g, _) =>
      if s.cip.ops.any (fun p => p.slot == o.slot && p.gen == g) then s
      else (s.setKey o.slot { k with shadow := none }).resumeKey o.slot
    | none => s)

/-- CIP_JOB_FETCH: the next descriptor of an enabled ring is taken if the engine owns it (R301) (log entry 81). -/
def execCipJobFetch (r : Fin 2) (s : State) : Host.Outcome State Fault Refusal :=
  .next (let a := A.cipJobCtl r
  let k := (s.cip.jobs.filter (·.ring == r.val)).length
  let size := s.fld a F.cipJobCtl_size
  let done := s.fld (A.cipJobPtr r) F.cipJobPtr_done
  if s.isLit 10 ∧ s.bit a F.cipJobCtl_enable ∧ !s.bit a F.cipJobCtl_ring_err ∧ size ≠ 0
      ∧ (done + k) % size ≠ s.fld (A.cipJobPtr r) F.cipJobPtr_prod then
    match s.memRead (.island 10) (s.jobAddr r k) 64 with
    | (s, some d) => if (dle d 0 1).testBit 7 then
        { s with cip := { s.cip with jobs := s.cip.jobs ++ [⟨r, d, none, none⟩] } } else s
    | (s, none) => s.ringErr r
  else s)

/-- CIP_JOB_WRITEBACK: the oldest job of a ring, once done, is written back with own 0, status and output length (R301)
(log entry 36). -/
def execCipJobWriteback (r : Fin 2) (s : State) : Host.Outcome State Fault Refusal :=
  .next (match s.cip.jobs.find? (·.ring == r.val) with
  | some j => match j.result with
    | some (st, n) =>
      if !s.isLit 10 then s
      else
        let d := BitVec.ofNat 8 (dle j.desc 0 1 % 128) :: (j.desc.drop 1).take 3 ++ (toBE 2 st).reverse
          ++ (j.desc.drop 6).take 30 ++ (toBE 3 n).reverse ++ j.desc.drop 39
        let (s, _) := s.memWrite (.island 10) (s.jobAddr r 0) d
        let size := max 1 (s.fld (A.cipJobCtl r) F.cipJobCtl_size)
        let done := (s.fld (A.cipJobPtr r) F.cipJobPtr_done + 1) % size
        let irq := if s.bit (A.cipJobCtl r) F.cipJobCtl_irq_en then setBit s.cip.irq r else s.cip.irq
        { s with cip := { s.cip with jobs := s.cip.jobs.erase j, irq := irq } }.setFld (A.cipJobPtr r) F.cipJobPtr_done done
    | none => s
  | none => s)

/-- CIP_RING_FAULT: a bus error or 4 096 silent cycles halt the ring; the faulting job, which has written nothing yet, completes
with ST_BAD_PARAM (R301). -/
def execCipRingFault (r : Fin 2) (s : State) : Host.Outcome State Fault Refusal :=
  .next (if !s.isLit 10 then s
  else match s.cip.jobs.find? (fun j => j.ring == r.val && j.result.isNone) with
  | some j =>
    let s := { s with cip := { s.cip with ops := s.cip.ops.filter (fun o => some o.id != j.op) } }.showCip
    s.jobFault j
  | none => s.ringErr r)

/-- CIP_JOB_CTL_WRITE: a ring of size 0, or of a size that is no power of two from 16, is not enabled and sets ring_err. -/
def execCipJobCtlWrite (who : Requester) (r : Fin 2) (w : Word) (s : State) : Host.Outcome State Fault Refusal :=
  .next (s.access who (A.cipJobCtl r) true fun s =>
    if r = 1 ∧ !isCudom who then s.busOk 0
    else
      let a := A.cipJobCtl r
      let s := (s.setReg a (D.cipJobCtl.write false (s.reg a) w)).busOk 0
      let size := s.fld a F.cipJobCtl_size
      let ok := [16, 32, 64, 128, 256, 512, 1024, 2048, 4096].contains size
      if s.bit a F.cipJobCtl_enable ∧ (!ok ∨ s.bit a F.cipJobCtl_ring_err) then
        (if ok then s else s.setFld a F.cipJobCtl_ring_err 1).setFld a F.cipJobCtl_enable 0
      else s)

/-! ### MACsec (R298–R300) -/

/-- The receive SAs of a port (R298). -/
def State.rxSas (s : State) (p : Nat) : List Nat :=
  (List.range 128).filter (fun e => s.bit (A.cipMsecSaW0 e) F.cipMsecSaW0_valid
    && s.fld (A.cipMsecSaW0 e) F.cipMsecSaW0_dir == 0 && s.fld (A.cipMsecSaW0 e) F.cipMsecSaW0_port == p)

/-- The SCI of an SA entry. -/
def State.saSci (s : State) (e : Nat) : Nat := (s.reg (A.cipMsecSaW6 e)).toNat * 2 ^ 32 + (s.reg (A.cipMsecSaW5 e)).toNat

/-- next_pn of a receive SA. -/
def State.saNext (s : State) (e : Nat) : Nat := (s.reg (A.cipMsecSaW9 e)).toNat * 2 ^ 32 + (s.reg (A.cipMsecSaW8 e)).toNat

/-- The full packet number that a short one stands for: the high half of next_pn, one more where the top bit of its low half is
set and that of the short number is clear (IEEE 802.1AE; log entry 81). -/
def xpnRecover (next short : Nat) : Nat :=
  (next / 2 ^ 32 + if next.testBit 31 && !short.testBit 31 then 1 else 0) * 2 ^ 32 + short

/-- The MACsec nonce of an SA for a packet number (R299). -/
def State.msecNonce (s : State) (e pn : Nat) : List Byte :=
  if s.bit (A.cipMsecSaW0 e) F.cipMsecSaW0_xpn then
    let salt := toBE 4 (s.reg (A.cipMsecSaW4 e)).toNat ++ toBE 4 (s.reg (A.cipMsecSaW3 e)).toNat
      ++ toBE 4 (s.reg (A.cipMsecSaW2 e)).toNat
    Crypto.xorB (toBE 4 (s.reg (A.cipMsecSaW1 e)).toNat ++ toBE 8 pn) salt
  else toBE 8 (s.saSci e) ++ toBE 4 pn

/-- The verdict on a received frame: passed with its clear bytes, dropped, and the counter that advances. -/
inductive MsecRx where
  | clear (bytes : List Byte) (secured : Bool)
  | drop
  deriving DecidableEq, Repr

/-- A received frame on a port with MACsec: SecTAG (EtherType 0x88E5, TCI and AN, SL, PN, optional SCI), cipher or clear data,
16-byte ICV, which SL places in a short frame (R298–R300). `sci` names the transmitter where the tag carries none. -/
def State.msecRx (s : State) (p sci : Nat) (f : List Byte) : State × MsecRx :=
  let sas := s.rxSas p
  if sas.isEmpty then (s, .clear f false)
  else
    let strict := sas.any (fun e => s.bit (A.cipMsecSaW0 e) F.cipMsecSaW0_strict)
    let noSa : State × MsecRx := (s.count (A.cipMsecRxNoSa p), if strict then .drop else .clear f false)
    let tci := beAt f 14 1
    let sc := tci.testBit 5
    let sci := if sc then beAt f 20 8 else sci
    let tag := if sc then 28 else 20
    let sl := beAt f 15 1 % 64
    if f.length < tag + sl + 16 ∨ beAt f 12 2 ≠ 0x88E5 then noSa
    else match sas.find? (fun e => s.fld (A.cipMsecSaW0 e) F.cipMsecSaW0_an == tci % 4 && s.saSci e == sci) with
      | none => noSa
      | some e =>
        let slot := s.fld (A.cipMsecSaW0 e) F.cipMsecSaW0_slot
        let next := s.saNext e
        let xpn := s.bit (A.cipMsecSaW0 e) F.cipMsecSaW0_xpn
        let pn := if xpn then xpnRecover next (beAt f 16 4) else beAt f 16 4
        let (s, st, _) := s.cipBegin slot (fun c => c == 0) none none
        if st ≠ ST.ok then (s.count (A.cipMsecRxNotValid p), .drop)
        else
          let f := if sl = 0 then f else f.take (tag + sl + 16)
          let n := f.length
          let icv := f.drop (n - 16)
          let enc := tci.testBit 3
          let body := (f.drop tag).take (n - 16 - tag)
          let key := (s.key slot).key
          let iv := s.msecNonce e pn
          let plain := if enc then Crypto.gcmOpen key iv (f.take tag) body icv
            else (Crypto.gcmOpen key iv (f.take (n - 16)) [] icv).map (fun _ => body)
          match plain with
          | none => ((s.count A.cipAuthFail).count (A.cipMsecRxNotValid p), .drop)
          | some b =>
            if pn + (s.reg (A.cipMsecSaW7 e)).toNat < next then (s.count (A.cipMsecRxLate p), .drop)
            else
              let next := max next (pn + 1)
              let s := (s.setReg (A.cipMsecSaW8 e) (BitVec.ofNat 32 (next % 2 ^ 32))).setReg
                (A.cipMsecSaW9 e) (BitVec.ofNat 32 (next / 2 ^ 32))
              (s, .clear (f.take 12 ++ b) true)

/-- MACSEC_RX_FRAME: the oldest waiting frame of a port is validated under its SA and dropped or passed to the classifier
FIFO. A SecTAG without SCI names its source address with port number 1 (IEEE 802.1AE) (log entry 81). -/
def execMacsecRxFrame (p : Fin 16) (s : State) : Host.Outcome State Fault Refusal :=
  .next (match s.cip.rx.find? (·.1 == p.val) with
  | some x =>
    if s.isLit 10 then
      let s := { s with cip := { s.cip with rx := s.cip.rx.erase x } }
      match s.msecRx p (beAt x.2.1 6 6 * 65536 + 1) x.2.1 with
      | (s, .clear b sec) => s.deliverPort p (x.2.1.length + 4) b sec x.2.2
      | (s, .drop) => s
    else s
  | none => s)

end Sys2Proof.Machine
end

