-- ==== Sys2Proof/Machine/HolLinks.lean ====
section
/-!
DEFINITION. Holael shared operations: links and their schedules, channels and hopping, the map store, frames and their
protection, the window fit (R127–R141, R196–R222, R232–R242).
-/

namespace Sys2Proof.Machine

open Crypto (toBE ofBE)

/-! ### Records -/

/-- HMAC's Holael state, and the state with it set. -/
def State.hol (s : State) : HolState := s.hmac.hol
def State.setHol (s : State) (h : HolState) : State := { s with hmac := { s.hmac with hol := h } }

/-- A link: partner 0–1 023, or 1 024 for the parent. -/
def State.peer (s : State) (p : Nat) : HolPeer := Tbl.get (fun _ => HolPeer.init) s.hol.peers p
def State.setPeer (s : State) (p : Nat) (q : HolPeer) : State :=
  s.setHol { s.hol with peers := Tbl.set (fun _ => HolPeer.init) p q s.hol.peers }

/-- The parent's number among links (log entry 61). -/
def parentNo : Nat := 1024

/-- Little-endian bytes of a number. -/
def toLE (n v : Nat) : List Byte := (toBE n v).reverse

/-- The n bytes from offset i, little-endian. -/
def leAt (bs : List Byte) (i n : Nat) : Nat := ofBE ((List.range n).map (fun k => bs.getD (i + n - 1 - k) 0))

/-- A frame joins an ingress receive FIFO of a radio, 512 KiB; one that finds it full is dropped and counted, in a count that has no
register (R33) (log entry 123). -/
def State.deliverRadio (s : State) (r station : Nat) (bytes : List Byte) (stamp : Int) : State :=
  let q := Tbl.get (fun _ => []) s.rxFifo (16 + r)
  if 524288 < (q.foldl (fun a f => a + f.bytes.length) 0) + bytes.length then
    s.setRd r { s.rd r with fifoDrop := min (2 ^ 32 - 1) ((s.rd r).fifoDrop + 1) }
  else { s with rxFifo := Tbl.set (fun _ => []) (16 + r) (q ++ [⟨bytes, station, true, stamp⟩]) s.rxFifo }

/-! ### Rounds (R196) -/

def State.roundUnits (s : State) : Nat := s.fld A.hmacHolRound F.hmacHolRound_round_units
def State.roundNs (s : State) : Nat := 125000 * s.roundUnits
def State.roundNo (s : State) : Nat := s.nowNs / s.roundNs % 2 ^ 48

/-- The first instant k · n + off not before now, and its k. -/
def nextAt (now n off : Nat) : Nat × Nat :=
  let k := if now ≤ off then 0 else (now - off + n - 1) / n
  (k, k * n + off)

/-- Round length and number by the parent's round, for a member. -/
def State.parentNs (s : State) : Nat := 125000 * s.hol.parent.roundUnits
def State.parentRound (s : State) : Nat := s.nowNs / s.parentNs % 2 ^ 48

/-! ### Partner states (R234) and member states (R233) -/

def State.partnerState (s : State) (p : Nat) : Nat := s.fld (A.hmacHolPartnerW0 p) F.hmacHolPartnerW0_state
def State.setPartnerState (s : State) (p v : Nat) : State := s.setFld (A.hmacHolPartnerW0 p) F.hmacHolPartnerW0_state v
def State.memberState (s : State) : Nat := s.fld A.hmacHolParentCtl F.hmacHolParentCtl_state
def State.setMemberState (s : State) (v : Nat) : State :=
  let s := s.setFld A.hmacHolParentCtl F.hmacHolParentCtl_state v
  s.setHol { s.hol with parent := { s.hol.parent with since := s.elapsed } }

/-- Partners that are not FREE. -/
def State.busyPartners (s : State) : List Nat := (List.range 1024).filter (fun p => s.partnerState p != 0)

/-- The register holding a partner's first word lists only non-reset entries, so no partner is busy when none is listed. -/
def State.anyPartner (s : State) : Bool :=
  s.regs.any (fun e => A.hmacHolPartnerW0 0 ≤ e.1 && e.1 < A.hmacHolPartnerW0 1024 && (e.1 - A.hmacHolPartnerW0 0) % 32 == 0
    && F.hmacHolPartnerW0_state.get e.2 != 0)

/-! ### Channels (R199–R203) -/

/-- The radio of a channel index. -/
def bandOfIdx (i : Nat) : Nat := if i < 8 then 0 else if i < 32 then 1 else 2

/-- The channel map in force at the coordinator. -/
def State.chMap (s : State) : Nat := (s.reg A.hmacHolChmapHi).toNat * 2 ^ 32 + (s.reg A.hmacHolChmapLo).toNat
def State.setChMap (s : State) (m : Nat) : State :=
  (s.setReg A.hmacHolChmapHi (BitVec.ofNat 32 (m / 2 ^ 32))).setReg A.hmacHolChmapLo (BitVec.ofNat 32 (m % 2 ^ 32))

/-- used_b: indices of a band in a map, ascending. -/
def usedOf (m b : Nat) : List Nat := (List.range 64).filter (fun i => m.testBit i && bandOfIdx i == b)

/-- The hop rule (R200). -/
def hopIndex (ec hop p : Nat) (used : List Nat) : Option Nat :=
  if used.isEmpty then none else used[(ec * hop + p) % used.length]?

/-- A channel definition word, valid for its radio (R199). -/
def chdefOk (i : Nat) (w : Word) : Bool :=
  let b := bandOfIdx i
  let wd := F.hmacHolChdef_width.get w
  let c := F.hmacHolChdef_centre.get w
  let half := 20 * 2 ^ wd * 64 / 10
  wd ≤ [0, 3, 4].getD b 0 && (bandOf b).1 + half ≤ c && c + half ≤ (bandOf b).2

/-- Width code of a link's channel with this index: the parent's definitions for a member. -/
def State.chWidth (s : State) (p i : Nat) : Nat :=
  let w := if p = parentNo then BitVec.ofNat 32 (s.hol.parent.chdefs.getD i 0) else s.reg (A.hmacHolChdef i)
  F.hmacHolChdef_width.get w
def State.chCentre (s : State) (p i : Nat) : Nat :=
  let w := if p = parentNo then BitVec.ofNat 32 (s.hol.parent.chdefs.getD i 0) else s.reg (A.hmacHolChdef i)
  F.hmacHolChdef_centre.get w

/-! ### A link's settings -/

def State.linkBands (s : State) (p : Nat) : Nat :=
  if p = parentNo then s.fld A.hmacHolParentSched2 F.hmacHolParentSched2_bands
  else s.fld (A.hmacHolPartnerW0 p) F.hmacHolPartnerW0_bands
def State.linkEvent (s : State) (p : Nat) : Nat :=
  (s.reg (if p = parentNo then A.hmacHolParentEvent else A.hmacHolPartnerW3 p)).toNat
def State.setLinkEvent (s : State) (p v : Nat) : State :=
  s.setReg (if p = parentNo then A.hmacHolParentEvent else A.hmacHolPartnerW3 p) (BitVec.ofNat 32 v)
def State.linkInterval (s : State) (p : Nat) : Nat :=
  max 1 (if p = parentNo then s.fld A.hmacHolParentSched2 F.hmacHolParentSched2_interval
    else s.fld (A.hmacHolPartnerW0 p) F.hmacHolPartnerW0_interval)
def State.linkWindow (s : State) (p : Nat) : Nat :=
  if p = parentNo then s.fld A.hmacHolParentSched F.hmacHolParentSched_window
  else s.fld (A.hmacHolPartnerW1 p) F.hmacHolPartnerW1_window
def State.linkGi (s : State) (p : Nat) : Nat :=
  if p = parentNo then s.hol.parent.gi else s.fld (A.hmacHolPartnerW2 p) F.hmacHolPartnerW2_gi
def State.linkHop (s : State) (p : Nat) : Nat :=
  if p = parentNo then s.hol.parent.hop else s.fld A.hmacHolRound F.hmacHolRound_hop_increment
def State.linkMap (s : State) (p : Nat) : Nat := if p = parentNo then s.hol.parent.map else s.chMap
/-- The number of a link in H-SIG and the hop rule. -/
def State.linkNo (s : State) (p : Nat) : Nat :=
  if p = parentNo then s.fld A.hmacHolParentSched2 F.hmacHolParentSched2_partner else p
def State.linkNs (s : State) (p : Nat) : Nat := if p = parentNo then s.parentNs else s.roundNs

/-- The channel index of a link's event on a band (R200). -/
def State.linkChannel (s : State) (p b : Nat) : Option Nat :=
  hopIndex (s.linkEvent p) (s.linkHop p) (s.linkNo p) (usedOf (s.linkMap p) b)

/-- This device's number (R194), and the other end's. -/
def State.ownDevice (s : State) : Nat := match s.flash.prov with | some r => r.device | none => 0
def State.linkDevice (s : State) (p : Nat) : Nat :=
  if p = parentNo then s.fld A.hmacHolParentCtl F.hmacHolParentCtl_coord_device
  else s.fld (A.hmacHolPartnerW0 p) F.hmacHolPartnerW0_peer_device

/-- This device's district tag (R214). -/
def State.districtTag (s : State) : Nat := match s.flash.prov with | some r => r.district % 65536 | none => 0

/-- The key slot of a link's key_id, and the key_id it transmits with. -/
def State.linkSlot (s : State) (p k : Nat) : Nat :=
  if p = parentNo then
    s.fld A.hmacHolParentKeys (if k = 0 then F.hmacHolParentKeys_key_slot0 else F.hmacHolParentKeys_key_slot1)
  else if k = 0 then s.fld (A.hmacHolPartnerW4 p) F.hmacHolPartnerW4_key_slot0
  else s.fld (A.hmacHolPartnerW5 p) F.hmacHolPartnerW5_key_slot1
def State.linkKeyId (s : State) (p : Nat) : Nat :=
  if p = parentNo then s.fld A.hmacHolParentKeys F.hmacHolParentKeys_tx_key_id
  else s.fld (A.hmacHolPartnerW0 p) F.hmacHolPartnerW0_tx_key_id

/-! ### Brim (R232) -/

/-- Brim in ns: 10 µs plus drift since the last valid frame, four times that in LANTERN_LOST, at most a quarter round. -/
def State.brim (s : State) (p : Nat) : Nat :=
  let own := max 1 (s.fld A.hmacHolCtl F.hmacHolCtl_own_ppm)
  let other := if p = parentNo then s.hol.parent.coordPpm else s.fld (A.hmacHolPartnerW2 p) F.hmacHolPartnerW2_peer_ppm
  let b := 10000 + (s.elapsed - (s.peer p).lastRx) * (own + other) / 1000000
  min (s.linkNs p / 4) (if p = parentNo ∧ s.memberState = 4 then 4 * b else b)

/-- rad-independent view of the brim in force in PARENT_SYNC, µs. -/
def State.showBrim (s : State) : State :=
  s.setFld A.hmacHolParentSync F.hmacHolParentSync_brim ((s.brim parentNo + 999) / 1000)

/-! ### The map store (R140, R141) -/

/-- Units of 64 bytes that a map takes: 16 header bytes and ceil(groups / 2) bytes per stream. -/
def HolMap.units (m : HolMap) : Nat := (16 + m.streams * ((m.groups + 1) / 2) + 63) / 64

/-- Is a run of n units from u free of the other maps? -/
def freeRun (l : List HolMap) (u n : Nat) : Bool := l.all (fun m => u + n ≤ m.unit || m.unit + m.units ≤ u)

/-- The lowest place for n units: after the start or after some map's end. -/
def findRun (l : List HolMap) (n : Nat) : Option Nat :=
  ((0 :: l.map (fun m => m.unit + m.units)).filter (fun u => u + n ≤ 16384 && freeRun l u n)).min?

/-- Free units, and the longest free run: from the start or a map's end to the next map's start or the end. -/
def freeUnits (l : List HolMap) : Nat := 16384 - l.foldl (fun a m => a + m.units) 0
def largestFree (l : List HolMap) : Nat :=
  let starts := 0 :: l.map (fun m => m.unit + m.units)
  (starts.map (fun u => (((l.filter (fun m => u ≤ m.unit)).map (·.unit)).min?).getD 16384 - u)).foldl max 0

/-- HMAC_MAP_STATUS follows the store. -/
def State.showMaps (s : State) : State :=
  (s.setFld A.hmacMapStatus F.hmacMapStatus_free_units (freeUnits s.hol.maps)).setFld
    A.hmacMapStatus F.hmacMapStatus_largest_free (largestFree s.hol.maps)

/-- The same map slot: kind, partner, band and ID. -/
def HolMap.same (a b : HolMap) : Bool :=
  a.kind == b.kind && a.partner == b.partner && a.band == b.band && a.mapId == b.mapId

/-- A map is placed: in place of the one with its name when it fits there, else in contiguous free units; without space
the old map stays, counted and logged (R141). The result says whether it was placed. A receive map's map_seq follows the map it
replaces; with none there it starts at 0 (log entry 49). -/
def State.placeMap (s : State) (m : HolMap) : State × Bool :=
  let old := s.hol.maps.find? (fun n => n.same m)
  let rest := s.hol.maps.filter (fun n => !n.same m)
  let seq := match old with | some o => (o.seq + 1) % 256 | none => m.seq
  let m := if m.kind = 0 then { m with seq := seq } else m
  let at_ := match old with
    | some o => if m.units ≤ o.units then some o.unit else findRun rest m.units
    | none => findRun rest m.units
  match at_ with
  | some u => ((s.setHol { s.hol with maps := rest ++ [{ m with unit := u }] }).showMaps, true)
  | none => ((s.count A.hmacMapStoreFull).raise 21 .mapStoreFull 0 2 [m.partner, m.band], false)

/-- Maps of a link, or of one name, leave the store (R227, R229). -/
def State.dropMaps (s : State) (f : HolMap → Bool) : State :=
  (s.setHol { s.hol with maps := s.hol.maps.filter (fun m => !f m) }).showMaps

/-- Base loading as a map: 2 bits on every group, rate 1/2, one stream (R132). -/
def baseMap (kind p b w ver : Nat) : HolMap :=
  { kind := kind, mapId := 0, band := b, partner := p, width := w, rate := 0, streams := 1, codedBits := baseBits w
    groups := toneGroups w, seq := 0, calVersion := ver, valid := true, unit := 0
    entries := [List.replicate (toneGroups w) 2] }

/-- A radio's calibration version. -/
def State.calVersion (s : State) (r : Nat) : Nat := (s.reg (A.radCalVersion r)).toNat

/-- Map ID 0 of every band in the set becomes base loading, for transmission and reception (R225). -/
def State.installBase (s : State) (p : Nat) : State :=
  (bitsOf 3 (s.linkBands p)).foldl (fun s b =>
    let w := match s.linkChannel p b with | some i => s.chWidth p i | none => 0
    (((s.placeMap (baseMap 0 p b w (s.calVersion b))).1).placeMap (baseMap 1 p b w (s.calVersion b))).1) s

/-- The map a link is sent with on a band: the one last used if valid and its streams fit, else the valid one with the most
streams that fit; none means base loading (R185). -/
def State.sendMap (s : State) (p r : Nat) : Option HolMap :=
  let n := ones (s.txChains r)
  let ok := s.hol.maps.filter (fun m => m.valid && m.kind == 1 && m.partner == p && m.band == r && m.streams ≤ n)
  match ok.find? (fun m => some m.mapId == Tbl.find? (s.peer p).txMapId r) with
  | some m => some m
  | none => ok.foldl (fun b m => match b with | some x => if x.streams < m.streams then some m else b | none => some m) none

/-- TXTIME of a PSDU of n bytes under a map, or under base loading at a width. -/
def psduTime (m : Option HolMap) (width gi n : Nat) : Nat :=
  match m with
  | some m => holTxTime m.streams (nSym n m.rate m.codedBits) gi
  | none => holTxTime 1 (nSym n 0 (baseBits width)) gi

/-! ### Frames (R214–R219) -/

/-- The 20-byte MAC header (R214) (log entry 59). -/
def holHeader (type kid dir : Nat) (ack retry : Bool) (tx rx tag pn win event : Nat) : List Byte :=
  toLE 1 (type + 16 + 32 * kid + 64 * dir + (if ack then 128 else 0)) ++ toLE 1 (if retry then 1 else 0)
    ++ toLE 2 tx ++ toLE 2 rx ++ toLE 2 tag ++ toLE 6 pn ++ toLE 2 win ++ toLE 4 event

/-- The nonce: transmitter, receiver (0xFFFF in a LANTERN), 0x0000, packet number (R217). -/
def holNonce (tx rx pn : Nat) : List Byte := toLE 2 tx ++ toLE 2 rx ++ [0, 0] ++ toLE 6 pn

/-- A PSDU: header, sealed acknowledgement element and body, tag, FCS; a LANTERN's body is authenticated only
(log entry 59). -/
def sealHol (key : List Byte) (hdr body : List Byte) (tx rx pn : Nat) (lantern : Bool) : List Byte :=
  let p := if lantern then
      let (_, t) := Crypto.gcmSeal key (holNonce tx 0xFFFF pn) (hdr ++ body) []
      hdr ++ body ++ t
    else
      let (c, t) := Crypto.gcmSeal key (holNonce tx rx pn) hdr body
      hdr ++ c ++ t
  p ++ toLE 4 (crc32 p)

/-- Open a PSDU without its FCS: the plaintext after the header, if it authenticates. -/
def openHol (key : List Byte) (psdu : List Byte) (tx rx pn : Nat) (lantern : Bool) : Option (List Byte) :=
  let p := psdu.take (psdu.length - 4)
  let hdr := p.take 20
  let body := (p.drop 20).take (p.length - 36)
  let tag := p.drop (p.length - 16)
  if lantern then (Crypto.gcmOpen key (holNonce tx 0xFFFF pn) (hdr ++ body) [] tag).map (fun _ => body)
  else Crypto.gcmOpen key (holNonce tx rx pn) hdr body tag

/-- The replay check (R219): accept above h, or within the 64 below it if not yet seen. -/
def Replay.ok (w : Replay) (n : Nat) : Bool := w.high < n || (w.high < n + 64 && !w.seen.testBit (w.high - n) && n != 0)

/-- The record after accepting n. -/
def Replay.accept (w : Replay) (n : Nat) : Replay :=
  if w.high < n then { w with high := n, seen := (w.seen * 2 ^ (n - w.high) + 1) % 2 ^ 64 }
  else { w with seen := setBit w.seen (w.high - n) }

/-- The record for a slot and its generation: cleared when either is another. -/
def Replay.under (w : Replay) (slot g : Nat) : Replay := if w.slot = slot ∧ w.gen = g then w else ⟨slot, g, 0, 0⟩

/-- Is a slot usable for Holael traffic: CIP lit and the slot written with a traffic key (R217, R286)? -/
def State.keyOk (s : State) (slot : Nat) : Bool := s.isLit 10 && (s.key slot).cls == 0

/-- The start of a Holael operation under a slot (R217, R286, R289): refused, or the slot's next packet number drawn, which
logs HOL_PN_WARN at the warning value (R220, R296). -/
def State.holDraw (s : State) (slot arg : Nat) : State × Nat × Nat :=
  let (t, st, pn) := s.cipBegin slot (fun c => c == 0) (some 32) (some 3)
  (if (t.key slot).warned ∧ !(s.key slot).warned then t.raise 21 .holPnWarn 0 2 [arg] else t, st, pn)

/-- Is a link's traffic under a key held until the slot's generation changes (R220)? -/
def State.linkHeld (s : State) (p k : Nat) : Bool :=
  let q := s.peer p
  let slot := s.linkSlot p k
  (if k = 0 then q.held0 else q.held1) == some (slot, (s.key slot).gen)
def State.holdKey (s : State) (p k : Nat) : State :=
  let q := s.peer p
  let slot := s.linkSlot p k
  let g := some (slot, (s.key slot).gen)
  s.setPeer p (if k = 0 then { q with held0 := g } else { q with held1 := g })

/-! ### Freeing a link (R227, R233, R234) -/

/-- A partner becomes FREE: reservation and maps released; key slots stay. -/
def State.freePartner (s : State) (p : Nat) : State :=
  let s := s.setPartnerState p 0
  let s := ((s.setFld (A.hmacHolPartnerW2 p) F.hmacHolPartnerW2_dim_level 0).setFld
    (A.hmacHolPartnerW2 p) F.hmacHolPartnerW2_missed 0).setFld (A.hmacHolPartnerW2 p) F.hmacHolPartnerW2_absent_bands 0
  let s := s.setPeer p HolPeer.init
  let s := s.setHol { s.hol with snr := Tbl.drop (fun k => k % 1025 == p) s.hol.snr
                                 cands := Tbl.drop (fun k => k % 1025 == p) s.hol.cands
                                 offers := s.hol.offers.filter (fun o => o.peer != p)
                                 events := Tbl.drop (fun b => (Tbl.find? s.hol.events b).any (·.peer == p)) s.hol.events }
  s.dropMaps (fun m => m.partner == p)

/-- The parent link's maps, averages and offers go; its registers show no link. -/
def State.clearParentLink (s : State) : State :=
  let s := s.setHol { s.hol with snr := Tbl.drop (fun k => k % 1025 == parentNo) s.hol.snr
                                 cands := Tbl.drop (fun k => k % 1025 == parentNo) s.hol.cands
                                 offers := s.hol.offers.filter (fun o => o.peer != parentNo) }
  let s := (s.setFld A.hmacHolParentSync F.hmacHolParentSync_missed 0).setFld
    A.hmacHolParentSupv F.hmacHolParentSupv_supervision 0
  s.dropMaps (fun m => m.partner == parentNo)

/-- The member returns to UNJOINED. -/
def State.unjoin (s : State) : State :=
  let s := (s.setMemberState 0).clearParentLink
  let s := s.setPeer parentNo HolPeer.init
  s.setHol { s.hol with parent := { s.hol.parent with joinSent := false, joinAnswered := false }
                        events := Tbl.drop (fun b => (Tbl.find? s.hol.events b).any (·.peer == parentNo)) s.hol.events }

/-! ### Reserved phases of a band (R198, R238) -/

/-- A reserved phase: interval, phase, offset, window, the last two in 125 µs units. -/
abbrev Reserved := Nat × Nat × Nat × Nat

/-- Length of the join window: cut at the end of its round (R198) (log entry 68). -/
def State.joinLen (s : State) : Nat :=
  min (s.fld A.hmacHolJoin F.hmacHolJoin_join_len) (s.roundUnits - s.fld A.hmacHolJoin F.hmacHolJoin_join_offset)

/-- The coordinator's reserved phases on a band: lantern reserve and join window on the anchor's, and partners not FREE. -/
def State.ownPhases (s : State) (b : Nat) : List Reserved :=
  let anchor : List Reserved := if bandOfIdx (s.fld A.hmacHolRound F.hmacHolRound_anchor) = b then
      (1, 0, 0, s.fld A.hmacHolRound F.hmacHolRound_lantern_reserve) ::
        (if s.bit A.hmacHolJoin F.hmacHolJoin_join_en then
          [(1, 0, s.fld A.hmacHolJoin F.hmacHolJoin_join_offset, s.joinLen)] else [])
    else []
  let ps : List Reserved := if s.anyPartner then
      (s.busyPartners.filter (fun p => (s.linkBands p).testBit b)).map (fun p =>
        (s.linkInterval p, s.fld (A.hmacHolPartnerW2 p) F.hmacHolPartnerW2_phase,
          s.fld (A.hmacHolPartnerW1 p) F.hmacHolPartnerW1_offset, s.linkWindow p))
    else []
  anchor ++ ps

/-- The parent's events on a band. -/
def State.parentPhases (s : State) (b : Nat) : List Reserved :=
  if 3 ≤ s.memberState ∧ (s.linkBands parentNo).testBit b then
    [(s.linkInterval parentNo, s.fld A.hmacHolParentSched2 F.hmacHolParentSched2_phase,
      s.fld A.hmacHolParentSched F.hmacHolParentSched_offset, s.linkWindow parentNo)]
  else []

/-- The window of a phase, in rounds of n ns, that t lies in or before: its start and its end. -/
def phaseSpan (n t : Nat) (w : Reserved) : Nat × Nat :=
  let u := 125000
  let iv := max 1 w.1
  let k0 := if t < (w.2.2.1 + w.2.2.2) * u then 0 else (t - (w.2.2.1 + w.2.2.2) * u) / n + 1
  let k := k0 + (iv + w.2.1 % iv - k0 % iv) % iv
  (k * n + w.2.2.1 * u, k * n + (w.2.2.1 + w.2.2.2) * u)

/-- The parent's lantern listen that t lies in or before (R211). -/
def State.listenSpan (s : State) (t : Nat) : Nat × Nat :=
  let n := s.parentNs
  let b := s.brim parentNo
  let k := if t < b then 0 else (t - b) / n + 1
  (k * n - b, k * n + b)

/-- The Holael windows of this device on a radio that t lies in or before, the next of each kind: the coordinator's lantern, join
window and events, the member's events, lantern listens and join windows, and a scan or search, which has no end set (R198, R233,
R260). -/
def State.holWindows (s : State) (r t : Nat) : List (Nat × Nat) :=
  let own := if s.bit A.hmacHolCtl F.hmacHolCtl_coord_en then (s.ownPhases r).map (phaseSpan s.roundNs t) else []
  let member := s.bit A.hmacHolCtl F.hmacHolCtl_member_en && bandOfIdx s.hol.parent.anchor == r
  let st := s.memberState
  let listen := if member ∧ (st = 3 ∨ st = 4) then [s.listenSpan t]
    else if member ∧ (st = 1 ∨ st = 5) then [(t, t + 2 ^ 40)]
    else if member ∧ st = 2 then [phaseSpan s.parentNs t (1, 0, s.hol.parent.joinOffset, s.hol.parent.joinLen)]
    else []
  let par := if s.bit A.hmacHolCtl F.hmacHolCtl_member_en then (s.parentPhases r).map (phaseSpan s.parentNs t) else []
  own ++ listen ++ par

/-- The time from t to the next Holael window of this device on a radio, at most `most`; 0 inside one. -/
def State.holFree (s : State) (r t most : Nat) : Nat := (s.holWindows r t).foldl (fun m w => min m (w.1 - t)) most

end Sys2Proof.Machine
end

