-- ==== Sys2Proof/Machine/SchCore.lean ====
section
/-!
DEFINITION. The scheduler's shared operations: queues, tags and credits, meters, admission (R339–R355).
-/

namespace Sys2Proof.Machine

def State.setSch (s : State) (x : SchState) : State := { s with sch := x }

/-- A queue's tier, egress and station (R340–R342). -/
def State.qTier (s : State) (q : Nat) : Nat := s.fld (A.schQW0 q) F.schQW0_tier
def State.qEgress (s : State) (q : Nat) : Nat := s.fld (A.schQW0 q) F.schQW0_egress
def State.qStation (s : State) (q : Nat) : Nat := s.fld (A.schQW1 q) F.schQW1_station

/-- A queue's record. -/
def State.schQ (s : State) (q : Nat) : SchQueue := Tbl.get (fun _ => SchQueue.init) s.sch.queues q

/-- Cells a queue holds. -/
def SchQueue.cells (x : SchQueue) : Nat := x.pkts.foldl (fun a p => a + cellsOf p.bytes.length) 0

/-! ### Tags (R343, R344) -/

/-- Is tag a later than b, by modular distance on 48 bits? -/
def tagLater (a b : Nat) : Bool :=
  let d := (a + 2 ^ 48 - b) % 2 ^ 48
  1 ≤ d && d < 2 ^ 47

/-- The later of two tags. -/
def tagMax (a b : Nat) : Nat := if tagLater a b then a else b

/-! ### Eligibility (R344, R346, R347) -/

/-- The WLAN station whose four queues hold a queue (R342). -/
def State.qEntry (s : State) (q : Nat) : Option Nat :=
  (List.range 1536).find? (fun n => s.sta n == 3 &&
    s.fld (A.hmacWlanStationW4 n) F.hmacWlanStationW4_queue_base / 4 == q / 4)

/-- Is the queue of a radio's WLAN service, and not a management queue? -/
def State.isWlanQ (s : State) (q : Nat) : Bool :=
  18 < q && 16 ≤ s.qEgress q && s.qEgress q ≤ 18 && s.qStation q < 1536

/-- Is a queue shaped? -/
def State.isShaped (s : State) (q : Nat) : Bool := 18 < q && s.bit (A.schQW0 q) F.schQW0_shaper_en

/-- The credit of a queue settled to now. -/
def State.creditNow (s : State) (q : Nat) : Int :=
  let x := s.schQ q
  let slope := s.fld (A.schQW4 q) F.schQW4_idle_slope
  let gain : Int := slope * (s.elapsed - x.since)
  if !s.isShaped q ∨ slope = 0 then x.credit
  else if x.pkts.isEmpty then (if 0 < x.credit then 0 else min 0 (x.credit + gain))
  else min (s.fld (A.schQW5 q) F.schQW5_hi_credit * 1000000) (x.credit + gain)

/-- May a queue be served, if it is backlogged? -/
def State.qEligible (s : State) (q : Nat) : Bool :=
  (!s.isShaped q || (s.fld (A.schQW4 q) F.schQW4_idle_slope != 0 && decide (0 ≤ s.creditNow q)))
    && (!s.isWlanQ q || (s.qEntry q).any s.staMay)

/-- The scheduling domain of a queue. -/
def State.qDomain (s : State) (q : Nat) : Nat :=
  let e := s.qEgress q
  if 16 ≤ e ∧ e ≤ 18 ∧ 18 < q ∧ 1536 ≤ s.qStation q then 1000 + 8 * s.qStation q + s.qTier q else 8 * e + s.qTier q

/-- A domain's virtual time. -/
def State.vt (s : State) (d : Nat) : Nat := Tbl.get (fun _ => 0) s.sch.vtime d

/-- A queue's record and its state words. -/
def State.setSchQ (s : State) (q : Nat) (x : SchQueue) : State :=
  let s := s.setSch { s.sch with queues := Tbl.set (fun _ => SchQueue.init) q x s.sch.queues }
  let a := A.schQW7 q
  let s := s.setReg (A.schQW6 q) (BitVec.ofNat 32 (unsigned 32 (x.credit / 1000000)))
  (s.setFld a F.schQW7_backlogged (if x.pkts.isEmpty then 0 else 1)).setFld a F.schQW7_backlog x.cells

/-- The queue's credit is settled, and it wakes if it is now backlogged and eligible and was not (R344). -/
def State.refreshQ (s : State) (q : Nat) : State :=
  let x := s.schQ q
  let c := s.creditNow q
  let up := !x.pkts.isEmpty && s.qEligible q
  let tag := if up ∧ !x.awake then tagMax (s.vt (s.qDomain q)) x.tag else x.tag
  s.setSchQ q { x with credit := c, since := s.elapsed, awake := up, tag := tag }

/-- The queues of a station's entry are looked at again: HMAC holds or releases them (R267, R268, R344). -/
def State.wakeStation (s : State) (n : Nat) : State :=
  let b := s.fld (A.hmacWlanStationW4 n) F.hmacWlanStationW4_queue_base / 4 * 4
  [b, b + 1, b + 2, b + 3].foldl (fun s q => if (s.schQ q).pkts.isEmpty then s else s.refreshQ q) s

/-! ### Meters (R348, R349) -/

/-- A meter in force. -/
def State.meter (s : State) (m : Nat) : Meter :=
  Tbl.get (fun _ => ⟨D.schMtrW0.resetWord, 0, 0, 0, 0, 0, 0⟩) s.sch.meters m
def State.setMeter (s : State) (m : Nat) (x : Meter) : State :=
  let s := s.setSch { s.sch with meters := Tbl.set (fun _ => ⟨D.schMtrW0.resetWord, 0, 0, 0, 0, 0, 0⟩) m x s.sch.meters }
  (s.setFld (A.schMtrW4 m) F.schMtrW4_tc (x.tc / 1000000)).setFld (A.schMtrW5 m) F.schMtrW5_tp (x.tp / 1000000)

/-- The meter that a packet of this cycle meets: the old one, where its configuration was replaced in this cycle (R349). -/
def State.meterMet (s : State) (m : Nat) : Meter :=
  match s.sch.replaced.find? (fun o => o.1 == m && o.2.1 == s.elapsed) with
  | some o => o.2.2
  | none => s.meter m

/-- A packet has taken its tokens. -/
def State.meterTaken (s : State) (m : Nat) (x : Meter) : State :=
  if s.sch.replaced.any (fun o => o.1 == m && o.2.1 == s.elapsed) then
    s.setSch { s.sch with replaced := s.sch.replaced.map (fun o => if o.1 == m then (m, o.2.1, x) else o) }
  else s.setMeter m x

/-- A meter's configuration is accepted: both buckets are full, and packets of this cycle still meet the old one. -/
def State.replaceMeter (s : State) (m : Nat) (x : Meter) : State :=
  let l := s.sch.replaced.filter (fun o => o.2.1 == s.elapsed) ++ [(m, s.elapsed, s.meter m)]
  (s.setMeter m x).setSch { (s.setMeter m x).sch with replaced := l }

/-- Tokens credited to now. -/
def Meter.settle (x : Meter) (now : Nat) : Meter :=
  let dt := now - x.at_
  { x with tc := min (F.schMtrW2_cbs.get x.w2 * 1000000) (x.tc + F.schMtrW0_cir.get x.w0 * dt)
           tp := min (F.schMtrW3_pbs.get x.w3 * 1000000) (x.tp + F.schMtrW1_pir.get x.w1 * dt)
           at_ := now }

/-- The colour of a packet of b bytes by RFC 2698: 0 green, 1 yellow, 2 red; and the meter after it. -/
def Meter.colour (x : Meter) (b pre : Nat) : Nat × Meter :=
  let n := b * 1000000
  if pre = 2 ∨ x.tp < n then (2, x)
  else if pre = 1 ∨ x.tc < n then (1, { x with tp := x.tp - n })
  else (0, { x with tp := x.tp - n, tc := x.tc - n })

/-- The input colour of colour-aware operation, from the DEI bit or the drop precedence of an AF DSCP (R348). -/
def inColour (src dei : Nat) (dscp : Option Nat) : Nat :=
  if src = 0 then min 1 dei
  else match dscp with
    | some d => if d % 2 = 0 ∧ 8 ≤ d ∧ d < 40 ∧ 1 ≤ d % 8 / 2 then d % 8 / 2 - 1 else 0
    | none => 0

/-! ### Admission (R351–R353) -/

/-- What a packet is metered by: meter, colour awareness, DEI and DSCP. -/
structure Metering where
  meter : Nat
  aware : Bool
  dei : Nat
  dscp : Option Nat
  deriving DecidableEq, Repr

/-- A drop counted in a global counter and in the queue's counter of the packet's colour. -/
def State.schDrop (s : State) (a q colour : Nat) : State :=
  (s.count a).count (if colour = 0 then A.schQcDropGreen q else if colour = 1 then A.schQcDropYellow q else A.schQcDropRed q)

/-- The packet joins its queue. -/
def State.enqueue (s : State) (q : Nat) (p : SchPkt) : State :=
  let s := s.setFree (s.freeCells - cellsOf p.bytes.length)
  let x := s.schQ q
  let c := s.creditNow q
  ((s.setSchQ q { x with pkts := x.pkts ++ [p], credit := c, since := s.elapsed }).refreshQ q).count (A.schQcEnq q)

/-- A packet arrives at SCH: the checks of R351 in order; true where it was enqueued. Tier 0, which only CDM may send, skips
checks 3 to 5. -/
def State.schAdmit (s : State) (q : Nat) (p : SchPkt) (mt : Option Metering) (cdm : Bool) : State × Bool :=
  if q ≤ 18 ∧ !cdm then (s.count A.schDropMgmtQ, false)
  else if !s.bit A.schCtl F.schCtl_enable ∨ !s.bit (A.schQW0 q) F.schQW0_enable then (s.count A.schDropDisabled, false)
  else
    let p := { p with at_ := s.count32 }
    if q ≤ 18 then (s.enqueue q p, true)
    else
      let (s, colour, drop) := match mt with
        | none => (s, 0, false)
        | some t =>
          let x := (s.meterMet t.meter).settle s.elapsed
          let pre := if t.aware then inColour (F.schMtrW0_colour_src.get x.w0) t.dei t.dscp else 0
          let (c, x) := x.colour p.bytes.length pre
          (s.meterTaken t.meter x, c, (c == 1 && F.schMtrW0_yellow_drop.get x.w0 == 1) || (c == 2 && F.schMtrW0_red_drop.get x.w0 == 1))
      let need := cellsOf p.bytes.length
      let lim := if colour = 0 then s.fld (A.schQW2 q) F.schQW2_q_limit else s.fld (A.schQW3 q) F.schQW3_yellow_limit
      let reserve := if 3 ≤ s.qTier q then s.fld A.schPoolCfg F.schPoolCfg_reserve else 0
      if drop then (s.schDrop A.schDropMeter q colour, false)
      else if lim < (s.schQ q).cells + need then (s.schDrop A.schDropQlimit q colour, false)
      else if s.freeCells < need + reserve then (s.schDrop A.schDropStore q colour, false)
      else (s.enqueue q { p with colour := colour }, true)

/-! ### Service (R343, R355) -/

/-- The delay bin of a packet delayed n ns. -/
def delayBin (n : Nat) : Nat := ((List.range 15).find? (fun k => n < 1000 * 2 ^ k)).getD 15

/-- A queue's head is dequeued: tags, virtual time, credit, cells, bin and count. -/
def State.dequeue (s : State) (q : Nat) (p : SchPkt) : State :=
  let x := s.schQ q
  let d := s.qDomain q
  let w := max 1 (s.fld (A.schQW0 q) F.schQW0_weight)
  let f := (x.tag + p.bytes.length * 256 / w) % 2 ^ 48
  let s := s.setSch { s.sch with vtime := Tbl.set (fun _ => 0) d (tagMax (s.vt d) x.tag) s.sch.vtime }
  let debit : Int := (p.bytes.length + s.fld (A.schEgress (s.qEgress q)) F.schEgress_overhead) * 1000000
  let c := if s.isShaped q then s.creditNow q - debit else x.credit
  let rest := x.pkts.erase p
  let c := if rest.isEmpty ∧ 0 < c then 0 else c
  let s := s.setSchQ q { x with pkts := rest, tag := f, credit := c, since := s.elapsed }
  let up := !rest.isEmpty && s.qEligible q
  let s := s.setSchQ q { s.schQ q with awake := up }
  let s := (s.setFree (s.freeCells + cellsOf p.bytes.length)).count (A.schQcDeq q)
  s.count (A.schHist q (delayBin ((s.count32 + 2 ^ 32 - p.at_) % 2 ^ 32)))

/-- The finish tag of a queue's head. -/
def State.finishTag (s : State) (q : Nat) : Nat :=
  let x := s.schQ q
  let n := match x.pkts with | p :: _ => p.bytes.length | [] => 0
  (x.tag + n * 256 / max 1 (s.fld (A.schQW0 q) F.schQW0_weight)) % 2 ^ 48

/-- The backlogged and eligible queues of a set that have the smallest tier, and among those the queue with the earliest finish
tag, the lowest number where tags tie. -/
def State.pickQ (s : State) (qs : List Nat) : Option Nat :=
  let up := qs.filter (fun q => (s.schQ q).awake && s.bit (A.schQW0 q) F.schQW0_enable)
  match (up.map s.qTier).min? with
  | none => none
  | some t =>
    let l := up.filter (fun q => s.qTier q == t)
    l.foldl (fun (b : Option Nat) q => match b with
      | none => some q
      | some k => if tagLater (s.finishTag k) (s.finishTag q) then some q else some k) none

end Sys2Proof.Machine
end

