-- ==== Sys2Proof/Machine/HolTx.lean ====
section
/-!
DEFINITION. Holael transmission: receive windows, lanterns, events, frames and their fit, joins as a sender, map offers (R128,
R197–R212, R223–R241).
-/

namespace Sys2Proof.Machine

/-! ### Sending a PSDU -/

/-- A PSDU goes to a radio as a transmit command with its H-SIG (R129, R207); what was sent last there is kept. `no` is the partner
number that H-SIG carries, `slack` how much later than `start` its RF may start, ns. -/
def State.sendPsdu (s : State) (r frameId start slack : Nat) (peer : Option Nat) (no type : Nat) (more response : Bool)
    (m : Option HolMap) (width gi centre slot : Nat) (bytes : List Byte) : State :=
  let m := if usesMap type then m else none
  let w := hsigBuild type no (match m with | some m => m.mapId | none => 0) (match m with | some m => m.streams | none => 1) gi
    bytes.length more
  let air := hsigAir w width m
  let map := match m, peer with | some m, some p => some (p, m.mapId) | _, _ => none
  let c : TxCmd := { frameId := frameId, centre := centre, chains := s.txChains r
                     earliest := start % 2 ^ 32, deadline := (start + slack) % 2 ^ 32, response := response
                     cls := if response then 0 else if type = 0 then 1 else 2
                     airNs := air, tx := Tx.holael width (hsigStreams w), hsig := some w, psdu := bytes, length := bytes.length
                     map := map, gs := [], keySlot := some slot, reply := immediate type, cal := none }
  (s.setHol { s.hol with sent := Tbl.insert r ⟨frameId, peer, type, more, start, air, false, [], none, false⟩ s.hol.sent }).issueTx r c

/-- ST_NONCE_EXHAUSTED: the frame is refused, counted, and the key's traffic held (R220). -/
def State.refusePn (s : State) (r frameId : Nat) : State :=
  (s.count A.hmacHolPnExhausted).setRd r { s.rd r with last := some ⟨frameId, ST.nonceExhausted, false, s.calVersion r⟩ }

/-- A frame on a link: protected under the transmit key, with the link's next packet number; nothing is sent, and the answer says
so, while the key is unusable or held, or refused its last number (R214–R222). -/
def State.sendLink (s : State) (r p frameId start slack type : Nat) (ack retry more response : Bool) (win : Nat)
    (body : List Byte) : State × Bool :=
  let k := s.linkKeyId p
  let slot := s.linkSlot p k
  match s.linkChannel p r with
  | none => (s, false)
  | some i =>
    if !s.isLit 10 ∨ s.linkHeld p k then (s, false)
    else
      let (s, st, pn) := s.holDraw slot p
      if st = ST.nonceExhausted then ((s.holdKey p k).refusePn r frameId, false)
      else if st ≠ ST.ok then (s, false)
      else
        let me := s.ownDevice
        let you := s.linkDevice p
        let hdr := holHeader type k (if p = parentNo then 1 else 0) ack retry me you s.districtTag pn win (s.linkEvent p)
        let q := s.peer p
        let ackEl := if ack then toLE 2 (q.ackStart % 4096) ++ toLE 8 q.ackMap else []
        let bytes := sealHol (s.key slot).key hdr (ackEl ++ body) me you pn false
        let m := if usesMap type then s.sendMap p r else none
        let s := match m with
          | some m => s.setPeer p { s.peer p with txMapId := Tbl.insert r m.mapId (s.peer p).txMapId }
          | none => s
        (s.sendPsdu r frameId start slack (some p) (s.linkNo p) type more response m (s.chWidth p i) (s.linkGi p)
          (s.chCentre p i) slot bytes, true)

/-! ### Map changes that come due (R203, R204) -/

/-- The pending change takes effect from its switch round on, at the coordinator. -/
def State.coordSwitch (s : State) (round : Nat) : State :=
  match s.hol.change with
  | some (m, a, sw) =>
    if sw ≤ round then
      let c := A.hmacHolChmapCtl
      let s := (s.setHol { s.hol with change := none }).setChMap m
      let s := s.setFld A.hmacHolRound F.hmacHolRound_anchor a
      (s.setFld c F.hmacHolChmapCtl_version ((s.fld c F.hmacHolChmapCtl_version + 1) % 256)).setFld
        c F.hmacHolChmapCtl_pending 0
    else s
  | none => s

/-- And at a member that heard of it. -/
def State.memberSwitch (s : State) (round : Nat) : State :=
  let p := s.hol.parent
  if p.switchRound ≠ 0 ∧ p.switchRound ≤ round then
    s.setHol { s.hol with parent := { p with map := p.nextMap, anchor := p.nextAnchor, switchRound := 0
                                             mapVersion := (p.mapVersion + 1) % 256 } }
  else s

/-! ### Lanterns (R197, R204, R239, R240) -/

/-- Bands under the coordinator's own announced absence in a round. -/
def State.absentBands (s : State) (round : Nat) : Nat :=
  s.hol.absences.foldl (fun m a => if a.start ≤ round ∧ round < a.start + a.rounds then m ||| a.bands else m) 0

/-- Congestion bits: a partner queue held data at an event end in the previous round, or a refusal within the last second
(R239). -/
def State.congestion (s : State) : Nat :=
  (List.range 3).foldl (fun m b =>
    let ref := match Tbl.find? s.hol.refused b with | some t => s.elapsed ≤ t + nsPerSec | none => false
    if s.hol.congLast.testBit b || ref then setBit m b else m) 0

/-- The lantern body of the round that starts at `start`, in ns of district time (R215). -/
def State.lanternBody (s : State) (round start : Nat) : List Byte :=
  let h := s.hol
  let anchor := s.fld A.hmacHolRound F.hmacHolRound_anchor
  let abs := (h.absences.filter (fun a => round < a.start + a.rounds)).take 4
  let (nm, na, sw) := match h.change with | some (m, a, w) => (m, a, w) | none => (0, anchor, 0)
  let flags := (if h.change.isSome then 1 else 0) + (if na ≠ anchor then 2 else 0)
    + (if s.bit A.hmacHolJoin F.hmacHolJoin_join_en then 4 else 0) + 8 * s.congestion
  toLE 6 (start / nsPerSec % 2 ^ 48) ++ toLE 4 (start % nsPerSec) ++ toLE 2 0 ++ toLE 6 round ++ toLE 2 s.roundUnits
    ++ toLE 1 (s.fld A.hmacHolChmapCtl F.hmacHolChmapCtl_version) ++ toLE 1 flags
    ++ toLE 1 (max 1 (s.fld A.hmacHolCtl F.hmacHolCtl_own_ppm)) ++ toLE 1 abs.length
    ++ toLE 2 (s.fld A.hmacHolJoin F.hmacHolJoin_join_offset) ++ toLE 1 s.joinLen
    ++ toLE 1 s.qualityNow ++ toLE 8 s.chMap ++ toLE 8 nm ++ toLE 6 sw ++ toLE 1 na ++ [0]
    ++ (abs.map (fun a => toLE 1 a.bands ++ [0] ++ toLE 2 a.rounds ++ toLE 6 a.start)).flatten

/-- LANTERN_TX: a coordinator whose anchor radio is lit builds the lantern of the round that starts next, its RF at the round start;
none while its own absence covers the anchor's band (R197, R240). A map change due at that round takes effect with it (R203). -/
def execLanternTx (frameId : Fin 65536) (s : State) : Host.Outcome State Fault Refusal :=
  .next (if s.isLit 21 ∧ s.bit A.hmacHolCtl F.hmacHolCtl_coord_en then
    let (k, start) := nextAt s.nowNs s.roundNs 0
    let round := k % 2 ^ 48
    let s := s.coordSwitch round
    let i := s.fld A.hmacHolRound F.hmacHolRound_anchor
    let r := bandOfIdx i
    let s := s.setHol { s.hol with congLast := s.hol.congNow, congNow := 0
                                   absences := s.hol.absences.filter (fun a => round < a.start + a.rounds) }
    let s := s.setFld A.hmacHolAbsence F.hmacHolAbsence_busy (if 4 ≤ s.hol.absences.length then 1 else 0)
    let slot := s.fld A.hmacHolKeys F.hmacHolKeys_group_slot
    if !s.radLit r ∨ (s.absentBands round).testBit r ∨ !s.isLit 10 then s
    else
      let (s, st, pn) := s.holDraw slot 0xFFFF
      if st = ST.nonceExhausted then s.refusePn r frameId
      else if st ≠ ST.ok then s
      else
        let me := s.ownDevice
        let hdr := holHeader 0 0 0 false false me 0 s.districtTag pn 0 (round % 2 ^ 32)
        let bytes := sealHol (s.key slot).key hdr (s.lanternBody round start) me 0 pn true
        s.sendPsdu r frameId start 0 none 0 0 false false none (s.chWidth 0 i) 0 (s.chCentre 0 i) slot bytes
  else s)

/-! ### Which frame, and its fit (R207–R210, R228–R231, R235–R237, R241) -/

/-- PSDU length for a body of n bytes. -/
def psduLen (ack : Bool) (n : Nat) : Nat := 40 + (if ack then 10 else 0) + n

/-- TXTIME of a frame of this type and PSDU length on a link. -/
def State.linkAir (s : State) (r p type len : Nat) : Nat :=
  let w := match s.linkChannel p r with | some i => s.chWidth p i | none => 0
  psduTime (if usesMap type then s.sendMap p r else none) w (s.linkGi p) len

/-- Time in ns that a frame of this type and PSDU length needs: TXTIME, brim, and its reply of 50 bytes under the receive
map in force (R235). -/
def State.needNs (s : State) (r p type len : Nat) : Nat :=
  let w := match s.linkChannel p r with | some i => s.chWidth p i | none => 0
  let back := match Tbl.find? (s.peer p).rxMapId r with
    | some id => s.findMap 0 p r id
    | none => s.findMap 0 p r 0
  s.linkAir r p type len + s.brim p + (if immediate type then 16000 + psduTime back w (s.linkGi p) 50 else 0)

/-- An MSDU subframe (R215). -/
def msduSub (sn frag : Nat) (last : Bool) (payload : List Byte) : List Byte :=
  toLE 4 (sn % 4096 + 4096 * frag + 65536 * payload.length + (if last then 2 ^ 30 else 0)) ++ payload
    ++ List.replicate (padLen payload.length) 0

/-- MSDUs dropped for their tries before a frame is built: retry_limit + 1 transmissions made (R237). -/
def State.dropRetried (s : State) (p : Nat) : State :=
  let lim := if p = parentNo then 7 else s.fld (A.hmacHolPartnerW1 p) F.hmacHolPartnerW1_retry_limit
  let q := s.peer p
  let gone := (q.txq.filter (fun m => lim + 1 ≤ m.tries)).length
  (s.setPeer p { q with txq := q.txq.filter (fun m => m.tries < lim + 1) }).countN A.hmacHolRetryDrop gone

/-- Whole MSDUs in order while the PSDU still fits: their subframes and how many. -/
def takeWhole (fit : Nat → Bool) : List HMsdu → List Byte → Nat → List Byte × Nat
  | [], acc, n => (acc, n)
  | m :: l, acc, n =>
    let acc' := acc ++ msduSub m.sn m.frags true (m.payload.drop m.sent)
    if fit acc'.length then takeWhole fit l acc' (n + 1) else (acc, n)

/-- The longest fragment of at most `most` payload bytes that fits, if one of at least 256 does (R236). -/
def fragSize (fit : Nat → Bool) (most : Nat) : Option Nat :=
  ((List.range (most + 1)).reverse).find? (fun n => 256 ≤ n && fit (4 + n + padLen n))

/-- The MSDUs that a band may take: those that no other band's exchange carries (R213). -/
def HolPeer.takeable (q : HolPeer) (r : Nat) : List HMsdu := q.txq.filter (fun m => m.on.all (· == r))

/-- The station table entry of a Holael link: 1 536 + partner; the parent's is that of the schedule it gave (log entry 60). -/
def State.linkStation (s : State) (n : Nat) : Nat :=
  1536 + (if n < 1024 then n else s.fld A.hmacHolParentSched2 F.hmacHolParentSched2_partner)

/-- Do SCH queues hold frames for a link: on one band, or on any? -/
def State.schHolds (s : State) (p : Nat) (band : Option Nat) : Bool :=
  let st := s.linkStation p
  s.sch.queues.any (fun e =>
    let eg := s.qEgress e.1
    16 ≤ eg && eg ≤ 18 && band.all (· == eg - 16)
      && (if e.1 ≤ 18 then e.2.pkts.any (·.station == st) else !e.2.pkts.isEmpty && s.qStation e.1 == st))

/-- Bodies of MAP_UPDATE frames (R215). -/
def mapBody (kind : Nat) (m : HolMap) : List Byte :=
  toLE 1 kind ++ toLE 1 m.band ++ toLE 1 m.mapId ++ toLE 1 m.seq ++ toLE 1 m.width
    ++ toLE 1 (4 * m.rate + (m.streams - 1)) ++ toLE 2 m.groups
    ++ (if kind = 0 then (m.entries.map packEntries).flatten else [])
where
  /-- two 4-bit entries a byte, the first in bits [3:0] -/
  packEntries : List Nat → List Byte
    | [] => []
    | [a] => [BitVec.ofNat 8 a]
    | a :: b :: l => BitVec.ofNat 8 (a + 16 * b) :: packEntries l

/-- What goes next on a link and band: a frame of some type with its body and, after DATA, an acknowledgement element; or DATA. -/
inductive HolNext where
  | plain (type : Nat) (body : List Byte) (ack : Bool)
  | data
  deriving DecidableEq, Repr

/-- The offer that a band may send now: not yet tried in this event, and at most five times (R230). -/
def State.offerDue (s : State) (r p : Nat) : Option Offer :=
  s.hol.offers.find? (fun o => o.peer == p && o.band == r && o.attempts < 5 && o.lastEc != some (s.linkEvent p))

/-- The next frame of a link in its event on a radio, if there is any. An answer to a MAP_UPDATE or, at the coordinator, to DATA comes
first: BACK, or DATA. Then a refresh request, at the coordinator as its first frame of the event (R231); LEAVE; a member's ABSENCE; an
offer; data; and last a member's BACK, or the coordinator's POLL: to open the event, after a missing reply, or where the
partner has more (R207–R210, R227–R231, R241). -/
def State.nextFrame (s : State) (r p : Nat) (e : HolEvent) (first : Bool) : Option HolNext :=
  let q := s.peer p
  let member : Bool := p = parentNo
  let ack := e.owed == some 2
  let asks : HolMap := { baseMap 0 p r 0 0 with groups := 0 }
  let has := !(q.takeable r).isEmpty
  if e.owed = some 6 then some (.plain 3 [] true)
  else if e.owed = some 2 ∧ !member then some (if has then .data else .plain 3 [] true)
  else if q.refUnsent.testBit r ∧ (member ∨ first) then some (.plain 6 (mapBody 1 asks) ack)
  else if q.leaving then some (.plain 8 [0, 0, 0, 0] ack)
  else match q.absSend, s.offerDue r p with
    | some (b, n, st), _ => some (.plain 7 (toLE 1 b ++ [0] ++ toLE 2 n ++ toLE 6 st) ack)
    | none, some o => some (.plain 6 (mapBody 0 o.map) ack)
    | none, none =>
      if has then some .data
      else if member then some (.plain 3 [] true)
      else if first ∨ e.again ∨ e.more then some (.plain 1 [] false)
      else none

/-- The event on a radio changed, if there is one. -/
def State.onEvent (s : State) (r : Nat) (f : HolEvent → HolEvent) : State :=
  match Tbl.find? s.hol.events r with
  | some e => s.setHol { s.hol with events := Tbl.insert r (f e) s.hol.events }
  | none => s

/-- What building a frame settles: the answer given, the reply to await, an offer tried in this event, the MSDUs that the band
carries. What goes with the RF is settled when that starts (State.holStart). -/
def State.markSent (s : State) (r p type : Nat) (body : List Byte) (sns : List Nat) (frag : Option Nat) : State :=
  let s := s.onEvent r (fun e => { e with owed := none, last := none, again := false, wait := immediate type })
  let isOffer : Bool := type == 6 && body.head? == some 0
  let ec := s.linkEvent p
  let offer (o : Offer) : Offer := if isOffer ∧ o.peer = p ∧ o.band = r then { o with lastEc := some ec } else o
  let sent := match Tbl.find? s.hol.sent r with
    | some x => Tbl.insert r { x with sns := sns, frag := frag, isOffer := isOffer } s.hol.sent
    | none => s.hol.sent
  let s := s.setHol { s.hol with offers := s.hol.offers.map offer, sent := sent }
  let q := s.peer p
  s.setPeer p { q with txq := q.txq.map (fun m => if sns.contains m.sn then { m with on := some r } else m) }

/-- H-SIG's more (R209): a member holds more for the coordinator than this frame; the coordinator means to open a further exchange,
having more for the partner or the partner more for it, where one fits. -/
def State.moreAfter (s : State) (r p : Nat) (e : HolEvent) (start type len left : Nat) : Bool :=
  if p = parentNo then 0 < left || s.schHolds p none
  else
    (0 < left || s.schHolds p (some r) || (type != 6 && (s.offerDue r p).isSome) || e.more)
      && start + s.needNs r p type len + 16000 + s.needNs r p 1 40 ≤ e.stop

/-- A frame other than DATA. -/
def State.sendPlain (s : State) (r p frameId start slack : Nat) (e : HolEvent) (type : Nat) (body : List Byte) (ack : Bool) : State :=
  let more := s.moreAfter r p e start type (psduLen ack body.length) ((s.peer p).takeable r).length
  let (s, sent) := s.sendLink r p frameId start slack type ack false more e.owed.isSome 0 body
  if sent then s.markSent r p type body [] none else s

/-- What goes where the next frame does not fit, if it fits itself: BACK where an answer is due; else the coordinator's POLL, to open the
event or a further exchange that the partner's data ask for (R207, R208, R236). -/
def State.sendLess (s : State) (r p frameId start slack budget : Nat) (e : HolEvent) : State :=
  if e.owed.isSome then if s.needNs r p 3 50 ≤ budget then s.sendPlain r p frameId start slack e 3 [] true else s
  else if p ≠ parentNo ∧ (e.last.isNone ∨ e.again ∨ e.more) ∧ s.needNs r p 1 40 ≤ budget then
    s.sendPlain r p frameId start slack e 1 [] false
  else s

/-- DATA on a link: whole MSDUs while they fit, in a PSDU that H-SIG's length and R126 allow; else a fragment of the first; else the
MSDU is deferred with ST_WINDOW_SHORT, and a BACK or a POLL goes in its place (R213, R216, R235–R237). -/
def State.sendData (s : State) (r p frameId start slack budget : Nat) (e : HolEvent) : State :=
  let q := s.peer p
  let l := q.takeable r
  let ack := e.owed == some 2
  let fit (n : Nat) : Bool := psduLen ack n ≤ 131071 && s.linkAir r p 2 (psduLen ack n) ≤ 5484000
    && s.needNs r p 2 (psduLen ack n) ≤ budget
  let win := (match q.txq with | m :: _ => m.sn | [] => 0) % 4096
  let (body, n) := takeWhole fit l [] 0
  if 0 < n then
    let now := l.take n
    let more := s.moreAfter r p e start 2 (psduLen ack body.length) (l.length - n)
    let (s, sent) := s.sendLink r p frameId start slack 2 ack (now.any (fun m => m.tries != 0)) more e.owed.isSome win body
    if sent then s.markSent r p 2 body (now.map (·.sn)) none else s
  else match l with
    | [] => s
    | m :: _ =>
      let can := p ≠ parentNo ∧ s.bit (A.hmacHolPartnerW0 p) F.hmacHolPartnerW0_frag_en ∧ m.frags < 15
      match if can then fragSize fit (m.payload.length - m.sent) else none with
      | some k =>
        let sub := msduSub m.sn m.frags false ((m.payload.drop m.sent).take k)
        let (s, sent) := s.sendLink r p frameId start slack 2 ack (m.tries != 0) true e.owed.isSome win sub
        if sent then s.markSent r p 2 sub [m.sn] (some k) else s
      | none =>
        let s := (s.count A.hmacHolWindowShort).setRd r
          { s.rd r with last := some ⟨frameId, ST.windowShort, false, s.calVersion r⟩ }
        s.sendLess r p frameId start slack budget e

/-- The next frame of a link's event on a radio, its RF at `start`, if the window fit test passes: window end or coexistence blanking,
whichever is earlier (R235, R236). Where it does not fit, a BACK or a POLL goes, if that does. -/
def State.trySend (s : State) (r p frameId start slack : Nat) (first : Bool) : State :=
  let s := s.dropRetried p
  match Tbl.find? s.hol.events r with
  | none => s
  | some e =>
    let budget := s.untilBlank r start (e.stop - start)
    match s.nextFrame r p e first with
    | none => s
    | some (.plain type body ack) =>
      if s.needNs r p type (psduLen ack body.length) ≤ budget then s.sendPlain r p frameId start slack e type body ack
      else s.sendLess r p frameId start slack budget e
    | some .data => s.sendData r p frameId start slack budget e

/-! ### Events (R205–R212, R230, R234) -/

/-- A polled event missed by a partner (R234): counted; every third in a row dims it further. -/
def State.missEvent (s : State) (p : Nat) : State :=
  let w2 := A.hmacHolPartnerW2 p
  let n := s.fld w2 F.hmacHolPartnerW2_missed + 1
  let st := s.partnerState p
  let s := s.count A.hmacHolPollMiss
  if n < 3 ∨ st = 1 then s.setFld w2 F.hmacHolPartnerW2_missed (min n 3)
  else
    let d := min 3 (s.fld w2 F.hmacHolPartnerW2_dim_level + 1)
    let s := (s.setFld w2 F.hmacHolPartnerW2_missed 0).setFld w2 F.hmacHolPartnerW2_dim_level d
    let s := s.setPeer p { s.peer p with dimBase := s.linkEvent p }
    if st = 2 then ((s.setPartnerState p 3).count A.hmacHolPartnerDim).raise 21 .partnerDim 0 2 [p] else s

/-- A partner that was polled and not heard on any band missed the event, once no band awaits a reply or a further exchange (R234). -/
def State.judge (s : State) (p : Nat) : State :=
  let q := s.peer p
  let open_ := s.hol.events.any (fun e => e.2.peer == p && (e.2.wait || e.2.again))
  if p = parentNo ∨ !q.polled ∨ open_ then s
  else
    let s := s.setPeer p { q with polled := false }
    if q.heard then s else s.missEvent p

/-- The event of a link is over on a band: a poll without a valid frame is a miss; data left marks congestion; MSDUs that the band
carried are free for others; a link whose LEAVE went out is freed (R213, R227, R234, R239). -/
def State.endEvent (s : State) (r : Nat) : State :=
  match Tbl.find? s.hol.events r with
  | none => s
  | some e =>
    let q := s.peer e.peer
    let held : Bool := e.peer ≠ parentNo && (!q.txq.isEmpty || s.schHolds e.peer (some r))
    let s := s.setHol { s.hol with events := Tbl.erase r s.hol.events
                                   congNow := if held then setBit s.hol.congNow r else s.hol.congNow }
    let s := s.setPeer e.peer { q with txq := q.txq.map (fun m => if m.on = some r then { m with on := none } else m) }
    let s := s.judge e.peer
    if !q.leaving ∨ !e.left then s
    else if e.peer = parentNo then s.unjoin
    else s.freePartner e.peer

/-- Does the parent link hold the radio at some time of [start, stop): its event under way, or a search on the anchor (R212, R233)? -/
def State.parentHolds (s : State) (r start stop : Nat) : Bool :=
  (match Tbl.find? s.hol.events r with | some e => e.peer == parentNo && start < e.stop && e.start < stop | none => false)
    || (s.memberState == 5 && bandOfIdx s.hol.parent.anchor == r)

/-- Does the next event of the parent, or a listen for its lantern, fall in [start, stop) on the radio (R211, R212)? -/
def State.parentMeets (s : State) (r start stop : Nat) : Bool :=
  let p := s.hol.parent
  let at_ := p.nextRound * s.parentNs + 125000 * s.fld A.hmacHolParentSched F.hmacHolParentSched_offset
  let away := p.absences.any (fun a => decide (a.start ≤ p.nextRound) && decide (p.nextRound < a.start + a.rounds)
    && a.bands.testBit r)
  let event := (s.linkBands parentNo).testBit r && decide (at_ < stop)
    && decide (start < at_ + 125000 * s.linkWindow parentNo) && !away
  let brim := s.brim parentNo
  let k := if start < brim then 0 else (start - brim) / s.parentNs + 1
  let listen := bandOfIdx p.anchor == r && decide (k * s.parentNs < stop + brim)
  (s.memberState == 3 || s.memberState == 4) && (event || listen)

/-- The round of a link's next scheduled event, and its start in ns (R205). -/
def State.nextRound (s : State) (p : Nat) : Nat :=
  if p = parentNo then s.hol.parent.nextRound
  else s.fld (A.hmacHolPartnerW7 p) F.hmacHolPartnerW7_next_round_hi * 2 ^ 32 + (s.reg (A.hmacHolPartnerW6 p)).toNat
def State.eventStart (s : State) (p : Nat) : Nat :=
  s.nextRound p * s.linkNs p + 125000 * (if p = parentNo then s.fld A.hmacHolParentSched F.hmacHolParentSched_offset
    else s.fld (A.hmacHolPartnerW1 p) F.hmacHolPartnerW1_offset)

/-- The event counter advances at the scheduled event time: 0 at the first event (R205, R225). -/
def State.advanceEvent (s : State) (p : Nat) : State :=
  let next := s.nextRound p
  let n := (next + s.linkInterval p) % 2 ^ 48
  let s := s.setLinkEvent p (if next = (s.peer p).first then 0 else (s.linkEvent p + 1) % 2 ^ 32)
  if p = parentNo then s.setHol { s.hol with parent := { s.hol.parent with nextRound := n } }
  else
    (s.setReg (A.hmacHolPartnerW6 p) (BitVec.ofNat 32 (n % 2 ^ 32))).setFld
      (A.hmacHolPartnerW7 p) F.hmacHolPartnerW7_next_round_hi (n / 2 ^ 32)

/-- Is this scheduled event polled at the partner's dim level (R234)? -/
def State.polledNow (s : State) (p : Nat) : Bool :=
  let d := s.fld (A.hmacHolPartnerW2 p) F.hmacHolPartnerW2_dim_level
  (s.linkEvent p + 2 ^ 32 - (s.peer p).dimBase) % 2 ^ 32 % 2 ^ d == 0

/-- A partner's event on one band: skipped and counted where the band has no channel or the parent needs the radio; not
held in an absence; else the coordinator's first frame goes at the event start. -/
def State.startBand (s : State) (p frameId round start b : Nat) : State :=
  let stop := start + 125000 * s.linkWindow p
  if (s.absentBands round).testBit b ∨ (s.fld (A.hmacHolPartnerW2 p) F.hmacHolPartnerW2_absent_bands).testBit b then s
  else if s.parentHolds b start stop ∨ s.parentMeets b start stop ∨ (s.linkChannel p b).isNone then s.count A.hmacHolEventSkipped
  else if !s.radLit b then s
  else
    let s := s.endEvent b
    let s := s.setHol { s.hol with events := Tbl.insert b (HolEvent.at p start stop) s.hol.events }
    s.trySend b p (frameId + b) start 0 true

/-- Events on a radio that have ended by an instant are over. -/
def State.endStale (s : State) (r now : Nat) : State :=
  match Tbl.find? s.hol.events r with
  | some e => if e.stop ≤ now then s.endEvent r else s
  | none => s

/-- The member's side of an event opens on its bands, those of an announced absence of the parent apart. -/
def State.memberEvent (s : State) (round start : Nat) : State :=
  let stop := start + 125000 * s.linkWindow parentNo
  let away := s.hol.parent.absences.foldl (fun m a =>
    if a.start ≤ round ∧ round < a.start + a.rounds then m ||| a.bands else m) 0
  ((bitsOf 3 (s.linkBands parentNo)).filter (fun b => !away.testBit b)).foldl (fun s b =>
    let s := s.endEvent b
    s.setHol { s.hol with events := Tbl.insert b (HolEvent.at parentNo start stop) s.hol.events }) s

/-- HOLAEL_EVENT_START: a link's next event, at most a round ahead: its counter advances; a coordinator's first frame goes out at the
event start on every band of the set; a member opens its side of the event (R205–R207, R212, R225, R234) (log entries 62, 63). -/
def execHolaelEventStart (p : Fin 1025) (frameId : Fin 65536) (s : State) : Host.Outcome State Fault Refusal :=
  .next (let round := s.nextRound p
  let start := s.eventStart p
  if !s.isLit 21 ∨ s.nowNs + s.linkNs p < start then s
  else if p = parentNo then
    if s.bit A.hmacHolCtl F.hmacHolCtl_member_en ∧ 3 ≤ s.memberState then
      let s := (s.memberSwitch round).advanceEvent parentNo
      let s := s.setPeer parentNo { s.peer parentNo with heard := false }
      if s.memberState = 5 then s else s.memberEvent round start
    else s
  else if s.bit A.hmacHolCtl F.hmacHolCtl_coord_en ∧ s.partnerState p ≠ 0 then
    let s := (bitsOf 3 (s.linkBands p)).foldl (fun s b => s.endStale b start) (s.coordSwitch round)
    if s.partnerState p = 0 then s
    else
      let s := s.advanceEvent p
      if s.partnerState p = 4 ∨ !s.polledNow p then s
      else
        let s := s.setPeer p { s.peer p with polled := false, heard := false }
        (bitsOf 3 (s.linkBands p)).foldl (fun s b => s.startBand p frameId round start b) s
  else s)

/-- Does HMAC listen for Holael on a radio: an event under way there, a join window of its own, or as a member on the anchor (R128)? -/
def State.holListens (s : State) (r : Nat) : Bool :=
  (Tbl.find? s.hol.events r).isSome
    || (s.bit A.hmacHolCtl F.hmacHolCtl_coord_en && s.bit A.hmacHolJoin F.hmacHolJoin_join_en
      && bandOfIdx (s.fld A.hmacHolRound F.hmacHolRound_anchor) == r)
    || (s.bit A.hmacHolCtl F.hmacHolCtl_member_en && s.memberState != 0 && bandOfIdx s.hol.parent.anchor == r)

/-- HOLAEL_RX_WINDOW: HMAC opens a window on the channel in use, with the partner expected where there is one, in an event or a listen
(R128); a loopback step ends (R170); with rx_req_en COEX_REQ rises at the frame's class. Closing it lets COEX_REQ fall (R118), and ends
an event whose window is over. -/
def execHolaelRxWindow (r : Rad) (win : Option (Option Nat × Fin 8)) (s : State) : Host.Outcome State Fault Refusal :=
  .next (if s.radLit r then
    match win with
    | some (p, cls) =>
      if s.bit (A.radPhyCtl r) F.radPhyCtl_holael_rx_en ∧ s.isLit 21 ∧ s.holListens r then
        let looping : Bool := match (s.rd r).cal.step with | some ⟨.loopback _ _ _, _⟩ => true | _ => false
        let s := if looping then s.dropStep r false else s
        let x := s.rd r
        let req := s.bit (A.radCtl r) F.radCtl_coex_en && s.bit (A.radCoexCtl r) F.radCoexCtl_rx_req_en
        s.setRd r { x with rxWin := some ⟨p, s.fld (A.radNfStatus r) F.radNfStatus_width⟩, coexReq := x.coexReq || req
                           coexPri := x.coexPri || (req && (s.fld (A.radCoexCtl r) F.radCoexCtl_pri_mask).testBit cls) }
      else s
    | none => ((s.setRd r { s.rd r with rxWin := none }).dropReq r).endStale r s.nowNs
  else s)

/-! ### Joins (R223–R225) -/

/-- What core software queued for a JOIN_RSP (R224): device, status, reason, partner, key element. -/
structure JoinRsp where
  device : Nat
  status : Nat
  reason : Nat
  partner : Nat
  keyElement : List Byte
  deriving DecidableEq, Repr

/-- A JOIN_RSP body (R215); for an accepting one HMAC fills schedule, map, anchor and channel definitions (R224). -/
def State.joinRspBody (s : State) (j : JoinRsp) : List Byte :=
  let p := j.partner
  toLE 1 j.status ++ toLE 1 j.reason ++ toLE 2 p
    ++ (if j.status = 0 then
        toLE 1 (s.linkBands p) ++ toLE 1 (s.linkGi p) ++ toLE 2 (s.linkInterval p)
          ++ toLE 1 (s.fld (A.hmacHolPartnerW2 p) F.hmacHolPartnerW2_phase) ++ [0]
          ++ toLE 2 (s.fld (A.hmacHolPartnerW1 p) F.hmacHolPartnerW1_offset) ++ toLE 2 (s.linkWindow p)
          ++ toLE 6 (s.peer p).first ++ toLE 2 (s.fld (A.hmacHolPartnerW4 p) F.hmacHolPartnerW4_supervision)
          ++ toLE 1 (s.fld A.hmacHolRound F.hmacHolRound_hop_increment)
          ++ toLE 1 (s.fld A.hmacHolRound F.hmacHolRound_anchor)
          ++ toLE 1 (s.fld A.hmacHolChmapCtl F.hmacHolChmapCtl_version) ++ [0] ++ toLE 8 s.chMap
          ++ ((List.range 64).map (fun i => toLE 4 (s.reg (A.hmacHolChdef i)).toNat)).flatten
      else [])
    ++ toLE 2 j.keyElement.length ++ j.keyElement

/-- The time a join frame needs by R235: TXTIME under base loading, brim, and for a JOIN_REQ its reply of 50 bytes. -/
def State.joinNeed (s : State) (i type len brim : Nat) : Nat :=
  let w := s.chWidth 0 i
  psduTime none w 0 len + brim + (if type = 4 then 16000 + psduTime none w 0 50 else 0)

/-- A join frame under the district join key on the anchor channel, a member's on the one it adopted (R202, R217, R223), if it fits
before `stop` and the next blanking window (R235). -/
def State.sendJoin (s : State) (frameId start slack stop type device no : Nat) (response : Bool) (body : List Byte) : State :=
  let member := type = 4
  let i := if member then s.hol.parent.anchor else s.fld A.hmacHolRound F.hmacHolRound_anchor
  let slot := s.fld A.hmacHolKeys F.hmacHolKeys_join_slot
  let r := bandOfIdx i
  let need := s.joinNeed i type (psduLen false body.length) (s.brim (if member then parentNo else no))
  if !s.isLit 10 ∨ !s.radLit r ∨ 800 < psduLen false body.length ∨ s.untilBlank r start (stop - start) < need then s
  else
    let (s, st, pn) := s.holDraw slot 0xFFFF
    if st = ST.nonceExhausted then s.refusePn r frameId
    else if st ≠ ST.ok then s
    else
      let me := s.ownDevice
      let hdr := holHeader type 0 (if member then 1 else 0) false false me device s.districtTag pn 0 0
      let bytes := sealHol (s.key slot).key hdr body me device pn false
      s.sendPsdu r frameId start slack none no type false response none (s.chWidth 0 i) 0 (s.chCentre 0 i) slot bytes

/-- The end of the coordinator's join window in the round of an instant. -/
def State.joinStop (s : State) (t : Nat) : Nat :=
  t / s.roundNs * s.roundNs + 125000 * (s.fld A.hmacHolJoin F.hmacHolJoin_join_offset + s.joinLen)

/-- HOLAEL_FRAME_TX: on the anchor's radio the JOIN_RSP that answers a JOIN_REQ; else the next frame of the event on the radio,
16 µs after the PPDU that it follows or answers, by the window fit test: an answer within 0.5 µs, a coordinator's within 1 ns
(R207–R210, R223, R235, R415) (log entries 66, 67). -/
def execHolaelFrameTx (r : Rad) (frameId : Fin 65536) (s : State) : Host.Outcome State Fault Refusal :=
  .next (if !s.isLit 21 then s
  else match s.hol.joinRsps, decide (bandOfIdx (s.fld A.hmacHolRound F.hmacHolRound_anchor) = r.val) with
  | (d, b, start) :: rest, true =>
    (s.setHol { s.hol with joinRsps := rest }).sendJoin frameId start 500 (s.joinStop start) 5 d 0 true b
  | _, _ => match Tbl.find? s.hol.events r with
    | some e => match e.last with
      | some t =>
        if e.wait ∨ (e.peer = parentNo ∧ e.owed.isNone) then s
        else s.trySend r e.peer frameId (t + 16000) (if e.peer = parentNo then 500 else 1) false
      | none => s
    | none => s)

/-- JOIN_WINDOW_OPEN: the JOIN_RSP that core software queued goes first in the coordinator's next join window, at its start. An
accepting one installs base loading (R198, R224, R225) (log entry 68). -/
def execJoinWindowOpen (frameId : Fin 65536) (rsp : Option (Fin 4096 × Fin 3 × Fin 4 × Fin 1024 × List Byte)) (s : State) :
    Host.Outcome State Fault Refusal :=
  .next (match rsp with
  | some (d, st, why, p, key) =>
    if s.isLit 21 ∧ s.bit A.hmacHolCtl F.hmacHolCtl_coord_en ∧ s.bit A.hmacHolJoin F.hmacHolJoin_join_en then
      let s := if st.val = 0 then s.installBase p else s
      let start := (nextAt s.nowNs s.roundNs (s.fld A.hmacHolJoin F.hmacHolJoin_join_offset * 125000)).2
      s.sendJoin frameId start 0 (s.joinStop start) 5 d (if st.val = 0 then p.val else 0) false (s.joinRspBody ⟨d, st, why, p, key⟩)
    else s
  | none => s)

/-- REPLY_WINDOW_CLOSE: no valid reply by 18 µs after the frame: a further exchange is due if a POLL fits 34 µs after that frame, once
in an event; else the band has done with the event, and the partner may have missed it (R210, R234) (log entry 65). -/
def execReplyWindowClose (r : Rad) (s : State) : Host.Outcome State Fault Refusal :=
  .next (match Tbl.find? s.hol.events r with
  | none => s
  | some e =>
    if !s.isLit 21 ∨ e.peer = parentNo ∨ !e.wait then s
    else match e.last with
      | none => s
      | some t =>
        if s.nowNs < t + 18000 then s
        else if !e.reopened ∧ t + 34000 + s.needNs r e.peer 1 40 ≤ e.stop then
          s.onEvent r (fun e => { e with wait := false, reopened := true, again := true, last := some (t + 18000) })
        else (s.onEvent r (fun e => { e with wait := false })).judge e.peer)

/-! ### Map changes and settings (R199–R203) -/

/-- CHMAP_CHANGE_REQ: a write of CHMAP_CTL with change_req 1 schedules the change at the current round plus lead; ignored
while one is pending (R203). -/
def execChmapChangeReq (who : Requester) (w : Word) (s : State) : Host.Outcome State Fault Refusal :=
  .next (s.access who (A.hmacHolChmapCtl) true fun s =>
    if !isAnyCore who then s.busOk 0
    else
      let a := A.hmacHolChmapCtl
      let s := ((s.setReg a (D.hmacHolChmapCtl.write false (s.reg a) w)).setFld a F.hmacHolChmapCtl_change_req 0).busOk 0
      if F.hmacHolChmapCtl_change_req.get w = 0 ∨ s.hol.change.isSome then s
      else
        let next := (s.reg A.hmacHolNextHi).toNat * 2 ^ 32 + (s.reg A.hmacHolNextLo).toNat
        let sw := s.roundNo + max 4 (s.fld a F.hmacHolChmapCtl_lead)
        (s.setHol { s.hol with change := some (next, s.fld a F.hmacHolChmapCtl_new_anchor, sw) }).setFld
          a F.hmacHolChmapCtl_pending 1)

/-- CHMAP_SWITCH: at the switch round map, anchor and version + 1 take effect, at the coordinator or at a member that heard the change
(R203, R204). -/
def execChmapSwitch (member : Bool) (s : State) : Host.Outcome State Fault Refusal :=
  .next (if !s.isLit 21 then s
  else if member then s.memberSwitch s.parentRound
  else s.coordSwitch s.roundNo)

/-- CHDEF_WRITE: a definition that is not valid, or any while a partner is not FREE, is refused with cfg_err (R199). -/
def execChdefWrite (who : Requester) (i : Fin 64) (w : Word) (s : State) : Host.Outcome State Fault Refusal :=
  .next (s.access who (A.hmacHolChdef i) true fun s =>
    if !isAnyCore who then s.busOk 0
    else if chdefOk i w ∧ !s.anyPartner then (s.setReg (A.hmacHolChdef i) (D.hmacHolChdef.write false 0 w)).busOk 0
    else (s.setFld A.hmacHolRound F.hmacHolRound_cfg_err 1).busOk 0)

/-- HOL_ROUND_WRITE: settings out of range, or any while a partner is not FREE, are discarded with cfg_err (R196, R201). -/
def execHolRoundWrite (who : Requester) (w : Word) (s : State) : Host.Outcome State Fault Refusal :=
  .next (s.access who (A.hmacHolRound) true fun s =>
    if !isAnyCore who then s.busOk 0
    else
      let a := A.hmacHolRound
      let ru := F.hmacHolRound_round_units.get w
      let lr := F.hmacHolRound_lantern_reserve.get w
      let s := if F.hmacHolRound_cfg_err.get w = 1 then s.setFld a F.hmacHolRound_cfg_err 0 else s
      if 8 ≤ ru ∧ ru ≤ 8192 ∧ 2 ≤ lr ∧ lr ≤ 8 ∧ F.hmacHolRound_hop_increment.get w % 2 = 1 ∧ !s.anyPartner then
        (s.setReg a (D.hmacHolRound.write false (s.reg a) w)).busOk 0
      else (s.setFld a F.hmacHolRound_cfg_err 1).busOk 0)

/-! ### Map offers (R137–R139, R228–R230) -/

/-- R × bits × subcarriers of a map, in twelfths (R138). -/
def mapSum (rate width : Nat) (entries : List (List Nat)) : Nat :=
  let r := [6, 8, 9, 10].getD rate 6
  entries.foldl (fun a e => ((List.range e.length).foldl (fun a g => a + r * e.getD g 0 * groupSize width g) a)) 0

/-- Least SNR less gap and margin, in 2^−8 dB, that gives b bits: 2560 · log10(2^b − 1), rounded up (R138). -/
def bitThresh : List Int :=
  [0, 1222, 2164, 3011, 3818, 4607, 5386, 6161, 6934, 7706, 8477, 9248, 10019, 10789]

/-- Bits for an SNR above gap and margin (R138): clamped to 14, below min_bits 0. -/
def bitsFor (minBits : Nat) (x : Int) : Nat :=
  let b := (bitThresh.filter (fun t => t ≤ x)).length
  if b < minBits then 0 else b

/-- The candidate at one rate. -/
def State.candAt (s : State) (rate : Nat) (vals : List (List Int)) : List (List Nat) :=
  let gap := s.fld A.hmacLoadGap ([F.hmacLoadGap_gap_12, F.hmacLoadGap_gap_23, F.hmacLoadGap_gap_34,
    F.hmacLoadGap_gap_56].getD rate F.hmacLoadGap_gap_12)
  let off : Int := 64 * (gap + s.fld A.hmacLoadCfg F.hmacLoadCfg_margin : Nat)
  let mb := min 14 (max 1 (s.fld A.hmacLoadCfg F.hmacLoadCfg_min_bits))
  vals.map (fun v => v.map (fun x => bitsFor mb (x - off)))

/-- The candidate map of a link on a band (R138, R139): the rate with the largest sum, the lower on a tie; streams of
zeros removed; none left gives no candidate. -/
def State.candidate (s : State) (p r width : Nat) (vals : List (List Int)) : Option HolMap :=
  let rates := (List.range 4).map (fun k => (k, s.candAt k vals))
  let best := rates.foldl (fun b x => if mapSum b.1 width b.2 < mapSum x.1 width x.2 then x else b) (0, s.candAt 0 vals)
  let streams := best.2.filter (fun e => e.any (· != 0))
  if streams.isEmpty then none
  else
    let coded := streams.foldl (fun a e => (List.range e.length).foldl (fun a g => a + e.getD g 0 * groupSize width g) a) 0
    some { kind := 0, mapId := 0, band := r, partner := p, width := width, rate := best.1, streams := streams.length
           codedBits := coded, groups := toneGroups width, seq := 0, calVersion := s.calVersion r, valid := true, unit := 0
           entries := streams }

/-- Key of a link's average or candidate on a band. -/
def snrKey (p r : Nat) : Nat := 1025 * r + p

/-- LOADING_SNR_UPDATE: one received PPDU's group SNRs, 2^−8 dB per stream, join the average, and a candidate is computed
(R137–R139). -/
def State.loadSnr (s : State) (p r width : Nat) (snr : List (List Int)) : State :=
  if snr.isEmpty then s
  else
    let k := snrKey p r
    let sh := min 6 (s.fld A.hmacLoadCfg F.hmacLoadCfg_avg_shift)
    let a := match Tbl.find? s.hol.snr k with
      | some a =>
        if a.taken = 0 ∨ a.vals.length ≠ snr.length then ⟨1, snr, 2 ^ sh, a.refresh⟩
        else ⟨a.taken + 1, List.zipWith (fun v x => List.zipWith (fun n y => n + (y - n) / 2 ^ sh) v x) a.vals snr, 2 ^ sh, a.refresh⟩
      | none => ⟨1, snr, 2 ^ sh, false⟩
    let s := s.setHol { s.hol with snr := Tbl.insert k a s.hol.snr }
    match s.candidate p r width a.vals with
    | some m => s.setHol { s.hol with cands := Tbl.insert k m s.hol.cands }
    | none => (s.setHol { s.hol with cands := Tbl.erase k s.hol.cands }).count A.hmacLoadEmpty

/-- Is a candidate worth offering over the receive map in force (R228): 5 % in the sum, fewer bits in a group, or asked
for? -/
def offerWorth (c : HolMap) (inForce : Option HolMap) (refresh : Bool) : Bool :=
  match inForce with
  | none => true
  | some m =>
    let a := mapSum c.rate c.width c.entries
    let b := mapSum m.rate m.width m.entries
    refresh || 105 * b < 100 * a || 100 * a < 95 * b
      || (List.range m.streams).any (fun i => (List.range m.groups).any (fun g =>
          (c.entries.getD i []).getD g 0 < (m.entries.getD i []).getD g 0))

/-- MAP_OFFER: once 2^avg_shift PPDUs are averaged, by the avg_shift of the last candidate (R162), and offer_holdoff has passed, the
candidate is installed as a receive map under an ID the sender did not last use, and offered (R228, R229). -/
def execMapOffer (p : Fin 1025) (r : Rad) (s : State) : Host.Outcome State Fault Refusal :=
  .next (let k := snrKey p r
  match Tbl.find? s.hol.cands k, Tbl.find? s.hol.snr k with
  | some c, some a =>
    let q := s.peer p
    let inUse := (Tbl.find? q.rxMapId r).getD 0
    let held := match Tbl.find? q.offered r with
      | some t => decide (s.elapsed < t + 1000000 * s.fld A.hmacHolCfg F.hmacHolCfg_offer_holdoff)
      | none => false
    if s.isLit 21 ∧ !held ∧ a.need ≤ a.taken ∧ offerWorth c (s.findMap 0 p r inUse) a.refresh
        ∧ !(s.hol.offers.any (fun o => o.peer == p.val && o.band == r.val)) then
      let m := { c with mapId := (inUse + 1) % 4 }
      let (s, ok) := s.placeMap m
      if ok then
        let m := (s.findMap 0 p r m.mapId).getD m
        let s := s.setPeer p { s.peer p with offered := Tbl.insert r s.elapsed (s.peer p).offered }
        s.setHol { s.hol with offers := s.hol.offers ++ [⟨p, r, m, 0, none⟩]
                              snr := Tbl.insert k { a with refresh := false } s.hol.snr }
      else s
    else s
  | _, _ => s)

end Sys2Proof.Machine
end

