-- ==== Sys2Proof/Machine/HolRx.lean ====
section
/-!
DEFINITION. Holael reception, joining, supervision, admission, absences and reordering (R206, R213–R219, R223–R241, R416,
R417).
-/

namespace Sys2Proof.Machine

/-! ### Reordering (R213, R237) -/

/-- a − b on 12-bit sequence numbers. -/
def snSub (a b : Nat) : Nat := (a % 4096 + 4096 - b % 4096) % 4096

/-- Where a link's MSDUs enter the packet path: radio and station entry (R193). -/
def State.rxStation (p : Nat) : Nat := if p = parentNo then 2560 else 1536 + p

/-- Fragments of an MSDU in order, if all are there. -/
def RMsdu.whole (m : RMsdu) : Option (List Byte) :=
  match m.last with
  | none => none
  | some n =>
    let ps := (List.range (n + 1)).map (fun i => (m.parts.find? (fun x => x.1 == i)).map (·.2))
    if ps.all (·.isSome) then some (ps.map (fun x => x.getD [])).flatten else none

/-- Held MSDUs in order from a sequence number. -/
def inOrder (base : Nat) (l : List RMsdu) : List RMsdu :=
  l.foldr (fun m acc =>
    let (a, b) := acc.span (fun x => snSub x.sn base < snSub m.sn base)
    a ++ m :: b) []

/-- MSDUs below a sequence number go to the packet path in order, incomplete ones are discarded, and the window starts
there. -/
def State.releaseBelow (s : State) (r p sn : Nat) : State :=
  let q := s.peer p
  let n := snSub sn q.rxNext
  if 2048 ≤ n then s
  else
    let (out, rest) := (inOrder q.rxNext q.rxq).partition (fun m => snSub m.sn q.rxNext < n)
    let s := s.setPeer p { q with rxNext := sn % 4096, rxq := rest }
    out.foldl (fun s m => match m.whole with
      | some b => s.deliverRadio r (State.rxStation p) b m.stamp
      | none => s) s

/-- MSDUs in sequence from the window start, while whole, go to the packet path. -/
def State.releaseRun (s : State) (r p : Nat) : Nat → State
  | 0 => s
  | n + 1 =>
    let q := s.peer p
    match q.rxq.find? (fun m => m.sn == q.rxNext) with
    | some m => if m.whole.isSome then (s.releaseBelow r p ((q.rxNext + 1) % 4096)).releaseRun r p n else s
    | none => s

/-- The acknowledgement record starts at a sequence number. -/
def ackShift (start map next : Nat) : Nat :=
  let n := snSub next start
  if n < 64 then map / 2 ^ n else 0

/-- One MSDU subframe: below the window it was received before; above the window of 64 it moves the window; a completed
MSDU is recorded for acknowledgement. -/
def State.takeMsdu (s : State) (r p sn frag : Nat) (last : Bool) (payload : List Byte) (stamp : Int) : State :=
  if 2048 ≤ snSub sn (s.peer p).rxNext then s
  else
    let s := if 64 ≤ snSub sn (s.peer p).rxNext then s.releaseBelow r p ((sn + 4096 - 63) % 4096) else s
    let q := s.peer p
    let m : RMsdu := (q.rxq.find? (fun m => m.sn == sn)).getD ⟨sn, [], none, s.elapsed, stamp⟩
    let m := { m with parts := m.parts.filter (fun x => x.1 != frag) ++ [(frag, payload)]
                      last := if last then some frag else m.last, stamp := stamp }
    let k := snSub sn q.ackStart
    let ack : Nat := if m.whole.isSome && decide (k < 64) then setBit q.ackMap k else q.ackMap
    s.setPeer p { q with rxq := q.rxq.filter (fun x => x.sn != sn) ++ [m], ackMap := ack }

/-- The subframes of a DATA body (R215): none where the body does not match the layout. -/
def msduParse : Nat → List Byte → Option (List (Nat × Nat × Bool × List Byte))
  | 0, _ => none
  | _ + 1, [] => some []
  | n + 1, b =>
    let w := leAt b 0 4
    let len := w / 65536 % 16384
    if b.length < 4 ∨ len = 0 ∨ 9216 < len ∨ w.testBit 31 ∨ b.length < 4 + len + padLen len
        ∨ ((b.drop (4 + len)).take (padLen len)).any (· != 0) then none
    else (msduParse n (b.drop (4 + len + padLen len))).map
      (fun l => (w % 4096, w / 4096 % 16, w.testBit 30, (b.drop 4).take len) :: l)

/-- Acknowledged MSDUs leave the transmit queue (R237). -/
def State.takeAck (s : State) (p start map : Nat) : State :=
  let q := s.peer p
  s.setPeer p { q with txq := q.txq.filter (fun m => !(snSub m.sn start < 64 && map.testBit (snSub m.sn start))) }

/-! ### Time from the parent (R416, R417) -/

/-- The corrected receive stamp of a radio, 2^−16 ns, from the boundary instant (R400, R401). -/
def State.rxStamp (s : State) (r width : Nat) (raw : Int) : Int := raw - (radioCorr width).2 - s.boardRx (16 + r)

/-- PATH_DELAY_SAMPLE: the coordinator's frame follows the member's reply of this event. -/
def State.pathFrom (s : State) (r : Nat) (stamp : Int) : State :=
  match Tbl.find? s.hol.sent r with
  | some x =>
    if x.peer = some parentNo ∧ x.onAir ∧ (Tbl.find? s.hol.events r).any (·.peer == parentNo) then
      let s := s.setHol { s.hol with sent := Tbl.erase r s.hol.sent }
      s.pathSample ((stamp - ((x.start + x.air + 16000 : Nat) : Int) * 65536) / 2)
    else s
  | none => s

/-- LANTERN_TIME_SAMPLE: θ = stamp − lantern time − p, and the parent's quality (R417, R418). -/
def State.lanternTime (s : State) (stamp time : Int) (quality width : Nat) : State :=
  if !s.isLit 2 then s
  else
    let s := { s with time := { s.time with parentSynced := quality.testBit 7, parentBound := quality % 64
                                            hopWidth := width } }
    if s.time.pathValid then
      (s.offerSample true (stamp - time - ((s.fld A.timePath F.timePath_path_delay : Nat) : Int) * 256)).refreshQuality
    else s.refreshQuality

/-! ### A lantern at the member (R204, R206, R223, R233) -/

/-- Absence entries of a lantern. -/
def absEntries : Nat → List Byte → List Absence
  | 0, _ => []
  | n + 1, b => ⟨leAt b 0 1, leAt b 4 6, leAt b 2 2⟩ :: absEntries n (b.drop 10)

/-- Does a lantern body match its layout? -/
def lanternOk (b : List Byte) : Bool :=
  52 ≤ b.length && leAt b 23 1 ≤ 4 && b.length == 52 + 10 * leAt b 23 1 && leAt b 21 1 < 64 && leAt b 51 1 == 0
    && 8 ≤ leAt b 18 2 && leAt b 18 2 ≤ 8192 && leAt b 6 4 < nsPerSec && leAt b 50 1 < 64

/-- The event counter and next event round follow the round number of a lantern where the count had slipped (R206). -/
def State.reckon (s : State) (round : Nat) : State :=
  let q := s.peer parentNo
  let iv := s.linkInterval parentNo
  if round ≤ q.first then s
  else
    let n := (round - q.first + iv - 1) / iv
    if s.hol.parent.nextRound = q.first + n * iv then s
    else (s.setLinkEvent parentNo ((n - 1) % 2 ^ 32)).setHol
      { s.hol with parent := { s.hol.parent with nextRound := q.first + n * iv } }

/-- An accepted lantern: round, map, anchor, join window, accuracy and absences are adopted; contact is restored. -/
def State.takeLantern (s : State) (b : List Byte) (stamp : Int) : State :=
  let p := s.hol.parent
  let s := s.setHol { s.hol with parent := { p with
    roundUnits := leAt b 18 2, map := leAt b 28 8, mapVersion := leAt b 20 1, nextMap := leAt b 36 8
    switchRound := leAt b 44 6, nextAnchor := leAt b 50 1, joinOpen := (leAt b 21 1).testBit 2
    joinOffset := leAt b 24 2, joinLen := leAt b 26 1, coordPpm := leAt b 22 1
    anchor := if (leAt b 21 1).testBit 1 then p.anchor else leAt b 50 1
    absences := absEntries (leAt b 23 1) (b.drop 52), listened := some (leAt b 12 6) } }
  let s := s.setFld A.hmacHolParentSync F.hmacHolParentSync_missed 0
  let st := s.memberState
  if st < 3 then s
  else
    let s := if st = 4 ∨ st = 5 then s.setMemberState 3 else s
    let s := s.reckon (leAt b 12 6)
    let time : Int := ((leAt b 0 6 * nsPerSec + leAt b 6 4) * 65536 + leAt b 10 2 : Nat)
    s.lanternTime stamp time (leAt b 27 1) (s.chWidth parentNo s.hol.parent.anchor)

/-! ### Join frames (R223–R226) -/

/-- Key element length and bytes from an offset, if they end the body. -/
def keyElOk (b : List Byte) (i : Nat) : Bool := i + 2 ≤ b.length && leAt b i 2 ≤ 512 && b.length == i + 2 + leAt b i 2

def joinReqOk (b : List Byte) : Bool := keyElOk b 4 && leAt b 3 1 == 0

def joinRspOk (b : List Byte) : Bool :=
  if leAt b 0 1 = 0 then keyElOk b 290 && leAt b 9 1 == 0 && leAt b 25 1 == 0 else leAt b 0 1 ≤ 2 && keyElOk b 4

/-- A JOIN_REQ at the coordinator: counted; refused for accuracy, else answered pending, 16 µs after its end, and passed up (R223,
R226). -/
def State.takeJoinReq (s : State) (device stop : Nat) (b : List Byte) : State :=
  let s := s.count A.hmacHolJoinReq
  let far := 50 < leAt b 0 1 ∧ 2048 < s.roundUnits
  let body := if far then [2, 1, 0, 0, 0, 0] else [1, 0, 0, 0, 0, 0]
  let reqs := if far then s.hol.joinReqs else s.hol.joinReqs ++ [(device, b)]
  s.setHol { s.hol with joinRsps := s.hol.joinRsps ++ [(device, body, stop + 16000)], joinReqs := reqs }

/-- A JOIN_RSP at a JOINING member: accepted, SYNCED on the schedule and map it carries; pending, the JOIN_REQ is answered and not
repeated; refused, UNJOINED (R223–R225). -/
def State.takeJoinRsp (s : State) (device : Nat) (b : List Byte) : State :=
  let st := leAt b 0 1
  let s := s.setHol { s.hol with joinReqs := s.hol.joinReqs ++ [(device, b)]
                                 parent := { s.hol.parent with joinAnswered := true } }
  if st = 1 then s
  else if st = 2 then s.unjoin
  else
    let first := leAt b 14 6
    let s := (s.setFld A.hmacHolParentSched F.hmacHolParentSched_offset (leAt b 10 2)).setFld
      A.hmacHolParentSched F.hmacHolParentSched_window (leAt b 12 2)
    let a := A.hmacHolParentSched2
    let s := (s.setFld a F.hmacHolParentSched2_phase (leAt b 8 1)).setFld a F.hmacHolParentSched2_interval (leAt b 6 2)
    let s := (s.setFld a F.hmacHolParentSched2_bands (leAt b 4 1)).setFld a F.hmacHolParentSched2_partner (leAt b 2 2)
    let s := s.setFld A.hmacHolParentSupv F.hmacHolParentSupv_supervision (leAt b 20 2)
    let s := s.setHol { s.hol with parent := { s.hol.parent with
      hop := leAt b 22 1, anchor := leAt b 23 1, mapVersion := leAt b 24 1, map := leAt b 26 8, gi := leAt b 5 1
      nextRound := first, chdefs := (List.range 64).map (fun i => leAt b (34 + 4 * i) 4) } }
    let s := (s.setLinkEvent parentNo 0).setPeer parentNo { s.peer parentNo with first := first, lastRx := s.elapsed }
    let s := { s with time := { s.time with pathValid := false } }
    (s.setMemberState 3).installBase parentNo

/-! ### Partner frames (R210, R227–R231, R234, R241) -/

/-- A valid frame from the other end of a link on a band, its PPDU's end at `stop`: contact, and at the coordinator the partner's
state (R208, R234, R415). -/
def State.validFrom (s : State) (r p stop : Nat) (more : Bool) : State :=
  let q := s.peer p
  let openAbs : Bool := match q.absence with | some (_, _, none) => true | _ => false
  let back : Bool := openAbs || (p != parentNo && s.partnerState p == 4)
  let s := s.setPeer p { q with lastRx := s.elapsed, heard := true, absence := if back then none else q.absence
                                absentSince := if back then 0 else q.absentSince }
  let s := s.onEvent r (fun e => { e with wait := false, again := false, more := more, begun := true, last := some stop })
  if p = parentNo then s.showBrim
  else
    let w2 := A.hmacHolPartnerW2 p
    let s := (s.setFld w2 F.hmacHolPartnerW2_missed 0).setFld w2 F.hmacHolPartnerW2_dim_level 0
    let s := if back then s.setFld w2 F.hmacHolPartnerW2_absent_bands 0 else s
    if s.partnerState p = 0 then s else s.setPartnerState p 2

/-- On the first frame under a new map ID, the receive map the sender had used before is freed (R229). -/
def State.mapUsed (s : State) (r p id : Nat) : State :=
  let q := s.peer p
  match Tbl.find? q.rxMapId r with
  | some old =>
    if old = id then s
    else (s.setPeer p { q with rxMapId := Tbl.insert r id q.rxMapId }).dropMaps
      (fun m => m.kind == 0 && m.partner == p && m.band == r && m.mapId == old)
  | none => s.setPeer p { q with rxMapId := Tbl.insert r id q.rxMapId }

/-- Entries of an offer, stream by stream: two 4-bit entries a byte, the first low. -/
def unpackEntries (groups : Nat) (b : List Byte) : List Nat :=
  (List.range groups).map (fun g => (b.getD (g / 2) 0).toNat / 16 ^ (g % 2) % 16)

/-- The map an offer body spells, as a transmit map here (R215, R229); none where the layout does not match. -/
def State.offered (s : State) (p : Nat) (b : List Byte) : Option HolMap :=
  let w := leAt b 4 1
  let groups := leAt b 6 2
  let n := leAt b 5 1 % 4 + 1
  let per := (groups + 1) / 2
  if b.length ≠ 8 + n * per ∨ 4 < w ∨ groups ≠ toneGroups w ∨ 16 ≤ leAt b 5 1 ∨ 3 ≤ leAt b 1 1 ∨ 4 ≤ leAt b 2 1 then none
  else
    let es := (List.range n).map (fun i => unpackEntries groups (b.drop (8 + i * per)))
    if es.any (fun e => e.any (14 < ·)) then none
    else some { kind := 1, mapId := leAt b 2 1, band := leAt b 1 1, partner := p, width := w, rate := leAt b 5 1 / 4
                streams := n, groups := groups, seq := leAt b 3 1, calVersion := s.calVersion (leAt b 1 1), valid := true
                codedBits := es.foldl (fun a e => (List.range e.length).foldl (fun a g =>
                  a + e.getD g 0 * groupSize w g) a) 0
                unit := 0, entries := es }

/-- An offer: adopted as transmit map and used from the next frame; one already installed is acknowledged; one that does
not fit gets no BACK (R229, R230). -/
def State.takeOffer (s : State) (r p : Nat) (m : HolMap) : State :=
  let ack (s : State) : State := s.onEvent r (fun e => { e with owed := some 6 })
  match s.hol.maps.find? (fun n => n.same m && n.seq == m.seq) with
  | some _ => ack s
  | none =>
    let (s, ok) := s.placeMap m
    if ok then
      let s := s.count A.hmacHolMapAdopt
      ack (s.setPeer p { s.peer p with txMapId := Tbl.insert m.band m.mapId (s.peer p).txMapId })
    else s.onEvent r (fun e => { e with owed := none })

/-- A refresh request: the average restarts and an offer is wanted (R231). -/
def State.takeRefresh (s : State) (r p band : Nat) : State :=
  let k := snrKey p band
  let need := 2 ^ min 6 (s.fld A.hmacLoadCfg F.hmacLoadCfg_avg_shift)
  let s := s.setHol { s.hol with snr := Tbl.insert k ⟨0, [], need, true⟩ s.hol.snr }
  s.onEvent r (fun e => { e with owed := some 6 })

/-- DATA: window_start first, then the subframes, then what is in order (R213). -/
def State.takeData (s : State) (r p ws : Nat) (subs : List (Nat × Nat × Bool × List Byte)) (stamp : Int) : State :=
  let q := s.peer p
  let s := s.setPeer p { q with ackMap := ackShift q.ackStart q.ackMap ws, ackStart := ws }
  let s := s.onEvent r (fun e => { e with owed := some 2 })
  let s := s.releaseBelow r p ws
  let s := subs.foldl (fun s x => s.takeMsdu r p x.1 x.2.1 x.2.2.1 x.2.2.2 stamp) s
  s.releaseRun r p 64

/-- The body of a frame of a partner or of the parent, checked against its layout, and its effect; none where the layout
does not match (R215, R216). -/
def State.linkBody (s : State) (r p type ws : Nat) (b : List Byte) (stamp : Int) : Option State :=
  match type with
  | 1 => if b.isEmpty then some (s.onEvent r (fun e => { e with owed := some 1 })) else none
  | 2 => match msduParse (b.length + 1) b with
    | some (x :: l) => some (s.takeData r p ws (x :: l) stamp)
    | _ => none
  | 3 => if b.isEmpty then
      let mine := match Tbl.find? s.hol.sent r with | some x => x.peer == some p && x.type == 6 | none => false
      some (if mine then s.setHol { s.hol with offers := s.hol.offers.filter (fun o =>
        !(o.peer == p && o.band == r && o.attempts != 0)) } else s)
    else none
  | 6 => if leAt b 0 1 = 0 then (s.offered p b).map (fun m => s.takeOffer r p m)
    else if leAt b 0 1 = 1 ∧ b.length = 8 ∧ leAt b 1 1 < 3 then some (s.takeRefresh r p (leAt b 1 1)) else none
  | 7 => if b.length = 10 ∧ leAt b 1 1 = 0 then
      let n := leAt b 2 2
      some (s.setPeer p { s.peer p with absence := some (leAt b 0 1, leAt b 4 6, if n = 0xFFFF then none else some n) })
    else none
  | 8 => if b.length = 4 ∧ leAt b 1 3 = 0 then
      let s := s.raise 21 .partnerLeft 0 1 [p]
      some (if p = parentNo then s.unjoin else s.freePartner p)
    else none
  | _ => none

/-! ### HOLAEL_FRAME_RX -/

/-- The header's reserved bits are zero (R214). -/
def hdrZero (b : List Byte) : Bool :=
  (leAt b 0 1).testBit 4 && leAt b 1 1 < 2 && leAt b 2 2 < 4096 && leAt b 4 2 < 4096 && leAt b 14 2 < 4096
    && leAt b 8 6 != 0

/-- The key of the replay record of a frame type, link, key_id and transmitting device: per peer, direction and key_id (R219). -/
def seenKey (type p kid tx : Nat) : Nat :=
  4096 * (if type = 0 then 0 else if type = 4 ∨ type = 5 then 1 else (if p = parentNo then 4 else 2) + kid) + tx

/-- A replay record under the slot and generation in force; and the state with it set. -/
def State.replayOf (s : State) (k slot : Nat) : Replay :=
  (Tbl.get (fun _ => Replay.empty) s.hol.seen k).under slot (s.key slot).gen
def State.setReplay (s : State) (k : Nat) (w : Replay) : State :=
  s.setHol { s.hol with seen := Tbl.set (fun _ => Replay.empty) k w s.hol.seen }

/-- Is a frame with this RF start, ns, one that the device's receive window takes in (R210, R211)? A lantern of a SYNCED or LANTERN_LOST
parent link within brim of a round start; a member's first frame of an event within brim of the event start, later ones until
the event ends; a reply to the coordinator 14 to 18 µs after the frame it answers; a partner's other frames in its event. -/
def State.heardAt (s : State) (r p type : Nat) (rf : Int) : Bool :=
  let st := s.memberState
  if type = 0 then
    if st = 3 ∨ st = 4 then
      let n : Int := s.parentNs
      let d := rf % n
      d ≤ s.brim parentNo || n - d ≤ s.brim parentNo
    else true
  else if type = 4 ∨ type = 5 then true
  else match Tbl.find? s.hol.events r with
    | none => false
    | some e =>
      e.peer == p && rf < e.stop && (
        if p = parentNo then e.begun || absI (rf - e.start) ≤ s.brim p
        else match e.last with
          | some t => !e.wait || ((t : Int) + 14000 ≤ rf && rf ≤ t + 18000)
          | none => !e.wait)

/-- Is a frame of this type and link one that this device's roles serve (R193, R223, R233, R234)? -/
def State.serves (s : State) (type p tx : Nat) : Bool :=
  if type = 0 then s.bit A.hmacHolCtl F.hmacHolCtl_member_en && s.memberState != 0
      && tx == s.fld A.hmacHolParentCtl F.hmacHolParentCtl_coord_device
  else if type = 4 then s.bit A.hmacHolCtl F.hmacHolCtl_coord_en && s.bit A.hmacHolJoin F.hmacHolJoin_join_en
  else if type = 5 then s.bit A.hmacHolCtl F.hmacHolCtl_member_en && s.memberState == 2
  else if p = parentNo then s.bit A.hmacHolCtl F.hmacHolCtl_member_en && (s.memberState == 3 || s.memberState == 4)
  else s.bit A.hmacHolCtl F.hmacHolCtl_coord_en && s.partnerState p != 0

/-- A frame that passed every check of R215 up to the layout of its body; the plaintext follows the header, and `stop` is its PPDU's
end in ns. -/
def State.holAccept (s : State) (r p type w stop : Nat) (psdu plain : List Byte) (stamp : Int) : State :=
  let bad := s.count A.hmacHolRxHdrErr
  let hasAck := (leAt psdu 0 1).testBit 7
  let body := if hasAck then plain.drop 10 else plain
  let tx := leAt psdu 2 2
  if hasAck ∧ (plain.length < 10 ∨ 4096 ≤ leAt plain 0 2) then bad
  else if type = 0 then
    if lanternOk body ∧ !hasAck then
      let s := s.setPeer parentNo { s.peer parentNo with lastRx := s.elapsed }
      (s.takeLantern body stamp).showBrim
    else bad
  else if type = 4 then (if joinReqOk body ∧ !hasAck then s.takeJoinReq tx stop body else bad)
  else if type = 5 then (if joinRspOk body ∧ !hasAck then s.takeJoinRsp tx body else bad)
  else if type = 3 ∧ !hasAck then bad
  else
    let s' := s.validFrom r p stop (hsigMore w)
    let s' := if usesMap type then s'.mapUsed r p (hsigMapId w) else s'
    let s' := if hasAck then s'.takeAck p (leAt plain 0 2) (leAt plain 2 8) else s'
    let s' := if p = parentNo then s'.pathFrom r stamp else s'
    match s'.linkBody r p type (leAt psdu 14 2) body stamp with
    | some t => t
    | none => bad

/-- The checks of R215 on a PSDU, in order, and its effect: H-SIG, the link it names, its window's width, the instant its PPDU ends in ns
and its receive stamp. -/
def State.checkHol (s : State) (r p w stop : Nat) (psdu : List Byte) (erased : Bool) (stamp : Int) : State :=
  let type := hsigType w
  let join : Bool := type == 4 || type == 5
  let kid := if type = 0 ∨ join then 0 else if (leAt psdu 0 1).testBit 5 then 1 else 0
  let tx := leAt psdu 2 2
  let n := psdu.length
  let ev := if type = 0 ∨ join then true else leAt psdu 16 4 == s.linkEvent p
  let limit := if join then 800 else if type = 2 then n else 2048
  if erased ∨ n < 4 ∨ leAt psdu (n - 4) 4 ≠ crc32 (psdu.take (n - 4)) then s.count A.hmacHolRxFcsErr
  else if n < 40 ∨ limit < n ∨ leAt psdu 0 1 % 16 ≠ type ∨ !hdrZero psdu ∨ !ev
      ∨ ((leAt psdu 0 1).testBit 5 ∧ kid = 0) then s.count A.hmacHolRxHdrErr
  else if leAt psdu 6 2 ≠ s.districtTag ∨ (type ≠ 0 ∧ leAt psdu 4 2 ≠ s.ownDevice) then s.count A.hmacHolRxForeign
  else if !s.serves type p tx then s
  else
    let slot := if type = 0 then s.fld A.hmacHolKeys F.hmacHolKeys_group_slot
      else if join then s.fld A.hmacHolKeys F.hmacHolKeys_join_slot
      else s.linkSlot p kid
    let pn := leAt psdu 8 6
    if !s.isLit 10 then s.count (A.aonDarkLoss 10)
    else
    let (s, st, _) := s.cipBegin slot (fun c => c == 0) (some 32) none
    match if st = ST.ok then openHol (s.key slot).key psdu tx (leAt psdu 4 2) pn (type = 0) else none with
    | none => (if st = ST.ok then s.count A.cipAuthFail else s).count A.hmacHolRxAuthFail
    | some plain =>
      let k := seenKey type p kid tx
      let w' := s.replayOf k slot
      if !w'.ok pn then s.count A.hmacHolRxReplay
      else (s.setReplay k (w'.accept pn)).holAccept r p type w stop psdu plain stamp

/-- The PSDU of a PPDU has been taken: it gives no second one. A frame with erased codewords is reported with that cause (R157). -/
def State.psduTaken (s : State) (r : Nat) (q : Rx) : State :=
  let x := (s.rd r).setPpdu { q with hsig := none }
  s.setRd r (if q.erased.isEmpty then x else { x with loss := some .decDeadline })

/-- HOLAEL_FRAME_RX: the PSDU of the Holael PPDU whose H-SIG the radio accepted, with its training on each data subcarrier (R137, R147)
and the instant its start crossed the MAC boundary, 2^−16 ns (R400). Nothing comes of a PPDU that was lost or of one outside the
windows of R210 and R211 (log entries 47, 64, 65). -/
def execHolaelFrameRx (r : Rad) (psdu : List Byte) (train : List ToneRx) (raw : Nat) (s : State) :
    Host.Outcome State Fault Refusal :=
  .next (match (s.rd r).ppdu with
  | none => s
  | some q => match q.hsig with
    | none => s
    | some (w, win) =>
      if !s.isLit 21 ∨ q.lost.isSome ∨ psdu.length ≠ hsigLength w then s
      else
        let type := hsigType w
        let p := if usesMap type then s.linkOf win w else some 0
        let stamp := s.rxStamp r win.width raw
        let rf := stamp / 65536
        let s' := s.psduTaken r q
        match p with
        | none => s'
        | some p =>
          if !s.heardAt r p type rf then s'
          else
            let stop := (rf + hsigAir w win.width (if usesMap type then s.hsigMap r w win else none)).toNat
            let s' := if usesMap type then s'.loadSnr p r win.width (s.trainSnr r win.width (hsigStreams w) train) else s'
            s'.checkHol r p w stop psdu (!q.erased.isEmpty) stamp)

/-- LANTERN_LISTEN_END: the listen of this round is over without a lantern: one missed, but for one inside the parent's absence on the
anchor's band; the third in a row loses the lantern (R233, R240). -/
def execLanternListenEnd (s : State) : Host.Outcome State Fault Refusal :=
  .next (let st := s.memberState
  let away := s.hol.parent.absences.any (fun a => a.start ≤ s.parentRound && s.parentRound < a.start + a.rounds
    && a.bands.testBit (bandOfIdx s.hol.parent.anchor))
  let k := s.parentRound
  if s.isLit 21 ∧ s.radLit (bandOfIdx s.hol.parent.anchor) ∧ (st = 3 ∨ st = 4) ∧ !away
      ∧ k * s.parentNs + s.brim parentNo ≤ s.nowNs ∧ s.hol.parent.listened ≠ some k then
    let s := s.setHol { s.hol with parent := { s.hol.parent with listened := some k } }
    let n := min 15 (s.fld A.hmacHolParentSync F.hmacHolParentSync_missed + 1)
    let s := (s.count A.hmacHolLanternMiss).setFld A.hmacHolParentSync F.hmacHolParentSync_missed n
    if st = 3 ∧ 3 ≤ n then
      (((s.setMemberState 4).count A.hmacHolLanternLost).raise 21 .lanternLost 0 2 []).showBrim
    else s
  else s)

/-! ### Joining as a member (R223, R225) -/

/-- PARENT_JOIN: a write of PARENT_CTL; join 1 from UNJOINED starts scanning on the anchor (R223). -/
def execParentJoin (who : Requester) (w : Word) (s : State) : Host.Outcome State Fault Refusal :=
  .next (s.access who (A.hmacHolParentCtl) true fun s =>
    if !isAnyCore who then s.busOk 0
    else
      let a := A.hmacHolParentCtl
      let s := ((s.setReg a (D.hmacHolParentCtl.write false (s.reg a) w)).setFld a F.hmacHolParentCtl_join 0).busOk 0
      if F.hmacHolParentCtl_join.get w = 1 ∧ s.memberState = 0 ∧ s.bit A.hmacHolCtl F.hmacHolCtl_member_en then
        let s := s.setHol { s.hol with parent := { ParentLink.init with anchor := s.fld a F.hmacHolParentCtl_anchor } }
        s.setMemberState 1
      else s)

/-- JOIN_REQ_TX: in the parent's next join window, at its start plus k units, if JOIN_REQ, brim and reply fit; the member is
JOINING (R223, R235). `body` is the body that core software has queued (log entry 64). -/
def execJoinReqTx (frameId : Fin 65536) (k : Fin 256) (body : List Byte) (s : State) : Host.Outcome State Fault Refusal :=
  .next (let p := s.hol.parent
  let st := s.memberState
  let win := (nextAt s.nowNs s.parentNs ((p.joinOffset + k) * 125000)).2 - k * 125000
  let stop := win + p.joinLen * 125000
  if s.isLit 21 ∧ (st = 1 ∨ st = 2) ∧ p.joinOpen ∧ !p.joinSent ∧ joinReqOk body
      ∧ k * 125000 + s.joinNeed p.anchor 4 (40 + body.length) (s.brim parentNo) ≤ p.joinLen * 125000 then
    let s := s.setHol { s.hol with parent := { p with joinSent := true, joinAnswered := false } }
    (s.setMemberState 2).sendJoin frameId (win + k * 125000) 0 stop 4 (s.fld A.hmacHolParentCtl F.hmacHolParentCtl_coord_device) 0
      false body
  else s)

/-- JOIN_RETRY: no reply within the rounds that the member drew, at least one: it may send again (R223). -/
def execJoinRetry (s : State) : Host.Outcome State Fault Refusal :=
  .next (if s.isLit 21 ∧ s.memberState = 2 ∧ !s.hol.parent.joinAnswered ∧ s.hol.parent.since + s.parentNs ≤ s.elapsed then
    s.setHol { s.hol with parent := { s.hol.parent with joinSent := false } } else s)

/-- The timeout of SCANNING and JOINING in ns (R225). -/
def State.joinLimit (s : State) : Nat :=
  1000000 * min 32000 (max 100 (s.fld A.hmacHolParentSupv F.hmacHolParentSupv_join_supervision))

/-- JOIN_SUPERVISION_TIMEOUT: SCANNING or JOINING ends UNJOINED, LINK_LOST counted (R225). -/
def execJoinSupervisionTimeout (s : State) : Host.Outcome State Fault Refusal :=
  .next (if s.isLit 21 ∧ (s.memberState = 1 ∨ s.memberState = 2) ∧ s.hol.parent.since + s.joinLimit ≤ s.elapsed then
    s.unjoin.count A.hmacHolLinkLost else s)

/-- The bands on which the device's own announced absence from the parent stands in the current round (R241). -/
def State.ownAway (s : State) : Nat :=
  match (s.peer parentNo).absOwn with
  | some (b, n, start) => if start ≤ s.parentRound ∧ (n = 0xFFFF ∨ s.parentRound < start + n) then b else 0
  | none => 0

/-- Is the parent, or the device itself, absent on every band of the link in the current round? Supervision is paused then (R233, R240,
R241). -/
def State.parentAway (s : State) : Bool :=
  let b := s.hol.parent.absences.foldl (fun m a =>
    if a.start ≤ s.parentRound ∧ s.parentRound < a.start + a.rounds then m ||| a.bands else m) s.ownAway
  b != 0 && s.linkBands parentNo &&& b == s.linkBands parentNo

/-- MEMBER_SUPERVISION_TIMEOUT: no valid frame of the coordinator for its supervision timeout, absences apart: LANTERN_LOST becomes
SEARCH (R233). -/
def execMemberSupervisionTimeout (s : State) : Host.Outcome State Fault Refusal :=
  .next (if s.isLit 21 ∧ s.memberState = 4 ∧ !s.parentAway
      ∧ (s.peer parentNo).lastRx + 1000000 * s.fld A.hmacHolParentSupv F.hmacHolParentSupv_supervision ≤ s.elapsed then
    (s.setMemberState 5).showBrim else s)

/-- SEARCH_TIMEOUT: two rounds of SEARCH without a lantern lose the link (R233). -/
def execSearchTimeout (s : State) : Host.Outcome State Fault Refusal :=
  .next (if s.isLit 21 ∧ s.memberState = 5 ∧ s.hol.parent.since + 2 * s.parentNs ≤ s.elapsed then
    (s.unjoin.count A.hmacHolLinkLost).raise 21 .linkLost 0 2 [] else s)

/-- PARENT_LEAVE: leave 1 sends LEAVE at the next event and frees the link (R227). -/
def execParentLeave (who : Requester) (w : Word) (s : State) : Host.Outcome State Fault Refusal :=
  .next (s.access who (A.hmacHolParentCtl) true fun s =>
    if !isAnyCore who then s.busOk 0
    else
      let a := A.hmacHolParentCtl
      let s := ((s.setReg a (D.hmacHolParentCtl.write false (s.reg a) w)).setFld a F.hmacHolParentCtl_leave 0).busOk 0
      if F.hmacHolParentCtl_leave.get w = 0 then s
      else if 3 ≤ s.memberState then s.setPeer parentNo { s.peer parentNo with leaving := true }
      else if s.memberState = 0 then s else s.unjoin)

/-! ### Supervision at the coordinator (R234) -/

/-- A partner is dropped: counted, and the event from DIM. -/
def State.dropPartner (s : State) (p : Nat) : State :=
  let dim := s.partnerState p = 3
  let s := (s.freePartner p).count A.hmacHolPartnerDrop
  if dim then s.raise 21 .partnerDrop 0 2 [p] else s

/-- PARTNER_SUPERVISION_TIMEOUT: no valid frame for the partner's supervision timeout, from its first event round on (R234); paused
while ABSENT. -/
def execPartnerSupervisionTimeout (p : Fin 1024) (s : State) : Host.Outcome State Fault Refusal :=
  .next (if s.isLit 21 ∧ 1 ≤ s.partnerState p ∧ s.partnerState p ≤ 3
      ∧ (s.peer p).lastRx + 1000000 * s.fld (A.hmacHolPartnerW4 p) F.hmacHolPartnerW4_supervision ≤ s.elapsed then s.dropPartner p else s)

/-- ABSENCE_LIMIT_EXPIRY: an open absence beyond absence_limit drops the partner (R234). -/
def execAbsenceLimitExpiry (p : Fin 1024) (s : State) : Host.Outcome State Fault Refusal :=
  .next (let openAbs : Bool := match (s.peer p).absence with | some (_, _, none) => true | _ => false
  if s.isLit 21 ∧ s.partnerState p = 4 ∧ openAbs
      ∧ (s.peer p).absentSince + nsPerSec * s.fld A.hmacHolCfg F.hmacHolCfg_absence_limit ≤ s.elapsed then s.dropPartner p else s)

/-! ### Admission (R238) -/

/-- The reserved phases on a band: the coordinator's own, and the parent's events. -/
def State.reserved (s : State) (b : Nat) : List Reserved := s.ownPhases b ++ s.parentPhases b

/-- Two schedules meet in some round, and their windows overlap there. -/
def overlaps (a b : Reserved) : Bool :=
  let g := Nat.gcd a.1 b.1
  a.2.1 % g == b.2.1 % g && a.2.2.1 < b.2.2.1 + b.2.2.2 && b.2.2.1 < a.2.2.1 + a.2.2.2

/-- Σ window / (interval · round_units) ≤ limit ‰: over the common multiple of the intervals, at most 256. -/
def shareOk (l : List Reserved) (units limit : Nat) : Bool :=
  let m := l.foldl (fun a x => Nat.lcm a (max 1 x.1)) 1
  1000 * l.foldl (fun a x => a + x.2.2.2 * (m / max 1 x.1)) 0 ≤ limit * m * units

/-- The share limit of a band. -/
def State.shareLimit (s : State) (b : Nat) : Nat :=
  min 1000 (s.fld A.hmacHolShare ([F.hmacHolShare_share_l, F.hmacHolShare_share_m, F.hmacHolShare_share_h].getD b
    F.hmacHolShare_share_h))

/-- Status and reason of an admission (R238) (log entry 62). -/
def State.admission (s : State) (p : Nat) : Nat × Nat :=
  let bands := bitsOf 3 (s.linkBands p)
  let raw := s.fld (A.hmacHolPartnerW0 p) F.hmacHolPartnerW0_interval
  let ph := s.fld (A.hmacHolPartnerW2 p) F.hmacHolPartnerW2_phase
  let off := s.fld (A.hmacHolPartnerW1 p) F.hmacHolPartnerW1_offset
  let win := s.linkWindow p
  let sup := s.fld (A.hmacHolPartnerW4 p) F.hmacHolPartnerW4_supervision
  let mine : Reserved := (raw, ph, off, win)
  if s.partnerState p ≠ 0 then (ST.admitDenied, 4)
  else if bands.isEmpty ∨ raw = 0 ∨ 256 < raw ∨ raw ≤ ph ∨ win = 0 ∨ sup < 100 ∨ 32000 < sup then (ST.badParam, 0)
  else if bands.any (fun b => !s.isFitted (radId b)) then (ST.admitDenied, 5)
  else if off < s.fld A.hmacHolRound F.hmacHolRound_lantern_reserve ∨ s.roundUnits < off + win then (ST.admitDenied, 6)
  else if 50 < s.fld (A.hmacHolPartnerW2 p) F.hmacHolPartnerW2_peer_ppm ∧ 2048 < s.roundUnits then (ST.admitDenied, 3)
  else if bands.any (fun b => (s.reserved b).any (overlaps mine)) then (ST.admitDenied, 1)
  else if bands.any (fun b => !shareOk (mine :: s.reserved b) s.roundUnits (s.shareLimit b)) then (ST.admitDenied, 2)
  else (ST.ok, 0)

/-- A write of HMAC_HOL_ADMIT, and what its go bit asks: the operation and the partner. -/
def State.admitWrite (s : State) (w : Word) : State :=
  let a := A.hmacHolAdmit
  ((s.setReg a (D.hmacHolAdmit.write false (s.reg a) w)).setFld a F.hmacHolAdmit_go 0).busOk 0

def State.admitResult (s : State) (r : Nat × Nat) : State :=
  (s.setFld A.hmacHolAdmitRes F.hmacHolAdmitRes_status r.1).setFld A.hmacHolAdmitRes F.hmacHolAdmitRes_reason r.2

/-- HOL_ADMIT: the request is granted, OFFERED from the first event round, or refused, counted and marked for congestion
(R234, R238, R239). -/
def execHolAdmit (who : Requester) (w : Word) (s : State) : Host.Outcome State Fault Refusal :=
  .next (s.access who (A.hmacHolAdmit) true fun s =>
    if !isAnyCore who then s.busOk 0
    else
      let s := s.admitWrite w
      if F.hmacHolAdmit_go.get w = 0 ∨ F.hmacHolAdmit_op.get w = 1 then s
      else if 2 ≤ F.hmacHolAdmit_op.get w then s.admitResult (ST.badParam, 0)
      else
        let p := F.hmacHolAdmit_partner.get w
        let r := s.admission p
        let s := s.admitResult r
        if r.1 = ST.ok then
          let iv := s.linkInterval p
          let next := s.roundNo + 1
          let first := next + (s.fld (A.hmacHolPartnerW2 p) F.hmacHolPartnerW2_phase + iv - next % iv) % iv
          let s := s.setPeer p { HolPeer.init with first := first, lastRx := s.elapsed + (first * s.roundNs - s.nowNs) }
          let s := (s.setLinkEvent p 0).setReg (A.hmacHolPartnerW6 p) (BitVec.ofNat 32 (first % 2 ^ 32))
          let s := s.setFld (A.hmacHolPartnerW7 p) F.hmacHolPartnerW7_next_round_hi (first / 2 ^ 32)
          s.setPartnerState p 1
        else if r.1 = ST.admitDenied then
          let s := s.count A.hmacHolAdmitDenied
          s.setHol { s.hol with refused := (bitsOf 3 (s.linkBands p)).foldl (fun t b => Tbl.insert b s.elapsed t) s.hol.refused }
        else s)

/-- HOL_RELEASE: an OFFERED partner is freed; an ACTIVE, DIM or ABSENT one is sent LEAVE in its next event first (R227,
R238). -/
def execHolRelease (who : Requester) (w : Word) (s : State) : Host.Outcome State Fault Refusal :=
  .next (s.access who (A.hmacHolAdmit) true fun s =>
    if !isAnyCore who then s.busOk 0
    else
      let s := s.admitWrite w
      if F.hmacHolAdmit_go.get w = 0 ∨ F.hmacHolAdmit_op.get w ≠ 1 then s
      else
        let p := F.hmacHolAdmit_partner.get w
        let s := s.admitResult (ST.ok, 0)
        if s.partnerState p = 0 then s
        else if s.partnerState p = 1 then s.freePartner p
        else s.setPeer p { s.peer p with leaving := true })

/-! ### Absences (R240, R241) -/

/-- Announce a coordinator absence: refused with busy at four; an anchor on its bands moves to the lowest used index of
another band before it starts (R240). -/
def State.announce (s : State) (bands lead duration : Nat) : State :=
  let live := s.hol.absences.filter (fun a => s.roundNo < a.start + a.rounds)
  if duration = 0 ∨ bands = 0 ∨ 4 ≤ live.length then s
  else
    let start := s.roundNo + max 2 lead
    let s := s.setHol { s.hol with absences := live ++ [⟨bands, start, duration⟩] }
    let s := s.setFld A.hmacHolAbsence F.hmacHolAbsence_busy (if 4 ≤ s.hol.absences.length then 1 else 0)
    let others := ((List.range 64).filter (fun i => s.chMap.testBit i && !bands.testBit (bandOfIdx i))).head?
    match others with
    | some i =>
      if bands.testBit (bandOfIdx (s.fld A.hmacHolRound F.hmacHolRound_anchor)) ∧ s.hol.change.isNone then
        (s.setHol { s.hol with change := some (s.chMap, i, start - 1) }).setFld
          A.hmacHolChmapCtl F.hmacHolChmapCtl_pending 1
      else s
    | none => s

/-- HOL_ABSENCE_GO: a write of HMAC_HOL_ABSENCE with go 1 announces an absence (R240) (log entry 62). -/
def execHolAbsenceGo (who : Requester) (w : Word) (s : State) : Host.Outcome State Fault Refusal :=
  .next (s.access who (A.hmacHolAbsence) true fun s =>
    if !isAnyCore who then s.busOk 0
    else
      let a := A.hmacHolAbsence
      let s := ((s.setReg a (D.hmacHolAbsence.write false (s.reg a) w)).setFld a F.hmacHolAbsence_go 0).busOk 0
      if F.hmacHolAbsence_go.get w = 1 ∧ s.bit A.hmacHolCtl F.hmacHolCtl_coord_en then
        s.announce (s.fld a F.hmacHolAbsence_bands) (s.fld a F.hmacHolAbsence_lead) (s.fld a F.hmacHolAbsence_duration)
      else s)

/-- ABSENCE_START: this device's own absence (none), the parent's (1 024) or a partner's begins: events on its bands stop; a
partner covered on all its bands is ABSENT (R240, R241). -/
def execAbsenceStart (p : Option (Fin 1025)) (s : State) : Host.Outcome State Fault Refusal :=
  .next (if !s.isLit 21 then s
  else match p with
  | none => (bitsOf 3 (s.absentBands s.roundNo)).foldl (fun s b => s.endEvent b) s
  | some p =>
    if p = parentNo then
      let b := s.hol.parent.absences.foldl (fun m a =>
        if a.start ≤ s.parentRound ∧ s.parentRound < a.start + a.rounds then m ||| a.bands else m) 0
      let s := ((bitsOf 3 b).filter (fun b => (Tbl.find? s.hol.events b).any (·.peer == parentNo))).foldl (fun s b => s.endEvent b) s
      if s.parentAway then s.setPeer parentNo { s.peer parentNo with absentSince := s.elapsed } else s
    else match (s.peer p).absence with
      | some (b, start, _) =>
        if s.partnerState p = 0 ∨ s.roundNo < start then s
        else
          let s := s.setFld (A.hmacHolPartnerW2 p) F.hmacHolPartnerW2_absent_bands b
          if s.linkBands p &&& b = s.linkBands p then
            (s.setPeer p { s.peer p with absentSince := s.elapsed }).setPartnerState p 4
          else s
      | none => s)

/-- Supervision of a link goes on after an absence that paused it: the time of the absence is not counted (R233, R234). -/
def HolPeer.back (q : HolPeer) (now : Nat) : HolPeer :=
  if q.absentSince = 0 then q else { q with lastRx := q.lastRx + (now - max q.lastRx q.absentSince), absentSince := 0 }

/-- ABSENCE_END: the absence is over: events and lanterns resume, and supervision goes on (R233, R234, R241). An open absence ends with a
frame alone. -/
def execAbsenceEnd (p : Option (Fin 1025)) (s : State) : Host.Outcome State Fault Refusal :=
  .next (if !s.isLit 21 then s
  else match p with
  | none =>
    let live := s.hol.absences.filter (fun a => s.roundNo < a.start + a.rounds)
    (s.setHol { s.hol with absences := live }).setFld A.hmacHolAbsence F.hmacHolAbsence_busy (if 4 ≤ live.length then 1 else 0)
  | some p =>
    if p = parentNo then
      let s := s.setHol { s.hol with parent := { s.hol.parent with
        absences := s.hol.parent.absences.filter (fun a => s.parentRound < a.start + a.rounds) } }
      if s.parentAway then s else s.setPeer parentNo ((s.peer parentNo).back s.elapsed)
    else
      let q := s.peer p
      let past : Bool := match q.absence with | some (_, start, some n) => decide (start + n ≤ s.roundNo) | _ => false
      if !past then s
      else
        let s := s.setPeer p { (q.back s.elapsed) with absence := none }
        let s := s.setFld (A.hmacHolPartnerW2 p) F.hmacHolPartnerW2_absent_bands 0
        if s.partnerState p = 4 then s.setPartnerState p 2 else s)

/-- REORDER_TIMEOUT: MSDUs held longer than the partner's interval and 10 ms are released, with those before them (R213). -/
def execReorderTimeout (r : Rad) (p : Fin 1025) (s : State) : Host.Outcome State Fault Refusal :=
  .next (let q := s.peer p
  let lim := s.linkInterval p * s.linkNs p + 10000000
  let late := (inOrder q.rxNext q.rxq).filter (fun m => m.since + lim < s.elapsed)
  match late.getLast? with
  | some m => if s.isLit 21 then (s.releaseBelow r p ((m.sn + 1) % 4096)).releaseRun r p 64 else s
  | none => s)

end Sys2Proof.Machine
end

