-- ==== Sys2Proof/Machine/Wlan.lean ====
section
/-!
DEFINITION. The WLAN service (R244–R279): stations, receive and reordering, transmission opportunities, beacons, protection
of Holael windows, sounding, triggers, service periods and steering.
-/

namespace Sys2Proof.Machine

/-! ### BSSIDs and operating channels (R246–R251) -/

/-- Edges of a channel in 78.125 kHz units. -/
def chanLow (c : Nat × Nat) : Nat := c.1 - 128 * 2 ^ c.2
def chanHigh (c : Nat × Nat) : Nat := c.1 + 128 * 2 ^ c.2

/-- 100 MHz between the operating channels of Radio M and Radio H, where both are known (R247). -/
def State.separated (s : State) : Bool :=
  match (s.wr 1).chan, (s.wr 2).chan with
  | some m, some h => chanHigh m + 1280 ≤ chanLow h
  | _, _ => true

/-- The AP MLD of an enabled affiliated BSSID. -/
def State.apMld (s : State) (r b : Nat) : Option Nat :=
  let a := A.hmacWlanBssCfg r b
  if s.bit a F.hmacWlanBssCfg_bss_en ∧ s.bit a F.hmacWlanBssCfg_mld_en then some (s.fld a F.hmacWlanBssCfg_ap_mld) else none

/-- Does an enabled BSSID of a radio belong to an AP MLD? -/
def State.hasMld (s : State) (r m : Nat) : Bool := (List.range 16).any (fun b => s.apMld r b == some m)

/-- Is a BSSID in service: enabled, its base aligned, and its AP MLD not refused for want of separation? -/
def State.bssUp (s : State) (r b : Nat) : Bool :=
  s.bit (A.hmacWlanCtl r) F.hmacWlanCtl_enable && s.bit (A.hmacWlanBssCfg r b) F.hmacWlanBssCfg_bss_en
    && s.fld (A.hmacWlanBaseLo r) F.hmacWlanBaseLo_base_lo % 16 == 0
    && (s.separated || r == 0 || match s.apMld r b with | some m => !s.hasMld (3 - r) m | none => true)

/-- A refused BSSID configuration sets cfg_err (R247, R250). -/
def State.bssCheck (s : State) (r : Nat) : State :=
  let any := (List.range 16).any (fun b => s.bit (A.hmacWlanBssCfg r b) F.hmacWlanBssCfg_bss_en)
  let s := if any ∧ s.fld (A.hmacWlanBaseLo r) F.hmacWlanBaseLo_base_lo % 16 ≠ 0 then
    s.setFld (A.hmacWlanCtl r) F.hmacWlanCtl_cfg_err 1 else s
  if !s.separated ∧ (List.range 16).any (fun m => s.hasMld 1 m && s.hasMld 2 m) then
    s.setFld (A.hmacWlanCtl 2) F.hmacWlanCtl_cfg_err 1
  else s

/-- Do two radios serve one AP MLD, or are they one radio? -/
def State.sameMld (s : State) (r k : Nat) : Bool := r == k || (List.range 16).any (fun m => s.hasMld r m && s.hasMld k m)

/-- The lead of protection before a Holael window in ns; values below 80 µs act as 80; none without protection (R260). -/
def State.protectLead (s : State) (r : Nat) : Nat :=
  if s.bit (A.hmacWlanProtect r) F.hmacWlanProtect_protect_en then
    1000 * max 80 (s.fld (A.hmacWlanProtect r) F.hmacWlanProtect_protect_lead)
  else 0

/-- May HMAC send a PPDU of this kind on a radio: one that the radio transmits (R121), HE and EHT only with a colour (R251)? -/
def State.wlanFmt (s : State) (r : Nat) (x : Tx) : Bool :=
  txFmtOk r x && x.fmt != .holael && ((x.fmt != .he && x.fmt != .eht) || (s.wr r).colourNow != 0)

/-- May a WLAN exchange start on a radio: HMAC and radio lit, service enabled, no Holael window nor the lead of protection before
one, the pending slot empty (R260)? -/
def State.wlanMay (s : State) (r : Nat) : Bool :=
  s.isLit 21 && s.radLit r && s.bit (A.hmacWlanCtl r) F.hmacWlanCtl_enable
    && s.protectLead r < s.holFree r s.nowNs (s.protectLead r + 1) && (s.rd r).slot.isNone

/-- A WLAN transmit command. -/
def State.wlanCmd (s : State) (r : Nat) (a : WAir) (cls len air : Nat) (slot : Option Nat) (reply : Bool) : TxCmd :=
  { frameId := a.frameId.val, centre := a.centre, chains := s.txChains r, earliest := a.earliest % 2 ^ 32
    deadline := a.deadline % 2 ^ 32, response := false, cls := cls, airNs := air, tx := a.tx, hsig := none, psdu := []
    length := len, map := none, gs := a.gs, keySlot := slot, reply := reply, cal := none }

/-- The time that a transmission may use: to the operand's window ends, to the start of protection for the next Holael window, and to
the next coexistence blanking window (R257). -/
def State.wlanRoom (s : State) (r : Nat) (a : WAir) : Nat :=
  let t := s.absNs a.earliest
  let room := s.holFree r t (a.room + s.protectLead r) - s.protectLead r
  s.untilBlank r t room

/-- A frame that HMAC makes itself fits the window and may go in its PPDU; one that does not fit is deferred and counted (R257). -/
def State.wlanSend (s : State) (r : Nat) (a : WAir) (cls len : Nat) (slot : Option Nat) (reply : Bool) : State :=
  if !s.wlanFmt r a.tx then s
  else if a.airNs + 16000 + a.response > s.wlanRoom r a then s.count (A.hmacWlanTxWindowShort r)
  else s.issueTx r (s.wlanCmd r a cls len a.airNs slot reply)

/-! ### Entries (R252, R253) -/

/-- The entries of a station: its own, or all links of its MLD client. -/
def State.linksOf (s : State) (n : Nat) : List Nat :=
  if s.bit (A.hmacWlanStationW2 n) F.hmacWlanStationW2_mld then
    (List.range 1536).filter (fun k => s.wkey k == s.wkey n)
  else [n]

/-- An entry is freed: with it the last of its station, queued frames are discarded and counted and agreements end (R253). -/
def State.freeEntry (s : State) (n : Nat) : State :=
  let s := if (s.linksOf n).all (fun k => k == n || s.sta k == 0) then
      let q := s.wp n
      (s.countN (A.hmacWlanTxRetryDrop (entryRadio n)) q.txq.length).setWp n
        { WlanPeer.init with nextSn := q.nextSn, replay := q.replay, keyHeld := q.keyHeld }
    else s
  let s := (s.setFld (A.hmacWlanStationW1 n) F.hmacWlanStationW1_state 0).setFld
    (A.hmacWlanStationW2 n) F.hmacWlanStationW2_ps 0
  s.setLk n StaLink.init

/-- STATION_STATE_WRITE: a write of word 1 of an entry: state always, but for the codes not issued; the address and
association ID only while FREE (log entry 73). -/
def execStationStateWrite (who : Requester) (n : Fin 1536) (w : Word) (s : State) : Host.Outcome State Fault Refusal :=
  .next (s.access who (A.hmacWlanStationW1 n) true fun s =>
    if !isAnyCore who then s.busOk 0
    else
      let a := A.hmacWlanStationW1 n
      let st := F.hmacWlanStationW1_state.get w
      let s := if s.sta n = 0 then
        (s.setFld a F.hmacWlanStationW1_aid (F.hmacWlanStationW1_aid.get w)).setFld a F.hmacWlanStationW1_mac_hi
          (F.hmacWlanStationW1_mac_hi.get w) else s
      (if st = 0 then (if s.sta n = 0 then s else s.freeEntry n)
        else if st ≤ 3 then (s.setFld a F.hmacWlanStationW1_state st).wakeStation n else s).busOk 0)

/-! ### Reordering (R259) -/

/-- Held MSDUs in order from a sequence number. -/
def wInOrder (base : Nat) (l : List WHeld) : List WHeld :=
  l.foldr (fun m acc =>
    let (a, b) := acc.span (fun x => snSub x.sn base < snSub m.sn base)
    a ++ m :: b) []

/-- A sequence number joins a scoreboard of 1 024 (R160). -/
def boardIn (b : Nat × Nat) (sn : Nat) : Nat × Nat :=
  let d := snSub sn b.1
  if d < 1024 then (b.1, setBit b.2 d)
  else if d < 2048 then (snSub sn 1023, setBit (b.2 / 2 ^ (d - 1023)) 1023)
  else b

/-- A scoreboard that a block acknowledgement request moves to a start. -/
def boardAt (b : Nat × Nat) (start : Nat) : Nat × Nat :=
  if snSub start b.1 < 2048 then (start % 4096, b.2 / 2 ^ snSub start b.1) else b

/-- A block acknowledgement's starting sequence control and bitmap, as long as the highest bit needs (R160) (log entry 121). -/
def boardBytes (b : Nat × Nat) : List Byte :=
  let n := if b.2 < 2 ^ 64 then 8 else if b.2 < 2 ^ 256 then 32 else if b.2 < 2 ^ 512 then 64 else 128
  toLE 2 (16 * b.1) ++ toLE n b.2

/-- MSDUs of a TID below a sequence number are released in order; the window starts there. -/
def State.wRelease (s : State) (r n tid sn : Nat) : State :=
  let q := s.wp n
  let base := Tbl.get (fun _ => 0) q.baRx tid
  let d := snSub sn base
  if 2048 ≤ d then s
  else
    let (out, rest) := q.held.partition (fun m => m.tid == tid && snSub m.sn base < d)
    let s := s.setWp n { q with baRx := Tbl.insert tid (sn % 4096) q.baRx, held := rest }
    (wInOrder base out).foldl (fun s m => s.deliverRadio r n m.bytes m.stamp) s

/-- MSDUs in sequence from the window start are released. -/
def State.wRun (s : State) (r n tid : Nat) : Nat → State
  | 0 => s
  | k + 1 =>
    let q := s.wp n
    let base := Tbl.get (fun _ => 0) q.baRx tid
    if q.held.any (fun m => m.tid == tid && m.sn == base) then (s.wRelease r n tid (base + 1)).wRun r n tid k else s

/-- WLAN_REORDER_TIMEOUT: the MSDU of a TID that has been held longest is released with those before it; the missing ones are
given up: it waited for more than 50 ms. -/
def execWlanReorderTimeout (n : Fin 1536) (tid : Fin 8) (s : State) : Host.Outcome State Fault Refusal :=
  .next (let q := s.wp n
  let mine := q.held.filter (fun m => m.tid == tid.val)
  match mine with
  | [] => s
  | m :: ms =>
    let old := ms.foldl (fun a b => if b.since < a.since then b else a) m
    let r := entryRadio n
    if old.since + 50000000 < s.elapsed then (s.wRelease r n tid (old.sn + 1)).wRun r n tid 1024 else s)

/-- A whole MSDU of a TID: passed on at once without an agreement; with one, in order, a number beyond the 1 024 of the
window moving it, one below it received before. -/
def State.takeMpdu (s : State) (r n : Nat) (f : WlanRx) (bytes : List Byte) (stamp : Int) : State :=
  let q := s.wp n
  if !f.agreement ∧ (Tbl.find? q.baRx f.tid).isNone then s.deliverRadio r n bytes stamp
  else
    let base := (Tbl.find? q.baRx f.tid).getD f.sn
    let s := s.setWp n { q with baRx := Tbl.insert f.tid base q.baRx }
    let d := snSub f.sn base
    if 2048 ≤ d ∨ q.held.any (fun m => m.tid == f.tid.val && m.sn == f.sn.val) then s
    else
      let s := if 1024 ≤ d then s.wRelease r n f.tid (snSub f.sn 1023) else s
      let q := s.wp n
      (s.setWp n { q with held := q.held ++ [⟨f.tid, f.sn, bytes, s.elapsed, stamp⟩] }).wRun r n f.tid 1025

/-- Fragments join in order (R244). -/
def State.takeFragment (s : State) (r n : Nat) (f : WlanRx) (stamp : Int) : State :=
  if f.frag.val = 0 ∧ !f.moreFrag then s.takeMpdu r n f f.bytes stamp
  else
    let q := s.wp n
    let rest := q.parts.filter (fun p => p.tid != f.tid.val)
    let so := if f.frag.val = 0 then some [] else
      (q.parts.find? (fun p => p.tid == f.tid.val && p.sn == f.sn.val && p.next == f.frag.val)).map (·.bytes)
    match so with
    | none => s
    | some b =>
      if f.moreFrag then s.setWp n { q with parts := rest ++ [⟨f.tid, f.sn, f.frag + 1, b ++ f.bytes⟩] }
      else (s.setWp n { q with parts := rest }).takeMpdu r n f (b ++ f.bytes) stamp

/-! ### Receive (R250–R254, R256, R265–R275) -/

/-- This district second's counts of a radio. -/
def State.freshSec (s : State) (r : Nat) : State :=
  let x := s.wr r
  if x.sec = s.nowSec then s else s.setWr r { x with sec := s.nowSec, unknown := [], mgmtCount := 0 }

/-- A frame for the management receive ring, within mgmt_rate (R274) and its share of the FIFO (R436). -/
def State.mgmtAccept (s : State) (r : Nat) (bytes : List Byte) (stamp : Int) : State :=
  let s := s.freshSec r
  let x := s.wr r
  if s.fld (A.hmacWlanCtl r) F.hmacWlanCtl_mgmt_rate ≤ x.mgmtCount then s.count (A.hmacWlanMgmtRateDrop r)
  else
    let s := s.setWr r { x with mgmtCount := x.mgmtCount + 1 }
    if s.mgmtRoom r bytes.length then s.setWr r { s.wr r with mgmtRx := (s.wr r).mgmtRx ++ [(bytes, stamp)] }
    else s.count (A.dmaChRxFifoDrop (49 + 3 * r))

/-- The entry of a transmitter on a radio, not FREE (log entry 73). -/
def State.entryOf (s : State) (r ta : Nat) : Option Nat := (entries r).find? (fun n => s.sta n != 0 && s.staMac n == ta)

/-- A same-colour PPDU from outside the station table; the eighth within 1 s is reported (R251). -/
def State.noteColour (s : State) (r : Nat) (c : Option Nat) (known : Bool) : State :=
  if known ∨ c ≠ some (s.wr r).colourNow ∨ (s.wr r).colourNow = 0 then s
  else
    let x := s.wr r
    let l := x.colour.filter (fun t => s.elapsed ≤ t + nsPerSec) ++ [s.elapsed]
    if 8 ≤ l.length then
      let s := s.setWr r { x with colour := [] }
      { s with hmac := { s.hmac with notices := s.hmac.notices ++ [(r, 1, x.colourNow)] } }
    else s.setWr r { x with colour := l }

/-- A valid frame of an entry: last_rx, power save, buffer status, and its triggers are answered (R252, R266, R268). -/
def State.heardFrom (s : State) (r n : Nat) (f : WlanRx) : State :=
  let s := (s.linksOf n).foldl (fun s k => s.setReg (A.hmacWlanStationW5 k) (BitVec.ofNat 32 s.count32)) s
  let s := s.setFld (A.hmacWlanStationW2 n) F.hmacWlanStationW2_ps (if f.pm then 1 else 0)
  let l := s.lk n
  let s := s.setLk n { l with missed := 0, buffered := f.buffered.getD l.buffered }
  (s.setWr r { s.wr r with trigWait := (s.wr r).trigWait.filter (· != n) }).wakeStation n

/-- Key length of an entry's cipher. -/
def State.staKeyLen (s : State) (n : Nat) : Nat := if s.bit (A.hmacWlanStationW3 n) F.hmacWlanStationW3_cipher then 32 else 16

/-- The cryptographic and replay checks on a protected frame (R272): true where it passes. -/
def State.wlanOpen (s : State) (r n : Nat) (f : WlanRx) : State × Bool :=
  let slot := s.staSlot n f.keyId
  if !s.isLit 10 then (s.count (A.aonDarkLoss 10), false)
  else
  let (s, st, _) := s.cipBegin slot (fun c => c == 0) (some (s.staKeyLen n)) none
  if st ≠ ST.ok ∨ !f.authentic then
    ((if st = ST.ok then s.count A.cipAuthFail else s).count (A.hmacWlanRxDecryptFail r), false)
  else
    let q := s.wp n
    let k := 16 * f.keyId.val + f.tid.val
    let g := (s.key slot).gen
    let (gen, high) := Tbl.get (fun _ => (0, 0)) q.replay k
    if gen = g ∧ f.pn ≤ high then (s.count (A.hmacWlanRxReplay r), false)
    else (s.setWp n { q with replay := Tbl.insert k (g, f.pn) q.replay }, true)

/-- A data MPDU under an agreement joins the TID's scoreboard, and where it came in a TB PPDU the users heard (R160, R265). -/
def State.boardMpdu (s : State) (r n : Nat) (f : WlanRx) : State :=
  let q := s.wp n
  if !f.agreement ∧ (Tbl.find? q.board f.tid).isNone then s
  else
    let b := boardIn ((Tbl.find? q.board f.tid).getD (f.sn, 0)) f.sn
    let s := s.setWp n { q with board := Tbl.insert f.tid b q.board }
    match (s.wr r).tb with
    | some l => if l.contains (n, f.tid.val) then s else s.setWr r { s.wr r with tb := some (l ++ [(n, f.tid.val)]) }
    | none => s

/-- The body of a response: the scoreboard for a block acknowledgement, that of each user for a Multi-STA BlockAck with its
association ID and TID, nothing for another acknowledgement or a CTS (R160, R265) (log entry 121). -/
def State.respBody (s : State) (r : Nat) (e : Option Nat) (f : WlanRx) : List Byte :=
  let board (n tid : Nat) : Option (Nat × Nat) := Tbl.find? (s.wp n).board tid
  match f.kind, e with
  | .tbEnd, _ => ((s.wr r).tb.getD []).flatMap (fun u => match board u.1 u.2 with
    | some b => toLE 2 (s.fld (A.hmacWlanStationW1 u.1) F.hmacWlanStationW1_aid + 4096 * u.2) ++ boardBytes b
    | none => [])
  | .data, some n => if f.agreement then ((board n f.tid).map boardBytes).getD [] else []
  | .bar _, some n => ((board n f.tid).map boardBytes).getD []
  | _, _ => []

/-- Length of a response with a body: ACK and CTS 14 bytes; a block acknowledgement 22 more than its body (log entry 121). -/
def respLen (body : List Byte) : Nat := if body.isEmpty then 14 else 22 + body.length

/-- An immediate response: its RF starts 16 µs after the PPDU end (R256). -/
def State.respond (s : State) (r : Nat) (e : Option Nat) (f : WlanRx) : State :=
  match f.response with
  | none => s
  | some (tx, air) =>
    if !s.bssUp r f.bss then s
    else
      let body := s.respBody r e f
      s.issueTx r { frameId := 0, centre := s.synFreq r (s.synActive r), chains := s.txChains r
                    earliest := (f.ppduEnd + 16000) % 2 ^ 32, deadline := (f.ppduEnd + 16500) % 2 ^ 32, response := true
                    cls := 0, airNs := air, tx := tx, hsig := none, psdu := body, length := respLen body, map := none, gs := []
                    keySlot := none, reply := false, cal := none }

/-- A data or EAPOL frame of an entry in ASSOC or AUTHORIZED. -/
def State.wlanData (s : State) (r n : Nat) (f : WlanRx) (stamp : Int) : State :=
  let s := s.heardFrom r n f
  let (s, ok) := if f.isProtected then s.wlanOpen r n f
    else if s.bit (A.hmacWlanStationW3 n) F.hmacWlanStationW3_protect_en ∧ f.kind ≠ .eapol then
      (s.count (A.hmacWlanRxUnprot r), false)
    else (s, true)
  if !ok then s
  else
    let s := (s.count (A.hmacWlanRxMpdu r)).boardMpdu r n f
    if f.kind = .eapol then s.mgmtAccept r f.bytes stamp
    else if s.sta n = 3 then s.takeFragment r n f stamp
    else s

/-- A data frame from no entry in ASSOC or AUTHORIZED (R254). -/
def State.unknownTa (s : State) (r : Nat) (f : WlanRx) (stamp : Int) : State :=
  let s := (s.count (A.hmacWlanRxUnknownTa r)).freshSec r
  let x := s.wr r
  if x.unknown.contains f.ta then s
  else (s.setWr r { x with unknown := x.unknown ++ [f.ta] }).mgmtAccept r f.bytes stamp

/-- The trigger's silent users are counted; the eighth miss in a row leaves a station off (R266). -/
def State.closeTrigger (s : State) (r : Nat) : State :=
  let w := (s.wr r).trigWait
  let s := s.setWr r { s.wr r with trigWait := [], tb := none }
  let s := s.countN (A.hmacWlanTbNoResponse r) w.length
  w.foldl (fun s n => s.setLk n { s.lk n with missed := (s.lk n).missed + 1 }) s

/-- A valid MPDU of a radio in WLAN service. -/
def State.takeWlan (s : State) (r : Nat) (e : Option Nat) (f : WlanRx) : State :=
  let stamp := s.rxStamp r f.width f.raw
  let heard (s : State) : State := match e with | some n => s.heardFrom r n f | none => s
  match f.kind with
  | .data | .eapol => match e with
    | some n => if 2 ≤ s.sta n then s.wlanData r n f stamp
      else if f.kind = .eapol then (s.heardFrom r n f).mgmtAccept r f.bytes stamp
      else s.unknownTa r f stamp
    | none => s.unknownTa r f stamp
  | .mgmt =>
    let s := heard s
    match e with
    | some n => if f.isProtected then
        (match s.wlanOpen r n f with
          | (s, true) => (s.count (A.hmacWlanRxMpdu r)).mgmtAccept r f.bytes stamp
          | (s, false) => s)
      else s.mgmtAccept r f.bytes stamp
    | none => s.mgmtAccept r f.bytes stamp
  | .probe wild b =>
    let open_ (k : Nat) : Bool := s.bssUp r k && !s.bit (A.hmacWlanBssCfg r k) F.hmacWlanBssCfg_hidden
    let answer := (wild && (List.range 16).any open_) || match b with | some k => open_ k.val | none => false
    if answer then s.setWr r { s.wr r with probes := (s.wr r).probes ++ [f.ta] } else s.mgmtAccept r f.bytes stamp
  | .psPoll => match e with
    | some n => let s := s.heardFrom r n { f with pm := true }
      (s.setLk n { s.lk n with credit := 1 }).wakeStation n
    | none => s
  | .uapsd => match e with
    | some n => let s := s.heardFrom r n f
      (s.setLk n { s.lk n with credit := 1 + (s.wp n).txq.length }).wakeStation n
    | none => s
  | .qosNull | .rts => heard s
  | .bar start => match e with
    | some n => let s := s.heardFrom r n f
      let q := s.wp n
      let s := s.setWp n { q with board := match Tbl.find? q.board f.tid with
        | some b => Tbl.insert f.tid (boardAt b start) q.board
        | none => q.board }
      if (Tbl.find? (s.wp n).baRx f.tid).isSome then (s.wRelease r n f.tid start).wRun r n f.tid 1025 else s
    | none => s
  | .ack sns => (heard s).answerExch r e sns
  | .cts =>
    let s := heard s
    match (s.wr r).icf with
    | some (n, _, d) => if e = some n then s.setWr r { s.wr r with icf := some (n, true, d) } else s
    | none => s
  | .feedback => match e with
    | some n => let s := s.heardFrom r n f
      s.setLk n { s.lk n with sounded := some s.elapsed, stale := false }
    | none => s
  | .tbEnd => s

/-- Does an MPDU fail with its PPDU: lost or discarded, or an erased codeword overlapping it (R96, R157, R158)? -/
def Rx.fails (q : Rx) (cws : Option (Nat × Nat)) : Bool :=
  q.lost.isSome || q.discard || cws.any (fun c => q.erased.any (fun k => c.1 ≤ k && k ≤ c.2))

/-- WLAN_FRAME_RX: a received MPDU of a radio in WLAN service (log entries 47, 72). Nothing comes of one whose PPDU was lost, whose
codewords were erased, or whose LDPC codewords were not submitted for their foreign colour (R124, R157, R158). -/
def execWlanFrameRx (r : Rad) (f : WlanRx) (s : State) : Host.Outcome State Fault Refusal :=
  .next (if !s.isLit 21 ∨ !s.radLit r ∨ !s.bit (A.hmacWlanCtl r) F.hmacWlanCtl_enable then s
  else if (s.rd r).ppdu.any (·.fails f.cws) then
    if (s.rd r).ppdu.any (·.lost.isSome) then s else s.setRd r { s.rd r with loss := some .decDeadline }
  else if f.cws.isSome ∧ s.foreignColour r f.colour then s
  else
    let e := s.entryOf r f.ta
    let s := ((s.noteColour r f.colour e.isSome).takeWlan r e f).respond r e f
    if f.kind = .tbEnd then s.closeTrigger r else s)

/-! ### Transmission (R248, R249, R257, R258, R268–R271, R275) -/

/-- A PN drawn for a frame to an entry; the warning is logged with the entry (R270). -/
def State.staDraw (s : State) (n : Nat) : State × Nat :=
  let slot := s.staSlot n (s.fld (A.hmacWlanStationW3 n) F.hmacWlanStationW3_tx_key_id)
  let (t, st, _) := s.cipBegin slot (fun c => c == 0) (some (s.staKeyLen n)) (some 3)
  (if (t.key slot).warned ∧ !(s.key slot).warned then t.raise 21 .wlanPnWarn 0 2 [n] else t, st)

/-- Packet numbers for k MPDUs: how many were drawn, and the status that stopped the drawing. -/
def State.staDraws (s : State) (n : Nat) : Nat → State × Nat × Nat
  | 0 => (s, 0, ST.ok)
  | k + 1 =>
    let (s, st) := s.staDraw n
    if st ≠ ST.ok then (s, 0, st)
    else
      let (s, j, st) := s.staDraws n k
      (s, j + 1, st)

/-- A frame refused for its packet number is counted and the key's traffic held (R270). -/
def State.staExhausted (s : State) (r n : Nat) : State :=
  let slot := s.staSlot n (s.fld (A.hmacWlanStationW3 n) F.hmacWlanStationW3_tx_key_id)
  (s.count (A.hmacWlanTxPnExhausted r)).setWp n { s.wp n with keyHeld := some (slot, (s.key slot).gen) }

/-- How many of the queued MPDUs fit (R257). -/
def fitCount (room resp : Nat) (airs : List Nat) : Nat :=
  (airs.takeWhile (fun x => x + 16000 + resp ≤ room)).length

/-- The coexistence class of data by TID. -/
def dataClass (tid : Nat) : Nat := if 6 ≤ tid then 4 else if 4 ≤ tid then 5 else 7

/-- Bytes of MPDUs. -/
def mpduBytes (ms : List WMpdu) : Nat := ms.foldl (fun x m => x + m.bytes.length) 0

/-- MPDUs of a TID go out: the exchange opened, the command issued. -/
def State.sendMpdus (s : State) (r n tid : Nat) (a : WAir) (ms : List WMpdu) (frag : Option Nat) (air : Nat)
    (slot : Option Nat) : State :=
  let s := s.setLk n { s.lk n with credit := (s.lk n).credit - ms.length }
  let s := s.setWr r { s.wr r with exch := some ⟨a.frameId, some n, tid, ms.map (·.sn), none, frag, 0⟩ }
  s.issueTx r (s.wlanCmd r a (dataClass tid) (mpduBytes ms) air slot true)

/-- A format's code in a station's max_format (R252). -/
def fmtCode : Fmt → Nat
  | .dsss => 0
  | .nonHt => 1
  | .ht => 2
  | .vht => 3
  | .he | .heEr => 4
  | .eht | .holael => 5

/-- Does a station take a PPDU's format, width and streams (R252)? -/
def State.staTakes (s : State) (n : Nat) (x : Tx) (streams : Nat) : Bool :=
  let w := A.hmacWlanStationW2 n
  fmtCode x.fmt ≤ s.fld w F.hmacWlanStationW2_max_format && x.width ≤ s.fld w F.hmacWlanStationW2_max_width
    && streams ≤ s.fld w F.hmacWlanStationW2_max_nss_m1 + 1

/-- May a radio send data to an entry now: AUTHORIZED, its BSSID in service, a link of an MLD client on a BSSID of an AP MLD and
not steered away, an EMLSR client not in use elsewhere (R246, R248, R253, R276)? -/
def State.dataMay (s : State) (r n : Nat) : Bool :=
  let w2 := A.hmacWlanStationW2 n
  let b := s.fld w2 F.hmacWlanStationW2_bssid
  entryRadio n == r && s.sta n == 3 && s.bssUp r b
    && (!s.bit w2 F.hmacWlanStationW2_mld || ((s.apMld r b).isSome && !(s.wr r).linkOff)) && s.emlsrMay r n && s.staMay n

/-- Data to a station: the window fit, one A-MPDU of whole MPDUs, else a fragment, else deferral. An EMLSR client's exchange opens
with an MU-RTS at 6 Mb/s in a non-HT duplicate (R248). -/
def State.serveData (s : State) (r n tid : Nat) (a : WAir) (airs : List Nat) (agreement : Bool) (fragBytes fragNs : Nat) :
    State :=
  let q := s.wp n
  let w2 := A.hmacWlanStationW2 n
  if !s.dataMay r n then s
  else match q.txq.filter (fun m => m.tid == tid) with
  | [] => s
  | m :: rest =>
    let ms := m :: rest
    if s.bit w2 F.hmacWlanStationW2_emlsr ∧ !s.icfOpen r n then
      (s.setWr r { s.wr r with icf := some (n, false, a.transition) }).wlanSend r { a with tx := { a.tx with fmt := .nonHt, mcs := 0, streams := 1 } }
        (dataClass tid) a.len none true
    else if !s.wlanFmt r a.tx ∨ !s.staTakes n a.tx a.tx.streams then s
    else
      let room := s.wlanRoom r a
      let k := min (min (if agreement then 1024 else 1) ms.length) (fitCount room a.response airs)
      let asFrag : Bool := k == 0 && s.bit w2 F.hmacWlanStationW2_frag_en && !agreement && 256 ≤ fragBytes && m.frags < 15
        && fragNs + 16000 + a.response ≤ room
      if k = 0 ∧ !asFrag then
        let s := s.count (A.hmacWlanTxWindowShort r)
        if m.wantStatus then s.report r m.frameId n ST.windowShort m.tries false false 0 else s
      else
        let n0 := if asFrag then 1 else k
        let prot := s.bit (A.hmacWlanStationW3 n) F.hmacWlanStationW3_protect_en
        let slot := s.staSlot n (s.fld (A.hmacWlanStationW3 n) F.hmacWlanStationW3_tx_key_id)
        if prot ∧ !s.isLit 10 then s
        else
          let (s, j, st) := if prot then s.staDraws n n0 else (s, n0, ST.ok)
          let s := if st = ST.nonceExhausted then
              let s := s.staExhausted r n
              if j = 0 ∧ m.wantStatus then s.report r m.frameId n st m.tries false false 0 else s
            else s
          if j = 0 then s
          else s.sendMpdus r n tid a (ms.take j) (if asFrag then some fragBytes else none)
            (if asFrag then fragNs else airs.getD (j - 1) a.airNs) (if prot then some slot else none)

/-- A group key that is written draws a packet number for BIP or group data; none otherwise (R269). -/
def State.groupDraw (s : State) (slot : Nat) : State × Nat :=
  if s.isLit 10 ∧ (s.key slot).cls = 0 then
    let (s, st, _) := s.cipBegin slot (fun c => c == 0) none (some 3)
    (s, st)
  else (s, ST.ok)

/-- Is a group key's traffic on a radio held until the slot is rewritten, or another slot named (R270)? -/
def State.groupHeld (s : State) (r slot : Nat) : Bool := (s.wr r).groupHeld.contains (slot, (s.key slot).gen)

/-- A group-addressed frame refused for its packet number is counted, and the key's traffic held (R270). -/
def State.groupExhausted (s : State) (r slot : Nat) : State :=
  let x := s.wr r
  (s.setWr r { x with groupHeld := (slot, (s.key slot).gen) :: x.groupHeld.filter (fun h => h.1 != slot) }).count
    (A.hmacWlanTxPnExhausted r)

/-- What the users of one RU may be: RUs of 242 tones or more for more than one user, and then at most 8 users of at most 4 streams;
at most 8 streams in all, and no more than transmitting chains; none on Radio L (R262, R263). -/
def ruOk (r chains : Nat) (us : List MuUser) (u : MuUser) : Bool :=
  let on := us.filter (·.ru == u.ru)
  let total := on.foldl (fun a v => a + v.streams) 0
  1 ≤ u.streams && on.all (·.tones == u.tones) && total ≤ min 8 chains
    && (on.length ≤ 1 || (r != 0 && 242 ≤ u.tones && on.length ≤ 8 && u.streams ≤ 4))

/-- Tones of a channel by width code. -/
def chanTones (w : Nat) : Nat := match w with | 0 => 242 | 1 => 484 | 2 => 996 | 3 => 1992 | _ => 3984

/-- The RUs of a PPDU, each once. -/
def rus (us : List MuUser) : List (Nat × Nat) :=
  us.foldl (fun l u => if l.contains (u.ru, u.tones) then l else l ++ [(u.ru, u.tones)]) []

/-- May these users share a DL PPDU of this kind (R262, R263)? -/
def muOk (r chains : Nat) (x : Tx) (us : List MuUser) : Bool :=
  (x.fmt == .he || x.fmt == .eht) && us.length ≤ (if r = 0 then 18 else 74) && us.all (ruOk r chains us)
    && (rus us).foldl (fun a u => a + u.2) 0 ≤ chanTones x.width

/-- May a client be served with steering (R264)? Without a sounding interval only a stale mark ends that (log entry 74). -/
def State.steerable (s : State) (r n : Nat) : Bool :=
  let l := s.lk n
  !l.stale && match l.sounded with
    | some t =>
      let iv := s.fld (A.hmacWlanSound r) F.hmacWlanSound_sound_interval
      iv == 0 || decide (s.elapsed ≤ t + 2000000 * iv)
    | none => false

/-- How many of its MPDUs a user of a multi-user PPDU is sent: none where it may not be served, as many as fit otherwise; a user that
shares its RU must be steered (R257, R263, R264). -/
def State.muCount (s : State) (r : Nat) (a : WAir) (us : List MuUser) (u : MuUser) : Nat :=
  let n := u.entry.val
  let emlsr : Bool := s.bit (A.hmacWlanStationW2 n) F.hmacWlanStationW2_emlsr
  let shared : Bool := 1 < (us.filter (·.ru == u.ru)).length
  if !s.dataMay r n || (emlsr && !s.icfOpen r n) || !s.staTakes n a.tx u.streams || (shared && !s.steerable r n) then 0
  else min (min (if u.agreement then 1024 else 1) ((s.wp n).txq.filter (fun m => m.tid == u.tid.val)).length)
    (fitCount (s.wlanRoom r a) a.response u.airs)

/-- A user's part of a multi-user PPDU: packet numbers are drawn and its exchange opens; with it the airtime and bytes so far. -/
def State.muUser (s : State) (r : Nat) (a : WAir) (us : List MuUser) (u : MuUser) (air len : Nat) : State × Nat × Nat :=
  let n := u.entry.val
  let k := s.muCount r a us u
  let prot : Bool := s.bit (A.hmacWlanStationW3 n) F.hmacWlanStationW3_protect_en
  if k = 0 ∨ (prot ∧ !s.isLit 10) then (s, air, len)
  else
    let (s, j, st) := if prot then s.staDraws n k else (s, k, ST.ok)
    let s := if st = ST.nonceExhausted then s.staExhausted r n else s
    if j = 0 then (s, air, len)
    else
      let ms := ((s.wp n).txq.filter (fun m => m.tid == u.tid.val)).take j
      let s := s.setLk n { s.lk n with credit := (s.lk n).credit - j }
      let s := s.setWr r { s.wr r with multi := (s.wr r).multi ++ [⟨a.frameId, some n, u.tid, ms.map (·.sn), none, none, 0⟩] }
      (s, max air (u.airs.getD (j - 1) a.airNs), len + mpduBytes ms)

/-- Data to several stations in one PPDU: its airtime is that of the longest user (R262, R263). -/
def State.serveMulti (s : State) (r : Nat) (a : WAir) (us : List MuUser) : State :=
  if !s.wlanFmt r a.tx ∨ !muOk r (ones (s.txChains r)) a.tx us then s
  else
    let (s, air, len) := us.foldl (fun x u => x.1.muUser r a us u x.2.1 x.2.2) (s, 0, 0)
    if len = 0 then s else s.issueTx r (s.wlanCmd r a (us.foldl (fun c u => min c (dataClass u.tid)) 7) len air none true)

/-- The first probe response due (R250). -/
def State.serveProbe (s : State) (r : Nat) (a : WAir) : State :=
  match (s.wr r).probes with
  | [] => s
  | _ :: rest => (s.setWr r { s.wr r with probes := rest }).wlanSend r a 7 a.len none true

/-- The first disassociation due goes to its client (R276) (log entry 76). -/
def State.serveDisassoc (s : State) (r : Nat) (a : WAir) : State :=
  match (s.wr r).disassoc with
  | [] => s
  | _ :: rest => (s.setWr r { s.wr r with disassoc := rest }).wlanSend r a 7 a.len none true

/-- The key slot that protects a management frame: the pairwise key of a station with protect_en, the IGTK of the frame's own BSSID for
a group-addressed one, by the low bits of its transmitter address; none for a frame that is not robust (R250, R269, R275) (log entry
73). -/
def State.mgmtSlot (s : State) (r : Nat) (m : WMgmt) : Option Nat :=
  if !m.robust then none
  else match m.station with
    | some n => if s.bit (A.hmacWlanStationW3 n) F.hmacWlanStationW3_protect_en then
        some (s.staSlot n (s.fld (A.hmacWlanStationW3 n) F.hmacWlanStationW3_tx_key_id)) else none
    | none => some (s.fld (A.hmacWlanBssMkey r ((m.bytes.getD 15 0).toNat % 16)) F.hmacWlanBssMkey_igtk_slot)

/-- May a management frame go: its key's traffic not held, and a pairwise key written (R270, R271)? -/
def State.mgmtMay (s : State) (r : Nat) (m : WMgmt) : Bool :=
  match m.station, s.mgmtSlot r m with
  | some n, some k => s.isLit 10 && (s.key k).cls == 0 && (s.wp n).keyHeld != some (k, (s.key k).gen)
  | none, some k => !s.groupHeld r k
  | _, none => true

/-- A management frame with the sequence number that HMAC fills in, when it first goes out: the station's, or the radio's own count
for a group-addressed one (R275). -/
def State.mgmtNumber (s : State) (r : Nat) (m : WMgmt) : State × WMgmt :=
  let put (sn : Nat) : WMgmt := { m with bytes := m.bytes.take 22 ++ toLE 2 (16 * sn) ++ m.bytes.drop 24 }
  if m.tries ≠ 0 ∨ m.bytes.length < 24 then (s, m)
  else match m.station with
    | some n =>
      let q := s.wp n
      let sn := Tbl.get (fun _ => 0) q.nextSn 8
      (s.setWp n { q with nextSn := Tbl.set (fun _ => 0) 8 ((sn + 1) % 4096) q.nextSn }, put sn)
    | none =>
      let x := s.wr r
      (s.setWr r { x with mgmtSn := (x.mgmtSn + 1) % 4096 }, put x.mgmtSn)

/-- The first management frame of the transmit ring whose key is not held. -/
def State.serveMgmt (s : State) (r : Nat) (a : WAir) : State :=
  match (s.wr r).mgmtTx.find? (s.mgmtMay r ·) with
  | none => s
  | some m =>
    let rest := (s.wr r).mgmtTx.erase m
    if !s.wlanFmt r a.tx then s
    else if a.airNs + 16000 + a.response > s.wlanRoom r a then
      (s.count (A.hmacWlanTxWindowShort r)).report r m.frameId (m.station.getD 0xFFF) ST.windowShort m.tries false false 0
    else
      let slot := s.mgmtSlot r m
      let (s, st) := match m.station, slot with
        | some n, some _ => s.staDraw n
        | none, some k => s.groupDraw k
        | _, none => (s, ST.ok)
      let s := s.setWr r { s.wr r with mgmtTx := rest }
      if st ≠ ST.ok then
        let s := if st = ST.nonceExhausted then (match m.station, slot with
          | some n, _ => s.staExhausted r n
          | none, some k => s.groupExhausted r k
          | none, none => s) else s
        s.report r m.frameId (m.station.getD 0xFFF) st m.tries false false 0
      else
        let (s, m) := s.mgmtNumber r m
        let s := s.setWr r { s.wr r with exch := some ⟨a.frameId, m.station, 8, [], some m, none, 0⟩ }
        s.issueTx r (s.wlanCmd r a 7 m.bytes.length a.airNs slot m.station.isSome)

/-- A group-addressed frame that a DTIM beacon released, unless its key's traffic is held. -/
def State.serveGroup (s : State) (r : Nat) (a : WAir) : State :=
  match (s.wr r).group with
  | [] => s
  | (b, bytes) :: rest =>
    let slot := s.fld (A.hmacWlanBssGkey r b) F.hmacWlanBssGkey_gtk_slot
    if (s.wr r).groupReady = 0 ∨ s.groupHeld r slot ∨ !s.wlanFmt r a.tx ∨ a.airNs + 16000 > s.wlanRoom r a then s
    else
      let (s, st) := s.groupDraw slot
      let x := s.wr r
      let s := s.setWr r { x with group := rest, groupReady := x.groupReady - 1 }
      if st = ST.nonceExhausted then s.groupExhausted r slot
      else if st ≠ ST.ok then s
      else s.issueTx r (s.wlanCmd r a 7 bytes.length a.airNs (if (s.key slot).cls = 0 then some slot else none) false)

/-- Does an opportunity go on with the exchange that an answered MU-RTS has opened (R248)? -/
def State.icfGoesOn (s : State) (r : Nat) (v : WServe) : Bool :=
  match v with
  | .data .. | .multi .. => (s.wr r).icf.any (·.2.1)
  | .mgmt | .probe | .group | .disassoc => false

/-- WLAN_TX_OPPORTUNITY: an exchange that was not answered is settled first; then the frame the sequencer chose is built
(log entries 66, 72, 74, 77). -/
def execWlanTxOpportunity (r : Rad) (a : WAir) (v : WServe) (s : State) : Host.Outcome State Fault Refusal :=
  .next (if s.wlanMay r then
    let s := s.closeAll r
    let s := if s.icfGoesOn r v then s else s.endIcf r
    match v with
    | .data n tid airs agreement fb fns => s.serveData r n tid a airs agreement fb fns
    | .multi us => s.serveMulti r a us
    | .mgmt => s.serveMgmt r a
    | .probe => s.serveProbe r a
    | .group => s.serveGroup r a
    | .disassoc => s.serveDisassoc r a
  else s)

/-! ### Beacons, protection, sounding, triggers, service periods -/

/-- Steering of a radio advertised by a beacon of an interval: the first sets the switch time three intervals on (R276,
R277). -/
def State.advertise (s : State) (r k interval : Nat) : State :=
  let x := s.wr k
  let due : Bool := x.switchAt.isNone && ((x.steerEnd.isSome && !x.linkOff && !x.withdraw) || (x.withdraw && x.linkOff))
  if due ∧ s.sameMld r k then s.setWr k { x with switchAt := some (s.nowNs + 3 * interval) } else s

/-- The entries of a radio in power save. -/
def State.dozing (s : State) (r : Nat) : List Nat :=
  let a := A.hmacWlanStationW2 0
  (s.regs.filter (fun e => A.hmacWlanStationW2 (512 * r) ≤ e.1 && e.1 < A.hmacWlanStationW2 (512 * r + 512) && (e.1 - a) % 32 == 0
    && F.hmacWlanStationW2_ps.get e.2 == 1)).map (fun e => (e.1 - a) / 32)

/-- Do frames wait for a station: MPDUs in HMAC, or packets in its scheduler queues? -/
def State.waits (s : State) (n : Nat) : Bool :=
  !(s.wp n).txq.isEmpty || (List.range 4).any (fun k =>
    let q := s.fld (A.hmacWlanStationW4 n) F.hmacWlanStationW4_queue_base + k
    18 < q && !(s.schQ q).pkts.isEmpty)

/-- The association IDs that the TIM shows: stations in power save that frames wait for (R268). -/
def State.timOf (s : State) (r : Nat) : List Nat :=
  ((s.dozing r).filter (s.waits ·)).map (fun n => s.fld (A.hmacWlanStationW1 n) F.hmacWlanStationW1_aid)

/-- BEACON_TX: the lowest enabled BSSID beacons; a new colour applies; the TIM shows who data wait for, and a DTIM releases group frames
(R250, R251, R268)
(log entries 72, 75). -/
def execBeaconTx (r : Rad) (a : WAir) (s : State) : Host.Outcome State Fault Refusal :=
  .next (match (List.range 16).find? (fun b => s.bssUp r b) with
  | none => s
  | some b =>
    if !s.wlanMay r ∨ !txFmtOk r a.tx then s
    else if a.airNs + 16000 > s.wlanRoom r a then s.count (A.hmacWlanTxWindowShort r)
    else
      let c := A.hmacWlanBssCfg r b
      let x := s.wr r
      let n := x.beacons + 1
      let dtim := n % max 1 (s.fld c F.hmacWlanBssCfg_dtim_period) = 0
      let s := s.setWr r { x with beacons := n, colourNow := s.fld (A.hmacWlanCtl r) F.hmacWlanCtl_bss_color
                                  chan := some (a.centre, a.tx.width), tim := s.timOf r
                                  groupReady := if dtim then x.group.length else x.groupReady }
      let interval := 1024000 * s.fld c F.hmacWlanBssCfg_beacon_int
      let s := ([0, 1, 2].foldl (fun s k => s.advertise r k interval) s).bssCheck r
      let slot := s.fld (A.hmacWlanBssMkey r b) F.hmacWlanBssMkey_bigtk_slot
      let (s, st) := if s.groupHeld r slot then (s, ST.denied) else s.groupDraw slot
      if st = ST.nonceExhausted then s.groupExhausted r slot
      else if st ≠ ST.ok then s
      else s.issueTx r (s.wlanCmd r a 6 a.len a.airNs (if (s.key slot).cls = 0 then some slot else none) false))

/-- The next Holael window on a radio: its start and its end, those that overlap it counted in. -/
def State.nextWindow (s : State) (r : Nat) : Option (Nat × Nat) :=
  let ws := s.holWindows r s.nowNs
  match ws with
  | [] => none
  | w :: l =>
    let first := l.foldl (fun a b => if b.1 < a.1 then b else a) w
    some (first.1, ws.foldl (fun m b => if b.1 ≤ first.2 then max m b.2 else m) first.2)

/-- Will this radio have been idle for n ns by an instant, if it stays so (R260)? -/
def State.idleBy (s : State) (r n t : Nat) : Bool :=
  s.agc r == 0 && s.radIdle r && decide (s.nowNs ≤ t) && decide ((s.rd r).idleSince + n ≤ s.elapsed + (t - s.nowNs))

/-- PROTECT_CTS: the lead of protection before the next Holael window has come; the CTS-to-self goes out at `cts`, when the medium has
been idle for a PIFS, if it ends 10 µs before the window (R260, R261) (log entry 75). -/
def execProtectCts (r : Rad) (a : WAir) (cts : Option Nat) (s : State) : Host.Outcome State Fault Refusal :=
  .next (match s.nextWindow r with
  | none => s
  | some (start, stop) =>
    if s.isLit 21 ∧ s.radLit r ∧ s.bit (A.hmacWlanCtl r) F.hmacWlanCtl_enable
        ∧ s.bit (A.hmacWlanProtect r) F.hmacWlanProtect_protect_en ∧ start ≤ s.nowNs + s.protectLead r
        ∧ (s.wr r).shielded ≠ start then
      let s := s.setWr r { s.wr r with shielded := start }
      let air := 28000 + sigExtNs r .nonHt
      match cts with
      | some t =>
        if t + air + 10000 ≤ start ∧ s.idleBy r (if r.val = 0 then 19000 else 25000) t then
          let s := s.count (A.hmacWlanProtectCts r)
          let s := s.setWr r { s.wr r with ctsDuration := min 32767 ((stop - (t + air)) / 1000 + 40) }
          s.issueTx r { s.wlanCmd r { a with tx := { a.tx with fmt := .nonHt, mcs := 4, streams := 1 } } 7 14 air none false with
            earliest := t % 2 ^ 32, deadline := (start - air - 10000) % 2 ^ 32 }
        else s.count (A.hmacWlanProtectLate r)
      | none => s.count (A.hmacWlanProtectLate r)
    else s)

/-- Triggers and sounding are suspended while DEC or HMAC is renewed (R518). -/
def State.suspended (s : State) : Bool := s.renStep 20 != 0 || s.renStep 21 != 0

/-- SOUNDING: a client whose matrix is stale or as old as sound_interval gets an NDP announcement and NDP (R264). -/
def execSounding (r : Rad) (n : Fin 1536) (a : WAir) (s : State) : Host.Outcome State Fault Refusal :=
  .next (let l := s.lk n
  let iv := s.fld (A.hmacWlanSound r) F.hmacWlanSound_sound_interval * 1000000
  let old : Bool := match l.sounded with | some t => iv != 0 && t + iv ≤ s.elapsed | none => iv != 0
  if s.wlanMay r ∧ !s.suspended ∧ entryRadio n = r.val ∧ s.sta n = 3 ∧ (l.stale ∨ old) then s.wlanSend r a 7 a.len none true else s)

/-- TRIGGER_TX: a basic trigger at least trig_period after the last, to the chosen users that have reported data, answer
triggers and are in a service period where they have one; at most max_users and the limit of R262 (R262, R265–R267). -/
def execTriggerTx (r : Rad) (a : WAir) (users : List (Fin 1536)) (s : State) : Host.Outcome State Fault Refusal :=
  .next (let c := A.hmacWlanTrig r
  let soon : Bool := match (s.wr r).lastTrig with
    | some t => s.elapsed < t + 1000 * s.fld c F.hmacWlanTrig_trig_period
    | none => false
  if s.wlanMay r ∧ !s.suspended ∧ s.bit c F.hmacWlanTrig_trig_en ∧ !soon then
    let s := s.closeTrigger r
    let ok (n : Fin 1536) : Bool := entryRadio n == r.val && s.sta n == 3 && (s.lk n).buffered && decide ((s.lk n).missed < 8)
      && (s.fld (A.hmacWlanStationW4 n) F.hmacWlanStationW4_twt == 255 || (s.lk n).inSp)
    let most := min (if r.val = 0 then 18 else 74) (max 1 (s.fld c F.hmacWlanTrig_max_users))
    let us := ((users.filter ok).take most).map (·.val)
    if us = [] ∧ s.fld c F.hmacWlanTrig_ra_rus = 0 ∨ !s.wlanFmt r a.tx then s
    else if a.airNs + 16000 + a.response > s.wlanRoom r a then s.count (A.hmacWlanTxWindowShort r)
    else
      let s := s.setWr r { s.wr r with lastTrig := some s.elapsed, trigWait := us, tb := some [] }
      s.issueTx r (s.wlanCmd r a 7 a.len a.airNs none true)
  else s)

/-- TWT_SERVICE_PERIOD: a station's service period starts or ends (R267). -/
def execTwtServicePeriod (n : Fin 1536) (starts : Bool) (s : State) : Host.Outcome State Fault Refusal :=
  .next (if s.isLit 21 ∧ s.sta n ≠ 0 then
    (s.setLk n { s.lk n with inSp := starts }).wakeStation n
  else s)

/-! ### Steering (R276–R278) -/

/-- The clients that the end of steering disassociates: all but MLD clients with another link in service. -/
def State.steerClients (s : State) (r : Nat) : List Nat :=
  (entries r).filter (fun n => s.sta n != 0 && !(s.linksOf n).any (fun k =>
    k != n && 2 ≤ s.sta k && s.radLit (entryRadio k) && (s.wr (entryRadio k)).steerEnd.isNone && !(s.wr (entryRadio k)).linkOff))

/-- The end of a steering run: the clients still on the radio are disassociated with reason code 8, freed and counted (R276). -/
def State.steerFinish (s : State) (r : Nat) : State :=
  let cs := s.steerClients r
  let s := s.countN (A.hmacWlanSteerDisassoc r) cs.length
  let s := s.setWr r { s.wr r with disassoc := (s.wr r).disassoc ++ cs.map (fun n => (s.staMac n, 8)) }
  let s := cs.foldl (fun s n => s.freeEntry n) s
  (s.setWr r { s.wr r with steerEnd := none }).setFld (A.hmacWlanSteer r) F.hmacWlanSteer_active 0

/-- A steering run starts unless one is active; a limit of 0 disassociates at once. -/
def State.startSteer (s : State) (r : Nat) : State :=
  let x := s.wr r
  if x.steerEnd.isSome then s
  else
    let lim := s.fld (A.hmacWlanSteer r) F.hmacWlanSteer_steer_limit
    let s := (s.setWr r { x with steerEnd := some (s.elapsed + lim * 1000000), switchAt := none, withdraw := false }).setFld
      (A.hmacWlanSteer r) F.hmacWlanSteer_active 1
    let s := { s with hmac := { s.hmac with notices := s.hmac.notices ++ [(r, 0, 0)] } }
    if lim = 0 then s.steerFinish r else s

/-- The mapping of a radio is withdrawn from the next beacon (R277). -/
def State.withdrawSteer (s : State) (r : Nat) : State :=
  let x := s.wr r
  if x.linkOff then s.setWr r { x with withdraw := true, switchAt := none } else s

/-- STEER_GO: a write of HMAC_WLAN_STEER by a Cudom core (R276) (log entry 76). -/
def execSteerGo (who : Requester) (r : Rad) (w : Word) (s : State) : Host.Outcome State Fault Refusal :=
  .next (s.access who (A.hmacWlanSteer r) true fun s =>
    if !isCudom who then s.busOk 0
    else
      let s := s.setFld (A.hmacWlanSteer r) F.hmacWlanSteer_steer_limit (F.hmacWlanSteer_steer_limit.get w)
      (if F.hmacWlanSteer_go.get w = 1 then s.startSteer r else s).busOk 0)

/-- STEER_SWITCH_TIME: the link is no longer scheduled, its MLD clients' queues going on over their other links; or, withdrawn,
it serves again (R276, R277) (log entry 76). -/
def execSteerSwitchTime (r : Rad) (s : State) : Host.Outcome State Fault Refusal :=
  .next (let x := s.wr r
  if s.isLit 21 ∧ x.switchAt.any (· ≤ s.nowNs) then
    if x.withdraw then s.setWr r { x with switchAt := none, withdraw := false, linkOff := false }
    else s.setWr r { x with switchAt := none, linkOff := true }
  else s)

end Sys2Proof.Machine
end

