-- ==== Sys2Proof/Machine/CalFrame.lean ====
section
/-!
DEFINITION. Calibration frames: those of thin chains, and those that a CAL_RUN radiates (R176–R178, R188).
-/

namespace Sys2Proof.Machine

/-- The thin chains not served within the window, lowest numbers first (R176). -/
def State.unserved (s : State) (r : Nat) : List Nat :=
  (bitsOf 8 (s.fld (A.radCalState r) F.radCalState_thin_chains)).filter (fun c =>
    match Tbl.find? (s.rd r).cal.served c with
    | some t => t + s.thinWindow r ≤ s.elapsed
    | none => true)

/-- The calibration frames due: each serves up to four chains. -/
def State.showCalDue (s : State) (r : Nat) : State :=
  s.setFld (A.radCalState r) F.radCalState_cal_frames_due (((s.unserved r).length + 3) / 4)

/-- THIN_CHAIN_EVAL: chains that may transmit and whose RF time lies below thin_time (R175), and the frames that they are due. -/
def execThinChainEval (r : Rad) (s : State) : Host.Outcome State Fault Refusal :=
  .next (if s.radLit r then
    let t := 1000 * s.fld (A.radCalThin r) F.radCalThin_thin_time
    let en := without (s.fld (A.radCtl r) F.radCtl_tx_chain_en &&& (2 ^ chainsOf r - 1))
      (s.fld (A.radDetStatus r) F.radDetStatus_muted)
    let thin := ((bitsOf 8 en).filter (fun c => s.rfTime r c < t)).foldl setBit 0
    let keep := s.nowNs - max nsPerSec (s.thinWindow r)
    let c := (s.rd r).cal
    ((s.setCal r { c with rfLog := c.rfLog.filter (fun l => keep ≤ l.stop) }).setFld
      (A.radCalState r) F.radCalState_thin_chains thin).showCalDue r
  else s)

/-- The 48-bit address of a BSSID: the radio's base and its index (R250). -/
def State.bssid (s : State) (r b : Nat) : Nat :=
  s.fld (A.hmacWlanBaseHi r) F.hmacWlanBaseHi_base_hi * 2 ^ 32 + s.fld (A.hmacWlanBaseLo r) F.hmacWlanBaseLo_base_lo + b

/-- The address of a calibration frame: the first enabled BSSID, else the radio's own, its base (R176) (log entry 122). -/
def State.calAddr (s : State) (r : Nat) : Nat := s.bssid r (((List.range 16).find? (fun b => s.bssUp r b)).getD 0)

/-- A calibration frame: a Null frame of 28 bytes in a non-HT duplicate at 54 Mb/s across the operating width, 28 µs of RF and the
signal extension, best effort (R176). -/
def State.calCmd (s : State) (r frameId earliest deadline centre chains : Nat) (gs : List (Fin 8)) : TxCmd :=
  { frameId := frameId, centre := centre, chains := chains, earliest := earliest, deadline := deadline, response := false, cls := 7
    airNs := 28000 + sigExtNs r .nonHt, tx := ⟨.nonHt, s.fld (A.radNfStatus r) F.radNfStatus_width, 7, 1, 0⟩, hsig := none
    psdu := [], length := 28, map := none, gs := gs, keySlot := none, reply := false, cal := some (s.calAddr r) }

/-- Does a frame pass the window fit test on a radio: it and 16 µs before protection for the next Holael window and before the next
blanking window (R178, R257)? -/
def State.calFits (s : State) (r : Nat) (c : TxCmd) : Bool :=
  let t := s.absNs c.earliest
  let need := c.airNs + 16000
  need + s.protectLead r ≤ s.holFree r t (need + s.protectLead r) && need ≤ s.untilBlank r t need

/-- Has the radio idle air time: nothing in the slot or held for it, nothing in the air, no reception (R176)? -/
def State.airIdle (s : State) (r : Nat) : Bool :=
  let x := s.rd r
  x.slot.isNone && x.held.isEmpty && x.air.isNone && x.rx.isNone

/-- A frame of a radio's CAL_RUN: centre, gain state and chains (R188). -/
def State.runFrame (s : State) (r : Nat) (frameId earliest deadline : Nat) (p : CalProbe) : State :=
  match Tbl.get (fun _ => []) s.cdm.jobs.calRun r with
  | q :: _ =>
    if p.chains.val &&& q.p 0 2 = p.chains.val ∧ p.chains.val ≠ 0 ∧ ones p.chains.val ≤ 4 then
      s.issueTx r (s.calCmd r frameId earliest deadline p.centre p.chains.val (List.replicate 8 p.gs))
    else s
  | [] => s

/-- CAL_FRAME: a calibration frame for up to four thin chains in idle air time, late where it fails the window fit test; or one that a
CAL_RUN radiates on a calibration channel (R176, R178, R188). -/
def execCalFrame (r : Rad) (frameId earliest deadline : Nat) (run : Option CalProbe) (s : State) : Host.Outcome State Fault Refusal :=
  .next (if !s.radLit r ∨ !s.airIdle r then s
  else match run with
  | some p => s.runFrame r frameId earliest deadline p
  | none =>
    let l := (s.unserved r).take 4
    if s.isLit 21 ∧ !l.isEmpty then
      let c := s.calCmd r frameId earliest deadline (s.synFreq r (s.synActive r)) (l.foldl setBit 0) []
      let s := s.showCalDue r
      if s.calFits r c then s.issueTx r c else s.txDone r c ST.windowShort false 0
    else s)

end Sys2Proof.Machine
end

