-- ==== Sys2Proof/Machine/Dram.lean ====
section
/-!
DEFINITION. DRAM controllers: chamber entries and lock, accesses, row disturbance, refresh, scrub, training and mirror states
(R458–R487).
-/

namespace Sys2Proof.Machine

/-! ### Chamber table (R463, R466, R479) -/

/-- mem_CFG.cfg_err is set. -/
def State.memErr (s : State) (n : Nat) : State := s.setFld (A.memCfg n) F.memCfg_cfg_err 1

/-- Is the chamber table locked? -/
def State.memLocked (s : State) (n : Nat) : Bool := s.bit (A.memCfg n) F.memCfg_lock

/-- Two chambers use a common byte, aliases included. -/
def Chamber.meets (a b : Chamber) : Bool := a.base < b.base + b.span && b.base < a.base + a.span

/-- The conditions on an entry beside the valid ones (R463, R479). -/
def State.chamberOk (s : State) (n : Nat) (c : Chamber) (others : List Chamber) : Bool :=
  let unit := if c.mirrored then 0x400000 else 0x200000
  let reserve := s.bit (A.memCfg n) F.memCfg_ecc_reserve
  let top := if reserve then s.flash.dramBytes / 8 * 7 else s.flash.dramBytes
  let mirrored := (c :: others).foldl (fun a d => if d.mirrored then a + d.size else a) 0
  c.size != 0 && c.base % unit == 0 && c.span % unit == 0 && c.base + c.span ≤ top && (!c.ecc || reserve)
    && others.all (fun d => !c.meets d) && (!c.mirrored || mirrored ≤ 0x80000000)

/-- CHAMBER_SUBMIT: a write of word 0 of an entry. Discarded while the table is locked or the entry is valid; a
submitted entry that breaks a condition stays not valid, with cfg_err. -/
def execChamberSubmit (who : Requester) (n : Fin 2) (c : Fin 32) (w : Word) (s : State) : Host.Outcome State Fault Refusal :=
  .next (s.access who (A.memChamberW0 n c) true fun s =>
    let a := A.memChamberW0 n c
    if !isCudom who ∨ s.memLocked n then s.busOk 0
    else if s.bit a F.memChamberW0_valid then s.busOk 0
    else
      let s := s.setReg a (D.memChamberW0.write false (s.reg a) w)
      if F.memChamberW0_valid.get w = 0 then s.busOk 0
      else
        let others := ((List.range 32).filter (fun k => k != c.val && s.bit (A.memChamberW0 n k) F.memChamberW0_valid)).map
          (s.chamber n)
        if s.chamberOk n (s.chamber n c) others then s.busOk 0
        else ((s.setFld a F.memChamberW0_valid 0).memErr n).busOk 0)

/-- The words of a chamber table. -/
def State.tableWords (s : State) (n : Nat) : List Word :=
  ((List.range 32).map (fun c => [s.reg (A.memChamberW0 n c), s.reg (A.memChamberW1 n c), s.reg (A.memChamberW2 n c),
    s.reg (A.memChamberW3 n c)])).flatten

/-- The eighths that self-refresh keeps (R485). -/
def State.pasrMask (s : State) (n : Nat) : Nat :=
  let e := s.flash.dramBytes / 8
  let kept := (s.chambers n).filter (·.retained)
  let m := (List.range 8).foldl (fun m k =>
    if kept.any (fun c => c.base < (k + 1) * e && k * e < c.base + c.span) then setBit m k else m) 0
  if s.bit (A.memCfg n) F.memCfg_ecc_reserve ∧ kept.any (·.ecc) then setBit m 7 else m

/-- CHAMBER_LOCK: a write of mem_CFG. Ranks 2–3, density 3 and rates 6–7 are refused, the field kept; lock 1 locks when the
other island is lit and its table equals this one, else sets cfg_err (R466). -/
def execChamberLock (who : Requester) (n : Fin 2) (w : Word) (s : State) : Host.Outcome State Fault Refusal :=
  .next (s.access who (A.memCfg n) true fun s =>
    if !isCudom who then s.busOk 0
    else
      let a := A.memCfg n
      let old := s.reg a
      let new := F.memCfg_lock.put (F.memCfg_lock.get old) (D.memCfg.write (s.memLocked n) old w)
      let keep (f : Fld) (most : Nat) (x : Word) : Word := if most < f.get x then f.put (f.get old) x else x
      let new := keep F.memCfg_ranks 1 (keep F.memCfg_density 2 (keep F.memCfg_rate 5 new))
      let s := (s.setReg a new).busOk 0
      if F.memCfg_lock.get w = 0 ∨ s.memLocked n then s
      else if s.isLit (memId (1 - n)) ∧ s.tableWords n = s.tableWords (1 - n) then
        let s := (s.setFld a F.memCfg_lock 1).setFld (A.memPasr n) F.memPasr_keep (s.pasrMask n)
        let s := { s with dram := { s.dram with logged := clrBit s.dram.logged n } }
        if s.memLocked (1 - n) ∧ s.mirror ≠ 2 ∧ !s.held 0 ∧ !s.held 1 then s.setMirror 0 else s
      else s.memErr n)

/-! ### Accesses and row disturbance (R469, R473, R474) -/

/-- An activate joins a bank's table of 16: the table, and whether the entry reached the threshold, then reset to 0. -/
def activate (thresh row : Nat) (t : List (Nat × Nat)) : List (Nat × Nat) × Bool :=
  let hit := t.find? (·.1 == row)
  let t' : List (Nat × Nat) := match hit with
    | some (_, k) => t.map (fun (e : Nat × Nat) => if e.1 = row then (row, k + 1) else e)
    | none =>
      if t.length < 16 then t ++ [(row, 1)]
      else
        let low := (t.map (·.2)).min?.getD 0
        match t.findIdx? (fun e => e.2 == low) with
        | some i => t.set i (row, low + 1)
        | none => t
  if t'.any (fun e => e.1 == row && thresh ≤ e.2) then (t'.map (fun e => if e.1 = row then (row, 0) else e), true)
  else (t', false)

/-- ROW_NEIGHBOUR_REFRESH when an activate reaches rh_thresh. -/
def State.activateRow (s : State) (n bank row : Nat) : State :=
  let k := 1024 * n + bank
  let (t, hit) := activate (max 1 (s.fld (A.memRhCfg n) F.memRhCfg_rh_thresh)) row (Tbl.get (fun _ => []) s.dram.rows k)
  let s := { s with dram := { s.dram with rows := Tbl.set (fun _ => []) k t s.dram.rows } }
  if hit then s.count (A.memRowRefresh n) else s

/-! ### Queues and scheduling (R468–R471) (log entry 125) -/

def State.chan (s : State) (n : Nat) : DramChan := Tbl.get (fun _ => DramChan.init) s.dram.chans n
def State.setChan (s : State) (n : Nat) (c : DramChan) : State :=
  { s with dram := { s.dram with chans := Tbl.set (fun _ => DramChan.init) n c s.dram.chans } }

/-- The channels whose queue a request to a chamber enters: a write to a mirrored chamber goes to both, out of sync to the live one
while it is SINGLE. -/
def State.queuesOf (s : State) (q : DramWait) (c : Chamber) : List Nat :=
  if c.mirrored ∧ q.data.isSome ∧ s.mirror ≠ 1 then s.serving q.who else [s.servedBy q.who c q.x]

/-- Has a queue room for one more line? A read answered whole from a write in the queue takes none (R469). -/
def State.hasRoom (s : State) (q : DramWait) (n : Nat) : Bool :=
  let c := s.chan n
  if q.data.isSome then decide (c.writes.length < 64) else decide (c.reads.length < 64)

/-- A line joins the queue of a channel; at wq_high the channel begins to drain (R470). -/
def State.joinQueue (s : State) (q : DramWait) (n : Nat) : State :=
  let c := s.chan n
  let r : DramReq := ⟨q.who, q.x / 64 * 64, q.bank, q.row, q.since, false⟩
  if q.data.isSome then
    let ws := c.writes ++ [r]
    s.setChan n { c with writes := ws, draining := c.draining || decide (s.fld (A.memSched n) F.memSched_wq_high ≤ ws.length) }
  else s.setChan n { c with reads := c.reads ++ [r] }

/-- A request in its place of the order to its line: its bytes are read or written, and the requester is answered (R469, R476,
R477). -/
def State.serveLine (s : State) (q : DramWait) : State :=
  match q.data with
  | some bs =>
    match s.dramWrite q.who q.x (bs.take (64 - q.x % 64)) q.find with
    | (s, true) => s.busOk 0
    | (s, false) => s.busErr
  | none =>
    match s.dramRead q.who q.x (min q.len (64 - q.x % 64)) q.find with
    | (s, some bs) => { s with bus := ⟨false, 0, bs⟩ }
    | (s, none) => { s with bus := ⟨true, 0, List.replicate q.len 0⟩ }

/-- Must a request wait: for room in its queues, or behind one of its own requester to the same channel (R28, R468)? One that the
chambers refuse is answered at once. -/
def State.mustWait (s : State) (q : DramWait) (ahead : List DramWait) : Bool :=
  match (s.dramCheck q.who q.x q.data.isSome).2 with
  | none => false
  | some c => ahead.any (fun w => w.who == q.who && chanOf w.x == chanOf q.x) || !(s.queuesOf q c).all (s.hasRoom q)

/-- A request that need not wait enters its queues and takes its place. -/
def State.enterDram (s : State) (q : DramWait) : State :=
  match (s.dramCheck q.who q.x q.data.isSome).2 with
  | none => s.serveLine q
  | some c => ((s.queuesOf q c).foldl (fun s n => s.joinQueue q n) s).serveLine q

/-- The waiting requests that now find room enter, oldest first. -/
def State.admitWaiting (s : State) : State :=
  s.dram.waiting.foldl (fun s q =>
    if s.mustWait q s.dram.waiting then { s with dram := { s.dram with waiting := s.dram.waiting ++ [q] } }
    else s.enterDram { q with since := s.elapsed }) { s with dram := { s.dram with waiting := [] } }

/-- The place in a queue of the read to serve next: a promoted read first in its bank; then one that hits an open row whose run is
below 16; of those left the oldest, one of PKT first at one age (R470). -/
def DramChan.nextRead (c : DramChan) : Option Nat :=
  let at_ (r : DramReq) : Option (Nat × Nat) := Tbl.get (fun _ => none) c.opens r.bank
  let hit (r : DramReq) : Bool := match at_ r with | some (row, run) => row == r.row && decide (run < 16) | none => false
  let able (r : DramReq) : Bool := r.promoted || !c.reads.any (fun o => o.promoted && o.bank == r.bank)
  let pick (f : DramReq → Bool) : Option Nat :=
    match c.reads.find? (fun r => able r && f r) with
    | none => none
    | some o => match c.reads.findIdx? (fun r => able r && f r && r.since == o.since && r.who == .island 3) with
      | some i => some i
      | none => c.reads.findIdx? (fun r => able r && f r)
  match pick (fun r => r.promoted) with
  | some i => some i
  | none => match pick hit with
    | some i => some i
    | none => pick (fun _ => true)

/-- Does the channel issue a write next: three of four services of a drain; else when no read waits, or when one has waited 10 µs
(R470)? -/
def DramChan.writeNext (c : DramChan) (now : Nat) : Bool :=
  !c.writes.isEmpty && (c.reads.isEmpty || (if c.draining then decide (c.sinceRead < 3)
    else c.writes.any (fun w => decide (w.since + 10000 ≤ now))))

/-- A line is moved: its row is opened by an activate where it was not, and the run of hits of its bank goes on (R470, R473). -/
def State.moveLine (s : State) (n : Nat) (r : DramReq) : State :=
  let c := s.chan n
  match Tbl.get (fun _ => none) c.opens r.bank with
  | some (row, run) =>
    if row = r.row then s.setChan n { c with opens := Tbl.set (fun _ => none) r.bank (some (row, run + 1)) c.opens }
    else (s.setChan n { c with opens := Tbl.set (fun _ => none) r.bank (some (r.row, 0)) c.opens }).activateRow n r.bank r.row
  | none => (s.setChan n { c with opens := Tbl.set (fun _ => none) r.bank (some (r.row, 0)) c.opens }).activateRow n r.bank r.row

/-- One service of a channel: the scheduler's choice leaves its queue; a drain ends at wq_low (R470). -/
def State.serviceChan (s : State) (n : Nat) : State :=
  let c := s.chan n
  if c.writeNext s.elapsed then
    match c.writes with
    | [] => s
    | w :: ws =>
      let on := c.draining && decide (s.fld (A.memSched n) F.memSched_wq_low < ws.length)
      (s.setChan n { c with writes := ws, draining := on, sinceRead := if on then c.sinceRead + 1 else 0 }).moveLine n w
  else match c.nextRead with
    | none => s
    | some i => match c.reads[i]? with
      | none => s
      | some r => (s.setChan n { c with reads := c.reads.eraseIdx i, sinceRead := 0 }).moveLine n r

/-- The data rate of a channel, MT/s (R458). -/
def dramRate : Nat → Nat
  | 0 => 3200 | 1 => 4266 | 2 => 5500 | 3 => 6400 | 4 => 7500 | _ => 8533

/-- The lines that a channel moves in 2 ns: a line takes 16 beats. -/
def State.runChan (s : State) (n : Nat) : State :=
  let c := s.chan n
  if c.reads.isEmpty ∧ c.writes.isEmpty ∨ !s.isUp (memId n) ∨ s.held n then s
  else
    let g := c.gained + 2 * dramRate (s.fld (A.memCfg n) F.memCfg_rate)
    (List.range (g / 16000)).foldl (fun s _ => s.serviceChan n) (s.setChan n { c with gained := g % 16000 })

/-- DRAM_ACCESS: a request to one line is checked against the chambers, queued and served; one that finds its queue full waits (R468).
`data` is a write; `e` what the check bytes show; `bank` and `row` where the line lies. -/
def execDramAccess (who : Requester) (x : Fin 0x400000000) (len : Fin 65) (data : Option (List Byte)) (e : EccFind)
    (bank : Fin 64) (row : Nat) (s : State) : Host.Outcome State Fault Refusal :=
  .next (let q : DramWait := ⟨who, x, len, data, e, bank, row, s.elapsed⟩
  if s.mustWait q s.dram.waiting then { s with dram := { s.dram with waiting := s.dram.waiting ++ [q] } } else s.enterDram q)

/-- READ_PROMOTE: a read that has waited 2 µs is served next in its bank, and counted (R470). -/
def execReadPromote (n : Fin 2) (s : State) : Host.Outcome State Fault Refusal :=
  .next (let c := s.chan n
  match c.reads.findIdx? (fun r => !r.promoted && decide (r.since + 2000 ≤ s.elapsed)) with
  | none => s
  | some i => match c.reads[i]? with
    | none => s
    | some r => (s.setChan n { c with reads := c.reads.set i { r with promoted := true } }).count (A.memRdPromote n))

/-! ### Refresh, temperature, timing, scrub (R472, R473, R478, R483) -/

/-- tREFW of a channel by its last temperature, ns (R472). -/
def State.refreshWindow (s : State) (n : Nat) : Nat := if s.dram.temp.getD n 0 ≤ 85 then 32000000 else 16000000

/-- DRAM_REFRESH: a bank is refreshed; at the start of a refresh window the channel's activate tables are cleared. -/
def execDramRefresh (n : Fin 2) (s : State) : Host.Outcome State Fault Refusal :=
  .next (if s.isUp (memId n) ∧ s.dram.winAt.getD n 0 + s.refreshWindow n ≤ s.elapsed then
    { s with dram := { s.dram with rows := Tbl.drop (fun k => k / 1024 == n.val) s.dram.rows
                                   winAt := s.dram.winAt.set n s.elapsed } } else s)

/-- MR4_READ: the device's MR4 code and temperature in °C; 105 or more sets hot and is logged on the rise (R472). -/
def execMr4Read (n : Fin 2) (code : Fin 256) (temp : Int) (s : State) : Host.Outcome State Fault Refusal :=
  .next (if s.isUp (memId n) then
    let was := s.bit (A.memCfg n) F.memCfg_hot
    let s := { s with dram := { s.dram with temp := s.dram.temp.set n temp }
                      cdm := { s.cdm with dramTemp := s.cdm.dramTemp.set n temp, dramCode := s.cdm.dramCode.set n code } }
    let s := s.setFld (A.memCfg n) F.memCfg_hot (if 105 ≤ temp then 1 else 0)
    if 105 ≤ temp ∧ !was then s.raise (memId n) .dramHot 0 2 [unsigned 32 temp] else s
  else s)

/-- WCK_OSC_READ: the oscillator is read and write timing follows it (R483). -/
def execWckOscRead (n : Fin 2) (value : Nat) (s : State) : Host.Outcome State Fault Refusal :=
  .next (if s.isUp (memId n) then { s with dram := { s.dram with wck := s.dram.wck.set n value } } else s)

/-- Lines of a chamber on one channel. -/
def Chamber.linesOn (c : Chamber) : Nat := if c.mirrored then c.size / 64 else c.size / 128

/-- The k-th of them on channel n, as an offset. -/
def Chamber.lineOn (c : Chamber) (n k : Nat) : Nat :=
  if c.mirrored then c.base + 64 * k else c.base + 4096 * (2 * (k / 64) + n) + 64 * (k % 64)

/-- The ECC chambers that a channel scrubs. -/
def State.eccChambers (s : State) (n : Nat) : List Chamber := (s.chambers n).filter (·.ecc)

/-- The lines that a channel scrubs. -/
def State.scrubLines (s : State) (n : Nat) : Nat := ((s.eccChambers n).map (·.linesOn)).sum

/-- The k-th line of these chambers, in table order, with its chamber (log entry 125). -/
def scrubLine (n : Nat) : List Chamber → Nat → Option (Chamber × Nat)
  | [], _ => none
  | c :: cs, k => if k < c.linesOn then some (c, c.lineOn n k) else scrubLine n cs (k - c.linesOn)

/-- Between two reads of the scrubber: scrub_period over the lines, ns. -/
def State.scrubGap (s : State) (n : Nat) : Nat :=
  max 1 (s.fld (A.memEccCtl n) F.memEccCtl_scrub_period) * 3600 * nsPerSec / s.scrubLines n

/-- SCRUB_READ: the patrol scrubber reads the next line of an ECC chamber on its channel (R478, R481). -/
def execScrubRead (n : Fin 2) (e : EccFind) (s : State) : Host.Outcome State Fault Refusal :=
  .next (if s.isUp (memId n) ∧ s.bit (A.memEccCtl n) F.memEccCtl_scrub_en ∧ !s.held n ∧
      s.dram.scrubAt.getD n 0 + s.scrubGap n ≤ s.elapsed then
    let pos := s.dram.scrubPos.getD n 0 % max 1 (s.scrubLines n)
    match scrubLine n (s.eccChambers n) pos with
    | none => s
    | some (c, x) =>
      let s := { s with dram := { s.dram with scrubPos := s.dram.scrubPos.set n (pos + 1), scrubAt := s.dram.scrubAt.set n s.elapsed } }
      let e := if s.dram.poison.contains (x / 64) then EccFind.double true else e
      match e with
      | .clean => s
      | .single => s.count (A.memScrubCe n)
      | .double both => if c.mirrored ∧ s.mirror = 0 ∧ !both then s.count (A.memMirrorRepair n) else s.eccUe n x
  else s)

/-! ### Holds, training, resync (R479–R484) -/

/-- A channel enters a hold: what its queues hold is completed, mirrored chambers go SINGLE, and what waits for it passes to the live
channel or is refused. -/
def State.holdChannel (s : State) (n : Nat) : State :=
  let s := (s.setFld (A.memMirror n) F.memMirror_held 1).setMirror 1
  { s with dram := { s.dram with logged := clrBit s.dram.logged (2 + n), chans := Tbl.erase n s.dram.chans } }.admitWaiting

/-- A held channel serves again: mirrored chambers go RESYNC once neither channel is held. -/
def State.releaseChannel (s : State) (n : Nat) : State :=
  let s := s.setFld (A.memMirror n) F.memMirror_held 0
  let s := { s with dram := { s.dram with returning := n, resyncAt := s.elapsed } }
  if s.mirror = 1 ∧ !s.held (1 - n) then s.setMirror 2 else s

/-- RETRAIN (R482, R484). -/
def execRetrain (src : CmdSource) (s : State) : Host.Outcome State Fault Refusal :=
  .next (s.withRequest src .retrain fun s r =>
    let n := r.island - 11
    if !s.isLit (memId (1 - n)) then s.finish r ST.badMode none []
    else
      let s := (s.pend r).holdChannel n
      let j := s.cdm.jobs
      { s with cdm := { s.cdm with jobs := { j with
          retrain := Tbl.set (fun _ => []) n (Tbl.get (fun _ => []) j.retrain n ++ [r]) j.retrain } } })

/-- The RETRAIN requests of a channel, taken from the jobs. -/
def State.takeRetrain (s : State) (n : Nat) : State × List Request :=
  let j := s.cdm.jobs
  ({ s with cdm := { s.cdm with jobs := { j with retrain := Tbl.erase n j.retrain } } }, Tbl.get (fun _ => []) j.retrain n)

/-- TRAINING_COMPLETE: the channel serves again; a step that fails is run once more, and a second failure leaves the channel
held, ends a RETRAIN with ST_INTERNAL and declares the island failed. -/
def execTrainingComplete (n : Fin 2) (ok : Bool) (light : Nat) (s : State) : Host.Outcome State Fault Refusal :=
  .next (if s.isUp (memId n) ∧ s.held n then
    let f := s.dram.failedOnce
    if ok then { s with dram := { s.dram with failedOnce := clrBit f n } }.releaseChannel n
    else if !f.testBit n then { s with dram := { s.dram with failedOnce := setBit f n } }
    else
      let s := { s with dram := { s.dram with failedOnce := clrBit f n } }
      let (s, rs) := s.takeRetrain n
      let s := rs.foldl (fun s r => s.complete (some r) ST.internal none []) s
      s.declareFailed (memId n) light
  else s)

/-- The time that the copy of the marked blocks takes at resync_rate, ns; 0 acts as 1 (R479). -/
def State.resyncTime (s : State) : Nat :=
  let live := 1 - s.dram.returning
  s.dram.dirty.length * 40960 / max 1 (s.fld (A.memMirror live) F.memMirror_resync_rate)

/-- RESYNC_COMPLETE: every marked block is copied; the mirror state is IN_SYNC and a RETRAIN of the channel completes
(log entry 112). -/
def execResyncComplete (s : State) : Host.Outcome State Fault Refusal :=
  .next (if (s.isUp 11 ∨ s.isUp 12) ∧ s.mirror = 2 ∧ s.dram.resyncAt + s.resyncTime ≤ s.elapsed then
    let n := s.dram.returning
    let s := s.countN (A.memResyncBlock (1 - n)) s.dram.dirty.length
    let s := { s with dram := { s.dram with dirty := [] } }.setMirror 0
    let (s, rs) := s.takeRetrain n
    rs.foldl (fun s r => if s.isOut r then s.finishEv r (memId n) .retrain 1 0 0 [] else s) s
  else s)

/-- A tick of the device's time: a cycle of TIME, and what the DRAM channels move in it (R396, R468; log entry 2). -/
def State.tick (s : State) : State := (((s.cycle).runChan 0).runChan 1).admitWaiting

end Sys2Proof.Machine
end

