-- ==== Sys2Proof/Machine/Parse.lean ====
section
/-!
DEFINITION. Parsing of frames: the parse graph, its limits and exceptions, the rule key, hashes (R307–R314, R318, R330).
-/

namespace Sys2Proof.Machine

/-- Nodes of the parse graph (R307). -/
inductive PNode where
  | eth | vlan | mpls | ip4 | ip6 | ext | ah | fragHdr | esp | tcp | udp | vxlan | gre | hol
  deriving DecidableEq, Repr

/-- A header passed: node, offset, the number of the IP header it belongs to, and its fields: two addresses (Ethernet or
IP), a type (EtherType, last Next Header or Protocol), a tag (TCI or label), DSCP and flow label, ports and flags, and the
tunnel type and ID it gives. -/
structure Layer where
  node : PNode
  off : Nat
  ip : Option Nat
  dst : Nat
  src : Nat
  type : Nat
  tag : Nat
  dscp : Nat
  flow : Nat
  dport : Nat
  sport : Nat
  flags : Nat
  tun : Option (Nat × Nat)
  deriving DecidableEq, Repr

/-- A header with no fields of its own. -/
def Layer.bare (n : PNode) (off : Nat) (ip : Option Nat) : Layer :=
  ⟨n, off, ip, 0, 0, 0, 0, 0, 0, 0, 0, 0, none⟩

/-- Parser settings (R309, R312, R307): window in bytes, layer limit, checksum check, tunnels. -/
structure ParseCfg where
  window : Nat
  maxLayers : Nat
  csum : Bool
  vxlanPort : Nat
  vxlan : Bool
  gre : Bool
  hol : Bool
  mplsEth : Bool
  /-- enabled UDP tunnel entries: index, inner Ethernet, port -/
  udpTun : List (Nat × Bool × Nat)
  deriving DecidableEq, Repr

/-- The walk: layers so far, offset, end of the frame or enclosing payload, next node, IP headers passed, exception class, and
the fragment found. -/
structure Walk where
  layers : List Layer
  off : Nat
  stop : Nat
  node : Option PNode
  ips : Nat
  exc : Option Nat
  frag : Option Fragment
  deriving DecidableEq, Repr

/-- The parse ends with an exception class. -/
def Walk.fail (p : Walk) (c : Nat) : Walk := { p with exc := some c, node := none }

/-- Why n bytes at the present offset cannot be read: past the end (LENGTH_CONFLICT), outside the window (DEPTH_EXCEEDED)
(log entry 82). -/
def Walk.short (p : Walk) (c : ParseCfg) (n : Nat) : Option Nat :=
  if p.stop < p.off + n then some 2 else if c.window < p.off + n then some 1 else none

/-- A layer is passed. -/
def Walk.pass (p : Walk) (l : Layer) (size : Nat) (next : Option PNode) : Walk :=
  { p with layers := p.layers ++ [l], off := p.off + size, node := next }

/-- The present IP header. -/
def Walk.curIp (p : Walk) : Option Nat := if p.ips = 0 then none else some (p.ips - 1)

/-- The last Next Header value reached stands in the IP header. -/
def Walk.setLast (p : Walk) (nh : Nat) : Walk :=
  { p with layers := p.layers.map (fun l =>
      if (l.node == .ip4 || l.node == .ip6) && l.ip == p.curIp then { l with type := nh } else l) }

/-- After an EtherType. -/
def afterEther (t : Nat) : Option PNode :=
  if t = 0x8100 ∨ t = 0x88A8 ∨ t = 0x9100 then some .vlan
  else if t = 0x8847 ∨ t = 0x8848 then some .mpls
  else if t = 0x0800 then some .ip4 else if t = 0x86DD then some .ip6
  else if t = 0x88B6 then some .hol else none

/-- After an IPv4 Protocol value. -/
def afterIp4 (n : Nat) : Option PNode :=
  if n = 17 then some .udp else if n = 6 then some .tcp else if n = 47 then some .gre else if n = 4 then some .ip4
  else if n = 41 then some .ip6 else if n = 51 then some .ah else if n = 50 then some .esp else none

/-- After an IPv6 Next Header value: Hop-by-Hop 0, Routing 43, Fragment 44, Destination Options 60, and those of IPv4. -/
def afterIp6 (n : Nat) : Option PNode :=
  if n = 0 ∨ n = 43 ∨ n = 60 then some .ext else if n = 44 then some .fragHdr else afterIp4 n

/-- IPv4 or IPv6 by the first nibble of what follows; outside the window it cannot be read. -/
def byNibble (c : ParseCfg) (f : List Byte) (p : Walk) (o : Nat) : Walk :=
  if p.stop ≤ o then p
  else if c.window ≤ o then p.fail 1
  else
    let v := beAt f o 1 / 16
    { p with node := if v = 4 then some .ip4 else if v = 6 then some .ip6 else none }

/-- One's complement sum of the 16-bit words of a header. -/
def onesSum (f : List Byte) (o n : Nat) : Nat :=
  let t := ((List.range (n / 2)).map (fun i => beAt f (o + 2 * i) 2)).foldl (· + ·) 0
  let t := t / 65536 + t % 65536
  t / 65536 + t % 65536

/-- An IPv4 address as an IPv6 one. -/
def mapped (a : Nat) : Nat := 0xFFFF * 2 ^ 32 + a

def parseIp4 (c : ParseCfg) (f : List Byte) (p : Walk) : Walk :=
  let o := p.off
  match p.short c 20 with
  | some e => p.fail e
  | none =>
    let hl := beAt f o 1 % 16 * 4
    let tot := beAt f (o + 2) 2
    if beAt f o 1 / 16 ≠ 4 ∨ hl < 20 then p.fail 3
    else match p.short c hl with
    | some e => p.fail e
    | none =>
      if tot < hl ∨ p.stop < o + tot then p.fail 2
      else if c.csum ∧ onesSum f o hl ≠ 65535 then p.fail 3
      else
        let proto := beAt f (o + 9) 1
        let sa := mapped (beAt f (o + 12) 4)
        let da := mapped (beAt f (o + 16) 4)
        let fl := beAt f (o + 6) 2
        let fo := fl % 8192 * 8
        let mf := fl.testBit 13
        let isFrag : Bool := (mf || fo != 0) && p.frag.isNone
        let l := { Layer.bare .ip4 o (some p.ips) with dst := da, src := sa, type := proto, dscp := beAt f (o + 1) 1 / 4 }
        let q := { p with stop := o + tot, ips := p.ips + 1
                          frag := if isFrag then some ⟨[4, sa, da, beAt f (o + 4) 2, proto], fo, tot - hl, mf⟩ else p.frag }
        q.pass l hl (if isFrag ∧ fo ≠ 0 then none else afterIp4 proto)

def parseIp6 (c : ParseCfg) (f : List Byte) (p : Walk) : Walk :=
  let o := p.off
  match p.short c 40 with
  | some e => p.fail e
  | none =>
    let len := beAt f (o + 4) 2
    if beAt f o 1 / 16 ≠ 6 then p.fail 3
    else if len = 0 ∨ p.stop < o + 40 + len then p.fail 2
    else
      let w := beAt f o 4
      let nh := beAt f (o + 6) 1
      let l := { Layer.bare .ip6 o (some p.ips) with dst := beAt f (o + 24) 16, src := beAt f (o + 8) 16, type := nh
                                                     dscp := w / 2 ^ 22 % 64, flow := w % 2 ^ 20 }
      ({ p with stop := o + 40 + len, ips := p.ips + 1 }).pass l 40 (afterIp6 nh)

/-- An extension header of 8 · (length + 1) bytes, or AH of 4 · (length + 2). -/
def parseExt (c : ParseCfg) (f : List Byte) (p : Walk) (n : PNode) : Walk :=
  match p.short c 8 with
  | some e => p.fail e
  | none =>
    let k := beAt f (p.off + 1) 1
    let size := if n = .ah then (k + 2) * 4 else (k + 1) * 8
    match p.short c size with
    | some e => p.fail e
    | none =>
      let nh := beAt f p.off 1
      (p.setLast nh).pass (Layer.bare n p.off p.curIp) size (afterIp6 nh)

/-- The addresses of the present IP header. -/
def Walk.ipAddrs (p : Walk) : Nat × Nat :=
  match p.layers.find? (fun l => l.node == .ip6 && l.ip == p.curIp) with
  | some l => (l.src, l.dst)
  | none => (0, 0)

def parseFragHdr (c : ParseCfg) (f : List Byte) (p : Walk) : Walk :=
  match p.short c 8 with
  | some e => p.fail e
  | none =>
    let nh := beAt f p.off 1
    let w := beAt f (p.off + 2) 2
    let fo := w / 8 * 8
    let (sa, da) := p.ipAddrs
    let isFrag : Bool := p.frag.isNone
    let q := if isFrag then { p with frag := some ⟨[6, sa, da, beAt f (p.off + 4) 4], fo, p.stop - p.off - 8, w.testBit 0⟩ }
      else p
    (q.setLast nh).pass (Layer.bare .fragHdr p.off p.curIp) 8 (if isFrag ∧ fo ≠ 0 then none else afterIp6 nh)

def parseTcp (c : ParseCfg) (f : List Byte) (p : Walk) : Walk :=
  match p.short c 20 with
  | some e => p.fail e
  | none =>
    let n := beAt f (p.off + 12) 1 / 16 * 4
    if n < 20 then p.fail 3
    else match p.short c n with
    | some e => p.fail e
    | none =>
      p.pass { Layer.bare .tcp p.off p.curIp with sport := beAt f p.off 2, dport := beAt f (p.off + 2) 2
                                                  flags := beAt f (p.off + 13) 1 } n none

/-- A UDP header; what a tunnel carries behind it ends where the UDP length says (R311; log entry 82). -/
def parseUdp (c : ParseCfg) (f : List Byte) (p : Walk) : Walk :=
  match p.short c 8 with
  | some e => p.fail e
  | none =>
    let dp := beAt f (p.off + 2) 2
    let len := beAt f (p.off + 4) 2
    if p.frag.isNone ∧ (len < 8 ∨ p.stop < p.off + len) then p.fail 2
    else
      let l := { Layer.bare .udp p.off p.curIp with sport := beAt f p.off 2, dport := dp }
      let p := if p.frag.isNone then { p with stop := p.off + len } else p
      if c.vxlan ∧ dp = c.vxlanPort then p.pass l 8 (some .vxlan)
      else match c.udpTun.find? (fun t => t.2.2 == dp) with
        | some (n, inner, _) =>
          let l := { l with tun := some (3, n) }
          if inner then p.pass l 8 (some .eth) else byNibble c f (p.pass l 8 none) (p.off + 8)
        | none => p.pass l 8 none

def parseGre (c : ParseCfg) (f : List Byte) (p : Walk) : Walk :=
  match p.short c 4 with
  | some e => p.fail e
  | none =>
    let b := beAt f p.off 1
    let ck := if b.testBit 7 then 4 else 0
    let n := 4 + ck + (if b.testBit 5 then 4 else 0) + (if b.testBit 4 then 4 else 0)
    if beAt f (p.off + 1) 1 % 8 ≠ 0 then p.fail 7
    else match p.short c n with
    | some e => p.fail e
    | none =>
      let key := if b.testBit 5 then beAt f (p.off + 4 + ck) 4 % 2 ^ 24 else 0
      let t := beAt f (p.off + 2) 2
      let next : Option PNode := if t = 0x6558 then some .eth else if t = 0x0800 then some .ip4 else if t = 0x86DD then some .ip6
        else if t = 0x8847 ∨ t = 0x8848 then some .mpls else none
      p.pass { Layer.bare .gre p.off p.curIp with tun := some (2, key) } n next

def parseMpls (c : ParseCfg) (f : List Byte) (p : Walk) : Walk :=
  match p.short c 4 with
  | some e => p.fail e
  | none =>
    let w := beAt f p.off 4
    let l := { Layer.bare .mpls p.off p.curIp with tag := w / 2 ^ 12 }
    if !w.testBit 8 then p.pass l 4 (some .mpls)
    else if c.mplsEth then
      (match p.short c 8 with
      | some e => p.fail e
      | none => p.pass l 8 (some .eth))
    else byNibble c f (p.pass l 4 none) (p.off + 4)

/-- A header of 4, 8 or 14 bytes that is read whole. -/
def parseFixed (c : ParseCfg) (f : List Byte) (p : Walk) (n : PNode) : Walk :=
  let o := p.off
  let size := match n with | .eth => 14 | .vlan => 4 | _ => 8
  match p.short c size with
  | some e => p.fail e
  | none =>
    let l := Layer.bare n o p.curIp
    match n with
    | .eth =>
      let t := beAt f (o + 12) 2
      p.pass { l with dst := beAt f o 6, src := beAt f (o + 6) 6, type := t } 14 (afterEther t)
    | .vlan =>
      let t := beAt f (o + 2) 2
      p.pass { l with tag := beAt f o 2, type := t } 4 (afterEther t)
    | .vxlan => if (beAt f o 1).testBit 3 then p.pass { l with tun := some (1, beAt f (o + 4) 3) } 8 (some .eth) else p.fail 7
    | .hol => if beAt f o 1 / 16 = 1 then p.pass { l with tun := some (4, beAt f (o + 4) 2 % 4096) } 8 (some .eth) else p.fail 7
    | _ => p.pass l 8 none

/-- One header. -/
def parseStep (c : ParseCfg) (f : List Byte) (p : Walk) (n : PNode) : Walk :=
  if (n = .gre ∧ !c.gre) ∨ (n = .hol ∧ !c.hol) then { p with node := none }
  else if c.maxLayers ≤ p.layers.length then p.fail 1
  else match n with
    | .ip4 => parseIp4 c f p
    | .ip6 => parseIp6 c f p
    | .ext => parseExt c f p .ext
    | .ah => parseExt c f p .ah
    | .fragHdr => parseFragHdr c f p
    | .tcp => parseTcp c f p
    | .udp => parseUdp c f p
    | .gre => parseGre c f p
    | .mpls => parseMpls c f p
    | .eth => parseFixed c f p .eth
    | .vlan => parseFixed c f p .vlan
    | .vxlan => parseFixed c f p .vxlan
    | .hol => parseFixed c f p .hol
    | .esp => parseFixed c f p .esp

/-- The walk; every step passes a layer or ends it, and at most 16 layers are passed. -/
def parseGo (c : ParseCfg) (f : List Byte) : Nat → Walk → Walk
  | 0, p => p
  | k + 1, p => match p.node with
    | some n => parseGo c f k (parseStep c f p n)
    | none => p

/-- The parse of a frame. -/
def parseFrame (c : ParseCfg) (f : List Byte) : Walk := parseGo c f 18 ⟨[], 0, f.length, some .eth, 0, none, none⟩

/-! ### The key (R310, R314) -/

/-- Key fields, in the names of R314, and what the hash, the meters and the record need beside them. -/
structure RuleKey where
  ptype : Nat
  tunType : Nat
  tunId : Nat
  vlanOuter : Nat
  vlanInner : Nat
  pcp : Nat
  ethertype : Nat
  mplsLabel : Nat
  dscp : Nat
  ipProto : Nat
  frag : Nat
  ipSrc : Nat
  ipDst : Nat
  l4Src : Nat
  l4Dst : Nat
  tcpFlags : Nat
  macDst : Nat
  macSrc : Nat
  flow : Nat
  offs : Offsets
  deriving DecidableEq, Repr

/-- The key layer: innermost (0) or outermost (1) Ethernet and IP headers, that IP header's TCP or UDP header (log entry 82); the
outermost tunnel; the tags and labels that stand before the key layer's IP header (log entry 82). -/
def keyOf (p : Walk) (outer : Bool) : RuleKey :=
  let pick (q : Layer → Bool) : Option Layer := if outer then p.layers.find? q else p.layers.reverse.find? q
  let isIp (l : Layer) : Bool := l.node == .ip4 || l.node == .ip6
  let eth := pick (fun l => l.node == .eth)
  let ip := pick isIp
  let l4 := p.layers.find? (fun l => (l.node == .tcp || l.node == .udp) && ip.any (fun i => i.ip == l.ip))
  let before : List Layer := match ip with | some i => p.layers.filter (fun (l : Layer) => l.off < i.off) | none => p.layers
  let tags := before.filter (fun l => l.node == .vlan)
  let labels := before.filter (fun l => l.node == .mpls)
  let tun := (p.layers.find? (fun l => l.tun.isSome)).bind (·.tun)
  let own : List Layer := match eth with
    | some e => (p.layers.filter (fun (l : Layer) => e.off < l.off)).takeWhile (fun l => l.node == .vlan)
    | none => []
  let b (x : Bool) (n : Nat) : Nat := if x then n else 0
  { ptype := b (ip.any (fun l => l.node == .ip4)) 128 + b (ip.any (fun l => l.node == .ip6)) 64
      + b (l4.any (fun l => l.node == .tcp)) 32 + b (l4.any (fun l => l.node == .udp)) 16 + b tun.isSome 8
      + b (!labels.isEmpty) 4 + min 3 tags.length
    tunType := (tun.map (·.1)).getD 0
    tunId := (tun.map (·.2)).getD 0
    vlanOuter := ((tags[0]?).map (·.tag % 4096)).getD 0
    vlanInner := ((tags[1]?).map (·.tag % 4096)).getD 0
    pcp := ((tags[0]?).map (·.tag / 8192)).getD 0
    ethertype := match own.getLast? with | some l => l.type | none => (eth.map (·.type)).getD 0
    mplsLabel := ((labels[0]?).map (·.tag)).getD 0
    dscp := (ip.map (·.dscp)).getD 0
    ipProto := (ip.map (·.type)).getD 0
    frag := match p.frag with | none => 0 | some g => if g.offset = 0 then 1 else 2
    ipSrc := (ip.map (·.src)).getD 0
    ipDst := (ip.map (·.dst)).getD 0
    l4Src := (l4.map (·.sport)).getD 0
    l4Dst := (l4.map (·.dport)).getD 0
    tcpFlags := (l4.map (·.flags)).getD 0
    macDst := (eth.map (·.dst)).getD 0
    macSrc := (eth.map (·.src)).getD 0
    flow := (ip.map (·.flow)).getD 0
    offs := { l2 := (eth.map (·.off)).getD 0, l3 := (ip.map (·.off)).getD 255, l4 := (l4.map (·.off)).getD 255
              layers := p.layers.length, dei := ((tags[0]?).map (·.tag / 4096 % 2)).getD 0, dscp := ip.map (·.dscp) } }

/-- The 512-bit key of a source. -/
def RuleKey.bits (k : RuleKey) (src : Nat) : Nat :=
  src * 2 ^ 506 + k.ptype * 2 ^ 498 + k.tunType * 2 ^ 495 + k.tunId * 2 ^ 471 + k.vlanOuter * 2 ^ 459
    + k.vlanInner * 2 ^ 447 + k.pcp * 2 ^ 444 + k.ethertype * 2 ^ 428 + k.mplsLabel * 2 ^ 408 + k.dscp * 2 ^ 402
    + k.ipProto * 2 ^ 394 + k.frag * 2 ^ 392 + k.ipSrc * 2 ^ 264 + k.ipDst * 2 ^ 136 + k.l4Src * 2 ^ 120
    + k.l4Dst * 2 ^ 104 + k.tcpFlags * 2 ^ 96 + k.macDst * 2 ^ 48 + k.macSrc

/-! ### The hash (R318) -/

/-- CRC-32C in its reflected form, no final XOR (log entry 5). -/
def crc32c (seed : Nat) (bs : List Byte) : Nat := bs.foldl (crcRefByte 0x82F63B78) seed

/-- The hash fields in their order. -/
def RuleKey.hashFields (k : RuleKey) : List (List Byte) :=
  [Crypto.toBE 16 k.ipSrc, Crypto.toBE 16 k.ipDst, Crypto.toBE 2 k.l4Src, Crypto.toBE 2 k.l4Dst, Crypto.toBE 1 k.ipProto
   , Crypto.toBE 3 k.tunId, Crypto.toBE 2 k.vlanOuter, Crypto.toBE 6 k.macSrc, Crypto.toBE 6 k.macDst, Crypto.toBE 3 k.flow]

/-- The hash for a selection: 1 symmetric, 2 by the field mask, else none (log entry 82). -/
def RuleKey.hash (k : RuleKey) (sel mask seed : Nat) : Nat :=
  if sel = 1 then
    let k := if k.ipDst * 65536 + k.l4Dst < k.ipSrc * 65536 + k.l4Src then
      { k with ipSrc := k.ipDst, ipDst := k.ipSrc, l4Src := k.l4Dst, l4Dst := k.l4Src } else k
    crc32c seed (k.hashFields.take 5).flatten
  else if sel = 2 then
    crc32c seed (((List.range 10).filter (fun i => mask.testBit i)).map (fun i => k.hashFields.getD i [])).flatten
  else 0

end Sys2Proof.Machine
end

