-- ==== Sys2Proof/Machine/Classify.lean ====
section
/-!
DEFINITION. The classifier: rules and versions, endpoint lookups, fragments, exception classes (R304–R338).
-/

namespace Sys2Proof.Machine

open Crypto (toBE ofBE)

def State.setPkt (s : State) (x : PktState) : State := { s with pkt := x }

/-- A field [hi:lo] of a word. -/
def bitsAt (w : Word) (hi lo : Nat) : Nat := w.toNat / 2 ^ lo % 2 ^ (hi + 1 - lo)

/-- The parser's settings as PKT's registers give them (R309). -/
def State.parseCfg (s : State) : ParseCfg :=
  { window := 32 * min 8 (max 2 (s.fld A.pktParseCtl F.pktParseCtl_window))
    maxLayers := min 16 (max 4 (s.fld A.pktParseCtl F.pktParseCtl_max_layers))
    csum := s.bit A.pktParseCtl F.pktParseCtl_ipv4_csum_en
    vxlanPort := s.fld A.pktTunCfg F.pktTunCfg_vxlan_port
    vxlan := s.bit A.pktTunCfg F.pktTunCfg_vxlan_en
    gre := s.bit A.pktTunCfg F.pktTunCfg_gre_en
    hol := s.bit A.pktTunCfg F.pktTunCfg_holael_en
    mplsEth := s.bit A.pktTunCfg F.pktTunCfg_mpls_eth
    udpTun := ((List.range 4).filter (fun n => s.bit (A.pktUdpTun n) F.pktUdpTun_en)).map (fun n =>
      (n, s.bit (A.pktUdpTun n) F.pktUdpTun_inner, s.fld (A.pktUdpTun n) F.pktUdpTun_port)) }

/-! ### Rules and versions (R315, R316, R323) -/

/-- Versions (R323). -/
def State.current (s : State) : Nat := s.fld A.pktVersionCtl F.pktVersionCtl_current
def State.staging (s : State) : Nat := s.fld A.pktVersionCtl F.pktVersionCtl_staging
def State.retiring (s : State) : Option Nat :=
  if s.bit A.pktVersionCtl F.pktVersionCtl_retiring_live then some (s.fld A.pktVersionCtl F.pktVersionCtl_retiring) else none

/-- An entry's live mask. -/
def State.liveMask (s : State) (n : Nat) : Nat := s.fld (A.pktRuleLive n) F.pktRuleLive_live_mask

/-- Is an entry free (R323)? -/
def State.ruleFree (s : State) (n : Nat) : Bool :=
  let m := s.liveMask n
  !m.testBit s.current && !m.testBit s.staging && !s.retiring.any m.testBit

/-- The entries listed with a live mask, in order. -/
def State.liveEntries (s : State) : List Nat :=
  s.regs.filterMap (fun e =>
    let d := e.1 - A.pktRuleLive 0
    if A.pktRuleLive 0 ≤ e.1 ∧ d % 256 = 0 ∧ d / 256 < 8192 then some (d / 256) else none)

/-- Does an entry match a key (R315)? -/
def State.ruleMatches (s : State) (n key : Nat) : Bool :=
  (List.range 16).all (fun w =>
    let k : Word := BitVec.ofNat 32 (key / 2 ^ (32 * w))
    (k ^^^ s.reg (A.pktRuleValue0 n + 4 * w)) &&& s.reg (A.pktRuleMask0 n + 4 * w) == 0)

/-- The lowest-numbered entry of a version that matches. -/
def State.findRule (s : State) (v key : Nat) : Option Nat :=
  s.liveEntries.find? (fun n => (s.liveMask n).testBit v && s.ruleMatches n key)

/-- Word w of an entry's action. -/
def State.ruleAct (s : State) (n w : Nat) : Word := s.reg (A.pktRuleAct0 n + 4 * w)

/-- A decision that names only an exception class. -/
def Verdict.ofClass (c v : Nat) : Verdict := ⟨some c, false, 0, none, false, v, false, 0, 0, 0⟩

/-- The decision of a rule before any lookup (R316–R318). -/
def State.ruleVerdict (s : State) (n v : Nat) (k : RuleKey) : Verdict :=
  let a0 := s.ruleAct n 0
  let a1 := s.ruleAct n 1
  let kind := bitsAt a0 31 29
  let hash := k.hash (bitsAt a1 31 30) (bitsAt a1 29 20) (s.reg A.pktHashSeed).toNat
  { exc := if kind = 3 then some 6 else none, drop := kind == 2, queue := bitsAt a0 11 0
    meter := if a0.toNat.testBit 28 then some (bitsAt a0 25 12) else none
    aware := a0.toNat.testBit 27, version := v, epHit := false, rule := n, hash := hash, tag := (s.ruleAct n 3).toNat }

/-- The indirection entry a decision of a rule of kind 1 takes its queue from (R317). -/
def State.spreadOf (s : State) (n hash : Nat) : Option Nat :=
  let a1 := s.ruleAct n 1
  if bitsAt (s.ruleAct n 0) 31 29 = 1 then some ((bitsAt a1 15 8 + hash % 2 ^ bitsAt a1 19 16) % 256) else none

/-- A decision with the queue of its indirection entry, as the entry reads when the decision is made. -/
def State.spreadQueue (s : State) (v : Verdict) : Option Nat → Verdict
  | some i => { v with queue := s.fld (A.pktInd i) F.pktInd_queue }
  | none => v

/-! ### Endpoint lookups (R319–R322) -/

/-- The 20-byte key of a lookup; none where the rule asks for an address of an IP header that is absent (log entry 83). -/
def epKey (k : RuleKey) (kind domain : Nat) : Option (List Byte) :=
  let str (t : Nat) (b : List Byte) : List Byte := toBE 1 (16 * t + domain) ++ [0, 0, 0] ++ (b ++ List.replicate 16 0).take 16
  let mac (a : Nat) : Option (List Byte) := some (str 1 (toBE 6 a ++ (toBE 2 k.vlanOuter).reverse))
  let ip (a : Nat) : Option (List Byte) :=
    if k.ptype.testBit 7 then some (str 2 (toBE 4 a)) else if k.ptype.testBit 6 then some (str 3 (toBE 16 a)) else none
  if kind = 1 then mac k.macDst else if kind = 2 then mac k.macSrc else if kind = 3 then ip k.ipDst else ip k.ipSrc

/-- The two candidate buckets (log entry 83). -/
def State.epBucket (s : State) (key : List Byte) (second : Bool) : Nat :=
  crc32c (s.reg (if second then A.pktEpSeed2 else A.pktEpSeed1)).toNat key % 2 ^ 18

/-- The base of the endpoint table. -/
def State.epBase (s : State) : Nat :=
  s.fld A.pktEpBaseHi F.pktEpBaseHi_base_hi * 2 ^ 32 + (s.reg A.pktEpBaseLo).toNat / 256 * 256

/-- Little-endian word at a byte. -/
def wordAt (b : List Byte) (i : Nat) : Nat := ofBE ((List.range 4).map (fun k => b.getD (i + 3 - k) 0))

/-- The first valid entry of a bucket with a key: its action word and tag. -/
def epSearch (bucket key : List Byte) : Option (Nat × Nat) :=
  ((List.range 4).find? (fun e =>
    let w := wordAt bucket (64 * e)
    w.testBit 31 && w / 2 ^ 24 % 128 == (key.getD 0 0).toNat && (bucket.drop (64 * e + 4)).take 16 == key.drop 4)).map
      (fun e => (wordAt bucket (64 * e + 20), wordAt bucket (64 * e + 24)))

/-- The decision after a lookup: an entry's drop, then its sump, then its queue and meter; or the rule's miss kind. -/
def afterLookup (v : Verdict) (missKind : Nat) : Option (Nat × Nat) → Verdict
  | some (a, tag) =>
    let v := { v with epHit := true, tag := tag }
    let v := if a.testBit 28 then { v with meter := some (a % 2 ^ 14) } else v
    if a.testBit 31 then { v with drop := true, exc := none }
    else if a.testBit 30 then { v with exc := some 6, drop := false }
    else if a.testBit 29 then { v with queue := a / 2 ^ 14 % 4096 } else v
  | none => if missKind = 0 then v else if missKind = 1 then { v with drop := true, exc := none }
    else { v with exc := some 4, drop := false }

/-! ### Exception classes and decisions (R335, R336) -/

/-- A class's tokens now, millionths of a packet; a bucket not yet used is full (log entry 84). -/
def State.tokensNow (s : State) (c : Nat) : Nat :=
  let burst := s.fld (A.pktExcCfg c) F.pktExcCfg_burst * 1000000
  match Tbl.get (fun _ => none) s.pkt.tokens c with
  | none => burst
  | some t => min burst (t.tok + (s.elapsed / 1000 - t.at_) * s.fld (A.pktExcRate c) F.pktExcRate_rate)

/-- A class's bucket is credited up to now, before its rate or depth changes. -/
def State.creditClass (s : State) (c : Nat) : State :=
  if (Tbl.find? s.pkt.tokens c).isSome then
    s.setPkt { s.pkt with tokens := Tbl.insert c (some ⟨s.tokensNow c, s.elapsed / 1000⟩) s.pkt.tokens }
  else s

/-- A packet of a class takes a token, if there is one. -/
def State.takeToken (s : State) (c : Nat) : State × Bool :=
  let t := s.tokensNow c
  let ok := 1000000 ≤ t
  (s.setPkt { s.pkt with tokens := Tbl.insert c (some ⟨if ok then t - 1000000 else t, s.elapsed / 1000⟩) s.pkt.tokens }, ok)

/-- What becomes of a decided packet: none is dropped; else the queue it goes to. -/
def State.treat (s : State) (v : Verdict) : State × Option Nat :=
  match v.exc with
  | some c =>
    let s := s.count (A.pktExcCount c)
    if !s.bit (A.pktExcCfg c) F.pktExcCfg_to_sump then (s, none)
    else
      let (s, ok) := s.takeToken c
      if ok then (s, some (s.fld A.pktSumpCtl F.pktSumpCtl_queue)) else (s.count (A.pktSumpRateDrop c), none)
  | none => if v.drop then (s.count A.pktRuleDrop, none) else (s, some v.queue)

/-- The record of R337: the rule where the class is none or RULE_SUMP; the tag of the endpoint entry or rule, 0 where no rule
matched. -/
def recordWords (source : Nat) (v : Verdict) (o : Offsets) : List Word :=
  let rule := if v.exc.isNone ∨ v.exc = some 6 then v.rule else 0
  [BitVec.ofNat 32 (v.version * 2 ^ 30 + source * 2 ^ 25 + (v.exc.getD 15) * 2 ^ 21
      + (if v.epHit then 2 ^ 20 else 0) + rule * 2 ^ 7), BitVec.ofNat 32 v.hash
   , BitVec.ofNat 32 (o.l2 * 2 ^ 24 + o.l3 * 2 ^ 16 + o.l4 * 2 ^ 8 + o.layers * 8), BitVec.ofNat 32 v.tag]

/-- A frame joins the frames in flight with its decision, or is dropped; a rule that drops counts here. -/
def State.decideNew (s : State) (f : PktFrame) (v : Verdict) : State :=
  match s.treat v with
  | (s, some q) => s.setPkt { s.pkt with flight := s.pkt.flight ++ [{ f with verdict := some { v with queue := q } }] }
  | (s, none) => s

/-! ### Fragments (R330–R334) -/

/-- PKT_FRAG_STATUS follows the table. -/
def State.showFrags (s : State) : State :=
  (s.setFld A.pktFragStatus F.pktFragStatus_entries s.pkt.frags.length).setFld
    A.pktFragStatus F.pktFragStatus_held s.pkt.held.length

/-- A fragment of a datagram with an entry is noted; complete, the entry is freed (R331). -/
def State.noteFragment (s : State) (g : Fragment) : State :=
  let fs := s.pkt.frags.map (fun e => if e.dgram == g.dgram then
    { e with seen := e.seen + g.bytes, total := if g.more then e.total else some (g.offset + g.bytes) } else e)
  (s.setPkt { s.pkt with frags := fs.filter (fun e => e.total != some e.seen) }).showFrags

/-- The first fragment of a datagram is decided: it is recorded where the table has room, and the held fragments of the
datagram follow it with its decision. -/
def State.recordFirst (s : State) (g : Fragment) (v : Verdict) : State :=
  let s := if s.pkt.frags.any (fun e => e.dgram == g.dgram) then s.noteFragment g
    else if 1024 ≤ s.pkt.frags.length then s.count A.pktFragTableFull
    else
      ((s.setPkt { s.pkt with frags := s.pkt.frags ++ [⟨g.dgram, v, s.elapsed, 0, none⟩] }).count A.pktFragNew).noteFragment g
  let mine := s.pkt.held.filter (fun h => h.frag.dgram == g.dgram)
  let s := (s.setPkt { s.pkt with held := s.pkt.held.filter (fun h => h.frag.dgram != g.dgram) }).showFrags
  mine.foldl (fun s h =>
    let s := s.decideNew ⟨h.source, none, h.pipe, h.frame, h.offs, none, v, 0, none, none, none⟩ v
    s.noteFragment h.frag) s

/-- A list with the first x replaced by y. -/
def replaceFirst {α : Type} [DecidableEq α] (x y : α) : List α → List α
  | [] => []
  | z :: l => if z = x then y :: l else z :: replaceFirst x y l

/-- The decision of a frame in flight is made. -/
def State.settleFrame (s : State) (f : PktFrame) (v : Verdict) : State :=
  let s := match s.treat v with
    | (s, some q) =>
      let f' := { f with look := none, verdict := some { v with queue := q } }
      s.setPkt { s.pkt with flight := replaceFirst f f' s.pkt.flight }
    | (s, none) => s.setPkt { s.pkt with flight := s.pkt.flight.erase f }
  match f.frag with
  | some g => s.recordFirst g v
  | none => s

/-! ### Frames (R304–R316, R326, R330–R333) -/

/-- Frames of a pipeline that wait for endpoint reads (log entry 85). -/
def State.waitingReads (s : State) (p : Nat) : Nat := (s.pkt.flight.filter (fun f => f.pipe == p && f.look.isSome)).length

/-- A lookup's result counted. -/
def State.countLookup (s : State) (hit : Bool) : State := s.count (if hit then A.pktEpHit else A.pktEpMiss)

/-- A frame with a rule: its decision at once, or after a lookup that reads DRAM. -/
def State.classify (s : State) (f : PktFrame) (k : RuleKey) (v n : Nat) : State :=
  let rule := s.ruleVerdict n v k
  let ind := s.spreadOf n rule.hash
  let base := s.spreadQueue rule ind
  let a2 := s.ruleAct n 2
  let kind := bitsAt a2 31 29
  let mk := bitsAt a2 24 23
  let done (s : State) (w : Verdict) : State :=
    let s := s.decideNew f w
    match f.frag with | some g => s.recordFirst g w | none => s
  if kind = 0 then done s base
  else match if s.bit A.pktEpBaseHi F.pktEpBaseHi_ep_en then epKey k kind (bitsAt a2 28 25) else none with
  | none => done (s.countLookup false) (afterLookup base mk none)
  | some key =>
    let h1 := s.epBucket key false
    match s.pkt.cache.find? (fun e => e.key == key && e.bucket == h1) with
    | some e => done (s.countLookup e.hit.isSome) (afterLookup base mk e.hit)
    | none =>
      let s := s.count A.pktEpCacheMiss
      if !s.isLit 11 ∧ !s.isLit 12 then done ((s.count A.pktEpReadErr).countLookup false) (afterLookup base mk none)
      else
        let s := s.setPkt { s.pkt with flight := s.pkt.flight ++
          [{ f with base := rule, missKind := mk, spread := ind, look := some ⟨key, false, false⟩ }] }
        if s.waitingReads f.pipe = 256 then s.count A.pktEpStall else s

/-- A frame that takes no recorded decision: its parse exception, its rule's decision, or NO_MATCH (R313, R315); of a first
fragment the decision is recorded (R331). -/
def State.classifyNew (s : State) (f : PktFrame) (exc : Option Nat) (k : RuleKey) (v : Nat) : State :=
  let only (c : Nat) : State :=
    let s := s.decideNew f (Verdict.ofClass c v)
    match f.frag with | some g => s.recordFirst g (Verdict.ofClass c v) | none => s
  match exc with
  | some c => only c
  | none => match s.findRule v (k.bits f.source) with
    | some n => s.classify f k v n
    | none => only 0

/-- A non-first fragment: its datagram's recorded decision, or held, or FRAG_UNHELD. -/
def State.laterFragment (s : State) (f : PktFrame) (g : Fragment) : State :=
  match s.pkt.frags.find? (fun e => e.dgram == g.dgram) with
  | some e => (s.decideNew f e.verdict).noteFragment g
  | none =>
    if s.bit A.pktFragCtl F.pktFragCtl_hold_en ∧ s.pkt.held.length < 64 then
      ((s.setPkt { s.pkt with held := s.pkt.held ++ [⟨f.source, f.pipe, f.frame, f.offs, g, s.elapsed⟩] }).count
        A.pktFragHeld).showFrags
    else s.decideNew f (Verdict.ofClass 5 s.current)

/-- Where a frame's EtherType stands behind up to n 802.1Q tags. -/
def etherAt (b : List Byte) (i : Nat) : Nat → Nat
  | 0 => i
  | n + 1 => if beAt b i 2 = 0x8100 ∨ beAt b i 2 = 0x88A8 then etherAt b (i + 4) n else i

/-- Is a frame of this ingress a network command frame? From WLAN stations it is ordinary data. -/
def isCommandFrame (src : Nat) (f : RxFrame) : Bool :=
  beAt f.bytes (etherAt f.bytes 12 2) 2 == 0x88B5 && (decide (src < 16) || decide (1536 ≤ f.station))

/-- The pipeline a source is bound to (R304). -/
def State.pipeOf (s : State) (src : Nat) : Nat := s.fld (A.pktSrcCfg src) F.pktSrcCfg_pipeline

/-- Has a pipeline a frame to take from a source: bound to it, one that waits, no command frame, and not 256 of the pipeline
waiting for reads? -/
def State.canParse (s : State) (pipe src : Nat) : Bool :=
  match Tbl.get (fun _ => []) s.rxFifo src with
  | [] => false
  | fr :: _ => s.pipeOf src == pipe && decide (s.waitingReads pipe < 256) && !isCommandFrame src fr

/-- The source whose turn it is at a pipeline: round-robin after the one it served last, one frame a turn (R33, R305). -/
def State.pktTurn (s : State) (pipe : Nat) : Option Nat :=
  let l := (List.range 19).filter (s.canParse pipe)
  match l.find? (fun k => Tbl.get (fun _ => 18) s.pkt.turns pipe < k) with
  | some k => some k
  | none => l.head?

/-- PKT_FRAME_PARSE: the oldest frame of a source's receive FIFO, in its turn, is stamped, parsed and matched; none is taken while 256
frames of the pipeline wait for reads. A command frame is CDM's (R33, R72) (log entry 85). -/
def execPktFrameParse (src : Fin 19) (s : State) : Host.Outcome State Fault Refusal :=
  .next (match Tbl.get (fun _ => []) s.rxFifo src with
  | [] => s
  | fr :: rest =>
    let pipe := s.pipeOf src
    if !s.isLit 3 ∨ s.pktTurn pipe ≠ some src.val then s
    else
      let s := { s with rxFifo := Tbl.set (fun _ => []) src rest s.rxFifo,
                        pkt := { s.pkt with turns := Tbl.set (fun _ => 18) pipe src.val s.pkt.turns } }
      let s := s.count (if pipe = 0 then A.pktStamped0 else A.pktStamped1)
      let v := s.current
      let w := parseFrame s.parseCfg fr.bytes
      let k := keyOf w (s.bit (A.pktSrcCfg src) F.pktSrcCfg_key_select)
      let f : PktFrame := ⟨src, some v, pipe, fr, k.offs, none, Verdict.ofClass 0 v, 0, none, none, none⟩
      match w.frag with
      | some g =>
        if g.offset ≠ 0 then s.laterFragment f g
        else match s.pkt.frags.find? (fun e => e.dgram == g.dgram) with
        | some e => (s.decideNew f e.verdict).noteFragment g
        | none => s.classifyNew { f with frag := some g } w.exc k v
      | none => s.classifyNew f w.exc k v)

/-- A frame's lookup ends; the result is installed unless an invalidation came since the read started. `evict` is the result
the cache replaces when it holds 65 536. -/
def State.endLookup (s : State) (f : PktFrame) (l : Lookup) (hit : Option (Nat × Nat)) (evict : Nat) : State :=
  let c := s.pkt.cache.filter (fun e => e.key != l.key)
  let c := if 65536 ≤ c.length then c.eraseIdx (evict % 65536) else c
  let s := if l.stale then s else s.setPkt { s.pkt with cache := c ++ [⟨l.key, s.epBucket l.key false, hit⟩] }
  (s.countLookup hit.isSome).settleFrame f (afterLookup (s.spreadQueue f.base f.spread) f.missKind hit)

/-- A frame's read fails: a miss, counted and not cached (R322). -/
def State.failLookup (s : State) (f : PktFrame) : State :=
  ((s.count A.pktEpReadErr).countLookup false).settleFrame f (afterLookup (s.spreadQueue f.base f.spread) f.missKind none)

/-- EP_BUCKET_READ_DONE: the read of the k-th waiting frame returns. -/
def execEpBucketReadDone (k evict : Nat) (s : State) : Host.Outcome State Fault Refusal :=
  .next (match (s.pkt.flight.filter (·.look.isSome))[k]? with
  | none => s
  | some f => match f.look with
    | none => s
    | some l =>
      if !s.isLit 3 then s
      else match s.memRead (.island 3) (s.epBase + 256 * s.epBucket l.key l.second) 256 with
      | (s, none) => s.failLookup f
      | (s, some b) => match epSearch b l.key, l.second with
        | some r, _ => s.endLookup f l (some r) evict
        | none, true => s.endLookup f l none evict
        | none, false =>
          let f' := { f with look := some { l with second := true } }
          s.setPkt { s.pkt with flight := replaceFirst f f' s.pkt.flight })

/-- EP_READ_TIMEOUT: the read of the k-th waiting frame errors or stays silent. -/
def execEpReadTimeout (k : Nat) (s : State) : Host.Outcome State Fault Refusal :=
  .next (match (s.pkt.flight.filter (·.look.isSome))[k]? with
  | some f => if s.isLit 3 then s.failLookup f else s
  | none => s)

/-- EP_INVALIDATE: a write of PKT_EP_INVAL; go 1 removes a bucket's results, and reads under way are not installed. -/
def execEpInvalidate (who : Requester) (w : Word) (s : State) : Host.Outcome State Fault Refusal :=
  .next (s.access who (A.pktEpInval) true fun s =>
    if !isAnyCore who then s.busOk 0
    else
      let b := F.pktEpInval_bucket.get w
      let s := s.setFld A.pktEpInval F.pktEpInval_bucket b
      (if F.pktEpInval_go.get w = 1 then
        s.setPkt { s.pkt with
          cache := s.pkt.cache.filter (fun e => e.bucket != b)
          flight := s.pkt.flight.map (fun f => { f with look := f.look.map (fun l =>
            if s.epBucket l.key false = b then { l with stale := true } else l) }) }
      else s).busOk 0)

/-- EP_SEED_WRITE: a write of an endpoint seed invalidates the whole cache. -/
def execEpSeedWrite (who : Requester) (second : Bool) (w : Word) (s : State) : Host.Outcome State Fault Refusal :=
  .next (s.access who (if second then A.pktEpSeed2 else A.pktEpSeed1) true fun s =>
    if !isAnyCore who then s.busOk 0
    else
      let s := s.setReg (if second then A.pktEpSeed2 else A.pktEpSeed1) w
      (s.setPkt { s.pkt with cache := [], flight := s.pkt.flight.map (fun f => { f with look := f.look.map (fun l =>
        { l with stale := true }) }) }).busOk 0)

/-! ### Rule writes, staging and commits (R316, R323–R326) -/

/-- rule_err. -/
def State.ruleErr (s : State) : State := s.setFld A.pktRuleStage F.pktRuleStage_rule_err 1

/-- Are rule writes refused for now (R323)? -/
def State.ruleBusy (s : State) : Bool :=
  s.bit A.pktVersionCtl F.pktVersionCtl_seed_busy || s.bit A.pktVersionCtl F.pktVersionCtl_busy

/-- Is word i (0 to 35) of an entry a value that R316 refuses? -/
def actionBad (i : Nat) (w : Word) : Bool :=
  (i == 32 && decide (4 ≤ bitsAt w 31 29)) || (i == 33 && decide (8 < bitsAt w 19 16)) || (i == 34 && decide (5 ≤ bitsAt w 31 29))

/-- An action word without its reserved fields: ones written there are ignored (R17, R316). -/
def actionWord (i : Nat) (w : Word) : Word :=
  if i = 32 then w &&& 0xFBFFFFFF else if i = 33 then w &&& 0xFFFFFF00 else if i = 34 then w &&& 0xFF800000 else w

/-- RULE_ENTRY_WRITE: word i of entry n, values 0–15, mask 16–31, action 32–35. -/
def execRuleEntryWrite (who : Requester) (n : Fin 8192) (i : Fin 36) (w : Word) (s : State) : Host.Outcome State Fault Refusal :=
  .next (s.access who (A.pktRuleValue0 n + 4 * i) true fun s =>
    if !isAnyCore who then s.busOk 0
    else if s.ruleBusy ∨ !s.ruleFree n ∨ actionBad i w then s.ruleErr.busOk 0
    else (s.setReg (A.pktRuleValue0 n + 4 * i) (actionWord i w)).busOk 0)

/-- A staging edit, or a write of PKT_RULE_STAGE without go (R323). -/
def State.ruleStage (s : State) (w : Word) : State :=
  let s := if F.pktRuleStage_rule_err.get w = 1 then s.setFld A.pktRuleStage F.pktRuleStage_rule_err 0 else s
  if s.ruleBusy then s.ruleErr
  else
    let n := F.pktRuleStage_index.get w
    let rm := F.pktRuleStage_remove.get w
    let s := (s.setFld A.pktRuleStage F.pktRuleStage_index n).setFld A.pktRuleStage F.pktRuleStage_remove rm
    if F.pktRuleStage_go.get w = 1 then
      let m := s.liveMask n
      s.setFld (A.pktRuleLive n) F.pktRuleLive_live_mask (if rm = 1 then clrBit m s.staging else setBit m s.staging)
    else s

/-- RULE_STAGE_ADD: a write of PKT_RULE_STAGE with go 1 and remove 0. -/
def execRuleStageAdd (who : Requester) (n : Fin 8192) (s : State) : Host.Outcome State Fault Refusal :=
  .next (s.access who (A.pktRuleStage) true fun s =>
    (if isAnyCore who then s.ruleStage (BitVec.ofNat 32 (2 ^ 31 + n)) else s).busOk 0)

/-- RULE_STAGE_REMOVE: a write of PKT_RULE_STAGE with go 1 and remove 1. -/
def execRuleStageRemove (who : Requester) (n : Fin 8192) (s : State) : Host.Outcome State Fault Refusal :=
  .next (s.access who (A.pktRuleStage) true fun s =>
    (if isAnyCore who then s.ruleStage (BitVec.ofNat 32 (2 ^ 31 + 2 ^ 30 + n)) else s).busOk 0)

/-- A commit is accepted: the staging version becomes current, the old one retires, the seed starts (R324, R325). -/
def State.acceptCommit (s : State) : State :=
  let a := A.pktVersionCtl
  let c := s.current
  let s := (s.setFld a F.pktVersionCtl_retiring c).setFld a F.pktVersionCtl_retiring_live 1
  let s := (s.setFld a F.pktVersionCtl_current ((c + 1) % 4)).setFld a F.pktVersionCtl_staging ((c + 2) % 4)
  let s := (s.setFld a F.pktVersionCtl_seed_busy 1).setFld a F.pktVersionCtl_busy 0
  let s := (s.setFld A.pktCommitRes F.pktCommitRes_status ST.ok).setFld
    A.pktCommitRes F.pktCommitRes_commits (s.fld A.pktCommitRes F.pktCommitRes_commits + 1)
  s.setPkt { s.pkt with commitWaits := false, seedAt := s.elapsed }

/-- RULE_COMMIT: a write of 1 to commit_req; refused while the retiring version is live, waiting while the seed runs; one with the commit
accepted in its cycle (R324, R328). -/
def execRuleCommit (who : Requester) (s : State) : Host.Outcome State Fault Refusal :=
  .next (s.access who (A.pktVersionCtl) true fun s =>
    if !isAnyCore who then s.busOk 0
    else if s.bit A.pktVersionCtl F.pktVersionCtl_busy ∨ s.pkt.commitAt = some s.elapsed then s.busOk 0
    else if s.retiring.isSome then (s.setFld A.pktCommitRes F.pktCommitRes_status ST.versionBusy).busOk 0
    else if s.bit A.pktVersionCtl F.pktVersionCtl_seed_busy then
      ((s.setPkt { s.pkt with commitWaits := true }).setFld A.pktVersionCtl F.pktVersionCtl_busy 1).busOk 0
    else (s.acceptCommit.setPkt { s.acceptCommit.pkt with commitAt := some s.elapsed }).busOk 0)

/-- SEED_COMPLETE: 8 192 cycles after the commit each entry's bit of the current version stands in its bit of the staging version;
a waiting commit goes on (R324, R325). -/
def execSeedComplete (s : State) : Host.Outcome State Fault Refusal :=
  .next (if s.isLit 3 ∧ s.bit A.pktVersionCtl F.pktVersionCtl_seed_busy ∧ s.pkt.seedAt + 8192 ≤ s.elapsed then
    let c := s.current
    let g := s.staging
    let s := s.liveEntries.foldl (fun s n =>
      let m := s.liveMask n
      s.setFld (A.pktRuleLive n) F.pktRuleLive_live_mask (if m.testBit c then setBit m g else clrBit m g)) s
    let s := s.setFld A.pktVersionCtl F.pktVersionCtl_seed_busy 0
    if s.pkt.commitWaits then
      (if s.retiring.isSome then ((s.setPkt { s.pkt with commitWaits := false }).setFld
          A.pktVersionCtl F.pktVersionCtl_busy 0).setFld A.pktCommitRes F.pktCommitRes_status ST.versionBusy
        else s.acceptCommit)
    else s
  else s)

/-- VERSION_RETIRE: no packet stamped with the retiring version is in flight (R326). -/
def execVersionRetire (s : State) : Host.Outcome State Fault Refusal :=
  .next (match s.retiring with
  | some v =>
    if s.isLit 3 ∧ !s.pkt.flight.any (fun f => f.stamp == some v) then
      (s.setFld A.pktVersionCtl F.pktVersionCtl_retiring_live 0).setFld A.pktVersionCtl F.pktVersionCtl_retired 1
    else s
  | none => s)

/-- FRAG_ENTRY_EXPIRY: the oldest entry of the fragment table reaches 200 ms. -/
def execFragEntryExpiry (s : State) : Host.Outcome State Fault Refusal :=
  .next (match s.pkt.frags with
  | [] => s
  | e :: rest =>
    if s.isLit 3 ∧ e.born + 200000000 ≤ s.elapsed then ((s.setPkt { s.pkt with frags := rest }).count A.pktFragExpired).showFrags else s)

/-- hold_time in ns, 1 to 200 ms. -/
def State.holdTime (s : State) : Nat := 1000000 * min 200 (max 1 (s.fld A.pktFragCtl F.pktFragCtl_hold_time))

/-- FRAG_HOLD_EXPIRY: the oldest held fragment passes hold_time and takes class FRAG_UNHELD (R333). -/
def execFragHoldExpiry (s : State) : Host.Outcome State Fault Refusal :=
  .next (match s.pkt.held with
  | [] => s
  | h :: rest =>
    if s.isLit 3 ∧ h.since + s.holdTime ≤ s.elapsed then
      let s := (s.setPkt { s.pkt with held := rest }).showFrags
      let v := Verdict.ofClass 5 s.current
      s.decideNew ⟨h.source, none, h.pipe, h.frame, h.offs, none, v, 0, none, none, none⟩ v
    else s)

/-! ### Delivery (R306) -/

/-- The next packet of a source that PKT may deliver: its oldest in flight, once decided. -/
def State.deliverable (s : State) (src : Nat) : Option (PktFrame × Verdict) :=
  match s.pkt.flight.find? (fun f => f.source == src) with
  | some f => f.verdict.map (fun v => (f, v))
  | none => none

end Sys2Proof.Machine
end

