-- ==== Sys2Proof/Machine/Ports.lean ====
section
/-!
DEFINITION. Wired ports: enabling, Ethernet links, MAC frames, pause, tests and counters (R358–R369, R385–R394).
-/

namespace Sys2Proof.Machine

open Crypto (toBE ofBE)

/-- A refused write of a quad: cfg_err and its reason. -/
def State.lnqErr (s : State) (q reason : Nat) : State :=
  (s.setFld (A.lnqCtl q) F.lnqCtl_cfg_err 1).setFld (A.lnqCtl q) F.lnqCtl_cfg_reason reason

/-! ### Enabling (R359–R362) -/

/-- Why an enable of a port as configured is refused: mode or width 5, lanes 1, PLL 3, cuff 2. -/
def State.enableRefusal (s : State) (p : Nat) : Option Nat :=
  let q := p / 4
  let mode := s.pMode p
  match lanesOf mode (s.fld (pCfg p) F.lnqPortCfg_width) (p % 4) with
  | none => some 5
  | some ls =>
    let others := s.otherPorts p
    let held := others.any (fun k => (s.portLanes k).any ls.contains)
    let runs (b : Bool) : Bool := s.fld (A.lnqPllCtl q) (pllEn b) == 1 && s.fld (A.lnqPllCtl q) (pllRate b) == modeRate mode
    let pllOk := if mode = 5 then
        (match ls with
          | [] => false
          | l :: _ =>
            let b := s.lanePll q l
            ls.all (fun l => s.lanePll q l == b) && !others.any (fun k => (s.portLanes k).any (fun l => s.lanePll q l == b)))
      else ls.all (fun l => runs (s.lanePll q l) && !others.any (fun k => s.ownsPll k (s.lanePll q l)))
    let cuff := s.fld (pCfg p) F.lnqPortCfg_cuff
    let taken := (List.range 16).any (fun k => k != p && s.portOn k && s.fld (pCfg k) F.lnqPortCfg_cuff == cuff)
    if held then some 1 else if !pllOk then some 3 else if taken ∨ !s.isLit 2 then some 2 else none

/-- A PLL at a rate code: its lock falls where the rate changes (R358, R374). -/
def State.pllTo (s : State) (q : Nat) (b : Bool) (rate : Nat) : State :=
  let a := A.lnqPllCtl q
  if s.fld a (pllRate b) = rate ∧ s.fld a (pllEn b) = 1 then s
  else ((s.setFld a (pllRate b) rate).setFld a (pllEn b) 1).setFld a (pllLock b) 0

/-- The PLL of a Kalhar Link. -/
def State.klPll (s : State) (p : Nat) : Bool := match s.portLanes p with | l :: _ => s.lanePll (p / 4) l | [] => false

/-- Bring-up afresh (R374, R391): status at its reset values but what hold-off and the link show; a Kalhar Link in DETECT. -/
def State.bringUp (s : State) (p : Nat) : State :=
  let s := s.setReg (pStat p) D.lnqPortStatus.resetWord
  let x := s.port p
  let s := s.setPort p { PortState.init with
    flaps := x.flaps, pauseEnd := x.pauseEnd, pauses := x.pauses, ignLogged := x.ignLogged, rxHigh := x.rxHigh
    txHigh := x.txHigh, lastTx := x.lastTx, lastCtl := x.lastCtl, pauseIn := x.pauseIn, xoffSent := x.xoffSent
    pauseSent := x.pauseSent }
  if s.pMode p = 5 then s.pllTo (p / 4) (s.klPll p) 0 else s

/-- The writable fields of PORT_CFG but enable. A port that is enabled keeps mode, width, cuff and an_en; a mode or width that
the table refuses is not written (R362). -/
def State.writePortCfg (s : State) (p : Nat) (w : Word) : State :=
  let a := pCfg p
  let s := s.setFld a F.lnqPortCfg_max_len (F.lnqPortCfg_max_len.get w)
  let fs := [F.lnqPortCfg_mode, F.lnqPortCfg_width, F.lnqPortCfg_cuff, F.lnqPortCfg_an_en]
  if s.portOn p then
    if fs.all (fun f => f.get w == s.fld a f) then s else s.lnqErr (p / 4) 4
  else
    let bad (f : Fld) : Bool := (f == F.lnqPortCfg_mode && decide (6 ≤ f.get w)) || (f == F.lnqPortCfg_width && f.get w == 3)
    let s := fs.foldl (fun s f => if bad f then s else s.setFld a f (f.get w)) s
    if fs.any bad then s.lnqErr (p / 4) 5 else s

/-- A port that asks to be enabled: refused with a reason, or enabled with an empty cuff and brought up (R361, R362). -/
def State.enablePort (s : State) (p : Nat) : State :=
  match s.enableRefusal p with
  | some e => s.lnqErr (p / 4) e
  | none =>
    let s := s.setCuff (s.fld (pCfg p) F.lnqPortCfg_cuff) Cuff.empty
    let s := (s.setFld (pCfg p) F.lnqPortCfg_enable 1).setFld (A.lnqPortTx (p / 4) (p % 4)) F.lnqPortTx_start_thresh 512
    let s := (s.portLanes p).foldl (fun s l => s.setFld (A.lnqLaneStatus (p / 4) l) F.lnqLaneStatus_in_use 1) s
    (s.setPort p PortState.init).bringUp p

/-- PORT_ENABLE: a write of PORT_CFG with enable 1 (log entry 93). -/
def execPortEnable (who : Requester) (p : Fin 16) (w : Word) (s : State) : Host.Outcome State Fault Refusal :=
  .next (s.access who (pCfg p) true fun s =>
    if !isAnyCore who then s.busOk 0
    else if s.portOn p then (s.writePortCfg p w).busOk 0
    else ((s.writePortCfg p w).enablePort p).busOk 0)

/-- PORT_DISABLE: a write of PORT_CFG with enable 0; the link falls, and the lanes idle and power down (R361, R362). -/
def execPortDisable (who : Requester) (p : Fin 16) (w : Word) (s : State) : Host.Outcome State Fault Refusal :=
  .next (s.access who (pCfg p) true fun s =>
    if !isAnyCore who then s.busOk 0
    else
      let on := s.portOn p
      let s := s.writePortCfg p w
      if !on then s.busOk 0
      else
        let s := s.linkFall p false
        let ls := s.portLanes p
        let s := { s with lanes := Tbl.drop (fun k => k / 4 == p / 4 && ls.contains (k % 4)) s.lanes }
        let s := ls.foldl (fun s l => s.setReg (A.lnqLaneStatus (p / 4) l) 0) s
        let s := (s.setFld (pCfg p) F.lnqPortCfg_enable 0).setReg (pStat p) D.lnqPortStatus.resetWord
        (s.setPort p { PortState.init with rxHigh := (s.port p).rxHigh, txHigh := (s.port p).txHigh }).busOk 0)

/-- LANE_PLL_LOCK: an enabled lane PLL of a quad locks; `b` is PLL B. -/
def execLanePllLock (q : Fin 4) (b : Bool) (s : State) : Host.Outcome State Fault Refusal :=
  .next (if s.isLit (lnqId q) ∧ s.fld (A.lnqPllCtl q) (pllEn b) = 1 then s.setFld (A.lnqPllCtl q) (pllLock b) 1 else s)

/-! ### Ethernet links (R363–R369) -/

/-- n of a saturating lane counter. -/
def State.laneErrs (s : State) (q l code disp : Nat) : State :=
  (s.countN (A.lnqLaneCodeErr q l) code).countN (A.lnqLaneDispErr q l) disp

/-- Does an Ethernet mode run clause 37 negotiation? -/
def State.runsAn (s : State) (p : Nat) : Bool := (s.pMode p == 1 || s.pMode p == 3) && s.bit (pCfg p) F.lnqPortCfg_an_en

/-- May an Ethernet port's link rise: its lanes have symbol lock, are aligned, and negotiation or the PHY allows it? -/
def State.pcsGood (s : State) (p : Nat) : Bool :=
  s.portLive p && s.pMode p != 5 && !s.bit (pStat p) F.lnqPortStatus_duplex_err
    && (s.portLanes p).all (fun l => s.bit (A.lnqLaneStatus (p / 4) l) F.lnqLaneStatus_sym_lock)
    && (!s.runsAn p || s.bit (pStat p) F.lnqPortStatus_an_done)
    && (s.pMode p != 4 || !s.bit (pStat p) F.lnqPortStatus_local_fault) && (s.pMode p != 2 || (s.port p).sgmiiLink)

/-- Since when the PCS of a port has reported the link good, after a change of what it depends on (R369). -/
def State.notePcs (s : State) (p : Nat) : State :=
  let x := s.port p
  if s.pcsGood p then (if x.goodAt.isSome then s else s.setPort p { x with goodAt := some s.elapsed })
  else if x.goodAt.isSome then s.setPort p { x with goodAt := none } else s

/-- The pause abilities advertised for rx_en and tx_en: symmetric, asymmetric (clause 37) (log entry 95). -/
def pauseAdv (rx tx : Bool) : Bool × Bool := (rx, rx != tx)

/-- Clause 37 priority resolution: receive pause honoured, pause sent. -/
def pauseResolve (sym asym psym pasym : Bool) : Bool × Bool :=
  if sym && psym then (true, true)
  else if sym && asym && pasym then (true, false)
  else if !sym && asym && psym && pasym then (false, true)
  else (false, false)

/-- The pause settings in effect: as resolved, where negotiation ran, else as written. -/
def State.pauseRx (s : State) (p : Nat) : Bool :=
  s.bit (A.lnqPortPause (p / 4) (p % 4)) F.lnqPortPause_rx_en && ((s.port p).pauseRes.map (·.1)).getD true
def State.pauseTx (s : State) (p : Nat) : Bool :=
  s.bit (A.lnqPortPause (p / 4) (p % 4)) F.lnqPortPause_tx_en && ((s.port p).pauseRes.map (·.2)).getD true

/-- AUTONEG_COMPLETE: the partner offers these abilities; half duplex only leaves the port down (log entry 95). -/
def execAutonegComplete (p : Fin 16) (full psym pasym remoteFault : Bool) (s : State) : Host.Outcome State Fault Refusal :=
  .next (if s.portLive p ∧ s.runsAn p then
    let a := pStat p
    let b (x : Bool) : Nat := if x then 1 else 0
    let s := ((s.setFld a F.lnqPortStatus_an_done 1).setFld a F.lnqPortStatus_partner_pause (2 * b psym + b pasym)).setFld
      a F.lnqPortStatus_remote_fault (b remoteFault)
    let s := s.setFld a F.lnqPortStatus_duplex_err (b !full)
    if full then
      let r := A.lnqPortPause (p / 4) (p % 4)
      let (sym, asym) := pauseAdv (s.bit r F.lnqPortPause_rx_en) (s.bit r F.lnqPortPause_tx_en)
      (s.setPort p { s.port p with pauseRes := some (pauseResolve sym asym psym pasym) }).notePcs p
    else (s.linkFall p false).notePcs p
  else s)

/-- AUTONEG_RESTART. -/
def execAutonegRestart (p : Fin 16) (s : State) : Host.Outcome State Fault Refusal :=
  .next (if s.portLive p ∧ s.runsAn p then
    ((((s.count (A.lnqAnRestart (p / 4) (p % 4))).setFld (pStat p) F.lnqPortStatus_an_done 0).setPort p
      { s.port p with pauseRes := none }).flap p).notePcs p
  else s)

/-- SGMII_CONFIG_WORD: link, speed (0 10, 1 100, 2 1 000 Mb/s) and duplex from the PHY; a new speed waits for the boundary of
the frame on the wire (log entry 98). -/
def execSgmiiConfigWord (p : Fin 16) (link : Bool) (speed : Fin 3) (full : Bool) (s : State) : Host.Outcome State Fault Refusal :=
  .next (if s.portLive p ∧ s.pMode p = 2 then
    let s := s.setFld (pStat p) F.lnqPortStatus_duplex_err (if full then 0 else 1)
    let s := s.setPort p { s.port p with sgmiiLink := link && full, speedNext := some speed }
    let s := if (s.port p).tx.isNone then s.boundary p else s
    (if link && full then s else s.linkFall p false).notePcs p
  else s)

/-- Is a lane's polarity inverted on receive: as the board needs on an Ethernet mode, as found on Kalhar Link (R364)? -/
def State.laneInverted (s : State) (q l : Nat) : Bool :=
  let kl := (List.range 4).any (fun m => s.portOn (4 * q + m) && s.pMode (4 * q + m) == 5 && (s.portLanes (4 * q + m)).contains l)
  if kl then s.bit (A.lnqLaneStatus q l) F.lnqLaneStatus_rx_inverted else s.bit (A.lnqLaneCfg q l) F.lnqLaneCfg_rx_invert

/-- SYMBOL_LOCK_CHANGE: a lane in use receives a run of bits, by which it acquires, keeps or loses symbol lock, and its bad symbols
count; or, `signal` false, it loses its signal. -/
def execSymbolLockChange (q l : Fin 4) (signal : Bool) (bits : List Bool) (s : State) : Host.Outcome State Fault Refusal :=
  .next (let a := A.lnqLaneStatus q l
  if s.isLit (lnqId q) ∧ s.bit a F.lnqLaneStatus_in_use then
    let k := 4 * q.val + l.val
    let b (x : Bool) : Nat := if x then 1 else 0
    let old := Tbl.get (fun _ => LaneRx.init) s.lanes k
    let (x, code, disp) := if signal then old.run (bits.map (· != s.laneInverted q l)) else (LaneRx.init, 0, 0)
    let s := { s with lanes := Tbl.set (fun _ => LaneRx.init) k x s.lanes }.laneErrs q l code disp
    let s := ((s.setFld a F.lnqLaneStatus_sym_lock (b x.locked)).setFld a F.lnqLaneStatus_cdr_lock (b signal)).setFld
      a F.lnqLaneStatus_signal (b signal)
    (List.range 4).foldl (fun s m => s.notePcs (4 * q + m)) s
  else s)

/-- LINK_UP: the PCS has reported the link good for 10 ms. -/
def execLinkUp (p : Fin 16) (s : State) : Host.Outcome State Fault Refusal :=
  .next (if s.pcsGood p ∧ (s.port p).goodAt.any (fun t => decide (t + 10000000 ≤ s.elapsed)) then s.linkRise p else s)

/-- LINK_DOWN: the PCS reports the link lost; `receiving` where a frame was in reception. -/
def execLinkDown (p : Fin 16) (receiving : Bool) (s : State) : Host.Outcome State Fault Refusal :=
  .next (if s.portOn p ∧ s.pMode p ≠ 5 then s.linkFall p receiving else s)

/-- LINK_FAULT_SIGNAL: fault signalling of a 10GBASE-X4 port: local fault received, or alignment lost, as it is where the lanes stand
more than 16 symbols apart; it sends remote fault; and remote fault received. -/
def execLinkFaultSignal (p : Fin 16) (loc rem : Bool) (skew : Nat) (s : State) : Host.Outcome State Fault Refusal :=
  .next (if s.portLive p ∧ s.pMode p = 4 then
    let loc := loc || decide (16 < skew)
    let s := s.setPort p { s.port p with sendsFault := loc }
    ((s.setFld (pStat p) F.lnqPortStatus_local_fault (if loc then 1 else 0)).setFld
      (pStat p) F.lnqPortStatus_remote_fault (if rem then 1 else 0)).notePcs p
  else s)

/-! ### Hold-off (R391) -/

/-- PORT_HOLDOFF: ten flaps within 1 s. -/
def execPortHoldoff (p : Fin 16) (s : State) : Host.Outcome State Fault Refusal :=
  .next (if s.portLive p ∧ 10 ≤ ((s.port p).flaps.filter (fun t => s.elapsed < t + nsPerSec)).length then
    let s := s.linkFall p false
    let s := (s.bringUp p).setFld (pStat p) F.lnqPortStatus_holdoff 1
    let s := s.setPort p { s.port p with flaps := [], holdEnd := s.elapsed + nsPerSec }
    (s.count (A.lnqPortHoldoff (p / 4) (p % 4))).raise (portSrc (p / 4) (p % 4)) .linkFlap 0 2 [p]
  else s)

/-- PORT_HOLDOFF_END: bring-up starts afresh. -/
def execPortHoldoffEnd (p : Fin 16) (s : State) : Host.Outcome State Fault Refusal :=
  .next (if s.portOn p ∧ s.pHold p ∧ (s.port p).holdEnd ≤ s.elapsed then (s.bringUp p).notePcs p else s)

/-! ### Reception (R385, R386) -/

/-- The two FCS bytes' check: CRC-32 of IEEE 802.3, least significant byte first on the wire. -/
def fcsOk (f : List Byte) : Bool :=
  f.drop (f.length - 4) == (toBE 4 (crc32 (f.take (f.length - 4)))).reverse

/-- Is a frame addressed to a PAUSE's group address or to the port (log entry 40)? -/
def pauseAddressed (f : List Byte) : Bool :=
  f.take 6 == [0x01, 0x80, 0xC2, 0x00, 0x00, 0x01] || !(f.getD 0 0).toNat.testBit 0

/-- A good frame (bytes with FCS): control frames are consumed or dropped; others go to the classifier's FIFO, by way of
CIP where the port has a receive SA. -/
def State.goodFrame (s : State) (p : Nat) (f : List Byte) (stamp : Int) : State :=
  let n := f.length
  let body := f.take (n - 4)
  let s := (s.macCount p (castIdx 3 f)).macCount p (8 + sizeBin n)
  if beAt f 12 2 = 0x8808 then
    if beAt f 14 2 = 1 ∧ pauseAddressed f then
      let s := (s.macCount p 2).macCount p 6
      s.setPort p { s.port p with pauseIn := (s.port p).pauseIn ++ [beAt f 16 2] }
    else s.macCount p 7
  else if !s.secured p false then
    s.deliverPort p n body false stamp
  else if s.isLit 10 then
    { s with cip := { s.cip with rx := s.cip.rx ++ [(p, body, stamp)] } }
  else s.count (A.aonDarkLoss 10)

/-- MAC_FRAME_RX: a frame from destination address to FCS; `raw` is the district time, 2^−16 ns, at which its delimiter crossed
the boundary, and `var` the variable part of the correction; `bad` gives its invalid symbols (true) and disparity errors
by lane; `esym` that it held /E/. -/
def execMacFrameRx (p : Fin 16) (f : List Byte) (raw var : Nat) (bad : List (Fin 4 × Bool)) (esym : Bool) (s : State) :
    Host.Outcome State Fault Refusal :=
  .next (if s.portLive p ∧ s.linkUp p ∧ (s.pMode p ≠ 5 ∨ s.klState p = 4) then
    let s := bad.foldl (fun s e => if e.2 then s.laneErrs (p / 4) e.1 1 0 else s.laneErrs (p / 4) e.1 0 1) s
    let s := (s.activeLanes p).foldl (fun s l => s.setFld (A.lnqLaneStatus (p / 4) l) F.lnqLaneStatus_rx_idle_e 0) s
    let s := s.setPort p { s.port p with rxAt := s.elapsed }
    let n := f.length
    if esym ∨ bad.any (·.2) then s.macCount p 20
    else if 16384 ≤ n then s.macCount p 19
    else if n < 64 then s.macCount p (if fcsOk f then 16 else 17)
    else if s.maxLen p < n then s.macCount p (if fcsOk f then 18 else 19)
    else if !fcsOk f then s.macCount p 15
    else s.goodFrame p f ((raw : Int) - (s.portCorr p).2 - var - s.boardRx p)
  else s)

/-! ### Pause (R390, R392) -/

/-- Time paused in the last 100 ms, ns. -/
def State.pausedTime (s : State) (p : Nat) : Nat :=
  let from_ := s.elapsed - 100000000
  (s.port p).pauses.foldl (fun a e => a + (min e.2 s.elapsed - max e.1 from_)) 0

/-- An ignored PAUSE; the first of a second is logged. -/
def State.pauseIgnore (s : State) (p : Nat) : State :=
  let s := s.macCount p 23
  if (s.port p).ignLogged = some s.nowSec then s
  else (s.setPort p { s.port p with ignLogged := some s.nowSec }).raise (portSrc (p / 4) (p % 4)) .pauseIgnored 0 2 [p]

/-- PAUSE_RX: the oldest consumed PAUSE acts. -/
def execPauseRx (p : Fin 16) (s : State) : Host.Outcome State Fault Refusal :=
  .next (match (s.port p).pauseIn with
  | [] => s
  | q :: rest =>
    if !s.portLitAt p then s
    else
      let s := s.setPort p { s.port p with pauseIn := rest }
      let r := A.lnqPortPause (p / 4) (p % 4)
      let budget := min 100 (s.fld r F.lnqPortPause_budget)
      if !s.pauseRx p ∨ budget = 0 ∨ budget * 1000000 ≤ s.pausedTime p then s.pauseIgnore p
      else
        let len := min (q * 512 * 1000 / max 1 (s.portMbps p)) (max 1 (s.fld r F.lnqPortPause_pause_max) * 1000000)
        let x := s.port p
        let old := (x.pauses.map (fun e => (e.1, min e.2 s.elapsed))).filter (fun e => s.elapsed < e.2 + 100000000)
        s.setPort p { x with pauses := if q = 0 then old else old ++ [(s.elapsed, s.elapsed + len)]
                             pauseEnd := if q = 0 then none else some (s.elapsed + len) })

/-- PAUSE_EXPIRY. -/
def execPauseExpiry (p : Fin 16) (s : State) : Host.Outcome State Fault Refusal :=
  .next (if s.portLitAt p ∧ (s.port p).pauseEnd.any (fun t => decide (t ≤ s.elapsed)) then
    s.setPort p { s.port p with pauseEnd := none } else s)

/-- Bytes in a port's receive FIFO. -/
def State.rxFill (s : State) (p : Nat) : Nat := (Tbl.get (fun _ => []) s.rxFifo p).foldl (fun a f => a + f.bytes.length) 0

/-- A PAUSE frame is sent: counted among the frames sent good. -/
def State.sendPause (s : State) (p quanta : Nat) : State :=
  let s := (s.endedFrame p).macCount p 30
  let s := (((s.macOctets p 24 64).macCount p 26).macCount p 28).macCount p 31
  s.setPort p { s.port p with xoffSent := quanta != 0, pauseSent := some quanta, pauseAt := s.elapsed }

/-- PAUSE_TX: the fill of the receive FIFO crosses xoff or xon. -/
def execPauseTx (p : Fin 16) (s : State) : Host.Outcome State Fault Refusal :=
  .next (let a := A.lnqPortFlow (p / 4) (p % 4)
  if s.portLive p ∧ s.linkUp p ∧ s.pauseTx p then
    if !(s.port p).xoffSent ∧ 1024 * s.fld a F.lnqPortFlow_xoff < s.rxFill p then s.sendPause p 0xFFFF
    else if (s.port p).xoffSent ∧ s.rxFill p < 1024 * s.fld a F.lnqPortFlow_xon then s.sendPause p 0
    else s
  else s)

/-- PAUSE_TX_REPEAT: half a pause time after the last one. -/
def execPauseTxRepeat (p : Fin 16) (s : State) : Host.Outcome State Fault Refusal :=
  .next (if s.portLive p ∧ s.linkUp p ∧ s.pauseTx p ∧ (s.port p).xoffSent
      ∧ 1024 * s.fld (A.lnqPortFlow (p / 4) (p % 4)) F.lnqPortFlow_xon < s.rxFill p
      ∧ (s.port p).pauseAt + 0xFFFF * 256 * 1000 / max 1 (s.portMbps p) ≤ s.elapsed then s.sendPause p 0xFFFF
  else s)

/-! ### Transmission (R298–R300, R388) -/

/-- The transmit SAs of a port, and the one that CIP_MSEC_TX_AN names. -/
def State.txSas (s : State) (p : Nat) : List Nat :=
  (List.range 128).filter (fun e => s.bit (A.cipMsecSaW0 e) F.cipMsecSaW0_valid
    && s.fld (A.cipMsecSaW0 e) F.cipMsecSaW0_dir == 1 && s.fld (A.cipMsecSaW0 e) F.cipMsecSaW0_port == p)
def State.txSa (s : State) (p : Nat) : Option Nat :=
  (s.txSas p).find? (fun e => s.fld (A.cipMsecSaW0 e) F.cipMsecSaW0_an == (s.reg A.cipMsecTxAn).toNat / 4 ^ p % 4)

/-- A frame protected under an SA with a packet number: SecTAG after the addresses, then the data, encrypted where the SA
says so, then the ICV. -/
def State.msecSeal (s : State) (e pn : Nat) (f : List Byte) : List Byte :=
  let w := A.cipMsecSaW0 e
  let enc := s.bit w F.cipMsecSaW0_encrypt
  let sc := s.bit w F.cipMsecSaW0_tx_sci
  let body := f.drop 12
  let tci := (if sc then 32 else 0) + (if enc then 12 else 0) + s.fld w F.cipMsecSaW0_an
  let tag := toBE 2 0x88E5 ++ toBE 1 tci ++ toBE 1 (if body.length < 48 then body.length else 0) ++ toBE 4 (pn % 2 ^ 32)
    ++ (if sc then toBE 8 (s.saSci e) else [])
  let key := (s.key (s.fld w F.cipMsecSaW0_slot)).key
  let iv := s.msecNonce e pn
  if enc then
    let (c, t) := Crypto.gcmSeal key iv (f.take 12 ++ tag) body
    f.take 12 ++ tag ++ c ++ t
  else
    let m := f.take 12 ++ tag ++ body
    m ++ (Crypto.gcmSeal key iv m []).2

/-- A frame passes MACsec on its way out: its bytes and slot, or none where it is refused; a port whose SAs are none that
CIP_MSEC_TX_AN names has none to send under (log entry 81). -/
def State.msecTx (s : State) (p : Nat) (f : List Byte) : State × Option (List Byte × Option Nat) :=
  if !s.secured p true then (s, some (f, none))
  else match s.txSa p with
    | none => (s.count (A.cipMsecTxRefused p), none)
    | some e =>
      let slot := s.fld (A.cipMsecSaW0 e) F.cipMsecSaW0_slot
      match s.cipBegin slot (fun c => c == 0) none (some (if s.bit (A.cipMsecSaW0 e) F.cipMsecSaW0_xpn then 4 else 2)) with
      | (s, st, pn) =>
        if st ≠ ST.ok then (s.count (A.cipMsecTxRefused p), none) else (s, some (s.msecSeal e pn f, some slot))

/-- MAC_TX_FRAME: once the frame before it has ended, the next frame of the FIFO starts, unless the port is paused, a fault of a
10GBASE-X4 link stands, a Kalhar Link is not in ACTIVE, or the frame needs a CIP that is dark, for which it waits (R498). `buffered`
bytes of it are in the FIFO. -/
def execMacTxFrame (p : Fin 16) (buffered : Nat) (s : State) : Host.Outcome State Fault Refusal :=
  .next (match (s.port p).txq with
  | [] => s
  | f :: rest =>
    let a := pStat p
    if s.portLive p ∧ s.linkUp p ∧ !s.onWire p ∧ !s.paused p ∧ (!s.secured p true ∨ s.isLit 10) ∧ (s.pMode p ≠ 5 ∨ s.klState p = 4)
        ∧ !s.bit a F.lnqPortStatus_local_fault ∧ (s.pMode p ≠ 4 ∨ !s.bit a F.lnqPortStatus_remote_fault)
        ∧ (s.fld (A.lnqPortTx (p / 4) (p % 4)) F.lnqPortTx_start_thresh ≤ buffered ∨ f.length ≤ buffered) then
      let s := s.endedFrame p
      let s := s.setPort p { s.port p with txq := rest }
      let s := (s.activeLanes p).foldl (fun s l => s.setFld (A.lnqLaneStatus (p / 4) l) F.lnqLaneStatus_tx_idle_e 0) s
      if s.pMode p = 5 ∧ s.maxLen p < f.length + 4 then s
      else match s.msecTx p f with
        | (s, some (b, slot)) => s.setPort p { s.port p with tx := some ⟨b, slot, false, s.elapsed + s.frameNs p b.length⟩ }
        | (s, none) => s
    else s)

/-- TX_UNDERRUN: the frame on the wire ends with a bad FCS, and start_thresh rises by 256 until it reaches max_len. -/
def execTxUnderrun (p : Fin 16) (s : State) : Host.Outcome State Fault Refusal :=
  .next (match (s.port p).tx with
  | some f =>
    if s.portLitAt p ∧ s.onWire p then
      let s := s.macCount p 38
      let s := if f.erased then s else s.macCount p 39
      let a := A.lnqPortTx (p / 4) (p % 4)
      let t := s.fld a F.lnqPortTx_start_thresh
      let s := if t < s.maxLen p then s.setFld a F.lnqPortTx_start_thresh (t + 256) else s
      (s.setPort p { s.port p with tx := none, lastTx := some (f.bytes, false), txAt := s.elapsed }).boundary p
    else s
  | none => s)

/-- THRESH_RESET: a write of 1 to thresh_reset. -/
def execThreshReset (who : Requester) (p : Fin 16) (s : State) : Host.Outcome State Fault Refusal :=
  .next (s.access who (A.lnqPortTx (p / 4) (p % 4)) true fun s =>
    (if isAnyCore who then s.setFld (A.lnqPortTx (p / 4) (p % 4)) F.lnqPortTx_start_thresh 512 else s).busOk 0)

/-- CUFF_STORE: a stamped frame of index k (port 0–15, radio 16–18) ends and its entry goes to cuff c; `boundary` is the district
time, 2^−16 ns, at which it crossed the MAC boundary, `width` the width code of a radio's PPDU (R400–R406). Where the radio's last
completion is this frame's, it says whether the PPDU was cut short, and a frame whose RF never started yields no entry. -/
def execCuffStore (c : Fin 11) (k : Fin 19) (width : Fin 6) (frameId : Fin 65536) (boundary : Nat) (aborted errEnded : Bool)
    (s : State) : Host.Outcome State Fault Refusal :=
  .next (if k.val < 16 then
    if s.portOn k ∧ s.fld (pCfg k) F.lnqPortCfg_cuff = c then
      (s.endFrame k).storeStamp c frameId ((boundary : Int) + (s.portCorr k).1 + s.boardTx k) false errEnded
    else s
  else if c.val + 8 = k.val then
    match (s.rd (k - 16)).last with
    | some d =>
      if d.frameId = frameId then
        if d.status ≠ ST.ok ∧ !d.aborted then s
        else s.storeStamp c frameId ((boundary : Int) + (radioCorr width).1 + s.boardTx k) d.aborted false
      else s.storeStamp c frameId ((boundary : Int) + (radioCorr width).1 + s.boardTx k) aborted false
    | none => s.storeStamp c frameId ((boundary : Int) + (radioCorr width).1 + s.boardTx k) aborted false
  else s)

/-! ### Tests and counters (R387, R394) -/

/-- LANE_TEST_WRITE: Cudom only; in TEST mode, or on a lane of no enabled MAC. A checker set starts its count afresh; in near-end
loopback it locks to the lane's own pattern (log entry 124). -/
def execLaneTestWrite (who : Requester) (q l : Fin 4) (w : Word) (s : State) : Host.Outcome State Fault Refusal :=
  .next (s.access who (A.lnqLaneTest q l) true fun s =>
    if !isCudom who then s.busOk 0
    else if s.mode.mode ≠ .test ∧ s.bit (A.lnqLaneStatus q l) F.lnqLaneStatus_in_use then (s.lnqErr q 6).busOk 0
    else
      let a := A.lnqLaneTest q l
      let s := ((s.setReg a (D.lnqLaneTest.write false (s.reg a) w)).setFld a F.lnqLaneTest_chk_lock 0).setFld a F.lnqLaneTest_chk_err 0
      let gen := s.fld a F.lnqLaneTest_prbs_gen
      let own := s.fld a F.lnqLaneTest_loop = 1 ∧ gen ≠ 0 ∧ gen = s.fld a F.lnqLaneTest_prbs_chk
      (if own then s.setFld a F.lnqLaneTest_chk_lock 1 else s).busOk 0)

/-- OCTET_COUNTER_READ: a read of the low word of the receive or transmit octet counter latches its high bits
(log entry 99). -/
def execOctetCounterRead (who : Requester) (p : Fin 16) (tx : Bool) (s : State) : Host.Outcome State Fault Refusal :=
  .next (s.access who (A.lnqMacCnt (p / 4) (p % 4) (if tx then 24 else 0)) false fun s =>
    let n := if tx then 24 else 0
    let hi := (s.reg (A.lnqMacCnt (p / 4) (p % 4) (n + 1))).toNat
    let x := s.port p
    (s.setPort p (if tx then { x with txHigh := some hi } else { x with rxHigh := some hi })).busOk
      (s.reg (A.lnqMacCnt (p / 4) (p % 4) n)))

end Sys2Proof.Machine
end

