-- ==== Sys2Proof/Machine/Kalhar.lean ====
section
/-!
DEFINITION. Kalhar Link: bring-up, control blocks, low-power states, link thrift, lane failure (R370–R384).
-/

namespace Sys2Proof.Machine

/-- The link enters a state. -/
def State.klGo (s : State) (p st : Nat) : State :=
  (s.setFld (pStat p) F.lnqPortStatus_kl_state st).setPort p { s.port p with stAt := s.elapsed }

/-- A lane field of some lanes of a link. -/
def State.setLanes (s : State) (p : Nat) (ls : List Nat) (f : Fld) (v : Nat) : State :=
  ls.foldl (fun s l => s.setFld (A.lnqLaneStatus (p / 4) l) f v) s

/-- A control block is sent (R373); it takes the transmitter out of IDLE-E, and is something sent, unless it is LP_IDLE, type 4; a
DEEP_REQ, type 5, leaves the idle time of R379 as it is (log entry 97). -/
def State.sendCtl (s : State) (p type a0 a1 : Nat) : State :=
  let s := if type = 4 then s else s.setLanes p (s.klLanes p (s.klWidth p)) F.lnqLaneStatus_tx_idle_e 0
  let x := { s.port p with lastCtl := some (type, a0, a1) }
  s.setPort p (if type = 4 then { x with lpTxAt := s.elapsed } else if type = 5 then x else { x with txAt := s.elapsed })

/-- A control block other than LP_IDLE is received: the partner's transmitter has left IDLE-E (R378) (log entry 97). -/
def State.heardCtl (s : State) (p : Nat) : State :=
  let s := s.setLanes p (s.klLanes p (s.klWidth p)) F.lnqLaneStatus_rx_idle_e 0
  s.setPort p { s.port p with rxAt := s.elapsed }

/-- A rate change under way has failed (R382): counted once (log entry 97). -/
def State.rateFail (s : State) (p : Nat) : State :=
  if (s.port p).pass = .thrift then
    (s.count (A.lnqKlRateFail (p / 4) (p % 4))).setPort p { s.port p with pass := .bringUp, change := none }
  else s

/-- To DETECT: the link falls; PLL at 1.25 Gbaud (R374). A rate change under way has failed. -/
def State.klDetect (s : State) (p : Nat) (receiving : Bool) : State :=
  let s := (s.rateFail p).linkFall p receiving
  let s := s.setPort p { s.port p with pass := .bringUp, change := none, ownReq := none, deepSent := false, lowRun := 0, params := [] }
  (s.klGo p 0).pllTo (p / 4) (s.klPll p) 0

/-- To TRAIN at a rate: the PLL follows, and the lanes leave their low-power states: all of them in a bring-up, else those of the
width in use (R374, R382). -/
def State.klTrain (s : State) (p rate : Nat) (why : KlPass) : State :=
  let s := s.endFrame p
  let s := s.setPort p { s.port p with pass := why, ownReq := none, deepSent := false }
  let s := ((s.klGo p 1).setFld (pStat p) F.lnqPortStatus_kl_rate rate).pllTo (p / 4) (s.klPll p) rate
  let ls := if why = .bringUp then s.portLanes p else s.klLanes p (s.klWidth p)
  (s.setLanes p ls F.lnqLaneStatus_tx_idle_e 0).setLanes p ls F.lnqLaneStatus_rx_idle_e 0

/-- To TRAIN from ACTIVE for a lane failure or a loss of alignment: the link falls, and the retrain is counted. -/
def State.klRetrain (s : State) (p width : Nat) (receiving : Bool) : State :=
  let s := (s.linkFall p receiving).count (A.lnqKlRetrain (p / 4) (p % 4))
  let s := (s.flap p).setFld (pStat p) F.lnqPortStatus_kl_width width
  let s := s.setPort p { s.port p with change := none, lowRun := 0, top := (min width (s.port p).top.1, (s.port p).top.2) }
  s.klTrain p (s.klRate p) .bringUp

/-- The largest width code up to w whose lanes, counted from the first, are all in a mask. -/
def widthOf (s : State) (p w mask : Nat) : Option Nat :=
  [2, 1, 0].find? (fun k => k ≤ w && (s.klLanes p k).length == 2 ^ k && (s.klLanes p k).all mask.testBit)

/-! ### Bring-up (R364, R374–R377) -/

/-- The training sequences on a link's lanes, with each lane's place in the configured order. -/
def State.trainings (s : State) (p : Nat) (ts : List (List (Fin 1024))) : List (Nat × Training) :=
  ((List.range (s.portLanes p).length).zip ts).filterMap (fun x => (trainingOf (x.2.map (·.val))).map (fun t => (x.1, t)))

/-- KL_TS1_DETECTED: 16 TS1 in a row on lane 0 with flag bit 0; `ts` holds the training sequence that each configured lane receives.
Lane order and inversion are corrected; the width is the largest whose lanes all receive TS1 (R364, R375). -/
def execKlTs1Detected (p : Fin 16) (ts : List (List (Fin 1024))) (s : State) : Host.Outcome State Fault Refusal :=
  .next (if s.isKl p ∧ s.klState p = 0 then
    let lanes := s.portLanes p
    let n := lanes.length
    let got := (s.trainings p ts).filter (fun x => !x.2.second)
    let reversed := 1 < n ∧ got.all (fun x => x.2.lane + x.1 + 1 == n)
    let good := got.filter (fun x => reversed || x.2.lane == x.1)
    let t := s.setPort p { s.port p with reversed := reversed }
    let mask := good.foldl (fun m x => setBit m (lanes.getD x.1 0)) 0
    match good.find? (fun x => x.2.lane == 0), widthOf t p (t.fld (pCfg p) F.lnqPortCfg_width) mask with
    | some (_, t0), some w0 =>
      if !t0.flags.testBit 0 then s
      else
        let s := t
        let w := min w0 t0.width
        let rev := max 1 (min 2 t0.rev)
        let own := min 6 (s.fld (A.lnqKlCtl (p / 4) (p % 4)) F.lnqKlCtl_max_rate)
        let r := min (min own t0.rate) (if rev = 1 then 4 else 6)
        let s := s.setLanes p lanes F.lnqLaneStatus_bad 0
        let s := got.foldl (fun s x =>
          s.setFld (A.lnqLaneStatus (p / 4) (lanes.getD x.1 0)) F.lnqLaneStatus_rx_inverted (if x.2.inverted then 1 else 0)) s
        let s := (s.setFld (pStat p) F.lnqPortStatus_kl_rev rev).setFld (pStat p) F.lnqPortStatus_kl_width w
        let s := s.setPort p { s.port p with top := (w, r), params := [], lowRun := 0 }
        s.klTrain p r .bringUp
    | _, _ => s
  else s)

/-- The time between two marker columns at a link's rate, ps (R372). -/
def State.markerPs (s : State) (p : Nat) : Nat := 4096 * 10000000 / rateMbaud (s.klRate p)

/-- Marker columns sent since LOCK up to a time (R372). -/
def State.markers (s : State) (p at_ : Nat) : Nat := (at_ - (s.port p).lockAt) * 1000 / s.markerPs p

/-- Has a state of the link lasted n ns? -/
def State.klFor (s : State) (p n : Nat) : Bool := decide ((s.port p).stAt + n ≤ s.elapsed)

/-- KL_TRAIN_COMPLETE. -/
def execKlTrainComplete (p : Fin 16) (s : State) : Host.Outcome State Fault Refusal :=
  .next (if s.isKl p ∧ s.klState p = 1 then (s.klGo p 2).setPort p { (s.klGo p 2).port p with lockAt := s.elapsed } else s)

/-- KL_TRAIN_TIMEOUT: 2 ms in TRAIN. -/
def execKlTrainTimeout (p : Fin 16) (s : State) : Host.Outcome State Fault Refusal :=
  .next (if s.isKl p ∧ s.klState p = 1 ∧ s.klFor p 2000000 then
    let s := ((s.rateFail p).count (A.lnqKlRetrain (p / 4) (p % 4))).linkFall p false
    if s.klRate p = 0 then s.klDetect p false
    else s.klTrain p (s.klRate p - 1) .bringUp
  else s)

def State.klCtl (s : State) (p : Nat) (f : Fld) : Nat := s.fld (A.lnqKlCtl (p / 4) (p % 4)) f

/-- A parameter of this end (R376): revision 2; highest width and rate codes; capabilities; max_len; the part code; the check
(log entry 124). -/
def State.ownParam (s : State) (p i : Nat) : Nat :=
  let v := [2, s.fld (pCfg p) F.lnqPortCfg_width, min 6 (s.klCtl p F.lnqKlCtl_max_rate), 6 + s.klCtl p F.lnqKlCtl_idle_e_en
            , min 9600 (max 1518 (s.fld (pCfg p) F.lnqPortCfg_max_len)) / 64, 0x07, 0x40]
  if i = 7 then (v.foldl (· + ·) 0) % 256 else v.getD i 0

/-- KL_LOCK_ALIGNED: four marker columns aligned on every lane, which stand at most 16 symbols apart: to EXCHANGE, where this end sends
its parameters, and every PARAM is received afresh. -/
def execKlLockAligned (p : Fin 16) (skew : Nat) (s : State) : Host.Outcome State Fault Refusal :=
  .next (if s.isKl p ∧ s.klState p = 2 ∧ skew ≤ 16 then
    let s := (s.klGo p 3).setPort p { (s.klGo p 3).port p with params := [] }
    (List.range 8).foldl (fun s i => s.sendCtl p 7 i (s.ownParam p i)) s
  else s)

/-- KL_LOCK_TIMEOUT: eight marker intervals in LOCK. -/
def execKlLockTimeout (p : Fin 16) (s : State) : Host.Outcome State Fault Refusal :=
  .next (if s.isKl p ∧ s.klState p = 2 ∧ 8 ≤ s.markers p s.elapsed then s.klTrain p (s.klRate p) (s.port p).pass else s)

/-- A control block received on a link's lanes (R373); one of unknown type is ignored by every command. -/
def blkOf (blk : List (List (Fin 1024))) : Option (Nat × Nat × Nat) := ctlOf (blk.map (fun c => c.map (·.val)))

/-- A parameter received. -/
def State.klParam (s : State) (p i : Nat) : Nat := Tbl.get (fun _ => 0) (s.port p).params i

/-- Are all eight parameters there, with a good check (R376)? -/
def State.paramsGood (s : State) (p : Nat) : Bool :=
  (List.range 8).all (fun i => (Tbl.find? (s.port p).params i).isSome)
    && s.klParam p 7 == ((List.range 7).foldl (fun a i => a + s.klParam p i) 0) % 256

/-- A thrift step is done: counted, and the measurement of R380 starts afresh. -/
def State.stepDone (s : State) (p : Nat) (down : Bool) : State :=
  let s := s.count (if down then A.lnqKlThriftDown (p / 4) (p % 4) else A.lnqKlThriftUp (p / 4) (p % 4))
  s.setPort p { s.port p with lowRun := 0 }

/-- Capacity of a step: lanes times line rate. -/
def stepCap (x : Nat × Nat) : Nat := 2 ^ x.1 * rateMbaud x.2

/-- KL_EXCHANGE_COMPLETE: the partner has answered, and this end holds all eight parameters. A pass of a thrift step or a DEEP exit that
took more than 2 ms has let link_up fall (R374, R382). -/
def execKlExchangeComplete (p : Fin 16) (s : State) : Host.Outcome State Fault Refusal :=
  .next (if s.isKl p ∧ s.klState p = 3 ∧ s.paramsGood p then
    let s := if (s.port p).pass ≠ .bringUp ∧ (s.port p).passAt + 2000000 < s.elapsed then (s.rateFail p).linkFall p false else s
    let x := s.port p
    let s := (s.klGo p 4).setPort p { (s.klGo p 4).port p with pass := .bringUp, changeAt := s.elapsed,
                                                               change := if x.change = some (s.klWidth p, s.klRate p) then none else x.change,
                                                               txAt := s.elapsed, rxAt := s.elapsed }
    let s := if x.pass = .thrift then s.stepDone p (decide (stepCap (s.klWidth p, s.klRate p) < stepCap x.passFrom)) else s
    s.linkRise p
  else s)

/-- KL_EXCHANGE_TIMEOUT: 1 ms in EXCHANGE. -/
def execKlExchangeTimeout (p : Fin 16) (s : State) : Host.Outcome State Fault Refusal :=
  .next (if s.isKl p ∧ s.klState p = 3 ∧ s.klFor p 1000000 then s.klDetect p false else s)

/-- PARAM: a control block of type 7, index and value. -/
def execParam (p : Fin 16) (blk : List (List (Fin 1024))) (s : State) : Host.Outcome State Fault Refusal :=
  .next (match blkOf blk with
  | some (7, i, v) =>
    if s.isKl p ∧ s.klState p = 3 ∧ i < 8 then s.setPort p { s.port p with params := Tbl.insert i v (s.port p).params } else s
  | _ => s)

/-! ### Loss (R372, R374, R384) -/

/-- KL_SIGNAL_LOSS: no signal on lane 0 for 1 µs; `receiving` where a frame was in reception (R369). -/
def execKlSignalLoss (p : Fin 16) (receiving : Bool) (s : State) : Host.Outcome State Fault Refusal :=
  .next (if s.isKl p ∧ 1 ≤ s.klState p ∧ s.klState p ≤ 4 then
    (s.setLanes p ((s.portLanes p).take 1) F.lnqLaneStatus_signal 0).klDetect p (receiving && s.klState p == 4) else s)

/-- KL_LANE_FAILURE: the k-th lane of the link; `receiving` where a frame was in reception. -/
def execKlLaneFailure (p : Fin 16) (k : Fin 4) (receiving : Bool) (s : State) : Host.Outcome State Fault Refusal :=
  .next (if s.isKl p ∧ s.klState p = 4 then
    match (s.klLanes p (s.klWidth p))[k.val]? with
    | none => s
    | some l =>
      let s := (s.setLanes p [l] F.lnqLaneStatus_bad 1).count (A.lnqKlLaneDrop (p / 4) (p % 4))
      if k.val = 0 then s.klDetect p receiving
      else
        let good := (s.portLanes p).foldl (fun m l =>
          if s.bit (A.lnqLaneStatus (p / 4) l) F.lnqLaneStatus_bad then m else setBit m l) 0
        match widthOf s p (s.klWidth p) good with
        | some w => s.klRetrain p w receiving
        | none => s.klDetect p receiving
  else s)

/-- KL_MARKER_LOSS: alignment is lost; the link trains again at its width (log entry 96). -/
def execKlMarkerLoss (p : Fin 16) (receiving : Bool) (s : State) : Host.Outcome State Fault Refusal :=
  .next (if s.isKl p ∧ s.klState p = 4 then s.klRetrain p (s.klWidth p) receiving else s)

/-! ### Low power (R377–R379) -/

def State.klRev (s : State) (p : Nat) : Nat := s.fld (pStat p) F.lnqPortStatus_kl_rev

/-- Do both ends use IDLE-E, link thrift? -/
def State.idleOk (s : State) (p : Nat) : Bool :=
  s.isKl p && s.klState p == 4 && s.klRev p == 2 && s.klCtl p F.lnqKlCtl_idle_e_en == 1 && (s.klParam p 3).testBit 0
def State.thriftOk (s : State) (p : Nat) : Bool :=
  s.isKl p && s.klState p == 4 && s.klRev p == 2 && s.klCtl p F.lnqKlCtl_thrift_en == 1 && (s.klParam p 3).testBit 1

/-- Does the transmitter have nothing to send? -/
def State.txIdle (s : State) (p : Nat) : Bool := (s.port p).txq.isEmpty && !s.onWire p

/-- LP_IDLE received, type 4. -/
def execLpIdle (p : Fin 16) (blk : List (List (Fin 1024))) (s : State) : Host.Outcome State Fault Refusal :=
  .next (match blkOf blk with
  | some (4, _, _) =>
    if s.idleOk p then
      let s := s.setLanes p (s.klLanes p (s.klWidth p)) F.lnqLaneStatus_rx_idle_e 1
      s.setPort p { s.port p with lpRxAt := s.elapsed }
    else s
  | _ => s)

/-- Has the transmitter had nothing to send for n ns; have both directions been idle for n ns (R378, R379)? -/
def State.sentNone (s : State) (p n : Nat) : Bool := s.txIdle p && decide (((s.endedFrame p).port p).txAt + n ≤ s.elapsed)
def State.bothIdle (s : State) (p n : Nat) : Bool := s.sentNone p n && decide ((s.port p).rxAt + n ≤ s.elapsed)

/-- lp_idle and deep_idle in ns. -/
def State.lpIdle (s : State) (p : Nat) : Nat := 10 * max 1 (s.klCtl p F.lnqKlCtl_lp_idle)
def State.deepIdle (s : State) (p : Nat) : Nat := 10000 * s.klCtl p F.lnqKlCtl_deep_idle

/-- IDLE_E_ENTRY: the transmitter has had nothing to send for lp_idle. -/
def execIdleEEntry (p : Fin 16) (s : State) : Host.Outcome State Fault Refusal :=
  .next (if s.idleOk p ∧ s.sentNone p (s.lpIdle p) then
    ((s.endedFrame p).sendCtl p 4 0 0).setLanes p (s.klLanes p (s.klWidth p)) F.lnqLaneStatus_tx_idle_e 1 else s)

/-- Is the transmitter, or the receiver, of the link's first lane in IDLE-E? -/
def State.inIdleE (s : State) (p : Nat) (f : Fld) : Bool :=
  (s.klLanes p 0).any (fun l => s.bit (A.lnqLaneStatus (p / 4) l) f)

/-- IDLE_E_REFRESH: 1 ms after the last LP_IDLE. -/
def execIdleERefresh (p : Fin 16) (s : State) : Host.Outcome State Fault Refusal :=
  .next (if s.idleOk p ∧ s.inIdleE p F.lnqLaneStatus_tx_idle_e ∧ (s.port p).lpTxAt + 1000000 ≤ s.elapsed then s.sendCtl p 4 0 0 else s)

/-- IDLE_E_RX_TIMEOUT: 2 ms without data or LP_IDLE, as a loss of alignment. -/
def execIdleERxTimeout (p : Fin 16) (s : State) : Host.Outcome State Fault Refusal :=
  .next (if s.isKl p ∧ s.klState p = 4 ∧ s.inIdleE p F.lnqLaneStatus_rx_idle_e ∧ (s.port p).lpRxAt + 2000000 ≤ s.elapsed then s.klRetrain p (s.klWidth p) false else s)

/-- To DEEP: transmitters idle, the PLL off; link_up stays. -/
def State.klDeep (s : State) (p : Nat) : State :=
  let s := (s.klGo p 5).setPort p { s.port p with deepSent := false, ownReq := none, change := none }
  let a := A.lnqPllCtl (p / 4)
  (s.setFld a (pllEn (s.klPll p)) 0).setFld a (pllLock (s.klPll p)) 0

/-- Does this end ask for DEEP when idle? -/
def State.wantsDeep (s : State) (p : Nat) : Bool := s.klCtl p F.lnqKlCtl_deep_req == 1 || s.klRev p == 1

/-- DEEP_REQ received, type 5: acknowledged where this end's own condition holds too. -/
def execDeepReq (p : Fin 16) (blk : List (List (Fin 1024))) (s : State) : Host.Outcome State Fault Refusal :=
  .next (match blkOf blk with
  | some (5, _, _) =>
    if s.isKl p ∧ s.klState p = 4 ∧ s.bothIdle p (s.deepIdle p) ∧ s.wantsDeep p then (((s.endedFrame p).heardCtl p).sendCtl p 6 0 0).klDeep p
    else s
  | _ => s)

/-- DEEP_IDLE_EXPIRY: both directions have been idle for deep_idle. -/
def execDeepIdleExpiry (p : Fin 16) (s : State) : Host.Outcome State Fault Refusal :=
  .next (if s.isKl p ∧ s.klState p = 4 ∧ s.bothIdle p (s.deepIdle p) ∧ s.wantsDeep p then
    let s := (s.endedFrame p).sendCtl p 5 0 0
    s.setPort p { s.port p with deepSent := true }
  else s)

/-- DEEP_ACK received, type 6. -/
def execDeepAck (p : Fin 16) (blk : List (List (Fin 1024))) (s : State) : Host.Outcome State Fault Refusal :=
  .next (match blkOf blk with
  | some (6, _, _) => if s.isKl p ∧ s.klState p = 4 ∧ (s.port p).deepSent then (s.heardCtl p).klDeep p else s
  | _ => s)

/-- DEEP_EXIT: signal energy, or a frame that waits. -/
def execDeepExit (p : Fin 16) (s : State) : Host.Outcome State Fault Refusal :=
  .next (if s.isKl p ∧ s.klState p = 5 then (s.setPort p { s.port p with passAt := s.elapsed }).klTrain p (s.klRate p) .deep else s)

/-! ### Link thrift (R380–R383) -/

/-- The code of half a rate, or of 1.25 Gbaud. -/
def halfRate (r : Nat) : Option Nat :=
  if r = 6 then some 4 else if r = 5 then some 3 else if r = 4 then some 2 else if r = 3 then some 1
  else if r = 2 ∨ r = 1 then some 0 else none

/-- The step below a step, above the floors. -/
def stepBelow (fw fr : Nat) (x : Nat × Nat) : Option (Nat × Nat) :=
  if 0 < x.1 then (if fw < x.1 then some (x.1 - 1, x.2) else none)
  else match halfRate x.2 with
    | some r => if fr ≤ r then some (0, r) else none
    | none => none

/-- The ladder from a step down. -/
def ladder (fw fr : Nat) : Nat → Nat × Nat → List (Nat × Nat)
  | 0, x => [x]
  | n + 1, x => x :: (match stepBelow fw fr x with | some y => ladder fw fr n y | none => [])

/-- The ladder of a link, its step in use, and the neighbours of a step on it. -/
def State.klLadder (s : State) (p : Nat) : List (Nat × Nat) :=
  ladder (s.klCtl p F.lnqKlCtl_floor_width) (s.klCtl p F.lnqKlCtl_floor_rate) 10 (s.port p).top
def State.klStep (s : State) (p : Nat) : Nat × Nat := (s.klWidth p, s.klRate p)
def State.klLower (s : State) (p : Nat) : Option (Nat × Nat) :=
  stepBelow (s.klCtl p F.lnqKlCtl_floor_width) (s.klCtl p F.lnqKlCtl_floor_rate) (s.klStep p)
def State.klHigher (s : State) (p : Nat) : Option (Nat × Nat) :=
  ((s.klLadder p).filter (fun x => stepCap (s.klStep p) < stepCap x)).getLast?

/-- A threshold register field of the link. -/
def State.klThr (s : State) (p : Nat) (f : Fld) : Nat := s.fld (A.lnqKlThrift (p / 4) (p % 4)) f

/-- Has the transmitter stayed below the step-down level for the last dwell (R380)? -/
def State.dwelled (s : State) (p : Nat) : Bool := decide (10 * max 1 (s.klThr p F.lnqKlThrift_dwell) ≤ (s.port p).lowRun)

/-- This end requests a step. -/
def State.request (s : State) (p : Nat) (x : Nat × Nat) : State :=
  (s.sendCtl p 1 x.1 x.2).setPort p { (s.sendCtl p 1 x.1 x.2).port p with ownReq := some x }

/-- A step is agreed: a change of rate takes the link through TRAIN at once; a change of width waits for the second marker
column (R382). -/
def State.agree (s : State) (p : Nat) (x : Nat × Nat) : State :=
  if x = s.klStep p then s.setPort p { s.port p with ownReq := none }
  else
    let s := s.setPort p { s.port p with ownReq := none, change := some x, passFrom := s.klStep p, changeAt := s.elapsed,
                                         passAt := s.elapsed }
    if x.2 ≠ s.klRate p then (s.flap p).klTrain p x.2 .thrift else s

/-- Cells that wait in SCH for an egress. -/
def State.egressCells (s : State) (e : Nat) : Nat :=
  s.sch.queues.foldl (fun a x => if s.qEgress x.1 = e then a + x.2.cells else a) 0

/-- THRIFT_WINDOW: a window ends in which `bits` were sent. -/
def execThriftWindow (p : Fin 16) (bits : Nat) (s : State) : Host.Outcome State Fault Refusal :=
  .next (if s.thriftOk p then
    -- bits of a step's capacity in 10 ms: lanes × Mbaud × 0.8 × 10 000
    let cap (x : Nat × Nat) : Nat := stepCap x * 8000
    let low := (s.klLower p).any (fun x => bits * 100 < s.klThr p F.lnqKlThrift_thrift_lo * cap x)
    let s := s.setPort p { s.port p with lowRun := if low then (s.port p).lowRun + 1 else 0 }
    if (s.port p).ownReq.isSome ∨ (s.port p).change.isSome then s
    else if 16 * s.klThr p F.lnqKlThrift_up_cells < s.egressCells p ∧ s.klStep p ≠ (s.port p).top then s.request p (s.port p).top
    else if s.klThr p F.lnqKlThrift_thrift_hi * cap (s.klStep p) < bits * 100 then
      (match s.klHigher p with | some x => s.request p x | none => s)
    else if s.dwelled p then (match s.klLower p with | some x => s.request p x | none => s)
    else s
  else s)

/-- The larger of two requests: capacity, then width (R383). -/
def largerStep (a b : Nat × Nat) : Nat × Nat :=
  if stepCap a < stepCap b ∨ (stepCap a = stepCap b ∧ a.1 < b.1) then b else a

/-- A request of the partner for a step acts. -/
def State.asked (s : State) (p : Nat) (x : Nat × Nat) : State :=
  let s := s.heardCtl p
  match (s.port p).ownReq with
  | some y => s.agree p (largerStep x y)
  | none =>
    if (s.port p).lastAnswer.any (fun t => s.elapsed < t + 100000) then s
    else
      let s := s.setPort p { s.port p with lastAnswer := some s.elapsed }
      if stepCap (s.klStep p) ≤ stepCap x ∨ s.dwelled p then (s.sendCtl p 2 x.1 x.2).agree p x
      else s.sendCtl p 3 x.1 x.2

/-- THRIFT_REQ received, type 1; width and rate codes that the tables do not list are ignored. -/
def execThriftReq (p : Fin 16) (blk : List (List (Fin 1024))) (s : State) : Host.Outcome State Fault Refusal :=
  .next (match blkOf blk with
  | some (1, w, r) => if s.thriftOk p ∧ w ≤ 2 ∧ r ≤ 6 then s.asked p (w, r) else s
  | _ => s)

/-- THRIFT_ACK received, type 2. -/
def execThriftAck (p : Fin 16) (blk : List (List (Fin 1024))) (s : State) : Host.Outcome State Fault Refusal :=
  .next (match blkOf blk, (s.port p).ownReq with
  | some (2, _, _), some x => if s.thriftOk p then (s.heardCtl p).agree p x else s
  | some (2, _, _), none => if s.thriftOk p then s.heardCtl p else s
  | _, _ => s)

/-- THRIFT_NAK received, type 3. -/
def execThriftNak (p : Fin 16) (blk : List (List (Fin 1024))) (s : State) : Host.Outcome State Fault Refusal :=
  .next (match blkOf blk with
  | some (3, _, _) =>
    if s.isKl p ∧ s.klState p = 4 then
      let s := s.heardCtl p
      s.setPort p { s.port p with ownReq := none }
    else s
  | _ => s)

/-- THRIFT_WIDTH_CHANGE: at the second marker column after the ACK, lanes that leave go to IDLE-E; lanes that join leave it, in both
directions. -/
def execThriftWidthChange (p : Fin 16) (s : State) : Host.Outcome State Fault Refusal :=
  .next (if s.isKl p ∧ s.klState p = 4 then match (s.port p).change with
    | some x =>
      if x.2 ≠ s.klRate p ∨ s.markers p s.elapsed < s.markers p (s.port p).changeAt + 2 then s
      else
        let down := decide (x.1 < s.klWidth p)
        let old := s.klLanes p (s.klWidth p)
        let new := s.klLanes p x.1
        let s := (s.setLanes p old F.lnqLaneStatus_tx_idle_e 1).setLanes p old F.lnqLaneStatus_rx_idle_e 1
        let s := (s.setLanes p new F.lnqLaneStatus_tx_idle_e 0).setLanes p new F.lnqLaneStatus_rx_idle_e 0
        let s := (s.setFld (pStat p) F.lnqPortStatus_kl_width x.1).setPort p { s.port p with change := none }
        s.stepDone p down
    | none => s
  else s)

/-- KL_RATE_FAIL: a rate change has not reached ACTIVE in 2 ms; link_up no longer stands. -/
def execKlRateFail (p : Fin 16) (s : State) : Host.Outcome State Fault Refusal :=
  .next (if s.isKl p ∧ (s.port p).pass = .thrift ∧ s.klState p ≠ 4 ∧ (s.port p).passAt + 2000000 ≤ s.elapsed then
    (s.rateFail p).linkFall p false
  else s)

end Sys2Proof.Machine
end

