-- ==== Sys2Proof/Machine/Sched.lean ====
section
/-!
DEFINITION. The scheduler's commands: arrival, service, shapers, flushes, meters, queue configuration (R339–R356).
-/

namespace Sys2Proof.Machine

/-! ### Arrival (R335, R337, R351, R352) -/

/-- A packet of PKT arrives: its record stands beside it, and its rule's or endpoint's meter is applied. -/
def State.arrive (s : State) (src : Nat) (f : PktFrame) (v : Verdict) : State :=
  let s := s.setPkt { s.pkt with flight := s.pkt.flight.erase f }
  let p : SchPkt := ⟨f.frame.bytes, recordWords src v f.offs, 0, 0, f.frame.stamp, f.frame.station⟩
  (s.schAdmit v.queue p (v.meter.map (fun m => ⟨m, v.aware, f.offs.dei, f.offs.dscp⟩)) false).1

/-- The packet of classifier pipeline 0 that reaches a meter in the cycle of a packet of pipeline 1: decided for SCH too (R350). -/
def State.meterFirst (s : State) (f : PktFrame) (v : Verdict) : Option (Nat × PktFrame × Verdict) :=
  if f.pipe = 0 ∨ v.meter = none then none
  else (List.range 19).findSome? (fun j => match s.deliverable j with
    | some (g, w) => if g.pipe = 0 ∧ w.meter = v.meter then some (j, g, w) else none
    | none => none)

/-- The next frame of CDM arrives in its management queue, or CDM is held back while the store is short of cells. -/
def State.arriveCdm (s : State) : State :=
  match s.cmd.cdmTx with
  | [] => s
  | m :: rest =>
    if s.bit A.schCtl F.schCtl_enable ∧ s.bit (A.schQW0 m.queue) F.schQW0_enable ∧ s.freeCells < cellsOf m.bytes.length then
      (if s.sch.cdmHeld then s else (s.count A.schCdmHold).setSch { s.sch with cdmHeld := true })
    else
      let s := { s with cmd := { s.cmd with cdmTx := rest } }.setSch { s.sch with cdmHeld := false }
      (s.schAdmit m.queue ⟨m.bytes, [0, 0, 0, 0], 0, 0, 0, m.station⟩ none true).1

/-- The forwarded packet that has waited longest at TSK arrives, as one from the cores (R447, R518). -/
def State.arriveFwd (s : State) : State :=
  match s.tsk.fwd with
  | [] => s
  | (p, q) :: rest => ((s.setTsk { s.tsk with fwd := rest }).schAdmit q p none false).1

/-- SCH_ENQUEUE: while SCH takes no packets, they wait where they are. Packets of both pipelines that reach one meter at once are
metered pipeline 0 first (R350). -/
def execSchEnqueue (src : EnqSrc) (s : State) : Host.Outcome State Fault Refusal :=
  .next (if !s.schTakes then s
  else match src with
    | .cdm => s.arriveCdm
    | .tsk => if s.isLit 5 then s.arriveFwd else s
    | .pkt k => if !s.isLit 3 then s else match s.deliverable k with
      | some (f, v) =>
        let s := match s.meterFirst f v with | some (j, g, w) => s.arrive j g w | none => s
        s.arrive k f v
      | none => s)

/-! ### Service (R339–R347, R354) -/

/-- Queues with packets that are bound to an egress. -/
def State.busyQs (s : State) (e : Nat) : List Nat :=
  (s.sch.queues.filter (fun x => !x.2.pkts.isEmpty && s.qEgress x.1 == e)).map (·.1)

/-- May an egress be served: SCH lit, its hold bit 0, its island lit? -/
def State.egressUp (s : State) (e : Nat) : Bool :=
  s.isLit 4 && !s.bit (A.schEgress e) F.schEgress_hold
    && (if e < 16 then s.isLit (lnqId (e / 4)) else if e < 19 then s.isLit (e + 1) && s.isLit 21 else s.isLit 5)

/-- The head of the queue that a set of queues serves next. -/
def State.nextOf (s : State) (qs : List Nat) : Option (Nat × SchPkt) :=
  match s.pickQ qs with
  | some q => (s.schQ q).pkts.head?.map (fun p => (q, p))
  | none => none

/-- The first frame of a radio's management queue for a set of stations, while the queue is enabled. -/
def State.mgmtOf (s : State) (e : Nat) (f : Nat → Bool) : Option (Nat × SchPkt) :=
  if s.bit (A.schQW0 e) F.schQW0_enable then ((s.schQ e).pkts.find? (fun p => f p.station)).map (fun p => (e, p)) else none

/-- A partner's MSDU. -/
def State.givePartner (s : State) (n : Nat) (b : List Byte) : State :=
  let x := s.peer n
  s.setPeer n { x with txq := x.txq ++ [⟨x.nextSn, b, 0, 0, 0, none⟩], nextSn := (x.nextSn + 1) % 4096 }

/-- A WLAN station's MSDU. -/
def State.giveStation (s : State) (n tid : Nat) (b : List Byte) : State :=
  let x := s.wp n
  let sn := Tbl.get (fun _ => 0) x.nextSn tid
  s.setWp n { x with txq := x.txq ++ [⟨tid, sn, b, 0, false, 0, 0, 0⟩]
                     nextSn := Tbl.set (fun _ => 0) tid ((sn + 1) % 4096) x.nextSn }

/-- TID of a station's queue by its place in the four: BK, BE, VI, VO (log entry 74). -/
def tidOf (q : Nat) : Nat := [1, 0, 5, 6].getD (q % 4) 0

/-- The packet of a queue goes to a WLAN station, or to the group-addressed frames of BSSID 0 for 0xFFF (log entry 73). -/
def State.giveWlan (s : State) (r q : Nat) (p : SchPkt) : State :=
  if q ≤ 18 then
    if p.station = 0xFFF then s.setWr r { s.wr r with group := (s.wr r).group ++ [(0, p.bytes)] }
    else s.giveStation p.station 6 p.bytes
  else match s.qEntry q with
    | some n => s.giveStation n (tidOf q) p.bytes
    | none => s

/-- A partner's packets: its management frames, then its tier 1 queues, then its tier 2 queues (R342). -/
def State.partnerNext (s : State) (e n : Nat) : Option (Nat × SchPkt) :=
  let st := s.linkStation n
  match s.mgmtOf e (· == st) with
  | some x => some x
  | none => s.nextOf ((s.busyQs e).filter (fun q => 18 < q && s.qStation q == st))

/-- The WLAN service's packets: management frames for stations and groups, then its queues by tier. -/
def State.wlanNext (s : State) (e : Nat) : Option (Nat × SchPkt) :=
  match s.mgmtOf e (fun n => n < 1536 || n == 0xFFF) with
  | some x => some x
  | none => s.nextOf ((s.busyQs e).filter s.isWlanQ)

/-- SCH_SERVE: a wired port with room takes a frame; a radio takes one for the event of link `who` under way, or for WLAN; the
task scheduler takes one while more than 256 slots are free (R443) (log entry 92). -/
def execSchServe (e : Fin 20) (who : Option (Fin 1025)) (s : State) : Host.Outcome State Fault Refusal :=
  .next (if !s.egressUp e then s
  else
    let s := (s.busyQs e).foldl (fun s q => s.refreshQ q) s
    if e.val < 16 then
      (match s.nextOf (s.busyQs e) with
        | some (q, p) => if s.portRoom e p.bytes.length then (s.dequeue q p).portTake e p.bytes else s
        | none => s)
    else if e.val = 19 then
      (if s.tsk.items.length + s.tsk.inbox.length + 256 < 4096 then match s.nextOf (s.busyQs 19) with
        | some (q, p) =>
          let s := s.dequeue q p
          -- its cells stay taken until its item ends
          let s := s.setFree (s.freeCells - cellsOf p.bytes.length)
          { s with tsk := { s.tsk with inbox := s.tsk.inbox ++ [(p, q)] } }
        | none => s
      else s)
    else match who with
      | some n =>
        if !(Tbl.find? s.hol.events (e - 16)).any (fun v => v.peer == n.val) then s
        else match s.partnerNext e n with
          | some (q, p) => (s.dequeue q p).givePartner n p.bytes
          | none => s
      | none => match s.wlanNext e with
        | some (q, p) => (s.dequeue q p).giveWlan (e - 16) q p
        | none => s)

/-- SHAPER_CREDIT_ZERO: a queue's credit reaches 0, and it wakes. -/
def execShaperCreditZero (q : Fin 4096) (s : State) : Host.Outcome State Fault Refusal :=
  .next (if s.isLit 4 then s.refreshQ q else s)

/-! ### Writes (R340–R342, R348, R349, R354) -/

/-- A queue's packets are discarded: cells free, counted as flushed. A dequeue is whole, so none has started. -/
def State.flushQ (s : State) (q : Nat) : State :=
  let x := s.schQ q
  let s := (s.countN (A.schQcFlush q) x.pkts.length).countN A.schFlushed x.pkts.length
  let s := s.setFree (s.freeCells + x.cells)
  s.setSchQ q { x with pkts := [], credit := if 0 < x.credit then 0 else x.credit, since := s.elapsed, awake := false }

/-- Q_FLUSH: a write of SCH_Q_FLUSH; go 1 flushes the queue at once and then reads 0. -/
def execQFlush (who : Requester) (w : Word) (s : State) : Host.Outcome State Fault Refusal :=
  .next (s.access who (A.schQFlush) true fun s =>
    if !isAnyCore who then s.busOk 0
    else
      let q := F.schQFlush_queue.get w
      let s := s.setFld A.schQFlush F.schQFlush_queue q
      (if F.schQFlush_go.get w = 1 then s.flushQ q else s).busOk 0)

/-- cfg_err of SCH. -/
def State.schErr (s : State) : State := s.setFld A.schCtl F.schCtl_cfg_err 1

/-- METER_SUBMIT: a write of word 3 submits words 0 to 3; pir below cir is refused, and the meter in force stays. -/
def execMeterSubmit (who : Requester) (m : Fin 16384) (w : Word) (s : State) : Host.Outcome State Fault Refusal :=
  .next (s.access who (A.schMtrW3 m) true fun s =>
    if !isAnyCore who then s.busOk 0
    else
      let s := s.setReg (A.schMtrW3 m) (D.schMtrW3.write false (s.reg (A.schMtrW3 m)) w)
      let w0 := s.reg (A.schMtrW0 m)
      let w1 := s.reg (A.schMtrW1 m)
      let w2 := s.reg (A.schMtrW2 m)
      let w3 := s.reg (A.schMtrW3 m)
      if F.schMtrW1_pir.get w1 < F.schMtrW0_cir.get w0 then s.schErr.busOk 0
      else (s.replaceMeter m ⟨w0, w1, w2, w3, F.schMtrW2_cbs.get w2 * 1000000, F.schMtrW3_pbs.get w3 * 1000000, s.elapsed⟩).busOk 0)

/-- Does a tier, egress and station of a queue keep the tables of R340 to R342? -/
def queueOk (q tier egress station : Nat) : Bool :=
  if q ≤ 18 then tier == 0 && egress == q
  else if egress < 16 then tier == 1 || tier == 3 || tier == 4
  else if egress < 19 then
    if station < 1536 then tier == 1 || tier == 3 || tier == 4
    else station < 2560 && (tier == 1 || tier == 2)
  else egress == 19 && (tier == 3 || tier == 4)

/-- SCH_Q_WRITE: a write of word 0 to 5 of a queue. A change of tier, egress or station that R340 to R342 refuse, or that meets
a backlog, leaves the three as they are and sets cfg_err; the other fields are written. Queues 0–18 are Cudom's
(log entry 91). -/
def execSchQWrite (who : Requester) (q : Fin 4096) (i : Fin 6) (w : Word) (s : State) : Host.Outcome State Fault Refusal :=
  .next (s.access who (A.schQW0 q + 4 * i) true fun s =>
    if !isAnyCore who ∨ (q.val ≤ 18 ∧ !isCudom who) then s.busOk 0
    else
      let a := A.schQW0 q + 4 * i
      let c := s.creditNow q
      -- the credit earned under the old settings is settled first
      let s := s.setSchQ q { s.schQ q with credit := c, since := s.elapsed }
      let s := (if i.val = 0 then
          let tier := F.schQW0_tier.get w
          let egress := F.schQW0_egress.get w
          let same := tier = s.qTier q ∧ egress = s.qEgress q
          let ok := queueOk q tier egress (s.qStation q) ∧ (s.schQ q).pkts.isEmpty
          let s := [F.schQW0_enable, F.schQW0_shaper_en, F.schQW0_weight].foldl (fun s f => s.setFld a f (f.get w)) s
          if same then s
          else if ok then (s.setFld a F.schQW0_tier tier).setFld a F.schQW0_egress egress
          else s.schErr
        else if i.val = 1 then
          let st := F.schQW1_station.get w
          if st = s.qStation q then s
          else if (q.val ≤ 18 ∨ queueOk q (s.qTier q) (s.qEgress q) st) ∧ (s.schQ q).pkts.isEmpty then
            s.setFld a F.schQW1_station st
          else s.schErr
        else s.setReg a ((match i.val with
          | 2 => D.schQW2 | 3 => D.schQW3 | 4 => D.schQW4 | _ => D.schQW5).write false (s.reg a) w))
      (s.refreshQ q).busOk 0)

end Sys2Proof.Machine
end

