-- ==== Sys2Proof/Machine/Tasks.lean ====
section
/-!
DEFINITION. The task scheduler's commands, interrupt lines, performance counters, cluster parking (R441–R454).
-/

namespace Sys2Proof.Machine

/-! ### Creation (R441–R443) -/

/-- The first of n consecutive cells of the store that no item's packet holds. -/
def State.freeRun (s : State) (n : Nat) : Option Nat :=
  let held := s.tsk.items.filterMap (·.pkt)
  (0 :: held.map (fun h => h.1 + h.2)).find? (fun c =>
    c + n ≤ 131072 && held.all (fun h => decide (c + n ≤ h.1) || decide (h.1 + h.2 ≤ c)))

/-- TSK_SCH_ITEM: the oldest packet dequeued on egress 19 becomes an item; it takes prio and affinity mode by the tier of its
queue (log entry 92). -/
def execTskSchItem (s : State) : Host.Outcome State Fault Refusal :=
  .next (match s.tsk.inbox with
  | [] => s
  | (p, q) :: rest =>
    let n := cellsOf p.bytes.length
    match s.slotFree, s.freeRun n with
    | some slot, some c =>
      if !s.isLit 5 ∨ !s.isLit 4 then s
      else
        let a := A.tskSchCfg
        let t3 := s.qTier q = 3
        let prio := s.fld a (if t3 then F.tskSchCfg_prio_t3 else F.tskSchCfg_prio_t4)
        let aff := s.fld a (if t3 then F.tskSchCfg_aff_t3 else F.tskSchCfg_aff_t4)
        let addr := 0x80000000 + 256 * c
        let (count, frac) := stampOf p.stamp
        let words := [0, p.record.getD 1 0] ++ (List.range 4).map (fun i => p.record.getD i 0)
          ++ [BitVec.ofNat 32 (addr % 2 ^ 32), BitVec.ofNat 32 (addr / 2 ^ 32)
             , BitVec.ofNat 32 (p.bytes.length + 65536 * q), BitVec.ofNat 32 count, BitVec.ofNat 32 frac, 0, 0, 0, 0, 0]
        let s := { s with pst := putBytes s.pst (256 * c) p.bytes }.setTsk { s.tsk with inbox := rest }
        s.createItem slot (32 * prio + 8 * aff) none words (some (c, n)) false
    | _, _ => s)

/-- TSK_SUBMIT: core k writes word 15 of its window; with no slot free the acknowledge is withheld. -/
def execTskSubmit (k : Fin 24) (w : Word) (s : State) : Host.Outcome State Fault Refusal :=
  .next (s.access (.core k) (A.tskSubmit k 15) true fun s =>
    if s.tsk.waiting.any (·.1 == k.val) then s
    else
      let s := s.setReg (A.tskSubmit k 15) w
      match s.slotFree with
      | some slot => (s.takeSubmission k slot).busOk 0
      | none => s.setTsk { s.tsk with waiting := s.tsk.waiting ++ [(k.val, s.elapsed)] })

/-- TSK_SUBMIT_TIMEOUT: 20 µs without a free slot. -/
def execTskSubmitTimeout (k : Fin 24) (s : State) : Host.Outcome State Fault Refusal :=
  .next (if s.isLit 5 ∧ s.tsk.waiting.any (fun x => x.1 == k.val && decide (x.2 + 20000 ≤ s.elapsed)) then
    let s := (s.setTsk { s.tsk with waiting := s.tsk.waiting.filter (·.1 != k.val) }).count A.tskSubmitBusy
    (s.setReg (A.tskSubmitRes k) (BitVec.ofNat 32 ST.busy)).busOk 0
  else s)

/-! ### Dispatch (R445, R446) -/

/-- May a core take items: its bit in core_en, its cluster lit and not parked? -/
def State.mayTake (s : State) (k : Nat) : Bool :=
  (s.fld A.tskCtl F.tskCtl_core_en).testBit k && s.isLit (6 + k / 8) && !s.bit (A.clClk (k / 8)) F.clClk_parked

/-- The core an affinity entry records. -/
def State.recorded (s : State) (e : Nat) : Option Nat :=
  match Tbl.get (fun _ => 0) s.tsk.affinity e with | 0 => none | n + 1 => some n

/-- Does mode 1 let core k take an item? -/
def State.prefers (s : State) (i : Item) (k : Nat) : Bool :=
  match s.recorded i.entry with
  | none => true
  | some c => c == k || i.waited || !s.mayTake c
    || decide (i.readyAt + 1000 * s.fld A.tskSchCfg F.tskSchCfg_affinity_wait ≤ s.elapsed)

/-- Did item i become READY before j? Of items that became READY at one instant, those of SCH come first, then by core number
(R445). -/
def Item.before (i j : Item) : Bool :=
  let who (x : Item) : Nat := match x.fromCore with | none => 0 | some k => k + 1
  if i.readyAt ≠ j.readyAt then decide (i.readyAt < j.readyAt)
  else if who i ≠ who j then decide (who i < who j) else decide (i.order < j.order)

/-- Does R446 let core k take a READY item? -/
def State.admits (s : State) (i : Item) (k : Nat) : Bool :=
  if i.aff = 0 then true
  else if i.aff = 1 then s.prefers i k
  else
    let same := s.tsk.items.filter (fun j => j.entry == i.entry && j.slot != i.slot)
    same.all (fun j => match j.st with
      | .dispatched _ => false
      | .ready => i.before j
      | .parked => true) && s.prefers i k

/-- The item that a read of TSK_GET dispatches to core k: highest prio, then READY first. -/
def State.pickItem (s : State) (k : Nat) : Option Item :=
  (s.tsk.items.filter (fun i => i.st == .ready && s.admits i k)).foldl (fun b i => match b with
    | none => some i
    | some j => if j.prio < i.prio ∨ (j.prio = i.prio ∧ i.before j) then some i else some j) none

/-- The state with one item changed. -/
def State.setItem (s : State) (i j : Item) : State :=
  (s.setTsk { s.tsk with items := s.tsk.items.map (fun x => if x = i then j else x) }).showTsk

/-- A read of a core's TSK_GET. -/
def State.get (s : State) (k : Nat) : State :=
  if (s.heldBy k).isSome then
    let w : Word := 0x40000000
    (s.setReg (A.tskGet k) w).busOk w
  else match if s.mayTake k then s.pickItem k else none with
    | none => (s.setReg (A.tskGet k) 0).busOk 0
    | some i =>
      let s := s.setItem i { i with st := .dispatched k, started := s.elapsed }
      let s := s.setTsk { s.tsk with affinity := Tbl.set (fun _ => 0) i.entry (k + 1) s.tsk.affinity }
      let s := (List.range 16).foldl (fun s w => s.setReg (A.tskItem k w) (i.words.getD w 0)) s
      let w := BitVec.ofNat 32 (2 ^ 31 + i.id)
      (s.setReg (A.tskGet k) w).busOk w

/-- TSK_GET: a read of core k's own register. -/
def execTskGet (k : Fin 24) (s : State) : Host.Outcome State Fault Refusal :=
  .next (s.access (.core k) (A.tskGet k) false fun s => s.get k)

/-- AFFINITY_WAIT_EXPIRY: the READY item of a slot may now go to any core. -/
def execAffinityWaitExpiry (slot : Fin 4096) (s : State) : Host.Outcome State Fault Refusal :=
  .next (match s.tsk.items.find? (fun i => i.slot == slot.val && i.st == .ready) with
  | some i =>
    if s.isLit 5 ∧ i.readyAt + 1000 * s.fld A.tskSchCfg F.tskSchCfg_affinity_wait ≤ s.elapsed then
      s.setItem i { i with waited := true }
    else s
  | none => s)

/-! ### End (R447, R454) -/

/-- A forwarded packet goes to SCH; in a renewal of SCH TSK holds it, and SCH dark otherwise loses it, counted for SCH (R518)
(log entry 92). -/
def State.forward (s : State) (q : Nat) (p : SchPkt) : State :=
  if s.schTakes then (s.schAdmit q p none false).1
  else if s.renStep 4 ≠ 0 then s.setTsk { s.tsk with fwd := s.tsk.fwd ++ [(p, q)] }
  else s.count (A.aonDarkLoss 4)

/-- TSK_DONE: core k writes action, queue and length. -/
def execTskDone (k : Fin 24) (w : Word) (s : State) : Host.Outcome State Fault Refusal :=
  .next (s.access (.core k) (A.tskDone k) true fun s =>
    let s := s.perfAdd k 15 1
    match s.heldBy k with
    | none => s.busOk 0
    | some i =>
      let s := s.dropHeld k
      let len := F.tskDone_length.get w
      match i.pkt with
      | none => (s.freeItem i).busOk 0
      | some (c, n) =>
        if F.tskDone_action.get w ≠ 1 then (s.freeItem i).busOk 0
        else
          let len := if len = 0 then (i.words.getD 8 0).toNat % 2 ^ 14 else len
          let bytes := (List.range len).map (fun x => s.pstByte (256 * c + x))
          let stamp : Int := (i.words.getD 9 0).toNat * 65536 + (i.words.getD 10 0).toNat % 65536
          let s := s.freeItem i
          if n < cellsOf len then (s.count A.tskFwdBad).busOk 0
          else (s.forward (F.tskDone_queue.get w) ⟨bytes, (i.words.drop 2).take 4, 0, 0, stamp, 0⟩).busOk 0)

/-! ### Commands (R448, R449) -/

/-- The item in flight with an ID. -/
def State.itemOf (s : State) (id : Nat) : Option Item := s.tsk.items.find? (fun i => i.id == id)

/-- A command's result. -/
def State.cmdRes (s : State) (k st : Nat) : State := (s.setReg (A.tskCmdRes k) (BitVec.ofNat 32 st)).busOk 0

/-- A ready by core k takes effect. -/
def State.readyItem (s : State) (k id : Nat) : State :=
  match s.itemOf id with
  | some i =>
    if i.st = .parked then
      let s := s.setItem i { i with st := .ready, readyAt := s.elapsed, order := s.tsk.order }
      (s.setTsk { s.tsk with order := s.tsk.order + 1 }).cmdRes k ST.ok
    else s.cmdRes k ST.badParam
  | none => s.cmdRes k ST.badParam

/-- TSK_READY: core k writes TSK_CMD with op 0. -/
def execTskReady (k : Fin 24) (id : Fin 65536) (s : State) : Host.Outcome State Fault Refusal :=
  .next (s.access (.core k) (A.tskCmd k) true fun s => s.readyItem k id)

/-- A cancel by core k takes effect; true where the item was freed. -/
def State.cancel (s : State) (k id : Nat) : State × Bool :=
  match s.itemOf id with
  | some i => (match i.st with
    | .dispatched _ => ((s.count A.tskTooLate).cmdRes k ST.tooLate, false)
    | _ =>
      let s := if i.pkt.isSome then s.count A.tskCancelPkt else s
      (((s.freeItem i).count A.tskCancelled).cmdRes k ST.cancelled, true))
  | none => (s.cmdRes k ST.badParam, false)

/-- TSK_CANCEL: core k writes TSK_CMD with op 1. The cancel wins over a ready or a dispatch of the same cycle, and of two cancels
that of the lower-numbered core is first (R449). -/
def execTskCancel (k : Fin 24) (id : Fin 65536) (also : Meets) (s : State) : Host.Outcome State Fault Refusal :=
  .next (s.access (.core k) (A.tskCmd k) true fun s =>
    match also with
    | .nothing => (s.cancel k id).1
    | .ready j =>
      let (s, won) := s.cancel k id
      if won then s.cmdRes j ST.cancelled else s.readyItem j id
    | .cancel j => ((s.cancel (min k.val j.val) id).1.cancel (max k.val j.val) id).1
    | .get j => (s.cancel k id).1.get j)

/-- TSK_LONG_RUN: the dispatched item of a slot passes run_limit. -/
def execTskLongRun (slot : Fin 4096) (s : State) : Host.Outcome State Fault Refusal :=
  .next (match s.tsk.items.find? (fun i => i.slot == slot.val) with
  | some i => match i.st with
    | .dispatched k =>
      let limit := s.fld A.tskSchCfg F.tskSchCfg_run_limit
      if s.isLit 5 ∧ !i.long ∧ limit ≠ 0 ∧ i.started + 100000 * limit ≤ s.elapsed then
        ((s.setItem i { i with long := true }).count A.tskLongRun).raise 5 .tskLongRun 0 2 [i.id, k]
      else s
    | _ => s
  | none => s)

/-! ### Interrupt lines (R451) -/

/-- TSK_IRQ_SOFT: bits cleared first, then set (log entry 103). -/
def execTskIrqSoft (who : Requester) (w : Word) (s : State) : Host.Outcome State Fault Refusal :=
  .next (s.access who (A.tskIrqSoft) true fun s =>
    if !isAnyCore who then s.busOk 0
    else
      let a := A.tskIrqSoft
      let now := s.fld a F.tskIrqSoft_clear &&& (0xFFFF - F.tskIrqSoft_clear.get w)
      (s.setFld a F.tskIrqSoft_clear (now ||| F.tskIrqSoft_set.get w)).busOk 0)

/-- The island of a line's source (R451). -/
def lineIsland (n : Nat) : Nat :=
  if n < 128 then 9 else if n = 128 then 1 else if n = 129 then 3 else if n ≤ 131 then 10 else if n ≤ 142 then 2
  else if 144 ≤ n ∧ n ≤ 159 then 13 + (n - 144) / 4 else if 160 ≤ n ∧ n ≤ 175 then 13 + (n - 160) / 4
  else if 176 ≤ n ∧ n ≤ 178 then 21 else 5

/-- Is a line's source asserted? The mittens of its island deassert it (R498) (log entry 103). -/
def State.linePending (s : State) (n : Nat) : Bool :=
  if s.mittened (lineIsland n) then false
  else if n < 64 then s.bit (A.dmaChStatus n) F.dmaChStatus_done && s.bit (A.dmaChCtl n) F.dmaChCtl_done_irq_en
  else if n < 128 then s.bit (A.dmaChStatus (n - 64)) F.dmaChStatus_halted && s.bit (A.dmaChCtl (n - 64)) F.dmaChCtl_err_irq_en
  else if n = 128 then s.fld A.cdmMbxRspStatus F.cdmMbxRspStatus_rsp_valid != 0 && s.bit A.cdmMbxRspStatus F.cdmMbxRspStatus_irq_en
  else if n = 129 then s.bit A.pktVersionCtl F.pktVersionCtl_retired && s.bit A.pktVersionCtl F.pktVersionCtl_retire_irq_en
  else if n = 130 then s.cip.irq.testBit 0
  else if n = 131 then s.bit A.cipPnWarn F.cipPnWarn_valid && s.bit A.cipPnWarn F.cipPnWarn_irq_en
  else if 132 ≤ n ∧ n ≤ 142 then
    !(s.cuff (n - 132)).entries.isEmpty && s.bit (A.timeCuffCtl (n - 132)) F.timeCuffCtl_irq_en
  else if 144 ≤ n ∧ n ≤ 159 then
    let a := A.lnqPortIrq ((n - 144) / 4) ((n - 144) % 4)
    s.bit a F.lnqPortIrq_half && s.bit a F.lnqPortIrq_half_en
  else if 160 ≤ n ∧ n ≤ 175 then
    let a := A.lnqPortIrq ((n - 160) / 4) ((n - 160) % 4)
    s.bit a F.lnqPortIrq_link_change && s.bit a F.lnqPortIrq_link_en
  else if 176 ≤ n ∧ n ≤ 178 then s.hmac.notices.any (fun x => x.1 == n - 176)
  else if 200 ≤ n ∧ n ≤ 223 then s.mayTake (n - 200) && (s.pickItem (n - 200)).isSome
  else if 240 ≤ n ∧ n ≤ 255 then (s.fld A.tskIrqSoft F.tskIrqSoft_clear).testBit (n - 240)
  else false

/-- A line's target; lines of DMA channels 57 to 63 go to the Cudom cores. -/
def State.lineTarget (s : State) (n : Nat) : Nat :=
  if (57 ≤ n ∧ n ≤ 63) ∨ (121 ≤ n ∧ n ≤ 127) then 31 else s.fld (A.tskIrqRoute n) F.tskIrqRoute_target

/-- TSK_IRQ_CLAIM of core k: the lowest pending enabled line routed to it. -/
def State.irqClaim (s : State) (k : Nat) : Nat :=
  ((List.range 256).find? (fun n => s.bit (A.tskIrqRoute n) F.tskIrqRoute_en && s.lineTarget n == k && s.linePending n)).getD
    0xFFFF

/-- A core's external interrupt of a level (1 machine, 0 supervisor) is pending while such a line is. -/
def State.extIrq (s : State) (k level : Nat) : Bool :=
  (List.range 256).any (fun n => s.bit (A.tskIrqRoute n) F.tskIrqRoute_en && s.lineTarget n == k
    && s.fld (A.tskIrqRoute n) F.tskIrqRoute_level == level && s.linePending n)

/-! ### Clusters (R453, R454) -/

/-- PERF_COUNTER_READ: a requester reads the low word of event n of a core, which latches the high word for it
(log entry 104). -/
def execPerfCounterRead (who : Requester) (k : Fin 24) (n : Fin 16) (s : State) : Host.Outcome State Fault Refusal :=
  .next (s.access who (A.clPerfLo (k / 8) (k % 8) n) false fun s =>
    let s := s.settleCore k
    { s with perf := Tbl.set (fun _ => 0) (srcId who) (s.reg (A.clPerfHi (k / 8) (k % 8) n)).toNat s.perf }.busOk
      (s.reg (A.clPerfLo (k / 8) (k % 8) n)))

/-- CLUSTER_PARK: Cudom parks or unparks a cluster; its state is kept. -/
def execClusterPark (who : Requester) (cl : Fin 3) (parked : Bool) (s : State) : Host.Outcome State Fault Refusal :=
  .next (s.access who (A.clClk cl) true fun s =>
    (if isCudom who then s.parkCluster cl parked else s).busOk 0)

end Sys2Proof.Machine
end

