-- ==== Sys2Proof/Machine/Dma.lean ====
section
/-!
DEFINITION. DMA channels: enable, disable, kick, the walk over descriptors, write-backs and halts (R422–R440).
-/

namespace Sys2Proof.Machine

open Crypto (ofBE)

def State.dmaCh (s : State) (c : Nat) : DmaChan := Tbl.get (fun _ => DmaChan.init) s.dma.chans c
def State.setDmaCh (s : State) (c : Nat) (x : DmaChan) : State :=
  { s with dma := { s.dma with chans := Tbl.set (fun _ => DmaChan.init) c x s.dma.chans } }

/-! ### Channels (R422, R423) -/

def State.dmaPeriph (s : State) (c : Nat) : Nat := s.fld (A.dmaChCtl c) F.dmaChCtl_periph

/-- Is a peripheral code listed, and allowed on the channel? -/
def periphOk (c p : Nat) : Bool :=
  if c < 48 then p == 0 || p == 0x10 else if c < 57 then p == c - 47 else p == 0

/-- The radio of a management ring's channel. -/
def chanRad (c : Nat) : Nat := (c - 48) / 3

/-- A channel from HMAC to memory: management receive or transmit status. -/
def isRxChan (c : Nat) : Bool := 48 ≤ c && c < 57 && (c - 48) % 3 != 0

/-- A channel that carries frames out of memory: management transmit or SCH inject. -/
def State.isTxChan (s : State) (c : Nat) : Bool :=
  if c < 48 then s.dmaPeriph c == 0x10 else c < 57 && (c - 48) % 3 == 0

/-- May a requester write a channel's registers? -/
def dmaMay (who : Requester) (c : Nat) : Bool := if c < 57 then isAnyCore who else isCudom who

/-- A channel that runs: enabled, and neither halted nor idle. -/
def State.dmaRuns (s : State) (c : Nat) : Bool :=
  s.isLit 9 && s.bit (A.dmaChCtl c) F.dmaChCtl_enable && !s.bit (A.dmaChStatus c) F.dmaChStatus_halted
    && !s.bit (A.dmaChStatus c) F.dmaChStatus_idle

/-- Base and size of the head segment; the current descriptor. -/
def State.dmaBase (s : State) (c : Nat) : Nat :=
  s.fld (A.dmaChBaseHi c) F.dmaChBaseHi_base_hi * 2 ^ 32 + (s.reg (A.dmaChBaseLo c)).toNat
def State.dmaSize (s : State) (c : Nat) : Nat := s.fld (A.dmaChCtl c) F.dmaChCtl_size
def State.dmaCur (s : State) (c : Nat) : Nat :=
  s.fld (A.dmaChCurHi c) F.dmaChCurHi_cur_hi * 2 ^ 32 + (s.reg (A.dmaChCurLo c)).toNat
def State.setDmaCur (s : State) (c a : Nat) : State :=
  (s.setReg (A.dmaChCurLo c) (BitVec.ofNat 32 (a % 2 ^ 32))).setFld (A.dmaChCurHi c) F.dmaChCurHi_cur_hi (a / 2 ^ 32)

/-- The descriptor after one at a, in address order, back to the base after the last of the head segment (R426). -/
def State.dmaNext (s : State) (c a : Nat) : Nat :=
  if a + 32 = s.dmaBase c + 32 * s.dmaSize c then s.dmaBase c else (a + 32) % 2 ^ 40

/-! ### Halts (R430, R439) -/

/-- A channel halts with a code. -/
def State.dmaHalt (s : State) (c code : Nat) : State :=
  let a := A.dmaChStatus c
  (((s.setFld a F.dmaChStatus_halted 1).setFld a F.dmaChStatus_err_code code).setFld a F.dmaChStatus_active 0).setDmaCh c
    DmaChan.init

/-- Is the island that holds an address dark to the engine? -/
def State.dmaDark (s : State) (c a : Nat) : Bool :=
  let who := Requester.dma (Fin.ofNat 64 c)
  if inWindows a then !s.answers who (islandOf a)
  else if 0x80000000 ≤ a ∧ a < 0x82000000 then !s.answers who 4
  else if dramBase ≤ a ∧ a < dramBase + 0x400000000 then
    let x := a - dramBase
    match s.chamberAt x with
    | some k => if k.mirrored then !s.answers who 11 && !s.answers who 12 else !s.answers who (memId (chanOf x))
    | none => !s.answers who (memId (chanOf x))
  else false

/-- A descriptor or data access of a phase fails: 0 fetch, 1 data read, 2 data write, 3 write-back (R439). -/
def State.dmaFault (s : State) (c phase a : Nat) : State :=
  let code := if s.dmaDark c a ∨ phase = 1 ∨ phase = 2 then 3 else 2
  let s := (s.dmaHalt c code).setFld (A.dmaChStatus c) F.dmaChStatus_err_phase phase
  (s.setReg (A.dmaChErrLo c) (BitVec.ofNat 32 (a % 2 ^ 32))).setFld (A.dmaChErrHi c) F.dmaChErrHi_err_hi (a / 2 ^ 32)

/-! ### Descriptors (R425) -/

/-- A little-endian number. -/
def ofLE (bs : List Byte) : Nat := ofBE bs.reverse

/-- Fields of a descriptor's bytes. -/
def dOwn (d : List Byte) : Bool := (ofLE (d.take 4)).testBit 31
def dKind (d : List Byte) : Nat := ofLE (d.take 4) / 2 ^ 29 % 4
def dIrq (d : List Byte) : Bool := (ofLE (d.take 4)).testBit 28
def dSop (d : List Byte) : Bool := (ofLE (d.take 4)).testBit 27
def dEop (d : List Byte) : Bool := (ofLE (d.take 4)).testBit 26
def dSrcFixed (d : List Byte) : Bool := (ofLE (d.take 4)).testBit 25
def dDstFixed (d : List Byte) : Bool := (ofLE (d.take 4)).testBit 24
def dCount (d : List Byte) : Nat := ofLE (d.take 4) % 2 ^ 24
def dSrc (d : List Byte) : Nat := ofLE ((d.drop 8).take 8) % 2 ^ 40
def dDst (d : List Byte) : Nat := ofLE ((d.drop 16).take 8) % 2 ^ 40

/-! ### Control (R426, R427, R438, R440) -/

/-- A disable ends the descriptor in progress: its byte counts and its buffer in memory become free values, its own bit stays
(R440). -/
def State.dmaAbandon (s : State) (c : Nat) : State :=
  match (s.dmaCh c).desc with
  | none => s
  | some d =>
    let cur := s.dmaCur c
    let s := (s.spoil cur 3).spoil (cur + 4) 3
    if s.isTxChan c then s else s.spoil (dDst d) (if dDstFixed d then min (dCount d) 8 else dCount d)

/-- A write of DMA_CH_CTL by a requester that may: its fields; then a kick, an enable or a disable. -/
def State.dmaCtl (s : State) (c : Nat) (w : Word) : State :=
  let a := A.dmaChCtl c
  let st := A.dmaChStatus c
  let old := s.reg a
  let was := F.dmaChCtl_enable.get old = 1
  let on := F.dmaChCtl_enable.get w = 1
  let new := F.dmaChCtl_kick.put 0 (D.dmaChCtl.write false old w)
  let new := if 48 ≤ c ∧ c < 57 then F.dmaChCtl_periph.put (c - 47) new else new
  let s := (if !on ∧ was then s.dmaAbandon c else s).setReg a new
  if on ∧ !was then
    if s.dmaSize c = 0 ∨ 4096 < s.dmaSize c ∨ s.dmaBase c % 32 ≠ 0 ∨ !periphOk c (s.dmaPeriph c) then
      (s.setFld a F.dmaChCtl_enable 0).setFld st F.dmaChStatus_err_code 1
    else
      let s := ((s.setFld st F.dmaChStatus_err_code 0).setFld st F.dmaChStatus_err_phase 0).setFld st F.dmaChStatus_hops 0
      (s.setDmaCh c DmaChan.init).setDmaCur c (s.dmaBase c)
  else if !on ∧ was then
    (((s.setFld st F.dmaChStatus_halted 0).setFld st F.dmaChStatus_active 0).setFld st F.dmaChStatus_idle 0).setDmaCh c
      DmaChan.init
  else if on ∧ F.dmaChCtl_kick.get w = 1 then s.setFld st F.dmaChStatus_idle 0
  else s

/-- DMA_CH_ENABLE: a write of DMA_CH_CTL with enable 1. -/
def execDmaChEnable (who : Requester) (c : Fin 64) (w : Word) (s : State) : Host.Outcome State Fault Refusal :=
  .next (s.access who (A.dmaChCtl c) true fun s =>
    (if dmaMay who c then s.dmaCtl c (F.dmaChCtl_enable.put 1 w) else s).busOk 0)

/-- DMA_CH_DISABLE: a write of DMA_CH_CTL with enable 0. -/
def execDmaChDisable (who : Requester) (c : Fin 64) (w : Word) (s : State) : Host.Outcome State Fault Refusal :=
  .next (s.access who (A.dmaChCtl c) true fun s =>
    (if dmaMay who c then s.dmaCtl c (F.dmaChCtl_enable.put 0 w) else s).busOk 0)

/-- DMA_KICK: a write of kick; the other fields as they stand. -/
def execDmaKick (who : Requester) (c : Fin 64) (s : State) : Host.Outcome State Fault Refusal :=
  .next (s.access who (A.dmaChCtl c) true fun s =>
    (if dmaMay who c then s.dmaCtl c (F.dmaChCtl_kick.put 1 (s.reg (A.dmaChCtl c))) else s).busOk 0)

/-! ### The walk (R426, R430, R431) -/

/-- Beat width of a fixed address (R431). -/
def beat (a : Nat) : Nat := if inWindows a then 4 else 8

/-- The fixed addresses a descriptor uses on a channel are aligned, and byte_count is a multiple of the beat. -/
def State.fixedOk (s : State) (c : Nat) (d : List Byte) : Bool :=
  let ok (a : Nat) : Bool := a % beat a == 0 && dCount d % beat a == 0
  (isRxChan c || !dSrcFixed d || ok (dSrc d)) && (s.isTxChan c || !dDstFixed d || ok (dDst d))

/-- A link with own = 1 is followed (R426, R430); true where the walk goes on. -/
def State.dmaLink (s : State) (c : Nat) (d : List Byte) : State × Bool :=
  if dSrc d % 32 ≠ 0 then (s.dmaHalt c 5, false)
  else
    let h := s.fld (A.dmaChStatus c) F.dmaChStatus_hops + 1
    let s := (s.setFld (A.dmaChStatus c) F.dmaChStatus_hops h).setDmaCur c (dSrc d)
    if 64 ≤ h then (s.dmaHalt c 4, false) else (s, true)

/-- The earlier frame of a transmit channel ends as malformed: its last descriptor read is written back again with err = 1
(R437). -/
def State.dmaMalformed (s : State) (c : Nat) : State :=
  let at_ := (s.dmaCh c).lastAt
  let who := Requester.dma (Fin.ofNat 64 c)
  match s.memRead who (at_ + 4) 4 with
  | (s, none) => s.dmaFault c 3 at_
  | (s, some w1) =>
    match s.memWrite who (at_ + 4) (toLE 4 (ofLE w1 ||| 2 ^ 31)) with
    | (s, true) => s.setDmaCh c { s.dmaCh c with frame := [], inFrame := false }
    | (s, false) => s.dmaFault c 3 at_

/-- DMA_DESC_FETCH: the channel fetches the descriptor at its current address. In DRAIN of a renewal of DMA none is fetched
(log entry 102). -/
def execDmaDescFetch (c : Fin 64) (s : State) : Host.Outcome State Fault Refusal :=
  .next (if !s.dmaRuns c ∨ (s.dmaCh c).desc.isSome ∨ s.renStep 9 = 2 then s
  else
    let cur := s.dmaCur c
    match s.memRead (.dma c) cur 32 with
    | (s, none) => s.dmaFault c 0 cur
    | (s, some d) =>
      if 2 ≤ dKind d then s.dmaHalt c 5
      else if !dOwn d then s.setFld (A.dmaChStatus c) F.dmaChStatus_idle 1
      else if dKind d = 1 then (s.dmaLink c d).1
      else if !s.fixedOk c d then s.dmaHalt c 5
      else
        let s := if s.isTxChan c ∧ dSop d ∧ (s.dmaCh c).inFrame then s.dmaMalformed c else s
        if !s.dmaRuns c then s
        else
          let x := s.dmaCh c
          let first := !x.inFrame
          s.setDmaCh c { x with desc := some d, moved := 0, inFrame := s.isTxChan c,
                                frame := if first then [] else x.frame,
                                queue := if first then dDst d % 4096 else x.queue })

/-! ### Frames out of memory (R424, R437) -/

/-- Is an 802.11 management frame robust: deauthentication, disassociation, or an action frame of a robust category? -/
def isRobust (f : List Byte) : Bool :=
  let fc := (f.getD 0 0).toNat
  fc / 4 % 4 == 0 && (fc / 16 == 10 || fc / 16 == 12 ||
    (fc / 16 == 13 && !List.contains [4, 7, 11, 15, 20, 21, 30] (f.getD 24 0).toNat))

/-- A whole frame leaves its transmit channel; true where its last descriptor is written back with err. -/
def State.dmaSend (s : State) (c : Nat) (f : List Byte) (queue : Nat) : State × Bool :=
  if c < 48 then
    if f.isEmpty ∨ 16383 < f.length then (s, true)
    else
      let (s, ok) := s.schAdmit queue ⟨f, [0, 0, 0, 0], 0, 0, 0, 0⟩ none false
      (s, !ok)
  else
    let r := chanRad c
    let (v, s) := s.freeNat
    let fid := v % 65536
    if f.isEmpty then (s.report r fid 0xFFF 0x0011 0 false false 0, true)
    else
      let mac := ofBE ((f.drop 4).take 6)
      let st := if (f.getD 4 0).toNat.testBit 0 then none
        else (entries r).find? (fun n => s.sta n != 0 && s.staMac n == mac)
      (s.setWr r { s.wr r with mgmtTx := (s.wr r).mgmtTx ++ [⟨fid, st, isRobust f, f, 0⟩] }, false)

/-- Words 0 and 1 of a descriptor written back: own cleared, and on a receive channel sop and eop set as the engine found. -/
def backWords (d : List Byte) (sop eop err truncated short : Bool) (n : Nat) : List Byte :=
  let b (x : Bool) (k : Nat) : Nat := if x then 2 ^ k else 0
  let w0 := ofLE (d.take 4) % 2 ^ 26 + ofLE (d.take 4) / 2 ^ 28 % 8 * 2 ^ 28
  toLE 4 (w0 + b sop 27 + b eop 26) ++ toLE 4 (b err 31 + b truncated 30 + b short 29 + n)

/-- What a write-back at an address leaves beside memory: done, the count, hops, and the walk's next descriptor. -/
def State.dmaDone (s : State) (c : Nat) (d : List Byte) (at_ : Nat) : State :=
  let st := A.dmaChStatus c
  let s := if dIrq d then s.setFld st F.dmaChStatus_done 1 else s
  ((((s.count (A.dmaChDescDone c)).setFld st F.dmaChStatus_hops 0).setFld st F.dmaChStatus_active 0)).setDmaCur c
    (s.dmaNext c at_)

/-- The island a transmit channel's peripheral lies in. -/
def chanIsland (c : Nat) : Nat := if c < 48 then 4 else 21

/-- DMA_WRITEBACK: a descriptor whose bytes have all moved is written back, and with it a transmit channel's whole frame
leaves; SCH inject waits while a renewal of SCH holds it (R518; log entry 102). -/
def execDmaWriteback (c : Fin 64) (s : State) : Host.Outcome State Fault Refusal :=
  .next (match (s.dmaCh c).desc with
  | none => s
  | some d =>
    let x := s.dmaCh c
    let cur := s.dmaCur c
    if !s.dmaRuns c ∨ x.moved ≠ dCount d ∨ isRxChan c then s
    else
      let ends := s.isTxChan c ∧ dEop d
      if ends ∧ c.val < 48 ∧ s.renStep 4 ≠ 0 then s
      else if ends ∧ !s.isLit (chanIsland c) then s.dmaFault c 2 (if c.val < 48 then dDst d else 0)
      else
        let (s, err) := if ends then s.dmaSend c x.frame x.queue else (s, false)
        match s.memWrite (.dma c) cur (backWords d (dSop d) (dEop d) err false false x.moved) with
        | (s, false) => s.dmaFault c 3 cur
        | (s, true) =>
          let s := s.dmaDone c d cur
          s.setDmaCh c { x with desc := none, moved := 0, lastAt := cur, inFrame := s.isTxChan c && !dEop d
                                frame := if ends then [] else x.frame })

/-- DMA_ACCESS_FAULT: an access of a phase receives a bus error, or no response within 4 096 cycles. -/
def execDmaAccessFault (c : Fin 64) (phase : Fin 4) (a : Nat) (s : State) : Host.Outcome State Fault Refusal :=
  .next (if s.dmaRuns c then s.dmaFault c phase (a % 2 ^ 40) else s)

end Sys2Proof.Machine
end

