-- ==== Sys2Proof/Machine/Gloves.lean ====
section
/-!
DEFINITION. The glove pair: roles, kicks, take-over and the Cudom watchdog (R520–R524, R44).
-/

namespace Sys2Proof.Machine

/-- The role of a glove: 0 PRIMARY, 1 STANDBY, 2 RENEWING, 3 FAILED. -/
def roleFld (g : Nat) : Fld := if g = 0 then F.cdmGloveStatus_left_role else F.cdmGloveStatus_right_role
def State.role (s : State) (g : Nat) : Nat := s.fld A.cdmGloveStatus (roleFld g)
def State.setRole (s : State) (g v : Nat) : State := s.setFld A.cdmGloveStatus (roleFld g) v

/-- Is a glove declared failed? -/
def State.gloveDown (s : State) : Bool := s.role 0 == 3 || s.role 1 == 3

/-- Both DALI buses go to the interface-failure state (R492, R543). -/
def State.failLights (s : State) : State :=
  { s with cdm := { s.cdm with dali0 := { s.cdm.dali0 with failed := true }, dali1 := { s.cdm.dali1 with failed := true } } }

/-- The standby glove becomes primary; the take-over is counted (R521). Of the commands that firmware was executing, those that
have changed something complete with ST_INTERNAL; the others run again from their start, which in the model is where they stand
(R523). -/
def State.takeOver (s : State) (g : Nat) : State :=
  let n := s.fld A.cdmGloveStatus F.cdmGloveStatus_takeovers
  let s := ((s.setRole g 0).setFld A.cdmGloveStatus F.cdmGloveStatus_takeovers ((n + 1) % 256)).count A.cdmGloveTakeover
  s.cdm.jobs.altered.foldl (fun s r => s.endEarly r ST.internal) s

/-- A glove is declared failed with a status: held in reset, FAULT_N, GLOVE_FAILED, take-over, DEGRADED (R521, R524, R577). -/
def State.gloveFailed (s : State) (g status light : Nat) : State :=
  let was := s.role g
  let s := ((s.setRole g 3).setPw (32 + g) { IslandPwr.init with st := .failed }).assertFault F.aonFaultCause_glove_failed
  let s := s.raise 1 .gloveFailed status 3 [g, was]
  let s := if was = 0 ∧ s.role (1 - g) = 1 then s.takeOver (1 - g) else s
  s.enterDegraded light

/-- Elapsed time of a glove's last kick. -/
def State.lastKick (s : State) (g : Nat) : Nat := if g = 0 then s.cdm.kickL else s.cdm.kickR

/-- GLOVE_KICK: a write of CDM_GLOVE_KICK by a glove kicks it if its own bit is 1. -/
def execGloveKick (who : Requester) (w : Word) (s : State) : Host.Outcome State Fault Refusal :=
  .next (s.access who (A.cdmGloveKick) true fun s =>
    (match who with
    | .glove g =>
      let f := if g.val = 0 then F.cdmGloveKick_left else F.cdmGloveKick_right
      if f.get w = 1 ∧ s.role g < 2 ∧ !s.cdm.halted ∧ !s.cdm.held then
        { s with cdm := if g.val = 0 then { s.cdm with kickL := s.elapsed } else { s.cdm with kickR := s.elapsed } }
      else s
    | _ => s).busOk 0)

/-- The longest interval between kicks, ns; 0 acts as 1 (R521). -/
def State.kickTimeout (s : State) : Nat := max 1 (s.fld A.cdmGloveCfg F.cdmGloveCfg_kick_timeout) * 1000000

/-- GLOVE_KICK_TIMEOUT: a glove's kick is late (log entry 27). -/
def execGloveKickTimeout (g : Fin 2) (light : Nat) (s : State) : Host.Outcome State Fault Refusal :=
  .next (if s.isLit 1 ∧ s.mode.romDone ∧ !s.cdm.halted ∧ !s.cdm.held ∧ s.role g < 2
      ∧ s.lastKick g + s.kickTimeout ≤ s.elapsed then s.gloveFailed g ST.timeout light else s)

/-- CUDOM_WATCHDOG: both gloves failed, or no kick for 100 ms: RECOVERY, but in TEST and RECOVERY AON holds both gloves in reset
and drives both DALI buses to the interface-failure state (R44). -/
def execCudomWatchdog (light : Nat) (s : State) : Host.Outcome State Fault Refusal :=
  .next (if s.isLit 1 ∧ s.mode.romDone ∧ !s.cdm.halted ∧ !s.cdm.held ∧
      ((s.role 0 = 3 ∧ s.role 1 = 3) ∨ max s.cdm.kickL s.cdm.kickR + 100000000 ≤ s.elapsed) then
    let s := s.raise 0 .cudomWatchdog ST.timeout 4 [(s.reg A.cdmGloveStatus).toNat, modeCode s.mode.mode]
    match s.mode.mode with
    | .test | .recovery => { s with cdm := { s.cdm with held := true } }.failLights
    | _ => s.enterRecovery 6 none light
  else s)

end Sys2Proof.Machine
end

