-- ==== Sys2Proof/Machine/RenewCore.lean ====
section
/-!
DEFINITION. What a renewal saves and restores, and how one ends (R511–R518, R574).
-/

namespace Sys2Proof.Machine

/-- The renewal of an island. -/
def State.ren (s : State) (i : Nat) : Option Renewal := Tbl.get (fun _ => none) s.renew i
/-- Log entry 34. -/
def State.setRen (s : State) (i : Nat) (r : Option Renewal) : State :=
  { s with renew := Tbl.set (fun _ => none) i r s.renew }

/-- The step code of AON_RENEW. -/
def State.setStep (s : State) (i v : Nat) : State := s.setFld (A.aonRenew i) F.aonRenew_step v

/-- The power record of what is renewed: the island, or for CDM the glove of the part. -/
def unitOf (i part : Nat) : Nat := if i = 1 then 32 + part else i

/-! ### Saved state (R518) -/

/-- Register families saved at FENCE: settings, whose writable fields are restored. -/
def savedRegs (i : Nat) : List RegDesc :=
  if i = 2 then [D.timeCtl, D.timeServoCfg, D.timeQuality, D.timePath, D.timeBoard]
  else if i = 3 then
    [D.pktParseCtl, D.pktTunCfg, D.pktUdpTun, D.pktSrcCfg, D.pktEpBaseLo, D.pktEpBaseHi, D.pktEpSeed1, D.pktEpSeed2,
     D.pktFragCtl, D.pktExcCfg, D.pktExcRate, D.pktSumpCtl, D.pktInd]
  else if i = 4 then
    [D.schCtl, D.schPoolCfg, D.schEgress, D.schQW0, D.schQW1, D.schQW2, D.schQW3, D.schQW4, D.schQW5, D.schMtrW0, D.schMtrW1,
     D.schMtrW2, D.schMtrW3]
  else if i = 5 then [D.tskCtl, D.tskSchCfg, D.tskIrqRoute]
  else if i = 10 then
    [D.cipMsecTxAn, D.cipJobBaseLo, D.cipJobBaseHi, D.cipJobCtl, D.cipMsecSaW0, D.cipMsecSaW1, D.cipMsecSaW2, D.cipMsecSaW3,
     D.cipMsecSaW4, D.cipMsecSaW5, D.cipMsecSaW6, D.cipMsecSaW7, D.cipMsecSaW8, D.cipMsecSaW9]
  else if 13 ≤ i ∧ i ≤ 16 then
    [D.lnqPllCtl, D.lnqLaneCfg, D.lnqPortCfg, D.lnqPortPause, D.lnqPortFlow, D.lnqKlCtl, D.lnqKlThrift, D.lnqPortIrq]
  else if i = 20 then [D.decCtl]
  else []

/-- Register families of HMAC's tables and settings, saved whole. -/
def savedTables : List RegDesc :=
  [D.hmacLoadCfg, D.hmacLoadGap, D.hmacMapStatus, D.hmacHolCtl, D.hmacHolRound, D.hmacHolChmapLo, D.hmacHolChmapHi,
   D.hmacHolNextLo, D.hmacHolNextHi, D.hmacHolChmapCtl, D.hmacHolJoin, D.hmacHolShare, D.hmacHolAbsence, D.hmacHolKeys] ++
  [D.hmacHolCfg, D.hmacHolChdef, D.hmacHolParentCtl, D.hmacHolParentSched, D.hmacHolParentSched2, D.hmacHolParentEvent,
   D.hmacHolParentSync, D.hmacHolParentKeys, D.hmacHolParentSupv, D.hmacHolPartnerW0, D.hmacHolPartnerW1, D.hmacHolPartnerW2] ++
  [D.hmacHolPartnerW3, D.hmacHolPartnerW4, D.hmacHolPartnerW5, D.hmacHolPartnerW6, D.hmacHolPartnerW7, D.hmacWlanStationW0,
   D.hmacWlanStationW1, D.hmacWlanStationW2, D.hmacWlanStationW3, D.hmacWlanStationW4, D.hmacWlanStationW5,
   D.hmacWlanStationW6, D.hmacWlanStationW7] ++
  [D.hmacWlanCtl, D.hmacWlanProtect, D.hmacWlanSteer, D.hmacWlanTrig, D.hmacWlanSound, D.hmacWlanBssCfg, D.hmacWlanBssGkey,
   D.hmacWlanBssMkey, D.hmacWlanBaseLo, D.hmacWlanBaseHi]

/-- Words of the live rules of PKT: value, mask and action words of a rule live in the current version. -/
def State.isLiveRule (s : State) (a : Nat) : Bool :=
  let o := offOf a
  0x400000 ≤ o && o < 0x600000 && decide (o % 256 < 0x90) &&
    (s.fld (A.pktRuleLive ((o - 0x400000) / 256)) F.pktRuleLive_live_mask).testBit (s.fld A.pktVersionCtl F.pktVersionCtl_current)

/-- The register words saved of an island. -/
def State.savedWords (s : State) (i : Nat) : Tbl Word :=
  s.regs.filter (fun e => inWindows e.1 && islandOf e.1 == i &&
    (inFamilies (if i = 21 then savedTables else savedRegs i) e.1 || (i == 3 && s.isLiveRule e.1)))

/-- HMAC's records without what was under way. -/
def HmacState.settled (h : HmacState) : HmacState :=
  let hol := { h.hol with events := [], sent := [],
                          peers := h.hol.peers.foldl (fun t e =>
                            Tbl.set (fun _ => HolPeer.init) e.1 { e.2 with txq := [], rxq := [] } t) [] }
  { h with hol := hol,
           wrad := h.wrad.foldl (fun t e => Tbl.set (fun _ => WlanRadio.init) e.1
             { e.2 with exch := none, multi := [], icf := none, disassoc := [], probes := [], tb := none, mgmtRx := [], status := [], mgmtTx := [], group := [], groupReady := 0 } t) [],
           wpeers := h.wpeers.foldl (fun t e => Tbl.set (fun _ => WlanPeer.init) e.1 { e.2 with txq := [] } t) [] }

/-- A word restored: HMAC's tables and the path delay whole, else the writable fields; a job ring and ports come back disabled. -/
def State.restoreWord (s : State) (i : Nat) (a : Nat) (w : Word) : State :=
  match findReg a with
  | none => s
  | some d =>
    let w' := if i = 21 ∨ inFamilies [D.timePath] a then w else d.write false (s.reg a) w
    let w' := if inFamilies [D.cipJobCtl] a then F.cipJobCtl_enable.put 0 w'
      else if inFamilies [D.lnqPortCfg] a then F.lnqPortCfg_enable.put 0 w' else w'
    s.setReg a w'

/-- The restore phase writes the saved state (R500, R514): registers; live rules into version 0 (R329); meters full (R349); TIME's
servo mode (R419); HMAC's records. -/
def State.restoreSaved (s : State) (i : Nat) (r : Renewal) : State :=
  let s := r.saved.foldl (fun s e => s.restoreWord i e.1 e.2) s
  if i = 2 then (s.setFld A.timeCtl F.timeCtl_servo_mode s.time.savedMode).refreshQuality
  else if i = 3 then
    let rules := (r.saved.filter (fun e => 0x400000 ≤ offOf e.1)).map (fun e => (offOf e.1 - 0x400000) / 256)
    rules.foldl (fun s n => s.setFld (A.pktRuleLive n) F.pktRuleLive_live_mask 1) s
  else if i = 4 then
    let ms := (r.saved.filter (fun e => inFamilies [D.schMtrW0, D.schMtrW1, D.schMtrW2, D.schMtrW3] e.1)).map
      (fun e => (offOf e.1 - 0x200000) / 32)
    ms.foldl (fun s m =>
      let w2 := s.reg (A.schMtrW2 m)
      let w3 := s.reg (A.schMtrW3 m)
      s.setMeter m ⟨s.reg (A.schMtrW0 m), s.reg (A.schMtrW1 m), w2, w3, F.schMtrW2_cbs.get w2 * 1000000,
        F.schMtrW3_pbs.get w3 * 1000000, s.elapsed⟩) s
  else if i = 21 then
    match r.hmac with
    | some h => { s with hmac := h }
    | none => s
  else s

/-! ### Calibration of a radio that is lit (R179, R188–R191) -/

/-- The sets of a calibration state stand in force, predistortion coefficients in their registers too. -/
def State.loadSets (s : State) (r : Nat) (c : CalState) : State :=
  let s := s.setCal r c
  c.inForce.foldl (fun s e =>
    if e.1 / 64 = 2 ∧ e.1 % 8 ≤ 4 then s.putCoefs r (e.1 / 8 % 8) (e.1 % 8) e.2.coefs else s) s

/-- The version of a radio just lit: its lit_count of the record, update 0. -/
def State.litVersion (s : State) (r : Nat) : State :=
  let n := (s.flash.calLit.getD r 0 + 1) % 256
  let s := { s with flash := { s.flash with calLit := s.flash.calLit.set r n } }
  s.setFld (A.radCalVersion r) F.radCalVersion_lit_count n

/-- One value between calibration channels: what all of them have, where they agree (log entry 48). -/
def interpAt (centre : Nat) (l : List Int) : Int :=
  match l with
  | [] => 0
  | x :: xs => if xs.all (· == x) then x else Config.interp centre l

/-- A set between those of the calibration channels. -/
def blend (centre : Nat) (l : List CalSet) : CalSet :=
  let at_ (f : CalSet → Int) : Int := interpAt centre (l.map f)
  { est := at_ (·.est), est2 := at_ (·.est2), evm := at_ (·.evm)
    coefs := if l.all (·.coefs.isEmpty) then []
      else (List.range 20).map (fun k => (at_ (fun c => (c.coefs.getD k (0, 0)).1), at_ (fun c => (c.coefs.getD k (0, 0)).2))) }

/-- Sets of calibration channels interpolated for a centre, by loop, chain and gain state. -/
def blendAll (centre : Nat) (sets : Tbl CalSet) : Tbl CalSet :=
  ((sets.map (·.1 % 512)).eraseDups).foldl (fun t k =>
    Tbl.insert k (blend centre ((sets.filter (fun e => e.1 % 512 == k)).map (·.2))) t) []

/-- The record of a radio, as its lighting loads it: interpolated between calibration channels. -/
def CalRec.load (c : CalRec) (centre : Nat) : CalState :=
  { CalState.init with inForce := blendAll centre c.sets, gainTable := c.gains, gainTemp := c.temp, bands := c.bands }

/-- What a radio's lighting loads: the sets of its calibration record, if it has one. -/
def State.litSets (s : State) (r : Nat) : CalState :=
  if s.flash.calValid.getD r false then (Tbl.get (fun _ => CalRec.init) s.calRecs r).load (s.synFreq r (s.synActive r)) else CalState.init

/-- A radio lights: the sets of its calibration record are in force, if it has one. -/
def State.lightRadio (s : State) (r : Nat) : State := (s.loadSets r (s.litSets r)).litVersion r

/-! ### PREPARE ends (R511, R516) -/

/-- Mittens are applied, before the power switch opens. -/
def State.mitten (s : State) (i part : Nat) : State :=
  let u := unitOf i part
  (s.setPw u { s.pw u with goingDark := true }).setStep i 4

/-- DRAIN begins; of an island that is dark already it passes at once, and so does FENCE (R516). -/
def State.beginDrain (s : State) (i : Nat) (r : Renewal) : State :=
  if r.wasFailed then s.mitten i r.part
  else
    let s := s.setStep i 2
    if i = 11 ∨ i = 12 then s.holdChannel (i - 11) else s

/-- Every absence that PREPARE announced has begun, as coordinator and, of a synchronised member, to the parent. -/
def State.absBegun (s : State) (i : Nat) : Bool :=
  let q := s.peer parentNo
  !(i == 10 || 17 ≤ i) || !s.isLit 21 || (s.hmac.hol.absences.all (fun a => a.start ≤ s.roundNo)
    && (s.memberState < 3 || [q.absSend, q.absOwn].all (fun o => o.all (fun a => a.2.2 ≤ s.parentRound))))

/-! ### How a renewal ends (R515, R516) -/

/-- Egresses whose hold PREPARE sets. -/
def heldEgresses (i : Nat) : List Nat :=
  if i = 5 then [19] else if 13 ≤ i ∧ i ≤ 16 then (List.range 4).map (4 * (i - 13) + ·) else []

/-- Cudom firmware reverses PREPARE; a failed island's own egresses stay held. -/
def State.reverse (s : State) (i : Nat) (r : Renewal) (failed : Bool) : State :=
  let s := if failed then s else (bitsOf 20 r.holds).foldl (fun s e => s.setFld (A.schEgress e) F.schEgress_hold 0) s
  let s := if r.cores ≠ 0 ∧ !failed then
      s.setFld A.tskCtl F.tskCtl_core_en (s.fld A.tskCtl F.tskCtl_core_en ||| r.cores)
    else s
  if 17 ≤ i ∧ i ≤ 19 ∧ !failed then s.withdrawSteer (i - 17) else s

/-- Firmware lights and darkens the islands that a mode of SERVICE's kind marks E as it chooses on entry (R569). -/
def State.chooseE (s : State) (light : Nat) : State := (s.planPower s.mode.mode light).pumpPower

/-- The mode after a renewal: RENEW goes back to SERVICE with the last one; DEGRADED to SERVICE once nothing is declared failed
(R41, R570). -/
def State.afterRenewal (s : State) (light : Nat) : State :=
  let running := (List.range 22).any (fun i => s.renStep i != 0)
  match s.mode.mode with
  | .renew => if running then s else (s.setMode .service 8 none).chooseE light
  | .degraded =>
    if s.fld A.cdmFailedIslands F.cdmFailedIslands_failed = 0 ∧ !s.gloveDown then
      let s := s.setMode .service 8 none
      (if running then s.setMode .renew 7 none else s).chooseE light
    else s
  | _ => s

/-- AON_RENEW at the end of a renewal: result 1 rejoined, 2 failed, 3 abandoned. -/
def State.closeRenewal (s : State) (i result : Nat) : State :=
  ((s.setStep i 0).setFld (A.aonRenew i) F.aonRenew_result result).setRen i none

/-- A renewal is abandoned before DARK (R515); the chains muted before a forced drain stay muted (R111). -/
def State.abandonRenewal (s : State) (i status light : Nat) : State :=
  match s.ren i with
  | none => s
  | some r =>
    let u := unitOf i r.part
    let s := s.setPw u { s.pw u with fenced := false, renewal := false, goingDark := false }
    let s := if i = 1 then s.setRole r.part (if r.wasFailed then 3 else 1) else s
    let s := if (i = 11 ∨ i = 12) ∧ 2 ≤ s.renStep i ∧ !r.wasFailed then s.releaseChannel (i - 11) else s
    let s := if 17 ≤ i ∧ i ≤ 19 ∧ s.bit (A.aonRenew i) F.aonRenew_forced then s.setRd (i - 17) { s.rd (i - 17) with muted := r.muted }
      else s
    let s := (s.reverse i r r.wasFailed).closeRenewal i 3
    (s.complete r.req status none []).afterRenewal light

/-- A renewal fails: the island stays dark, FAILED (R516, R574). -/
def State.failRenewal (s : State) (i status light : Nat) : State :=
  match s.ren i with
  | none => s
  | some r =>
    let s := (s.reverse i r true).closeRenewal i 2
    let s := if i = 1 then s.gloveFailed r.part (if status = ST.wakeFault then status else ST.internal) light else s.declareFailed i light
    s.complete r.req status none []

end Sys2Proof.Machine
end

