-- ==== Sys2Proof/Machine/ModeFlow.lean ====
section
/-!
DEFINITION. Mode transitions: how one begins, completes and times out, and MODE_SET (R41–R49, R278, R495, R502, R507, R569,
R570).
-/

namespace Sys2Proof.Machine

/-! ### Beginning -/

/-- Place in the chain SERVICE, THRIFT, VIGIL, HIBERNATE (R42). -/
def chainIdx : Mode → Option Nat
  | .service => some 0 | .thrift => some 1 | .vigil => some 2 | .hibernate => some 3
  | _ => none

/-- The next mode of the chain on the way to another. -/
def chainStep (m final : Mode) : Option Mode :=
  match chainIdx m, chainIdx final with
  | some a, some b => if a = b then none else [Mode.service, .thrift, .vigil, .hibernate][if a < b then a + 1 else a - 1]?
  | _, _ => none

/-- Is the mode one in which islands sleep? -/
def sleeps (m : Mode) : Bool := m == .vigil || m == .hibernate

/-- The retention bank of the VIGIL radio is filled (R507). -/
def State.fillBank (s : State) : State :=
  if s.aon.vgRadio = 0 then s
  else
    let c := (s.rd (s.aon.vgRadio - 1)).cal
    { s with aon := { s.aon with vgGains := c.gainTable, vgBands := c.bands } }

/-- A synchronised member announces an open absence on the way to VIGIL (R241). -/
def State.openAbsence (s : State) : State :=
  if s.isLit 21 ∧ 3 ≤ s.memberState then
    s.setPeer parentNo { s.peer parentNo with absSend := some (s.linkBands parentNo, 0xFFFF, s.parentRound) }
  else s

/-- Is a steering run of a lit radio under way? -/
def State.steering (s : State) : Bool := (List.range 3).any (fun r => s.radLit r && (s.wr r).steerEnd.isSome)

/-- The islands of the target begin to switch; with none to go dark the entry window opens at once. -/
def State.switchIslands (s : State) (t : Trans) : State :=
  let s := s.planPower t.target t.light
  let s := if sleeps t.target ∧ s.mode.toDark.isEmpty then { s with aon := { s.aon with window := true, entering := false } } else s
  s.pumpPower

/-- core_en of the clusters that THRIFT parks is cleared (R502). -/
def State.keepMask (s : State) : Nat :=
  let k := s.fld A.aonThriftCfg F.aonThriftCfg_keep_clusters
  if k = 0 then 1 else k
def State.clearParkedCores (s : State) : State :=
  let keep := (bitsOf 3 s.keepMask).foldl (fun m k => m ||| 0xFF * 2 ^ (8 * k)) 0
  s.setFld A.tskCtl F.tskCtl_core_en (s.fld A.tskCtl F.tskCtl_core_en &&& keep)

/-- A radio lit for VIGIL sampling becomes an ordinary lit radio when a transition begins. -/
def State.endListen (s : State) : State :=
  let i := 16 + s.aon.vgRadio
  let s' := { s with aon := { s.aon with vgListening := false } }
  if s.aon.vgListening ∧ (s.pw i).st = .reduced ∧ !(s.pw i).goingDark then
    (s'.setPw i { s.pw i with st := .lit }).lightRadio (i - 17)
  else s'

/-- A transition takes the slot and begins. From SERVICE to THRIFT the chain enables of SERVICE are noted and core_en cleared;
THRIFT to VIGIL waits for a steering run on every lit radio (R278). -/
def State.beginTrans (s : State) (t : Trans) : State :=
  let from_ := s.mode.mode
  let s := { s with mode := { s.mode with pending := some t }, aon := { s.aon with entering := sleeps t.target } }
  let s := if from_ = .service ∧ t.target = .thrift then s.noteService.clearParkedCores else s
  if from_ = .thrift ∧ t.target = .vigil then
    let s := (List.range 3).foldl (fun s r => if s.radLit r ∧ s.isLit 21 then s.startSteer r else s) s.fillBank.openAbsence
    if s.steering then { s with mode := { s.mode with pending := some { t with steering := true } } } else s.switchIslands t
  else
    s.endListen.switchIslands t

/-! ### Completion -/

/-- Clusters that THRIFT parks. -/
def State.toPark (s : State) : List Nat := (List.range 3).filter (fun k => !s.keepMask.testBit k && (s.pw (6 + k)).st == .lit)

/-- Does a core of the cluster hold an item? -/
def State.clusterBusy (s : State) (k : Nat) : Bool := (List.range 8).any (fun c => (s.heldBy (8 * k + c)).isSome)

/-- Chains of a radio in THRIFT: 0 acts as 1, above the radio's number as that number. -/
def State.thriftChains (s : State) (r : Nat) : Nat :=
  let f := if r = 0 then F.aonThriftCfg_chains_l else if r = 1 then F.aonThriftCfg_chains_m else F.aonThriftCfg_chains_h
  min (chainsOf r) (max 1 (s.fld A.aonThriftCfg f))

/-- The lowest n set bits of a mask. -/
def lowBits (n m : Nat) : Nat := ((bitsOf 8 m).take n).foldl setBit 0

/-- THRIFT's form: clusters parked, chains reduced, Kalhar Links thrifted (R383, R502). -/
def State.enterThrift (s : State) : State :=
  let s := s.toPark.foldl (fun s k => s.parkCluster k true) s
  let s := (List.range 3).foldl (fun s r =>
    if s.radLit r then
      let n := s.thriftChains r
      s.setChains r (lowBits n (without (s.mode.svcTx.getD r 0) (s.rd r).muted)) (lowBits n (s.mode.svcRx.getD r 0))
    else s) s
  (List.range 16).foldl (fun s p =>
    if s.isKl p ∧ s.klRev p = 2 ∧ (s.klParam p 3).testBit 1 then s.setFld (A.lnqKlCtl (p / 4) (p % 4)) F.lnqKlCtl_thrift_en 1
    else s) s

/-- May the transition complete: every island switched, steering over, no test hold in BOOT, no item held where THRIFT parks? -/
def State.canComplete (s : State) (t : Trans) : Bool :=
  s.powerSettled && !t.steering && !(s.mode.mode == .boot && s.cmd.testHold && t.target != .test)
    && (t.target != .thrift || s.toPark.all (fun k => !s.clusterBusy k))

/-- A provisioned device begins the transition that PROVISION_COMMIT waits for, once the slot is free; the request completes with
it, or at once where the device has left PROVISION (R539) (log entry 32). -/
def State.takeProvision (s : State) : State :=
  match s.mode.provisionDue, s.mode.pending with
  | some d, none =>
    if s.mode.mode = .provision then
      { s with mode := { s.mode with provisionDue := none } }.beginTrans
        ⟨.calibrate, .calibrate, 1, some d.req, d.light, false, some d.event⟩
    else s.endProvision
  | _, _ => s

/-- Is a die sensor above its alarm limit (R525)? -/
def State.tempAlarmed (s : State) : Bool :=
  s.cdm.die.any (fun t => decide (8 * signed 8 (s.fld A.cdmTempLimit F.cdmTempLimit_alarm) < t))

/-- Wake sources that hold their level by the state itself: 0 while a WRITE waits, 5 and 6 until cleared, 9 while a die sensor is
above its alarm limit (R496). -/
def State.heldSources (s : State) : Nat :=
  let st := A.aonVigilStatus
  let hit := s.bit st F.aonVigilStatus_hit_light0 || s.bit st F.aonVigilStatus_hit_light1 || s.bit st F.aonVigilStatus_hit_gpio
  (if s.cmd.hostRaw.isEmpty then 0 else 1) + (if hit then 32 else 0) + (if s.bit st F.aonVigilStatus_lantern_loss then 64 else 0)
    + (if s.tempAlarmed then 512 else 0)

/-- The wake sources enabled; source 0 always is. -/
def State.wakeEnabled (s : State) (src : Nat) : Bool := src == 0 || (s.fld A.aonWakeEn F.aonWakeEn_enable).testBit src

/-- A wake source acts: its status bit, and in VIGIL and HIBERNATE the cores start. Source 0 lets Cudom take the waiting request;
for another Cudom begins the transition by its policy, or halts the cores again (R497). -/
def State.wakeAct (s : State) (src : Nat) (go : Bool) (light : Nat) : State :=
  let a := A.aonWakeStatus
  let s := s.setFld a F.aonWakeStatus_wake (setBit (s.fld a F.aonWakeStatus_wake) src)
  if !sleeps s.mode.mode ∨ s.mode.pending.isSome then s
  else
    let s := s.startCores
    if src = 0 then (s.pumpHost 4).doze
    else if go ∧ s.mode.pending.isNone then
      let m := if s.mode.mode = .vigil then Mode.thrift else .vigil
      s.beginTrans ⟨m, m, 3, none, light, false, none⟩
    else s.doze

/-- The sources latched during the entry act. -/
def State.actLatched (s : State) (light : Nat) : State :=
  let m := s.aon.latched
  let g := s.aon.latchedGo
  let s := { s with aon := { s.aon with latched := 0, latchedGo := 0 } }
  (bitsOf 10 m).foldl (fun s k => s.wakeAct k (g.testBit k) light) s

/-- Fitted radios without a valid calibration record (R189). -/
def State.uncalibrated (s : State) : List Nat :=
  (List.range 3).filter (fun r => s.isFitted (17 + r) && !s.flash.calValid.getD r false)

/-- CALIBRATE goes on to SERVICE once every fitted radio has a valid calibration record (R41). -/
def State.leaveCalibrate (s : State) (light : Nat) : State :=
  if s.mode.mode = .calibrate ∧ s.mode.pending.isNone ∧ s.uncalibrated.isEmpty then
    s.beginTrans ⟨.service, .service, 2, none, light, false, none⟩
  else s

/-- The event that the completion of a transition's request names: the PROVISION_COMMIT that began it, else its MODE_CHANGE n
(R577). -/
def Trans.event (t : Trans) (n : Nat) : Nat := if t.target = .calibrate then t.eff.getD n else n

/-- The end of a transition: the mode changes; a chain goes on to its next mode (R42), else the request completes with its event in
its effect word. `light` is firmware's choice where a latched wake event begins the next transition (R569). -/
def State.finishTrans (s : State) (t : Trans) (light : Nat) : State :=
  let n := s.nextSeq 1
  let s := { s with mode := { s.mode with pending := none }, aon := { s.aon with entering := false } }
  let s := if t.target = .thrift then s.enterThrift
    else if t.target = .service ∧ s.mode.mode = .thrift then s.restoreService else s
  let s := s.setMode t.target t.cause t.req
  match chainStep t.target t.final with
  | some m => s.beginTrans { t with target := m, eff := some n }
  | none =>
    let s := s.complete t.req ST.ok (some (t.event n)) []
    let s := if sleeps t.target then s.haltCores else s
    let s := if sleeps t.target ∧ !s.aon.window then s.actLatched light else s
    s.takeProvision.leaveCalibrate t.light

/-- MODE_TRANSITION_COMPLETE (log entry 26). -/
def execModeTransitionComplete (light : Nat) (s : State) : Host.Outcome State Fault Refusal :=
  .next (match s.mode.pending with
  | some t => if s.canComplete t then s.finishTrans t light else s
  | none => s)

/-! ### Timeout -/

/-- A transition that stays in its mode: ST_TIMEOUT, which shows what the request had changed (R59), and the islands go back to
what the mode has. -/
def State.failTrans (s : State) (t : Trans) : State :=
  let s := { s with mode := { s.mode with pending := none }, aon := { s.aon with entering := false, window := false, latched := 0, latchedGo := 0 } }
  let s := if s.mode.mode = .service then s.restoreCores else s
  let s := s.complete t.req ST.timeout t.eff []
  let s := ((s.planPower s.mode.mode s.litMask).pumpPower).takeProvision
  if sleeps s.mode.mode then s.doze else s

/-- Islands that the transition lights and that are not lit. -/
def State.unlit (s : State) (m : Mode) (light : Nat) : List Nat :=
  wakeOrder.filter (fun i => s.isFitted i && s.renStep i == 0 && (match need m i with | some b => b | none => light.testBit i)
    && !((s.pw i).st == .lit || (s.pw i).st == .reduced || (s.pw i).st == .failed))

/-- MODE_TRANSITION_TIMEOUT: a limit of the transition table passes. With no transition pending, the limits are those of BOOT, of
CALIBRATE and of the golden image's start in RECOVERY (log entry 28). -/
def execModeTransitionTimeout (light : Nat) (s : State) : Host.Outcome State Fault Refusal :=
  .next (match s.mode.mode, s.mode.pending with
  | .boot, some t =>
    if t.target = .test then s.failTrans t
    else if s.cmd.testHold then s else s.enterRecovery 5 none light
  | .boot, none => if s.cmd.testHold ∨ !s.isLit 1 then s else s.enterRecovery 5 none light
  | .calibrate, _ => s.uncalibrated.foldl (fun s r => s.declareFailed (17 + r) light) s
  | .recovery, none => (s.assertFault F.aonFaultCause_recovery).failLights
  | m, some t =>
    if (m = .thrift ∧ t.target = .service) ∨ (m = .vigil ∧ t.target = .thrift) ∨ (m = .hibernate ∧ t.target = .vigil) then
      (s.unlit t.target t.light).foldl (fun s i => s.declareFailed i light) s
    else s.failTrans t
  | _, none => s)

/-! ### MODE_SET (R43, R45, R46, R557) -/

/-- MODE_CHANGE for OFF, raised with the reply that announces it. -/
def State.offWord (s : State) (cause : Nat) : Word :=
  { s with mode := { s.mode with mode := .off, prev := s.mode.mode, cause := cause, count := (s.mode.count + 1) % 256
                                 pending := none } }.deviceModeWord

/-- The source class that a command's source has (R53). -/
def srcClass : CmdSource → Nat
  | .waiting who => classOf who
  | .internal .. => 3

/-- One MODE_SET. `light` holds the islands marked E that firmware lights in the modes passed (R569). -/
def State.modeSet (s : State) (src : CmdSource) (light : Nat) : State :=
  s.withRequest src .modeSet fun s r =>
    let cause := if r.who = .internal then 2 else 1
    match modeOf (r.p 0 1) with
    | none => s.finish r ST.badParam none []
    | some .degraded => s.finish r ST.badParam none []
    | some .off =>
      let s := s.preempt
      let s := s.finishEv r 1 .modeChange 1 (s.offWord cause).toNat (s.fld A.cdmFailedIslands F.cdmFailedIslands_failed) []
      { s with mode := { s.mode with offReset := true } }
    | some .recovery =>
      if s.mode.mode = .recovery then s.finish r ST.ok none []
      else if s.mode.mode = .test then s.finish r ST.badMode none []
      else
        let s := s.pend r
        let n := s.nextSeq 1
        (s.enterRecovery 1 (some r) light).complete (some r) ST.ok (some n) []
    | some m =>
      if s.mode.pending.isSome then s.finish r ST.busy none []
      else if m = s.mode.mode then s.finish r ST.ok none []
      else match chainStep s.mode.mode m with
        | none => s.finish r ST.badMode none []
        | some next =>
          if sleeps m ∧ !s.aon.xtal32 then s.finish r ST.badMode none []
          else (s.pend r).beginTrans ⟨next, m, cause, some r, light, false, none⟩

/-- MODE_SET, and a mode request of a rival source that reaches Cudom in the same cycle: they are taken in the order of their source
class, lowest code first, and the one that comes second finds the slot taken (R48) (log entries 18, 24). -/
def execModeSet (src : CmdSource) (light : Nat) (rival : Option CmdSource) (s : State) : Host.Outcome State Fault Refusal :=
  .next (match rival with
  | none => s.modeSet src light
  | some src' => if srcClass src' < srcClass src then
      (s.modeSet src' light).modeSet src light else (s.modeSet src light).modeSet src' light)

/-- MODE_GET (R84). -/
def execModeGet (src : CmdSource) (s : State) : Host.Outcome State Fault Refusal :=
  .next (s.withRequest src .modeGet fun s r =>
    s.finish r ST.ok none (Crypto.toBE 4 s.deviceModeWord.toNat ++ Crypto.toBE 4 (s.reg A.cdmFailedIslands).toNat))

/-! ### Steering runs that end (R276, R278) -/

/-- The transition to VIGIL goes on once every steering run has ended. -/
def State.steeringOver (s : State) : State :=
  match s.mode.pending with
  | some t =>
    if t.steering ∧ !s.steering then
      let t := { t with steering := false }
      { s with mode := { s.mode with pending := some t } }.switchIslands t
    else s
  | none => s

/-- A renewal waits no longer for a steering run; DRAIN begins there, unless an absence is still to begin (R276, R518). -/
def State.drainAfterSteer (s : State) (r : Nat) : State :=
  let i := 17 + r
  match s.ren i with
  | some x =>
    if s.renStep i = 1 ∧ x.waitSteer then
      let x := { x with waitSteer := false }
      let s := s.setRen i (some x)
      if s.absBegun i then s.beginDrain i x else s
    else s
  | none => s

/-- STEER_LIMIT_END (R276) (log entry 76). -/
def execSteerLimitEnd (r : Rad) (s : State) : Host.Outcome State Fault Refusal :=
  .next (if s.isLit 21 ∧ (s.wr r).steerEnd.any (· ≤ s.elapsed) then ((s.steerFinish r).drainAfterSteer r).steeringOver else s)

/-- THRIFT_FILL_CHECK: free cells below fill_exit ask for SERVICE (R504). -/
def execThriftFillCheck (light : Nat) (s : State) : Host.Outcome State Fault Refusal :=
  .next (if s.mode.mode = .thrift ∧ s.mode.pending.isNone ∧ s.isLit 4
      ∧ s.freeCells < s.fld A.aonThriftCfg F.aonThriftCfg_fill_exit then
    s.beginTrans ⟨.service, .service, 2, none, light, false, none⟩
  else s)

end Sys2Proof.Machine
end

