-- ==== Sys2Proof/Machine/Power.lean ====
section
/-!
DEFINITION. The power manager: wake sequences, islands going dark, the entry window, wake events and the dark responder
(R485–R501, R573, R574).
-/

namespace Sys2Proof.Machine

/-! ### Wake sequence (R489–R492, R574) -/

/-- The island of a power unit: 32 and 33 are the gloves' own switches. -/
def unitIsland (u : Nat) : Nat := if 32 ≤ u then 1 else u

/-- The phase after one that is ready; a glove's oscillator phase ends at once. -/
def nextPhase (u : Nat) (renewal : Bool) : Phase → Option Phase
  | .regulator => some (if 32 ≤ u then .memory else .oscillator)
  | .oscillator => some .memory
  | .memory => some (if renewal then .restore else .logic)
  | .restore => some .logic
  | .logic => none

/-- A phase that was ready only on its retry path is logged (R490). -/
def State.notePath (s : State) (u : Nat) : State :=
  let p := s.pw u
  match p.retried, p.phase with
  | true, .regulator => (s.setPw u { p with bypass := true }).raise 0 .regBypass 0 2 [unitIsland u]
  | true, .oscillator => (s.setPw u { p with secondary := true }).raise 0 .oscSecondary 0 2 [unitIsland u]
  | _, _ => s

/-- CIP's retention check erases the slots that fail it (R291). -/
def State.eraseBad (s : State) (slot : Nat) : State :=
  (s.setKey slot { KeySlot.erased with gen := nextGen (s.key slot).gen }).raise 10 .keyRetainFail 0 2 [slot]

/-- A radio that AON lights for VIGIL sampling: REDUCED, chain 0 receiving, tuned to the listen channel, its tables from the
retention bank (R507). -/
def State.lightListener (s : State) (i : Nat) : State :=
  let r := i - 17
  let s := s.setPw i { s.pw i with st := .reduced }
  let s := s.setCal r { CalState.init with gainTable := s.aon.vgGains, bands := s.aon.vgBands }
  let f := (Tbl.get (fun _ => CalRec.init) s.calRecs r).failed
  let s := (s.setFld (A.radCtl r) F.radCtl_enable 1).setFld (A.radCtl r) F.radCtl_rx_chain_en (if f.testBit 0 then 0 else 1)
  (s.restLna r).tune r 0 (s.fld A.aonVigilAnchor F.aonVigilAnchor_centre) none

/-- What an island does when it is first lit outside a renewal: CDM starts both gloves; a MEM island trains before it serves
(R483); a radio loads its record (R179, R188). -/
def State.onLit (s : State) (i : Nat) : State :=
  if i = 1 then
    (if s.flash.grade = 2 then s.setReg A.cdmTempLimit 0x736E else s).resetGloves
  else if i = 11 ∨ i = 12 then s.setFld (A.memMirror (i - 11)) F.memMirror_held 1
  else if 17 ≤ i ∧ i ≤ 19 then
    if s.aon.vgListening ∧ i = 16 + s.aon.vgRadio then s.lightListener i else s.lightRadio (i - 17)
  else s

/-- LOGIC_READY: outside a renewal the island is LIT; in one it stays fenced and enters CALIBRATE, a MEM island held until it has
trained. -/
def State.unitLit (s : State) (u : Nat) : State :=
  let p := s.pw u
  let s := if 6 ≤ u ∧ u ≤ 8 then s.startClocks (u - 6) else s
  if p.renewal then
    let i := unitIsland u
    let s := (s.setPw u { p with st := .lit, retried := false }).setStep i 8
    if i = 11 ∨ i = 12 then (s.setFld (A.memMirror (i - 11)) F.memMirror_held 1).setMirror 1 else s
  else (((s.setPw u { p with st := .lit, retried := false, fenced := false, darkLogged := false }).onLit u).pumpPower)

/-- The end of the restore phase: the saved state stands in the island, and a MEM island has the other's table (R466, R514). -/
def State.restored (s : State) (u : Nat) : State :=
  match s.ren (unitIsland u) with
  | some r => if u < 32 ∧ !r.wasFailed then s.restoreSaved u r else s
  | none => s

/-- WAKE_PHASE_READY: the ready signal of a unit's phase; `bad` are key slots that fail CIP's check in its memory phase. -/
def execWakePhaseReady (u : Fin 34) (bad : List (Fin 4096)) (s : State) : Host.Outcome State Fault Refusal :=
  .next (let p := s.pw u
  if p.st = .waking then
    let s := s.notePath u
    let s := if u.val = 10 ∧ p.phase = .memory then bad.foldl (fun s k => s.eraseBad k.val) s else s
    let s := if p.phase = .restore then s.restored u else s
    match nextPhase u p.renewal p.phase with
    | some ph => s.setPw u { s.pw u with phase := ph, retried := false }
    | none => s.unitLit u
  else s)

/-- CDM fails to wake: the lights go to their system-failure level and the shadow shows DEGRADED, except in TEST and RECOVERY
(R492). -/
def State.cdmFault (s : State) : State :=
  let s := (s.setPw 1 { IslandPwr.init with st := .failed }).failLights
  let s := { s with mode := { s.mode with toLight := [], toDark := [] } }
  match s.mode.mode with
  | .off | .test | .recovery => s
  | _ => s.setMode .degraded 4 none

/-- A wake fault (R491, R492). -/
def State.wakeFault (s : State) (u light : Nat) : State :=
  let p := s.pw u
  let i := unitIsland u
  let a := A.aonWakeFault
  let s := (s.assertFault F.aonFaultCause_wake_fault).count A.aonWakeFaults
  let s := ((s.setFld a F.aonWakeFault_valid 1).setFld a F.aonWakeFault_island i).setFld a F.aonWakeFault_stage (phaseCode p.phase)
  if u = 1 then s.cdmFault
  else
    let s := s.raise 0 .wakeFault ST.wakeFault 3 [i, phaseCode p.phase]
    if 32 ≤ u then s.failRenewal 1 ST.wakeFault light
    else if p.renewal then s.failRenewal i ST.wakeFault light
    else
      let s := if s.aon.vgListening ∧ i = 16 + s.aon.vgRadio then { s with aon := { s.aon with vgListening := false } } else s
      s.declareFailed i light

/-- WAKE_PHASE_TIMEOUT: one retry, but none of the restore phase; then a wake fault (log entry 28). -/
def execWakePhaseTimeout (u : Fin 34) (light : Nat) (s : State) : Host.Outcome State Fault Refusal :=
  .next (let p := s.pw u
  if p.st = .waking then
    if p.phase ≠ .restore ∧ !p.retried then s.setPw u { p with retried := true } else s.wakeFault u light
  else s)

/-! ### Going dark (R485, R486, R494, R573) -/

/-- DRAM contents that self-refresh does not keep are lost when a MEM island sleeps (R485, R486): bytes on its channel outside
retained chambers. -/
def State.memSleep (s : State) (i : Nat) : State :=
  let n := i - 11
  let kept := (s.chambers n).filter (·.retained)
  let stays (x : Nat) : Bool := chanOf x != n || kept.any (fun c => c.base ≤ x && x < c.base + c.span)
  { s with dram := { s.dram with bytes := Tbl.drop (fun x => !stays x) s.dram.bytes
                                 poison := s.dram.poison.filter (fun l => stays (64 * l)), epoch := s.dram.epoch + 1 } }

/-- A port's frame under MACsec ends with a bad FCS. -/
def State.endSealed (s : State) (p : Nat) : State :=
  match (s.port p).tx with
  | some f => match f.slot with
    | some k => s.revokePort p k
    | none => s
  | none => s

/-- The output and tag buffers of a job abandoned in flight are undefined (R573). -/
def State.cipSpoil (s : State) (j : CipJob) : State :=
  if j.op.isNone then s
  else
    let s := s.spoil j.outAddr (if j.mode = 4 ∧ j.pad2 ∧ !j.decrypt then j.length / 16 * 16 + 16 else j.length)
    if j.mode ≤ 2 then s.spoil j.tagAddr j.tagLen else s

/-- CIP goes dark: operations in flight are abandoned, jobs are not written back, frames under its protection end, shadows go;
each operation and frame counts once in AON_DARK_LOSS (R573). Ports that need CIP stay those of its SA table (R498). -/
def State.cipDark (s : State) : State :=
  let ops := (s.cip.ops.filter (fun o => o.user != .hmac)).length + s.cip.rx.length
  let (s, n) := (List.range 3).foldl (fun (p : State × Nat) r =>
    let (s, k) := p.1.endFrames r (fun c => c.keySlot.isSome) ST.islandReset (fun s _ => s)
    (s, p.2 + k)) (s, ops)
  let s := (List.range 16).foldl (fun s p => s.endSealed p) s
  let s := s.cip.jobs.foldl State.cipSpoil s
  let (tx, rx) := if s.cipOn then (s.msecPorts 1, s.msecPorts 0) else (s.cip.needTx, s.cip.needRx)
  ({ s with cip := { CipState.init with needTx := tx, needRx := rx } }.showCip).countN (A.aonDarkLoss 10) n

/-- ISLAND_DARK: the rail of a unit has discharged: a renewal's DARK ends and LOAD begins; or an island of a mode transition is
dark, and the next one goes, or it wakes again where the mode now wants it lit. -/
def execIslandDark (u : Fin 34) (s : State) : Host.Outcome State Fault Refusal :=
  .next (let u := u.val
  let i := unitIsland u
  if !(s.pw u).goingDark then s
  else if 32 ≤ u then (s.setPw u IslandPwr.init).setStep 1 6
  else
    let s := if i = 10 then s.cipDark else s
    if s.renStep i = 5 then
      let s := s.clearIsland i false
      (s.setPw i { IslandPwr.init with fenced := true, darkLogged := (s.pw i).darkLogged }).setStep i 6
    else
      let asleep := sleeps ((s.mode.pending.map (·.target)).getD s.mode.mode)
      let s := if asleep ∧ (i = 11 ∨ i = 12) then s.memSleep i else s
      let s := s.clearIsland i asleep
      let s := s.setPw i { IslandPwr.init with darkLogged := (s.pw i).darkLogged }
      s.pumpPower)

/-! ### Wake events (R495–R497) -/

/-- Is the source level-type: 0 by what it stands for, GPIO by the level mask, 5, 6, 8, 9 always, 7 never? -/
def State.levelType (s : State) (src : Nat) : Bool :=
  if 1 ≤ src ∧ src ≤ 4 then (s.fld A.aonWakeLevel F.aonWakeLevel_level).testBit src
  else src == 5 || src == 6 || src == 8 || src == 9

/-- WAKE_EVENT: a source asserts; 5, 6 and 9 only while what they stand for holds. An event before the entry window waits for its
end, an edge inside it is lost, a level there acts at its end if it still holds. `go` is Cudom's policy (log entry 27). -/
def execWakeEvent (src : Fin 10) (go : Bool) (light : Nat) (s : State) : Host.Outcome State Fault Refusal :=
  .next (let k := src.val
  if s.mode.mode = .off ∨ !s.wakeEnabled k ∨ ((k = 5 ∨ k = 6 ∨ k = 9) ∧ !s.heldSources.testBit k) then s
  else if s.aon.window then s
  else if s.aon.entering ∨ s.mode.pending.any (fun t => sleeps t.target) then
    { s with aon := { s.aon with latched := setBit s.aon.latched k
                                 latchedGo := if go then setBit s.aon.latchedGo k else s.aon.latchedGo } }
  else s.wakeAct k go light)

/-- ENTRY_WINDOW_END: latched events act, and level sources that hold: those the state shows, and the GPIO and supply
sources of the mask. With the transition still pending they wait for its end (log entry 27). -/
def execEntryWindowEnd (held goMask : Fin 1024) (light : Nat) (s : State) : Host.Outcome State Fault Refusal :=
  .next (if s.aon.window then
    let ext := (bitsOf 10 held).filter (fun k => s.levelType k && k != 5 && k != 6 && k != 9 && s.wakeEnabled k)
    let own := (bitsOf 10 s.heldSources).filter s.wakeEnabled
    let m := (ext ++ own).foldl setBit s.aon.latched
    let s := { s with aon := { s.aon with window := false, latched := m, latchedGo := s.aon.latchedGo ||| goMask.val } }
    if s.mode.pending.isNone then s.actLatched light else s
  else s)

/-! ### The dark responder (R499–R501) -/

/-- DARK_ACCESS: a request to an island that does not answer its requester: a read returns 0 with a bus error, a write is
discarded; a DMA channel halts. -/
def execDarkAccess (who : Requester) (i : Fin 22) (off : Fin 0x1000000) (write : Bool) (s : State) :
    Host.Outcome State Fault Refusal :=
  .next (if i.val ≠ 0 ∧ !s.answers who i then
    let s := (s.darkRecord who i off write).busErr
    match who with
    | .dma c => s.dmaFault c (if write then 2 else 1) (win i + off)
    | _ => s
  else s)

end Sys2Proof.Machine
end

