-- ==== Sys2Proof/Machine/Vigil.lean ====
section
/-!
DEFINITION. VIGIL sampling and the opcodes of AON (R84, R496, R505–R510, R544).
-/

namespace Sys2Proof.Machine

/-! ### Cycles (R505, R506, R508–R510) -/

/-- Is the device in VIGIL or HIBERNATE with a programme and no transition under way? -/
def State.sampling (s : State) : Bool := sleeps s.mode.mode && s.mode.pending.isNone && s.aon.vgPeriod != 0

/-- VIGIL_CYCLE_POINT: one period after the last; the cycle begins, and its boundary is the first of the parent's rounds at least
2 ms on (log entry 27). -/
def execVigilCyclePoint (s : State) : Host.Outcome State Fault Refusal :=
  .next (if s.sampling ∧ s.aon.vgPoint + 1000000 * s.aon.vgPeriod ≤ s.elapsed then
    let len := 125000 * max 1 (s.fld A.aonVigilAnchor F.aonVigilAnchor_round_units)
    let b := (s.nowNs + 2000000 + len - 1) / len * len
    { s with aon := { s.aon with vgSampling := true, vgBoundary := b, vgPoint := s.elapsed } }.count A.aonVigilCycles
  else s)

/-- The Sample and Compare phases of a cycle, ns: 250 µs and one cycle of 32.768 kHz (R506). -/
def compareTime : Nat := 250000 + 30517

/-- VIGIL_COMPARE: once the cycle's Sample and Compare phases are over, the averaged light codes and the GPIO levels have been
compared; a light comparison hits in its second cycle in a row, and a hit asserts wake source 5. -/
def execVigilCompare (light0 light1 : Fin 4096) (gpio : Fin 16) (s : State) : Host.Outcome State Fault Refusal :=
  .next (if s.sampling ∧ s.aon.vgSampling ∧ s.aon.vgPoint + compareTime ≤ s.elapsed then
    let a := A.aonVigilStatus
    let past (dir : Fld) (v thr : Nat) : Bool := if s.bit A.aonVigilCmp dir then decide (thr < v) else decide (v < thr)
    let p0 := past F.aonVigilCmp_dir0 light0 s.aon.vgThr0
    let p1 := past F.aonVigilCmp_dir1 light1 s.aon.vgThr1
    let hitG := (bitsOf 4 s.aon.vgGpioMask).any (fun k => gpio.val.testBit k == s.aon.vgGpioLevel.testBit k)
    let hit (s : State) (f : Fld) (b : Bool) : State := if b then s.setFld a f 1 else s
    let s := (s.setFld a F.aonVigilStatus_light0 light0).setFld a F.aonVigilStatus_light1 light1
    let s := hit s F.aonVigilStatus_hit_light0 (p0 && s.aon.vgPrev0)
    let s := hit s F.aonVigilStatus_hit_light1 (p1 && s.aon.vgPrev1)
    let s := hit s F.aonVigilStatus_hit_gpio hitG
    { s with aon := { s.aon with vgSampling := false, vgPrev0 := p0, vgPrev1 := p1, gpio := gpio.val } }
  else s)

/-- Half a listen, ns (R506, R510). -/
def State.halfListen (s : State) : Nat := 62500 * s.aon.vgListen

/-- VIGIL_RADIO_WAKE: in VIGIL, a millisecond and half a listen before the boundary of the cycle, AON lights the programme's radio. -/
def execVigilRadioWake (s : State) : Host.Outcome State Fault Refusal :=
  .next (let i := 16 + s.aon.vgRadio
  let b := s.aon.vgBoundary
  if s.sampling ∧ b ≤ s.nowNs + s.halfListen + 1000000 ∧ s.nowNs < b + s.halfListen ∧ s.mode.mode = .vigil
      ∧ s.aon.vgRadio ≠ 0 ∧ !s.aon.vgListening ∧ (s.pw i).st = .dark ∧ s.isFitted i then
    { s with aon := { s.aon with vgListening := true } }.startWake i false
  else s)

/-- The listen ends: the radio goes dark. -/
def State.listenOver (s : State) : State :=
  { s with aon := { s.aon with vgListening := false } }.startDark (16 + s.aon.vgRadio)

/-- Is the radio of the cycle lit and listening? -/
def State.listening (s : State) : Bool :=
  s.sampling && s.aon.vgListening && (s.pw (16 + s.aon.vgRadio)).st == .reduced

/-- Is the radio of the cycle on its channel: the active synthesiser locked (R93, R506)? -/
def State.onAnchor (s : State) : Bool :=
  let r := s.aon.vgRadio - 1
  s.synState r (s.synActive r) == 2

/-- VIGIL_LANTERN_FOUND: an H-SIG with a correct check, of version 0 and type LANTERN, whose RF start lies in the listen, with its
receive stamp (2^−16 ns): the stamp is kept, the misses clear, and TIME may get a sample, which never steps the clock (R508, R509).
-/
def execVigilLanternFound (hsig stamp : Nat) (s : State) : Host.Outcome State Fault Refusal :=
  .next (let half := 65536 * s.halfListen
  let b := 65536 * s.aon.vgBoundary
  let lantern : Bool := hsigField hsig 47 40 == hsigCrc hsig && hsigVersion hsig == 0 && hsigType hsig == 0
  if s.listening ∧ s.onAnchor ∧ lantern ∧ b ≤ stamp + half ∧ stamp ≤ b + half then
    let s := s.setFld A.aonVigilStamp F.aonVigilStamp_count (stamp / 65536 % 2 ^ 32)
    let s := s.setFld A.aonVigilStatus F.aonVigilStatus_misses 0
    let s := if s.bit A.aonVigilCmp F.aonVigilCmp_time_en ∧ s.bit A.timeCtl F.timeCtl_src then
        let th : Int := (stamp : Int) - b - 256 * s.fld A.timePath F.timePath_path_delay
        let far : Int := if th < 0 then -th else th
        if 10000 * 65536 < far ∨ s.stepThresh < far then s.count A.timeOffsetDiscard else s.offerSample true th
      else s
    s.listenOver
  else s)

/-- VIGIL_LISTEN_END: half a listen after the boundary no lantern is found: a miss, and at miss_limit the lantern is lost (R508)
(log entry 27). -/
def execVigilListenEnd (s : State) : Host.Outcome State Fault Refusal :=
  .next (if s.listening ∧ s.aon.vgBoundary + s.halfListen ≤ s.nowNs then
    let a := A.aonVigilStatus
    let n := min 15 (s.fld a F.aonVigilStatus_misses + 1)
    let lim := s.fld A.aonVigilCmp F.aonVigilCmp_miss_limit
    let s := (s.setFld a F.aonVigilStatus_misses n).count A.aonVigilLanternMiss
    let s := if lim ≠ 0 ∧ lim ≤ n then s.setFld a F.aonVigilStatus_lantern_loss 1 else s
    s.listenOver
  else s)

/-- VIGIL_STATUS_CLEAR: a write of AON_VIGIL_STATUS: ones clear their bits, which deasserts sources 5 and 6; clearing lantern_loss
clears the miss count. -/
def execVigilStatusClear (who : Requester) (w : Word) (s : State) : Host.Outcome State Fault Refusal :=
  .next (if isCudom who then
    let a := A.aonVigilStatus
    let s := s.setReg a (D.aonVigilStatus.write false (s.reg a) w)
    (if F.aonVigilStatus_lantern_loss.get w = 1 then s.setFld a F.aonVigilStatus_misses 0 else s).busOk 0
  else s.busOk 0)

/-! ### Opcodes of AON (R84, R496, R510, R544) -/

/-- WAKE_CONFIG: source 0 stays enabled. -/
def execWakeConfig (src : CmdSource) (s : State) : Host.Outcome State Fault Refusal :=
  .next (s.withRequest src .wakeConfig fun s r =>
    let en := setBit (r.p 0 4) 0
    let s := (s.setFld A.aonWakeEn F.aonWakeEn_enable en).setFld A.aonWakeLevel F.aonWakeLevel_level (r.p 4 4)
    s.finishEv r 0 .wakeConfig 1 en (r.p 4 4) [])

/-- VIGIL_PROGRAM: period, radio, listen, thresholds, GPIO mask and level; comparisons start afresh. -/
def execVigilProgram (src : CmdSource) (s : State) : Host.Outcome State Fault Refusal :=
  .next (s.withRequest src .vigilProgram fun s r =>
    let s := { s with aon := { s.aon with
      vgPeriod := r.p 0 4, vgRadio := r.p 4 1, vgListen := r.p 6 2, vgThr0 := r.p 8 2, vgThr1 := r.p 10 2
      vgGpioMask := r.p 12 1, vgGpioLevel := r.p 13 1, vgPoint := s.elapsed, vgPrev0 := false, vgPrev1 := false } }
    s.finishEv r 0 .vigilProgram 1 (r.p 0 4) (r.p 4 1) [])

/-- FAULT_CLEAR: refused while an island or glove is declared failed; a temperature that is still in alarm sets its cause again
(log entry 32). -/
def execFaultClear (src : CmdSource) (s : State) : Host.Outcome State Fault Refusal :=
  .next (s.withRequest src .faultClear fun s r =>
    if s.fld A.cdmFailedIslands F.cdmFailedIslands_failed ≠ 0 ∨ s.gloveDown then s.finish r ST.badMode none []
    else
      let before := (s.reg A.aonFaultCause).toNat
      let s := s.setReg A.aonFaultCause 0
      let s := if s.tempAlarmed then s.assertFault F.aonFaultCause_temp_alarm else s
      s.finishEv r 0 .faultClear 1 before (s.reg A.aonFaultCause).toNat [])

end Sys2Proof.Machine
end

