-- ==== Sys2Proof/Machine/Images.lean ====
section
/-!
DEFINITION. Firmware images in the external flash, their verification, and the image opcodes (R532, R534–R538).
-/

namespace Sys2Proof.Machine

open Crypto (toBE)

/-! ### Images (R534, R535) -/

/-- Bytes of an image slot; an erased byte reads 0xFF. -/
def imgBytes (t : Tbl Byte) (off n : Nat) : List Byte := readBytes 0xFF t off n

/-- A little-endian number of an image. -/
def imgLE (t : Tbl Byte) (off n : Nat) : Nat := Crypto.ofBE (imgBytes t off n).reverse

/-- Segments of an image. -/
def imgSegs (t : Tbl Byte) : Nat := imgLE t 12 2

/-- Does an image hold a segment for an island? -/
def imgHas (t : Tbl Byte) (i : Nat) : Bool := (List.range (min 21 (imgSegs t))).any (fun k => imgLE t (256 + 64 * k) 1 == i)

/-- Is the hash of segment k right? -/
def segOk (t : Tbl Byte) (k : Nat) : Bool :=
  let a := 256 + 64 * k
  Crypto.sha384 (imgBytes t (imgLE t (a + 4) 4) (imgLE t (a + 8) 4)) == imgBytes t (a + 16) 48

/-- What IMAGE_VERIFY finds: 0 valid, 1 key, signature or version wrong, 2 a segment hash wrong, 3 erased (R535). A header that is
not that of an image counts under 1 (log entries 5, 31). -/
def verifyImage (keyHash : List Byte) (minVersion : Nat) (t : Tbl Byte) : Nat :=
  let n := imgSegs t
  if t.isEmpty then 3
  else if imgBytes t 0 4 ≠ [0x4B, 0x48, 0x37, 0x34] ∨ imgLE t 4 2 ≠ 1 ∨ n = 0 ∨ 21 < n then 1
  else
    let pub := imgBytes t 16 97
    if Crypto.sha384 pub ≠ keyHash
      ∨ !Crypto.ecdsaVerify pub (imgBytes t 128 96) (imgBytes t 0 128 ++ imgBytes t 256 (64 * n)) ∨ imgLE t 6 2 < minVersion then 1
    else if (List.range n).all (segOk t) then 0
    else 2

/-- An image slot: 0 A, 1 B, else golden. -/
def FlashState.slot (f : FlashState) (n : Nat) : Tbl Byte := if n = 0 then f.slotA else if n = 1 then f.slotB else f.golden

/-- Is a slot's last verification after its last staging good? -/
def FlashState.valid (f : FlashState) (n : Nat) : Bool := if n = 0 then f.validA else if n = 1 then f.validB else false

def FlashState.setValid (f : FlashState) (n : Nat) (b : Bool) : FlashState :=
  if n = 0 then { f with validA := b } else { f with validB := b }

/-- The slot a staged renewal reads: the one last found valid, if it still is and holds the island (R514). -/
def State.stagedSlot (s : State) (i : Nat) : Option Nat :=
  let n := s.flash.lastValid
  if s.flash.valid n ∧ imgHas (s.flash.slot n) i then some n else none

/-- A reset during the program of a staged page: what stands where it was to be written is open (R556; log entry 3). -/
def State.spoilStage (s : State) : State :=
  match s.cdm.jobs.stage with
  | [] => s
  | r :: _ =>
    if !s.cdm.jobs.stageBegun then s
    else
      let put (t : Tbl Byte) : Tbl Byte := (List.range (r.params.length - 8)).foldl (fun t i =>
        Tbl.set (fun _ => 0xFF) (r.p 4 4 + i) (Config.freeByte s.free (2 ^ 43 + i)) t) t
      let f := s.flash
      { s with flash := if r.p 0 1 = 0 then { f with slotA := put f.slotA } else { f with slotB := put f.slotB }
               free := s.free + 1 }

/-! ### Opcodes (R535, R537, R538) -/

def State.setJobs (s : State) (j : CdmJobs) : State := { s with cdm := { s.cdm with jobs := j } }

/-- Is a renewal in LOAD reading from a slot? -/
def State.loadsFrom (s : State) (n : Nat) : Bool :=
  s.flash.lastValid == n && (List.range 22).any (fun i => s.renStep i == 6 && s.bit (A.aonRenew i) F.aonRenew_image)

/-- IMAGE_STAGE: ST_PENDING, and the program waits for the flash; the slot is not valid from now on. Slot 2 is the golden one
(log entry 31). -/
def execImageStage (src : CmdSource) (s : State) : Host.Outcome State Fault Refusal :=
  .next (s.withRequest src .imageStage fun s r =>
    let n := r.p 0 1
    if n = 2 then s.finish r ST.denied none []
    else if s.cdm.slotBooted = n + 1 then s.finish r ST.badParam none []
    else if s.loadsFrom n then s.finish r ST.busy none []
    else
      let j := s.cdm.jobs
      let alters := s.flash.valid n
      ({ s with flash := s.flash.setValid n false }.pend r).setJobs { j with
        stage := j.stage ++ [r], altered := if alters then j.altered ++ [r] else j.altered })

/-- IMAGE_STAGE_DONE: the flash program of a page of the oldest staged request starts, or its last page has been programmed and it
completes (log entry 31). -/
def execImageStageDone (ended : Bool) (s : State) : Host.Outcome State Fault Refusal :=
  .next (match s.cdm.jobs.stage with
  | [] => s
  | r :: rest =>
    let j := s.cdm.jobs
    if s.cdm.halted ∨ s.cdm.held ∨ !s.isLit 1 then s
    else if !ended then
      s.setJobs { j with stageBegun := true, altered := if j.altered.contains r then j.altered else j.altered ++ [r] }
    else
      let n := r.p 0 1
      let put (t : Tbl Byte) : Tbl Byte :=
        ((r.params.drop 8).foldl (fun (p : Tbl Byte × Nat) b => (Tbl.set (fun _ => 0xFF) p.2 b p.1, p.2 + 1)) (t, r.p 4 4)).1
      let f := s.flash
      let f := (if n = 0 then { f with slotA := put f.slotA } else { f with slotB := put f.slotB }).setValid n false
      let s := { s with flash := f }.setJobs
        { j with stage := rest, stageBegun := false, altered := j.altered.filter (· != r) }
      (if s.isOut r then s.finishEv r 1 .imageStage 1 0 0 [] else s).doze)

/-- IMAGE_VERIFY: ST_PENDING, and the slot is being checked. -/
def execImageVerify (src : CmdSource) (s : State) : Host.Outcome State Fault Refusal :=
  .next (s.withRequest src .imageVerify fun s r =>
    let j := s.cdm.jobs
    (s.pend r).setJobs { j with verify := j.verify ++ [(r, r.p 0 1)] })

/-- IMAGE_VERIFY_DONE: the oldest verification ends with its result and the segment count; a slot's verdict that changes is a change
of state (R58). -/
def execImageVerifyDone (s : State) : Host.Outcome State Fault Refusal :=
  .next (match s.cdm.jobs.verify with
  | [] => s
  | (r, n) :: rest =>
    if s.cdm.halted ∨ s.cdm.held ∨ !s.isLit 1 then s
    else
      let t := s.flash.slot n
      let v := verifyImage s.flash.keyHash s.flash.minVersion t
      let f := s.flash.setValid n (v == 0)
      let f := if v = 0 then { f with lastValid := n } else f
      let changed := decide (f ≠ s.flash)
      let s := { s with flash := f }.setJobs { s.cdm.jobs with verify := rest }
      let ps := toBE 1 v ++ toBE 1 (if v = 3 then 0 else imgSegs t) ++ [0, 0]
      (if changed ∧ s.isOut r then s.finishEv r 1 .imageVerify 1 0 0 ps else s.complete (some r) ST.ok none ps).doze)

/-- IMAGE_ACTIVATE: the boot record names the slot as a trial. -/
def execImageActivate (src : CmdSource) (s : State) : Host.Outcome State Fault Refusal :=
  .next (s.withRequest src .imageActivate fun s r =>
    let n := r.p 0 1
    if !s.flash.valid n then s.finish r ST.badParam none []
    else
      let s := { s with flash := { s.flash with bootSlot := n, trial := true, trialCount := 0 } }.setFld
        A.cdmBootStatus F.cdmBootStatus_trial 1
      s.finishEv r 1 .imageActivate 1 n (imgLE (s.flash.slot n) 6 2) [])

end Sys2Proof.Machine
end

