-- ==== Sys2Proof/Machine/Log.lean ====
section
/-!
DEFINITION. The log: entries, tiers, suppression and LOG_READ (R527–R531, R575, R576).
-/

namespace Sys2Proof.Machine

open Crypto (toBE)

/-! ### Entries (R527) -/

/-- An event's name as the manual writes it. -/
def Ev.name : Ev → String
  | .handshakeTimeout => "HANDSHAKE_TIMEOUT" | .modeChange => "MODE_CHANGE" | .wakeFault => "WAKE_FAULT"
  | .gloveFailed => "GLOVE_FAILED" | .cudomWatchdog => "CUDOM_WATCHDOG" | .keyWrite => "KEY_WRITE" | .keyErase => "KEY_ERASE"
  | .servoMode => "SERVO_MODE" | .wakeConfig => "WAKE_CONFIG" | .vigilProgram => "VIGIL_PROGRAM"
  | .faultClear => "FAULT_CLEAR" | .provisionCommit => "PROVISION_COMMIT" | .imageActivate => "IMAGE_ACTIVATE"
  | .rejoin => "REJOIN" | .imageStage => "IMAGE_STAGE" | .imageVerify => "IMAGE_VERIFY"
  | .calInvalidate => "CAL_INVALIDATE" | .calRun => "CAL_RUN"
  | .retrain => "RETRAIN" | .timeStep => "TIME_STEP" | .timeHoldover => "TIME_HOLDOVER" | .cmdAuthFail => "CMD_AUTH_FAIL"
  | .regBypass => "REG_BYPASS" | .oscSecondary => "OSC_SECONDARY" | .islandDarkAccess => "ISLAND_DARK_ACCESS"
  | .prepareLate => "PREPARE_LATE" | .keyRetainFail => "KEY_RETAIN_FAIL" | .tempWarn => "TEMP_WARN"
  | .tempAlarm => "TEMP_ALARM" | .thermalTrip => "THERMAL_TRIP" | .railOut => "RAIL_OUT" | .refFault => "REF_FAULT"
  | .daliBusDown => "DALI_BUS_DOWN" | .bootFallback => "BOOT_FALLBACK" | .synFault => "SYN_FAULT"
  | .mapStoreFull => "MAP_STORE_FULL" | .holPnWarn => "HOL_PN_WARN" | .wlanPnWarn => "WLAN_PN_WARN" | .pnWarn => "PN_WARN"
  | .lanternLost => "LANTERN_LOST" | .linkLost => "LINK_LOST" | .partnerLeft => "PARTNER_LEFT"
  | .partnerDim => "PARTNER_DIM" | .partnerDrop => "PARTNER_DROPPED" | .linkUp => "LINK_UP" | .linkDown => "LINK_DOWN"
  | .linkFlap => "LINK_FLAP" | .pauseIgnored => "PAUSE_IGNORED" | .mismatch => "MISMATCH"
  | .memEccUe => "MEM_ECC_UE" | .memUnmapped => "MEM_UNMAPPED" | .memHeldAccess => "MEM_HELD_ACCESS"
  | .dramHot => "DRAM_HOT" | .tskLongRun => "TSK_LONG_RUN"

/-- The ASCII bytes of a name, zero-padded to 24. -/
def nameBytes (n : String) : List Byte :=
  let l := n.toList.map (fun c => BitVec.ofNat 8 c.toNat)
  l ++ List.replicate (24 - l.length) 0

/-- A number in n bytes, little-endian. -/
def le (n v : Nat) : List Byte := (toBE n v).reverse

/-- The 64 bytes of a log entry. -/
def Event.bytes (e : Event) : List Byte :=
  le 6 e.sec ++ le 4 e.ns ++ le 2 e.frac ++ le 2 e.src ++ le 2 e.seq ++ le 2 e.status ++ le 1 e.sev ++ le 1 e.flags ++ le 4 0
    ++ nameBytes e.name.name ++ ((List.range 4).map (fun i => le 4 (e.detail.getD i 0))).flatten

/-! ### Tiers (R528, R529, R575) -/

def State.setLog (s : State) (l : LogState) : State := { s with log := l }

/-- Tier 0 takes an entry; the oldest of 4 096 is overwritten. -/
def State.toTier0 (s : State) (e : Event) : State :=
  let full := 4096 ≤ s.log.tier0.length
  let t := if full then s.log.tier0.drop 1 else s.log.tier0
  let s := s.setLog { s.log with tier0 := t ++ [e], next0 := (s.log.next0 + 1) % 2 ^ 32 }
  if full then s.count A.cdmLogOverwrite else s

/-- Does a MEM island serve the log chamber: mirrored, retained, 64 MiB (R528)? -/
def State.servesLog (s : State) : Bool :=
  [0, 1].any (fun n => s.isLit (memId n) && !s.held n && (s.chambers n).any (fun c => c.mirrored && c.retained && c.size == 0x4000000))

/-- Tier 1 takes an entry while a MEM island serves it; the oldest of 1 048 576 is overwritten. -/
def State.toTier1 (s : State) (e : Event) : State :=
  if s.servesLog then
    let full := 1048576 ≤ s.log.tier1.length
    let t := if full then s.log.tier1.drop 1 else s.log.tier1
    let s := s.setLog { s.log with tier1 := t ++ [e], next1 := (s.log.next1 + 1) % 2 ^ 32 }
    if full then s.count A.cdmLogOverwrite else s
  else s

/-- The staging buffer of tier 2, 64 entries, takes an entry or drops it. -/
def State.toStaging (s : State) (e : Event) : State :=
  if s.log.staging.length < 64 then
    s.setLog { s.log with staging := s.log.staging ++ [e], stagedAt := if s.log.staging.isEmpty then s.elapsed else s.log.stagedAt }
  else s.count A.cdmLogFlashDrop

/-- An entry is taken. -/
def State.takeEntry (s : State) (e : Event) (tier2 : Bool) : State :=
  let s := (s.toTier0 e).toTier1 e
  if tier2 then s.toStaging e else s

/-! ### Suppression (R530) -/

/-- Is this the record of entries of a name, source and second? -/
def Suppress.for (x : Suppress) (e : Event) : Bool := x.name == e.name && x.src == e.src && x.sec == e.sec

/-- An entry of a name and source in its second: the first 16 are taken, every later one is suppressed. -/
def State.countEntry (s : State) (e : Event) : State :=
  let big := decide (2 ≤ e.sev)
  match s.log.supp.find? (·.for e) with
  | none => (s.setLog { s.log with supp := s.log.supp ++ [⟨e.name, e.src, e.sec, 1, 0, 0, e, false⟩] }).takeEntry e big
  | some x =>
    let put (y : Suppress) : State := s.setLog { s.log with supp := s.log.supp.map (fun z => if z.for e then y else z) }
    if x.taken < 16 then (put { x with taken := x.taken + 1 }).takeEntry e big
    else put { x with count := x.count + 1, firstSeq := if x.count = 0 then e.seq else x.firstSeq, last := e
                      tier2 := x.tier2 || big }

/-- LOG_ENTRY: CDM hardware takes the oldest event that waits (log entries 17, 33). -/
def execLogEntry (s : State) : Host.Outcome State Fault Refusal :=
  .next (match s.log.events with
  | e :: rest => if s.isLit 1 then (s.setLog { s.log with events := rest }).countEntry e else s
  | [] => s)

/-- A record whose second has ended, with no event of it still waiting. -/
def State.secondOver (s : State) (x : Suppress) : Bool := x.sec != s.nowSec && !s.log.events.any x.for

/-- The summary of suppressed entries. -/
def State.summary (s : State) (x : Suppress) : Event :=
  { sec := s.nowSec, ns := s.nowSub, frac := s.nowFrac, src := x.src, seq := x.last.seq, status := x.last.status
    sev := x.last.sev, flags := 2 + (if (s.fld A.timeQuality F.timeQuality_quality).testBit 7 then 0 else 1)
    name := x.name, detail := [x.count, x.firstSeq] }

/-- LOG_SUPPRESS_SUMMARY: the oldest second with suppressed entries that has ended gives its summary; records of ended seconds
without any are forgotten (log entry 33). -/
def execLogSuppressSummary (s : State) : Host.Outcome State Fault Refusal :=
  .next (if s.isLit 1 then
    let s := s.setLog { s.log with supp := s.log.supp.filter (fun x => !(s.secondOver x && x.count == 0)) }
    match s.log.supp.find? s.secondOver with
    | some x =>
      let s := s.setLog { s.log with supp := s.log.supp.filter (fun y => !(y.for x.last)) }
      (s.count A.cdmLogSuppressed).takeEntry (s.summary x) x.tier2
    | none => s
  else s)

/-- Does a glove run? -/
def State.glovesRun (s : State) : Bool := s.isLit 1 && !s.cdm.halted && !s.cdm.held

/-- Is a page of tier 2 due: 64 entries wait, or 60 s have passed since the first, and 10 s since the last page (R529)? -/
def State.pageDue (s : State) : Bool :=
  decide (64 ≤ s.log.staging.length ∨ (s.log.staging ≠ [] ∧ s.log.stagedAt + 60 * nsPerSec ≤ s.elapsed))
    && s.log.pageAt.all (fun t => decide (t + 10 * nsPerSec ≤ s.elapsed))

/-- LOG_PAGE_WRITE: the primary glove writes the staged entries to tier 2, whose oldest of 262 144 are overwritten
(log entry 33). -/
def execLogPageWrite (s : State) : Host.Outcome State Fault Refusal :=
  .next (if s.glovesRun ∧ s.pageDue then
    let n := s.log.staging.length
    let t := s.flash.tier2 ++ s.log.staging
    let f := { s.flash with tier2 := t.drop (t.length - 262144), tier2Next := (s.flash.tier2Next + n) % 2 ^ 32 }
    { s with flash := f }.setLog { s.log with staging := [], pageAt := some s.elapsed }
  else s)

/-! ### LOG_READ (R531) -/

/-- A tier's entries and the index of its next one. -/
def State.tier (s : State) (t : Nat) : List Event × Nat :=
  if t = 0 then (s.log.tier0, s.log.next0) else if t = 1 then (s.log.tier1, s.log.next1) else (s.flash.tier2, s.flash.tier2Next)

/-- The reply parameters: next index, entries, reserved, entries from index max(start, oldest held). -/
def State.logPage (s : State) (t most start : Nat) : List Byte :=
  let (l, next) := s.tier t
  let oldest := next - l.length
  let from_ := max start oldest
  let es := (l.drop (from_ - oldest)).take most
  toBE 4 (from_ + es.length) ++ toBE 2 es.length ++ [0, 0] ++ (es.map Event.bytes).flatten

/-- LOG_READ: ST_PENDING, and the entries are gathered. -/
def execLogRead (src : CmdSource) (s : State) : Host.Outcome State Fault Refusal :=
  .next (s.withRequest src .logRead fun s r =>
    let j := s.cdm.jobs
    (s.pend r).setJobs { j with logRead := j.logRead ++ [r] })

/-- LOG_READ_DONE: the oldest LOG_READ completes; tier 1 needs a lit MEM island. -/
def execLogReadDone (s : State) : Host.Outcome State Fault Refusal :=
  .next (match s.cdm.jobs.logRead with
  | [] => s
  | r :: rest =>
    if !s.glovesRun then s
    else
      let s := s.setJobs { s.cdm.jobs with logRead := rest }
      let t := r.p 0 1
      (if t = 1 ∧ !s.isLit 11 ∧ !s.isLit 12 then s.complete (some r) ST.islandDark none []
      else s.complete (some r) ST.ok none (s.logPage t (r.p 2 2) (r.p 4 4))).doze)

end Sys2Proof.Machine
end

