-- ==== Sys2Proof/Machine/Dali.lean ====
section
/-!
DEFINITION. The two DALI-2 application controllers (R541–R543).
-/

namespace Sys2Proof.Machine

open Crypto (toBE)

/-- A bus's controller. -/
def State.dali (s : State) (b : Nat) : DaliBus := if b = 0 then s.cdm.dali0 else s.cdm.dali1
def State.setDali (s : State) (b : Nat) (d : DaliBus) : State :=
  { s with cdm := if b = 0 then { s.cdm with dali0 := d } else { s.cdm with dali1 := d } }

/-- The interface-failure state (R543): CDM dark or failed to wake, a failed RECOVERY entry, both gloves held, or enable 0. -/
def State.daliFails (s : State) (b : Nat) : Bool :=
  (s.dali b).failed || s.cdm.held || !s.isLit 1 || !s.bit (A.cdmDaliCtl b) F.cdmDaliCtl_enable

/-- The next waiting frame takes an idle bus; on a bus in the interface-failure state waiting DALI_SENDs return ST_BUSY and
scheduled frames are lost. -/
def State.runDali (s : State) (b : Nat) : State :=
  let d := s.dali b
  if s.daliFails b then
    d.queue.foldl (fun s f => s.complete f.req ST.busy none []) (s.setDali b { d with queue := [] })
  else match d.busy, d.queue with
    | none, f :: rest => s.setDali b { d with busy := some f, queue := rest }
    | _, _ => s

/-- DALI_SEND: refused on a bus in the interface-failure state, else it waits for the bus (log entry 35). -/
def execDaliSend (src : CmdSource) (s : State) : Host.Outcome State Fault Refusal :=
  .next (s.withRequest src .daliSend fun s r =>
    let b := r.p 0 1
    if s.daliFails b then s.finish r ST.busy none []
    else
      let fl := r.p 2 1
      let d := s.dali b
      (s.setDali b { d with queue := d.queue ++ [⟨r.p 1 1 == 24, fl.testBit 1, fl.testBit 0, r.p 4 4, some r, s.elapsed, 0⟩] }).runDali b)

/-- The bus is free again. -/
def State.freeDali (s : State) (b : Nat) : State := (s.setDali b { s.dali b with busy := none }).runDali b

/-- The reply of a DALI_SEND: result, backward frame. -/
def daliReply (result back : Nat) : List Byte := toBE 1 result ++ toBE 1 back ++ [0, 0]

/-- The 1 s limit of the oldest DALI_SEND of a bus: it sends nothing further. -/
def State.daliTimeout (s : State) (b : Nat) : State :=
  let d := s.dali b
  let late (f : DaliFrame) : Bool := f.req.isSome && decide (f.since + nsPerSec ≤ s.elapsed)
  match d.busy.filter late with
  | some f => (s.complete f.req ST.timeout none []).freeDali b
  | none => match d.queue.find? late with
    | some f => (s.setDali b { d with queue := d.queue.erase f }).complete f.req ST.timeout none []
    | none => s

/-- DALI_SEND_DONE: the frame on a bus ends, a scheduled one without an answer; one that loses arbitration backs off and is sent again,
a DALI_SEND nine times (R541) (log entry 35). -/
def execDaliSendDone (b : Fin 2) (how : DaliEnd) (s : State) : Host.Outcome State Fault Refusal :=
  .next (match how, (s.dali b).busy with
  | .timeout, _ => (s.daliTimeout b).doze
  | _, none => s
  | .collided, some f =>
    if f.req.isSome ∧ 9 ≤ f.losses then (((s.count (A.cdmDaliCollision b)).complete f.req ST.timeout none []).freeDali b).doze
    else s.setDali b { s.dali b with busy := some { f with losses := f.losses + 1 } }
  | how, some f =>
    let s := match how with
      | .backward v =>
        s.complete f.req ST.ok none (if f.expect then daliReply 1 v else daliReply 0 0)
      | .framing =>
        if f.expect then (s.count (A.cdmDaliFrameErr b)).complete f.req ST.ok none (daliReply 2 0)
        else s.complete f.req ST.ok none (daliReply 0 0)
      | .noAnswer | .timeout | .collided => s.complete f.req ST.ok none (daliReply 0 0)
    (s.freeDali b).doze)

/-- Local time, s. -/
def State.localSec (s : State) : Int := (s.nowSec : Int) + signed 32 (s.fld A.cdmDaliTz F.cdmDaliTz_tz_offset)

/-- Is a schedule entry due now, and not sent yet in this second (R542)? -/
def State.schedDue (s : State) (e : Nat) : Bool :=
  let w0 := A.cdmDaliSchedW0 e
  let b := s.fld w0 F.cdmDaliSchedW0_bus
  let t := s.fld w0 F.cdmDaliSchedW0_time
  s.bit w0 F.cdmDaliSchedW0_valid && decide (t < 86400 ∧ t = (s.localSec % 86400).toNat) && s.bit (A.cdmDaliCtl b) F.cdmDaliCtl_sched_en
    && !s.daliFails b && !(s.cdm.schedSec == (s.localSec % 2 ^ 49).toNat && s.cdm.schedSent.contains e)

/-- DALI_SCHEDULE_ENTRY: the time of day of a schedule entry, entries of one second in their order; its frame goes before every waiting
DALI_SEND, after scheduled frames that wait. -/
def execDaliScheduleEntry (e : Fin 64) (s : State) : Host.Outcome State Fault Refusal :=
  .next (let w1 := A.cdmDaliSchedW1 e
  let b := s.fld (A.cdmDaliSchedW0 e) F.cdmDaliSchedW0_bus
  let sec := (s.localSec % 2 ^ 49).toNat
  if s.schedDue e ∧ (List.range e).all (fun k => !s.schedDue k) then
    let sent := if s.cdm.schedSec = sec then s.cdm.schedSent else []
    let s := { s with cdm := { s.cdm with schedSec := sec, schedSent := sent ++ [e.val] } }
    let long := s.bit w1 F.cdmDaliSchedW1_bits24
    let v := s.fld w1 F.cdmDaliSchedW1_frame
    let f : DaliFrame := ⟨long, s.bit w1 F.cdmDaliSchedW1_twice, false, if long then v else v % 0x10000, none, s.elapsed, 0⟩
    let d := s.dali b
    let early := d.queue.takeWhile (·.req.isNone)
    (s.setDali b { d with queue := early ++ f :: d.queue.drop early.length }).runDali b
  else s)

/-- DALI_FORWARD_RX: a forward frame from another unit of the bus. -/
def execDaliForwardRx (b : Fin 2) (bits24 : Bool) (frame : Fin 0x1000000) (s : State) : Host.Outcome State Fault Refusal :=
  .next (if s.daliFails b then s
  else s.setDali b { s.dali b with rx := some (bits24, if bits24 then frame.val else frame.val % 0x10000) })

/-- DALI_BUS_DOWN: DALI_RX has been low for 500 ms while the controller does not drive; or, with `low` false, is high again
(log entry 35). -/
def execDaliBusDown (b : Fin 2) (low : Bool) (s : State) : Host.Outcome State Fault Refusal :=
  .next (let a := A.cdmDaliCtl b
  if !s.isLit 1 then s
  else if !low then s.setFld a F.cdmDaliCtl_bus_down 0
  else if s.daliFails b ∨ (s.dali b).busy.isSome ∨ s.bit a F.cdmDaliCtl_bus_down then s
  else (s.setFld a F.cdmDaliCtl_bus_down 1).raise 1 .daliBusDown 0 2 [b])

end Sys2Proof.Machine
end

