-- ==== Sys2Proof/Machine/Renewal.lean ====
section
/-!
DEFINITION. Renewal: RENEW and the steps of R511, with what each island's renewal prepares, saves, loses and keeps (R83, R85,
R511–R518, R520–R524, R574).
-/

namespace Sys2Proof.Machine

/-! ### RENEW (R85, R514, R517) -/

/-- Typical time from FENCE to REJOIN, 0.1 ms (R518). -/
def typical (i : Nat) : Nat :=
  if i = 10 then 15 else if 17 ≤ i ∧ i ≤ 19 then 6000 else if i = 20 then 13 else if i = 21 then 150 else 0

/-- The duration of an absence that PREPARE announces: twice the typical time plus 10 ms, in whole rounds, at least 1. -/
def absRounds (i roundNs : Nat) : Nat :=
  let r := max 1 roundNs
  max 1 ((200000 * typical i + 10000000 + r - 1) / r)

/-- Does an island go through a renewal, or stand parked or failed? -/
def State.awayOrParked (s : State) (i : Nat) : Bool :=
  s.renStep i != 0 || (s.pw i).st == .reduced || (s.pw i).st == .failed

/-- May a renewal of the island start (R85, R517)? -/
def State.renewBusy (s : State) (i part : Nat) : Bool :=
  let away (k : Nat) : Bool := s.renStep k != 0
  s.mode.pending.isSome || away i
    || ((i == 11 || i == 12) && (away (23 - i) || s.held (12 - i)))
    || (i == 1 && s.role (1 - part) == 3)
    || (6 ≤ i && i ≤ 8 && ([6, 7, 8].filter (· != i)).all s.awayOrParked)
    || ((i == 10 || i == 20 || i == 21) && ([10, 20, 21].filter (· != i)).any away)

/-- The neighbours hold for an absence on bands: the coordinator's announcement, and a member's to its parent (R240, R241). -/
def State.announceAway (s : State) (i bands : Nat) : State :=
  if !s.isLit 21 then s
  else
    let s := if s.bit A.hmacHolCtl F.hmacHolCtl_coord_en then s.announce bands 2 (absRounds i s.roundNs) else s
    let mine := bands &&& s.linkBands parentNo
    if 3 ≤ s.memberState ∧ mine ≠ 0 then
      s.setPeer parentNo { s.peer parentNo with absSend := some (mine, absRounds i s.parentNs, s.parentRound + 2) }
    else s

/-- PREPARE holds the egresses of a list; those held by it come back with the state. -/
def State.holdEgresses (s : State) (es : List Nat) : State × Nat :=
  if !s.isLit 4 then (s, 0)
  else es.foldl (fun (p : State × Nat) e =>
    if p.1.bit (A.schEgress e) F.schEgress_hold then p
    else (p.1.setFld (A.schEgress e) F.schEgress_hold 1, setBit p.2 e)) (s, 0)

/-- What Cudom firmware does in PREPARE (R518, R522). -/
def State.prepare (s : State) (i : Nat) (r : Renewal) : State :=
  if i = 1 then
    let s := if s.role r.part = 0 then s.setRole (1 - r.part) 0 else s
    s.setRole r.part 2
  else if i = 5 ∨ (13 ≤ i ∧ i ≤ 16) then
    let (s, m) := s.holdEgresses (heldEgresses i)
    s.setRen i (some { r with holds := m })
  else if 6 ≤ i ∧ i ≤ 8 then
    let m := s.fld A.tskCtl F.tskCtl_core_en
    let mine := m &&& (0xFF * 2 ^ (8 * (i - 6)))
    let s := if s.isLit 5 then s.setFld A.tskCtl F.tskCtl_core_en (m - mine) else s
    s.setRen i (some { r with cores := mine })
  else if i = 10 ∨ i = 20 ∨ i = 21 then s.announceAway i 7
  else if 17 ≤ i ∧ i ≤ 19 then
    let k := i - 17
    let s := s.setRen i (some { r with cal := some (s.rd k).cal })
    let s := if s.isLit 21 then s.startSteer k else s
    let s := match s.ren i with
      | some r => s.setRen i (some { r with waitSteer := (s.wr k).steerEnd.isSome })
      | none => s
    s.announceAway i (2 ^ k)
  else s

/-- The drain limit in force, 100 µs: the parameter, or the default (R512). -/
def drainLimit (i p : Nat) : Nat := if p ≠ 0 then p else if 17 ≤ i ∧ i ≤ 19 then 500 else 10

/-- RENEW: refused, or accepted: ST_PENDING, PREPARE, and SERVICE changes to RENEW (R41, R85, R511, R517). -/
def execRenew (src : CmdSource) (light : Nat) (s : State) : Host.Outcome State Fault Refusal :=
  .next (s.withRequest src .renew fun s r =>
    let i := r.island
    let part := r.p 0 1
    let image := r.p 1 1
    if !s.isFitted i then s.finish r ST.badParam none []
    else if image = 1 ∧ (s.stagedSlot i).isNone then s.finish r ST.badParam none []
    else if s.renewBusy i part then s.finish r ST.busy none []
    else
      let gone := if i = 1 then s.role part == 3 else !((s.pw i).st == .lit || (s.pw i).st == .reduced)
      let a := A.aonRenew i
      let s := s.pend r
      let s := ((s.setStep i 1).setFld a F.aonRenew_forced 0).setFld a F.aonRenew_image image
      let s := s.setFld a F.aonRenew_drain_limit (drainLimit i (r.p 2 2))
      let x : Renewal := { part := part, req := some r, saved := [], hmac := none, cal := none, muted := 0, holds := 0, cores := 0
                           wasFailed := gone, waitSteer := false }
      let s := s.setRen i (some x)
      let s := if s.mode.mode = .service then (s.setMode .renew 7 (some r)).chooseE light else s
      s.prepare i x)

/-! ### PREPARE and DRAIN (R511–R513) -/

/-- RENEW_PREPARE_DONE: preparation is complete, and neither a steering run nor the start of an absence is to be waited for
(log entry 34). -/
def execRenewPrepareDone (i : Fin 22) (s : State) : Host.Outcome State Fault Refusal :=
  .next (match s.ren i with
  | some r => if s.renStep i = 1 ∧ !r.waitSteer ∧ s.absBegun i then s.beginDrain i r else s
  | none => s)

/-- RENEW_PREPARE_TIMEOUT: the prepare limit passes; DRAIN begins anyway, and PREPARE_LATE is logged. -/
def execRenewPrepareTimeout (i : Fin 22) (s : State) : Host.Outcome State Fault Refusal :=
  .next (match s.ren i with
  | some r => if s.renStep i = 1 then (s.raise 1 .prepareLate 0 2 [i]).beginDrain i r else s
  | none => s)

/-- FENCE begins: requests are answered dark from now on; a glove alone has no responder (R500, R574). -/
def State.beginFence (s : State) (i : Nat) : State :=
  let s := s.setStep i 3
  if i = 1 then s else s.setPw i { s.pw i with fenced := true, darkLogged := false }

/-- Frames, packets, items and operations that an island holds, and submissions whose write TSK has not acknowledged (R513). -/
def State.heldCount (s : State) (i : Nat) : Nat :=
  let sum (l : List Nat) : Nat := l.foldl (· + ·) 0
  if i = 3 then s.pkt.flight.length + s.pkt.held.length
  else if i = 4 then sum (s.sch.queues.map (fun e => e.2.pkts.length)) + s.tsk.inbox.length
    + (s.tsk.items.filter (fun x => x.pkt.isSome)).length
  else if i = 5 then s.tsk.items.length + s.tsk.inbox.length + s.tsk.fwd.length + s.tsk.waiting.length
  else if 6 ≤ i ∧ i ≤ 8 then
    (s.tsk.items.filter (fun x => match x.st with | .dispatched k => k / 8 == i - 6 | _ => false)).length
  else if i = 9 then (s.dma.chans.filter (fun e => e.2.inFrame || e.2.desc.isSome)).length
  else if i = 10 then s.cip.ops.length + s.cip.jobs.length + s.cip.rx.length
  else if 13 ≤ i ∧ i ≤ 16 then
    sum ((s.ports.filter (fun e => e.1 / 4 == i - 13)).map (fun e => e.2.txq.length + (if e.2.tx.isSome then 1 else 0)))
      + sum ((s.rxFifo.filter (fun e => decide (e.1 < 16) && e.1 / 4 == i - 13)).map (fun e => e.2.length))
  else if 17 ≤ i ∧ i ≤ 19 then
    (if (s.rd (i - 17)).rx.isSome then 1 else 0) + (Tbl.get (fun _ => []) s.rxFifo (16 + (i - 17))).length
  else if i = 20 then s.dec.waiting.length + s.dec.cells.length
  else if i = 21 then
    sum (s.hmac.hol.peers.map (fun e => e.2.txq.length + e.2.rxq.length)) + sum (s.hmac.wpeers.map (fun e => e.2.txq.length))
      + sum (s.hmac.wrad.map (fun e => e.2.mgmtTx.length + e.2.mgmtRx.length + e.2.group.length))
  else 0

/-- Is an island idle: no accepted request outstanding, nothing held that it has not passed on, no reply undelivered (R511)? -/
def State.islandIdle (s : State) (i : Nat) : Bool :=
  (s.atIsland i).isEmpty && s.heldCount i == 0
    && (!(17 ≤ i && i ≤ 19) || ((s.rd (i - 17)).air.isNone && (s.rd (i - 17)).slot.isNone))

/-- RENEW_DRAIN_IDLE: the island is idle; a glove has handed over in PREPARE and holds nothing. -/
def execRenewDrainIdle (i : Fin 22) (s : State) : Host.Outcome State Fault Refusal :=
  .next (if (s.ren i).isSome ∧ s.renStep i = 2 ∧ (i.val = 1 ∨ s.islandIdle i) then s.beginFence i else s)

/-- Chains of a radio that are muted, or are to be at the next PPDU boundary (R111). -/
def State.mutedChains (s : State) (r : Nat) : Nat := s.fld (A.radDetStatus r) F.radDetStatus_muted ||| (s.rd r).muteDue

/-- What an island holds is discarded, what Cudom will save apart; a radio's muted chains are noted first. -/
def State.discardHeld (s : State) (i : Nat) : State :=
  if i = 10 then s.cipDark
  else
    let n := s.heldCount i
    let (s, k) := if 17 ≤ i ∧ i ≤ 19 then s.endFrames (i - 17) (fun _ => true) ST.islandReset (fun s _ => s) else (s, 0)
    let s := if 1 ≤ i then s.countN (A.aonDarkLoss i) (n + k) else s
    if i = 21 then { s with hmac := s.hmac.settled }
    else if 17 ≤ i ∧ i ≤ 19 then
      match s.ren i with
      | some r => (s.setRen i (some { r with muted := s.mutedChains (i - 17) })).radioLost (i - 17)
      | none => s
    else if i = 5 then (if s.tsk.waiting.isEmpty then s else s.busErr).resetHidden i
    else if i = 3 ∨ i = 4 ∨ (6 ≤ i ∧ i ≤ 9) ∨ (13 ≤ i ∧ i ≤ 16) ∨ i = 20 then s.resetHidden i
    else s

/-- A forced power-down (R513). -/
def State.forceDown (s : State) (i : Nat) : State :=
  let rs := if i = 1 then [] else s.atIsland i
  let s := s.setFld (A.aonRenew i) F.aonRenew_forced 1
  let s := rs.foldl (fun s r => s.endEarly r ST.islandReset) s
  let s := s.countN (A.aonDarkLoss i) rs.length
  (s.discardHeld i).beginFence i

/-- RENEW_DRAIN_TIMEOUT: the drain limit passes. -/
def execRenewDrainTimeout (i : Fin 22) (s : State) : Host.Outcome State Fault Refusal :=
  .next (if (s.ren i).isSome ∧ s.renStep i = 2 then s.forceDown i else s)

/-! ### FENCE to WAKE (R511, R514–R516) -/

/-- What Cudom firmware saves at FENCE (R518). -/
def State.saveIsland (s : State) (i : Nat) (r : Renewal) : Renewal :=
  { r with saved := s.savedWords i
           hmac := if i = 21 then some s.hmac.settled else none
           muted := if 17 ≤ i ∧ i ≤ 19 then r.muted ||| s.mutedChains (i - 17) else 0 }

/-- RENEW_FENCE_SAVED: the save is complete; mittens are applied. -/
def execRenewFenceSaved (i : Fin 22) (s : State) : Host.Outcome State Fault Refusal :=
  .next (match s.ren i with
  | some r => if s.renStep i = 3 then (s.setRen i (some (s.saveIsland i r))).mitten i r.part else s
  | none => s)

/-- RENEW_FENCE_TIMEOUT: the renewal is abandoned with ST_TIMEOUT. -/
def execRenewFenceTimeout (i : Fin 22) (light : Nat) (s : State) : Host.Outcome State Fault Refusal :=
  .next (if (s.ren i).isSome ∧ s.renStep i = 3 then s.abandonRenewal i ST.timeout light else s)

/-- RENEW_MITTEN_ELAPSED: the power switch opens: the point of no return. -/
def execRenewMittenElapsed (i : Fin 22) (s : State) : Host.Outcome State Fault Refusal :=
  .next (if (s.ren i).isSome ∧ s.renStep i = 4 then s.setStep i 5 else s)

/-- A MEM island takes the chamber table, settings and mirror state of the other one, its lock as the other has it (R466). -/
def State.copyChambers (s : State) (n : Nat) : State :=
  let o := 1 - n
  if s.isLit (memId o) then
    let s := (List.range 32).foldl (fun s c =>
      (((s.setReg (A.memChamberW0 n c) (s.reg (A.memChamberW0 o c))).setReg (A.memChamberW1 n c) (s.reg (A.memChamberW1 o c))).setReg
        (A.memChamberW2 n c) (s.reg (A.memChamberW2 o c))).setReg (A.memChamberW3 n c) (s.reg (A.memChamberW3 o c))) s
    let s := s.setReg (A.memCfg n) (F.memCfg_cfg_err.put 0 (F.memCfg_hot.put 0 (s.reg (A.memCfg o))))
    (s.setReg (A.memPasr n) (s.reg (A.memPasr o))).setFld (A.memMirror n) F.memMirror_state (s.fld (A.memMirror o) F.memMirror_state)
  else s

/-- RENEW_LOAD_DONE: the image is checked: WAKE begins, or the renewal fails (log entry 29). -/
def execRenewLoadDone (i : Fin 22) (ok : Bool) (light : Nat) (s : State) : Host.Outcome State Fault Refusal :=
  .next (match s.ren i with
  | some r =>
    if s.renStep i = 6 then
      if !ok then s.failRenewal i ST.internal light
      else
        let s := if i.val = 11 ∨ i.val = 12 then s.copyChambers (i - 11) else s
        (s.startWake (unitOf i r.part) true).setStep i 7
    else s
  | none => s)

/-- RENEW_LOAD_TIMEOUT. -/
def execRenewLoadTimeout (i : Fin 22) (light : Nat) (s : State) : Host.Outcome State Fault Refusal :=
  .next (if (s.ren i).isSome ∧ s.renStep i = 6 then s.failRenewal i ST.internal light else s)

/-! ### CALIBRATE and REJOIN (R191, R511, R516, R518) -/

/-- What the CALIBRATE step of a radio's renewal starts from: the sets saved at PREPARE, or after a failure those of its record
(R191). -/
def State.renewSets (s : State) (k : Nat) (r : Renewal) : CalState :=
  if r.wasFailed then s.litSets k
  else match r.cal with
    | some c => { CalState.init with inForce := c.inForce, gainTable := c.gainTable, bands := c.bands }
    | none => CalState.init

/-- The measurements of the CALIBRATE step: one receive gain update, and one probe on each band table entry in use (R191). -/
def renewMeasured (k : Nat) (c : CalState) (gains : List (Nat × Int)) (bands : List (Nat × Nat)) : Bool :=
  gainComplete k gains && c.bands.all (fun e => bands.any (·.1 == e.1))

/-- A radio rejoins with the sets its CALIBRATE step loaded, the receive gains and bands measured there, and its muted chains (R111,
R191). -/
def State.rejoinRadio (s : State) (k : Nat) (r : Renewal) (gains : List (Nat × Int)) (bands : List (Nat × Nat)) : State :=
  let c := s.renewSets k r
  let new : Tbl Int := gains.foldl (fun t e => Tbl.insert e.1 e.2 t) []
  let s := (s.loadSets k { c with gainTable := if gainMoved c.gainTable new then new else c.gainTable
                                  gainTemp := s.radTemp k, gainAt := s.elapsed
                                  bands := c.bands.map (fun e => (e.1, (Tbl.find? bands e.1).getD e.2)) }).litVersion k
  if r.wasFailed then s
  else
    (s.setRd k { s.rd k with muted := r.muted }).setFld (A.radDetStatus k) F.radDetStatus_muted r.muted

/-- Ports that were enabled when the quad was saved are enabled again. -/
def State.rejoinPorts (s : State) (q : Nat) (r : Renewal) : State :=
  (List.range 4).foldl (fun s m =>
    match Tbl.find? r.saved (A.lnqPortCfg q m) with
    | some w => if F.lnqPortCfg_enable.get w = 1 then s.enablePort (4 * q + m) else s
    | none => s) s

/-- A glove rejoins as STANDBY; the command counters and the lock of CMD_CTL are reset with it (R79, R88, R520). -/
def State.rejoinGlove (s : State) (g : Nat) : State :=
  let s := (s.setRole g 1).setFld A.cdmCmdCtl F.cdmCmdCtl_lock 0
  let s := [A.cdmCmdHdrErr, A.cdmCmdHostFrameErr, A.cdmCmdHostOverflow, A.cdmCmdAuthFail, A.cdmCmdReplay, A.cdmCmdRateDrop,
    A.cdmCmdReplyDrop, A.cdmCmdFragAbandon].foldl (fun s a => s.setReg a 0) s
  { s with cdm := if g = 0 then { s.cdm with kickL := s.elapsed } else { s.cdm with kickR := s.elapsed } }

/-- REJOIN: mittens come off, PREPARE is reversed, and the RENEW completes with the island's event. -/
def State.rejoin (s : State) (i : Nat) (r : Renewal) (gains : List (Nat × Int)) (bands : List (Nat × Nat)) (light : Nat) : State :=
  let u := unitOf i r.part
  let s := s.setPw u { s.pw u with fenced := false, renewal := false, darkLogged := false }
  let s := if i = 1 then s.rejoinGlove r.part
    else if 17 ≤ i ∧ i ≤ 19 then s.rejoinRadio (i - 17) r gains bands
    else if 13 ≤ i ∧ i ≤ 16 then s.rejoinPorts (i - 13) r
    else s
  let s := if i = 1 then s else s.setFailed i false
  let a := A.aonRenew i
  let image := s.fld a F.aonRenew_image
  let forced := s.fld a F.aonRenew_forced
  let s := (s.reverse i r false).closeRenewal i 1
  let n := s.nextSeq i
  let s := s.raiseCmd i .rejoin 1 r.part (image + 2 * forced) r.req
  (s.complete r.req ST.ok (some n) []).afterRenewal light

/-- RENEW_CALIBRATE_DONE: the island reports ready: a MEM island once it has trained and its mirrored chambers are in step, a radio
with its receive gains, by 32 · chain + gain step, and the bands that its probes found (R191) (log entry 29). -/
def execRenewCalibrateDone (i : Fin 22) (gains : List (Nat × Int)) (bands : List (Nat × Nat)) (light : Nat) (s : State) : Host.Outcome State Fault Refusal :=
  .next (match s.ren i with
  | some r =>
    if s.renStep i = 8 ∧ ((i.val ≠ 11 ∧ i.val ≠ 12) ∨ (!s.held (i - 11) ∧ s.mirror = 0))
        ∧ (!(17 ≤ i.val ∧ i.val ≤ 19) ∨ renewMeasured (i - 17) (s.renewSets (i - 17) r) gains bands) then s.rejoin i r gains bands light else s
  | none => s)

/-- RENEW_CALIBRATE_TIMEOUT. -/
def execRenewCalibrateTimeout (i : Fin 22) (light : Nat) (s : State) : Host.Outcome State Fault Refusal :=
  .next (if (s.ren i).isSome ∧ s.renStep i = 8 then s.failRenewal i ST.internal light else s)

end Sys2Proof.Machine
end

