-- ==== Sys2Proof/Machine/Sensors.lean ====
section
/-!
DEFINITION. The sensors of Cudom: their samples, limits and SENSOR_READ (R525, R526).
-/

namespace Sys2Proof.Machine

open Crypto (toBE)

/-! ### Die temperatures (R525) -/

/-- A sensor at 125 °C or more for 1 ms: AON takes the radios dark and declares failed those that are fitted. -/
def State.thermalTrip (s : State) (n : Nat) (v : Int) (light : Nat) : State :=
  let s := (s.assertFault F.aonFaultCause_thermal_trip).raise 0 .thermalTrip 0 2 [n, unsigned 32 v]
  [17, 18, 19].foldl (fun s i =>
    if !s.isFitted i ∨ (s.pw i).st = .failed then s
    else if s.renStep i ≠ 0 then s.failRenewal i ST.internal light
    else s.declareFailed i light) s

/-- A bit of CDM_TEMP_STATUS sets while CDM is lit. -/
def State.tempBit (s : State) (f : Fld) (n : Nat) : State :=
  let a := A.cdmTempStatus
  if s.isLit 1 then s.setFld a f (setBit (s.fld a f) n) else s

/-- One sensor's value, in 0.125 °C: warn once per crossing, alarm while its bit is clear, the trip at the second hot sample. -/
def State.dieSample (s : State) (n : Nat) (v : Int) (light : Nat) : State :=
  let lim := A.cdmTempLimit
  let warm := decide (8 * signed 8 (s.fld lim F.cdmTempLimit_warn) < v)
  let alarm := decide (8 * signed 8 (s.fld lim F.cdmTempLimit_alarm) < v)
  let hot := if 1000 ≤ v then min 2 (s.cdm.tripArm.getD n 0 + 1) else 0
  let trip := hot = 2 ∧ s.cdm.tripArm.getD n 0 = 1
  let crossed := warm && !s.cdm.warnOn.getD n false
  let s := { s with cdm := { s.cdm with die := s.cdm.die.set n v, warnOn := s.cdm.warnOn.set n warm
                                        tripArm := s.cdm.tripArm.set n hot } }
  let s := if crossed then (s.tempBit F.cdmTempStatus_warn n).raise 1 .tempWarn 0 2 [n, unsigned 32 v] else s
  let s := if alarm then
      let seen := (s.fld A.cdmTempStatus F.cdmTempStatus_alarm).testBit n
      let s := (s.tempBit F.cdmTempStatus_alarm n).assertFault F.aonFaultCause_temp_alarm
      if seen then s else s.raise 1 .tempAlarm 0 2 [n, unsigned 32 v]
    else s
  if trip then s.thermalTrip n v light else s

/-! ### Rails and references (R526) -/

/-- Nominal rail voltages in mV, rail 0 first. -/
def railNominal : List Nat := [800, 750, 750, 800, 750, 750, 900, 900, 900, 750, 900, 500, 750, 1800]

/-- One rail's voltage: outside ±5 % for 1 ms is logged. -/
def State.railSample (s : State) (n mv : Nat) : State :=
  let nom := railNominal.getD n 0
  let out : Bool := nom * 21 < mv * 20 || mv * 20 < nom * 19
  let k := if out then min 2 (s.cdm.railArm.getD n 0 + 1) else 0
  let hit := k = 2 ∧ s.cdm.railArm.getD n 0 = 1
  let s := { s with cdm := { s.cdm with railMv := s.cdm.railMv.set n mv, railArm := s.cdm.railArm.set n k } }
  if hit then s.raise 1 .railOut 0 2 [n, mv] else s

/-- Reference flags: TCXO offset valid, TCXO beyond ±50 ppm, lane reference beyond ±100 ppm. -/
def State.refFlagsOf (s : State) (tcxo lane : Int) : Nat :=
  let valid : Bool := s.isLit 2 && s.bit A.timeCtl F.timeCtl_locked
  (if valid then 1 else 0) + (if valid ∧ 50000 < tcxo.natAbs then 2 else 0) + (if 100000 < lane.natAbs then 4 else 0)

/-- The references: a fault flag that sets is logged. -/
def State.refSample (s : State) (tcxo lane : Int) : State :=
  let f := s.refFlagsOf tcxo lane
  let old := s.cdm.refFlags
  let s := { s with cdm := { s.cdm with tcxoPpb := tcxo, laneRefPpb := lane, refFlags := f } }
  if (f.testBit 1 && !old.testBit 1) || (f.testBit 2 && !old.testBit 2) then s.raise 1 .refFault 0 2 [f] else s

/-- SENSOR_SAMPLE: die temperatures in 0.125 °C, rail voltages in mV and currents in 10 mA, reference offsets in ppb,
1 ms or more after the last (log entry 33). -/
def execSensorSample (die : List Int) (mv ma : List Nat) (tcxo lane : Int) (light : Nat) (s : State) :
    Host.Outcome State Fault Refusal :=
  .next (if s.mode.mode = .off ∨ s.elapsed < s.cdm.sampledAt + 1000000 then s
  else
    let s := { s with cdm := { s.cdm with sampledAt := s.elapsed } }
    let s := (List.range 12).foldl (fun s n => s.dieSample n (die.getD n 0) light) s
    let s := (List.range 14).foldl (fun s n => s.railSample n (mv.getD n 0)) s
    { s with cdm := { s.cdm with rail10mA := (List.range 14).map (fun n => ma.getD n 0) } }.refSample tcxo lane)

/-! ### SENSOR_READ -/

/-- Return losses, muted and backed-off chains of a radio; a dark one, and chains 4–7 of Radio L, give 0xFF and no chains. -/
def State.rlBytes (s : State) (r : Nat) : List Byte :=
  (List.range 8).map (fun n => if s.isUp (radId r) ∧ n < chainsOf r then
    BitVec.ofNat 8 (s.fld (A.radDetRl r n) F.radDetRl_rl) else 0xFF)
def State.chainMask (s : State) (r : Nat) (f : Fld) : List Byte :=
  toBE 1 (if s.isUp (radId r) then s.fld (A.radDetStatus r) f else 0)

/-- The DRAM group of a channel. -/
def State.dramSensor (s : State) (n : Nat) : List Byte :=
  if s.isUp (memId n) then
    toBE 1 (s.cdm.dramCode.getD n 0) ++ toBE 1 (unsigned 8 (s.cdm.dramTemp.getD n 0)) ++ toBE 1 (s.fld (A.memCfg n) F.memCfg_hot) ++ [0]
  else [0, 0x80, 0, 0]

/-- The reply parameters of a sensor group. -/
def State.sensorGroup (s : State) (g : Nat) : List Byte :=
  if g = 0 then (s.cdm.die.map (fun v => toBE 2 (unsigned 16 v))).flatten
  else if g = 1 then ((List.range 14).map (fun n => toBE 2 (s.cdm.railMv.getD n 0) ++ toBE 2 (s.cdm.rail10mA.getD n 0))).flatten
  else if g = 2 then
    ((List.range 3).map s.rlBytes).flatten ++ ((List.range 3).map (fun r => s.chainMask r F.radDetStatus_muted)).flatten
      ++ ((List.range 3).map (fun r => s.chainMask r F.radDetStatus_backed_off)).flatten ++ [0, 0]
  else if g = 3 then toBE 4 (unsigned 32 s.cdm.tcxoPpb) ++ toBE 4 (unsigned 32 s.cdm.laneRefPpb) ++ toBE 4 s.cdm.refFlags
  else s.dramSensor 0 ++ s.dramSensor 1

/-- SENSOR_READ. -/
def execSensorRead (src : CmdSource) (s : State) : Host.Outcome State Fault Refusal :=
  .next (s.withRequest src .sensorRead fun s r => s.finish r ST.ok none (s.sensorGroup (r.p 0 1)))

end Sys2Proof.Machine
end

