-- ==== Sys2Proof/Machine/Cudom.lean ====
section
/-!
DEFINITION. The remaining opcodes of CDM and of the radios: ABORT, TEST, foreground calibration, provisioning (R83, R86, R188,
R189, R539).
-/

namespace Sys2Proof.Machine

open Crypto (toBE)

/-! ### ABORT (R83) -/

/-- Has a command passed its point of no return: a RENEW at DARK, an IMAGE_STAGE once the flash program of a page has started? -/
def State.tooLate (s : State) (r : Request) : Bool :=
  match opcOf r.island r.op with
  | some .renew => decide (5 ≤ s.renStep r.island)
  | some .imageStage => s.cdm.jobs.stageBegun && s.cdm.jobs.stage.head? == some r
  | _ => false

/-- An aborted CAL_RUN leaves the radio's record invalid, and shows it in its effect word. -/
def State.abortCal (s : State) (r : Request) : State :=
  let s := { s with flash := { s.flash with calValid := s.flash.calValid.set (r.island - 17) false } }
  let s := s.finishEarly r ST.cancelled (some .calRun)
  { s with cdm := { s.cdm with jobs := s.cdm.jobs.without r } }

/-- ABORT cancels an abortable request of its requester before its point of no return (log entry 31). -/
def execAbort (src : CmdSource) (light : Nat) (s : State) : Host.Outcome State Fault Refusal :=
  .next (s.withRequest src .abort fun s r =>
    match s.cmd.out.find? (fun o => o.req.who == r.who && o.req.tag == r.p 0 2) with
    | none => s.finish r ST.badParam none []
    | some o =>
      match opcOf o.req.island o.req.op with
      | none => s.finish r ST.badParam none []
      | some c =>
        if !c.abortable then s.finish r ST.badParam none []
        else if o.dispatched ∧ s.tooLate o.req then s.finish r ST.tooLate none []
        else
          let s := s.finish r ST.ok none []
          if c = .renew ∧ o.dispatched then s.abandonRenewal o.req.island ST.cancelled light
          else if c = .calRun then s.abortCal o.req
          else s.endEarly o.req ST.cancelled)

/-! ### TEST (R86) -/

/-- AON_CHIP_ID (R8). -/
def State.chipId (s : State) : Word :=
  F.aonChipId_grade.put s.flash.grade (F.aonChipId_step_digit.put s.flash.stepDigit
    (F.aonChipId_step_letter.put s.flash.stepLetter D.aonChipId.resetWord))

/-- TEST_CHALLENGE: a nonce, and the device is held in BOOT (log entry 23). -/
def execTestChallenge (src : CmdSource) (s : State) : Host.Outcome State Fault Refusal :=
  .next (s.withRequest src .testChallenge fun s r =>
    if 3 ≤ s.cmd.testRefused then s.finish r ST.denied none []
    else
      let n := (List.range 32).map (fun i => Config.freeByte s.free (2 ^ 40 + i))
      let s := { s with free := s.free + 1, cmd := { s.cmd with nonce := some n, testHold := true, testHoldAt := s.elapsed } }
      s.finish r ST.ok none n)

/-- TEST_HOLD_EXPIRY: 10 s have passed. -/
def execTestHoldExpiry (s : State) : Host.Outcome State Fault Refusal :=
  .next (if s.cmd.testHoldAt + 10 * nsPerSec ≤ s.elapsed then { s with cmd := { s.cmd with testHold := false } } else s)

/-- Does a TEST_ENTER hold: the fused key hash, and the signature over the nonce, the chip identity and "TEST"? -/
def State.testKeyOk (s : State) (ps : List Byte) : Bool :=
  match s.flash.testKeyHash, s.cmd.nonce with
  | some h, some n =>
    let pub := ps.take 97
    Crypto.sha384 pub == h &&
      Crypto.ecdsaVerify pub (ps.drop 100 |>.take 96) (n ++ toBE 4 s.chipId.toNat ++ [0x54, 0x45, 0x53, 0x54])
  | _, _ => false

/-- TEST_ENTER: accepted, the transition to TEST takes the slot; refused, the nonce is spent (log entry 23). -/
def execTestEnter (src : CmdSource) (light : Nat) (s : State) : Host.Outcome State Fault Refusal :=
  .next (s.withRequest src .testEnter fun s r =>
    let ok := s.testKeyOk r.params
    let s := { s with cmd := { s.cmd with nonce := none, testHold := false } }
    if ok then (s.pend r).preempt.beginTrans ⟨.test, .test, 1, some r, light, false, none⟩
    else { s with cmd := { s.cmd with testRefused := s.cmd.testRefused + 1 } }.finish r ST.denied none [])

/-! ### Foreground calibration (R188, R189) -/

/-- CAL_RUN: ST_PENDING, and the run starts. -/
def execCalRun (src : CmdSource) (s : State) : Host.Outcome State Fault Refusal :=
  .next (s.withRequest src .calRun fun s r =>
    let n := r.island - 17
    if s.synState n 0 = 3 ∧ s.synState n 1 = 3 then s.finish r ST.synthNotReady none []
    else
      let j := s.cdm.jobs
      (s.pend r).setJobs { j with calRun := Tbl.set (fun _ => []) n (Tbl.get (fun _ => []) j.calRun n ++ [r]) j.calRun })

/-- A table with further entries. -/
def merge {α : Type} (t : Tbl α) (l : List (Nat × α)) : Tbl α := l.foldl (fun t e => Tbl.insert e.1 e.2 t) t

/-- Calibration channels of a radio. -/
def calChannels (r : Nat) : Nat := if r = 0 then 3 else if r = 1 then 8 else 12

/-- Does a measurement meet the limits: LO leakage −40 dBc or lower, image rejection 40 dB or more, EVM −35 dB on Radio L and −38 dB on
the others (R188)? -/
def calMeets (r : Nat) (m : CalMeas) : Bool :=
  m.leak ≤ -4000 && 4000 ≤ m.image && m.evm ≤ (if r = 0 then -3500 else -3800)

/-- The chains that pass: those asked for that meet the limits on every calibration channel. -/
def calPass (r asked : Nat) (l : List CalMeas) : Nat :=
  ((bitsOf (chainsOf r) asked).filter (fun c => (List.range (calChannels r)).all (fun k =>
    l.any (fun m => m.chan == k && m.chain.val == c) &&
      l.all (fun m => m.chan != k || m.chain.val != c || calMeets r m)))).foldl setBit 0

/-- The sets of a run: of passing chains, loops of the loop mask and calibration channels of the radio. -/
def runSets (r pass loops : Nat) (o : CalRunOut) : Tbl CalSet :=
  (o.sets.filter (fun x => pass.testBit (x.key / 8 % 8) && loops.testBit (x.key / 64) && x.chan < calChannels r)).foldl (fun t x =>
    Tbl.insert (512 * x.chan + x.key % 512) ⟨x.est, x.est2, x.evm, x.coefs⟩ t) []

/-- The record a run leaves: the passing chains' sets, the tables of loops 4 and 5 where asked for, and which chains failed. -/
def CalRec.after (c : CalRec) (asked pass loops : Nat) (sets : Tbl CalSet) (o : CalRunOut) (temp : Int) : CalRec :=
  let failed := (without c.failed asked) ||| without asked pass
  if pass = 0 then { c with failed := failed }
  else
    { sets := merge c.sets sets, gains := if loops.testBit 4 then merge c.gains o.gains else c.gains
      bands := if loops.testBit 5 then merge c.bands o.bands else c.bands, temp := temp, failed := failed }

/-- Chains recorded as failed stay disabled. -/
def State.disableFailed (s : State) (r : Nat) : State :=
  let f := (Tbl.get (fun _ => CalRec.init) s.calRecs r).failed
  let a := A.radCtl r
  (s.setFld a F.radCtl_tx_chain_en (without (s.fld a F.radCtl_tx_chain_en) f)).setFld a F.radCtl_rx_chain_en
    (without (s.fld a F.radCtl_rx_chain_en) f)

/-- A run's sets enter force under one new version: the flowstone starts empty and nothing staged is left (R174, R180). -/
def State.applyRun (s : State) (r : Nat) (sets : Tbl CalSet) (c : CalRec) (loops : Nat) : State :=
  let x := (s.rd r).cal
  let s := s.loadSets r { x with inForce := merge x.inForce (blendAll (s.synFreq r (s.synActive r)) sets)
                                 gainTable := if loops.testBit 4 then c.gains else x.gainTable
                                 gainTemp := if loops.testBit 4 then c.temp else x.gainTemp
                                 gainAt := if loops.testBit 4 then s.elapsed else x.gainAt
                                 bands := if loops.testBit 5 then c.bands else x.bands
                                 flow := [], staged := [], watch := [], gainNew := none, bandNew := []
                                 lastApply := some s.elapsed }
  let v := A.radCalVersion r
  ((s.setFld v F.radCalVersion_update (nextUpdate (s.fld v F.radCalVersion_update))).count (A.radCalUpdate r)).showStaged r

/-- CAL_RUN_DONE: the oldest run of a radio ends, with no PPDU in the air and none committed. On success the record is written and its
sets are in force; a radio whose every chain failed has no valid record; with every fitted radio calibrated CALIBRATE goes on to
SERVICE (R188–R190) (log entry 48). -/
def execCalRunDone (r : Rad) (o : CalRunOut) (light : Nat) (s : State) : Host.Outcome State Fault Refusal :=
  .next (match Tbl.get (fun _ => []) s.cdm.jobs.calRun r with
  | [] => s
  | q :: rest =>
    if !s.glovesRun ∨ !s.radLit r ∨ !s.radIdle r then s
    else
      let j := s.cdm.jobs
      let s := s.setJobs { j with calRun := Tbl.set (fun _ => []) r rest j.calRun }
      let asked := q.p 0 2
      let loops := q.p 2 1
      let pass := calPass r asked o.meas
      let sets := runSets r pass loops o
      let c := (Tbl.get (fun _ => CalRec.init) s.calRecs r).after asked pass loops sets o (s.radTemp r)
      let s := { s with calRecs := Tbl.set (fun _ => CalRec.init) r c s.calRecs }
      let none_ : Bool := without (2 ^ chainsOf r - 1) c.failed == 0
      let s := { s with flash := { s.flash with
        calValid := s.flash.calValid.set r (!none_ && (pass != 0 || s.flash.calValid.getD r false)) } }
      let s := if pass = 0 then s else s.applyRun r sets c loops
      let s := s.disableFailed r
      let s := if s.isOut q then
          s.finishEv q q.island .calRun 1 0 0 (toBE 2 pass ++ [0, 0] ++ toBE 4 (s.reg (A.radCalVersion r)).toNat)
        else s
      s.leaveCalibrate light)

/-! ### Provisioning (R539) -/

/-- PROVISION_COMMIT: ST_PENDING, and the record is written (log entry 32). -/
def execProvisionCommit (src : CmdSource) (s : State) : Host.Outcome State Fault Refusal :=
  .next (s.withRequest src .provisionCommit fun s r =>
    let j := s.cdm.jobs
    (s.pend r).setJobs { j with provision := j.provision ++ [r] })

/-- The key slots a provisioning record holds: those from 0 to 0x3F that are not erased. -/
def State.provKeys (s : State) : List ProvKey :=
  (List.range 64).filterMap (fun n =>
    let k := s.key n
    if k.cls = 255 then none else some ⟨n, k.cls, k.key⟩)

/-- PROVISION_COMMIT_DONE: the record is written, the device has its number and district, and the transition to CALIBRATE takes
the slot as soon as it is free; the request completes with the transition, or at once where the device has left PROVISION
(log entry 32). -/
def execProvisionCommitDone (light : Nat) (s : State) : Host.Outcome State Fault Refusal :=
  .next (match s.cdm.jobs.provision with
  | [] => s
  | r :: rest =>
    if !s.glovesRun then s
    else
      let s := s.setJobs { s.cdm.jobs with provision := rest }
      let s := { s with flash := { s.flash with prov := some ⟨r.p 0 4, r.p 4 2, s.provKeys⟩, provReadable := true } }
      let n := s.nextSeq 1
      let s := s.raiseCmd 1 .provisionCommit 1 (r.p 0 4) (r.p 4 2) (some r)
      { s with mode := { s.mode with provisionDue := some ⟨light, r, n⟩ } }.endProvision.takeProvision)

end Sys2Proof.Machine
end

