-- ==== Sys2Proof/Machine/Boot.lean ====
section
/-!
DEFINITION. OFF and BOOT: supply loss, SYS_RESET_N, the boot ROM, the 32.768 kHz oscillator (R43, R76, R533, R536, R540,
R555–R557).
-/

namespace Sys2Proof.Machine

/-- OFF: everything at its reset state but the flash and fuses, the flight buffer of the log unless the supply is lost, the level of
pins, and the commands that wait. -/
def State.toOff (s : State) (supply : Bool) : State :=
  let o := State.reset
  let s := s.spoilStage
  let rads := (List.range 3).foldl (fun t r =>
    Tbl.set (fun _ => RadState.init) r { RadState.init with gnt := (s.rd r).gnt } t) []
  { o with
    flash := s.flash, calRecs := s.calRecs, elapsed := s.elapsed, free := s.free, rad := rads, pending := s.pending
    log := if supply then LogState.init else { LogState.init with tier0 := s.log.tier0, next0 := s.log.next0 }
    dram := { o.dram with epoch := s.dram.epoch + 1 }
    aon := { o.aon with resetPin := s.aon.resetPin, supplyGood := s.aon.supplyGood, xtal32 := s.aon.xtal32, gpio := s.aon.gpio } }

/-- SUPPLY_LOSS: a rail falls out of range; without VDD_AON, rail 0, the 32.768 kHz oscillator stops too (R556, R557). -/
def execSupplyLoss (rail : Fin 14) (s : State) : Host.Outcome State Fault Refusal :=
  .next (let s := s.toOff true
  { s with aon := { s.aon with supplyGood := false, xtal32 := if rail.val = 0 then false else s.aon.xtal32 } })

/-- SYS_RESET: a low pulse of 2 µs or more on SYS_RESET_N. -/
def execSysReset (s : State) : Host.Outcome State Fault Refusal :=
  .next (let s := s.toOff false
  { s with aon := { s.aon with resetPin := true } })

/-- Reset is released: AON runs, the strap is sampled, the device is in BOOT, and CDM starts to wake; of TIME and the MEM islands
those that firmware chooses follow it (R493, R569). -/
def State.releaseReset (s : State) (strap : Bool) (light : Nat) : State :=
  let s := s.setPw 0 { IslandPwr.init with st := .lit }
  let s := { s with aon := { s.aon with resetPin := false, supplyGood := true, strapTest := strap }
                    mode := { s.mode with mode := .boot, prev := .off, cause := 0 } }
  ((s.setFld A.aonModeShadow F.aonModeShadow_mode 1).planPower .boot light).pumpPower

/-- RESET_RELEASE: the rising edge of SYS_RESET_N with the supplies good. -/
def execResetRelease (strap : Bool) (light : Nat) (s : State) : Host.Outcome State Fault Refusal :=
  .next (if s.mode.mode = .off then s.releaseReset strap light else s)

/-- MODE_SET_OFF_RESET: 10 ms after the reply of MODE_SET OFF the device goes through OFF to BOOT. -/
def execModeSetOffReset (strap : Bool) (light : Nat) (s : State) : Host.Outcome State Fault Refusal :=
  .next (if s.mode.offReset then (s.toOff false).releaseReset strap light else s)

/-- XTAL32_START. -/
def execXtal32Start (s : State) : Host.Outcome State Fault Refusal :=
  .next { s with aon := { s.aon with xtal32 := true } }

/-! ### The boot ROM and the image it starts -/

/-- A provisioned slot is written through transport 3; its network requesters stay (R75, R540). -/
def State.bootKey (s : State) (k : ProvKey) : State :=
  let g := nextGen (s.key k.slot).gen
  (s.setKey k.slot { KeySlot.erased with cls := k.cls, key := k.key, gen := g }).raise 10 .keyWrite 0 1 [k.slot, g, 0x30000, 0]

/-- The provisioning record, where it unwraps (R540). -/
def State.provRecord (s : State) : Option ProvRecord := if s.flash.provReadable then s.flash.prov else none

/-- The network requesters whose slots were restored come back at their reservations; the others leave the record (R76). -/
def State.restorePeers (s : State) (slots : List Nat) : State :=
  let l := (s.flash.netRecord.filter (fun p => slots.contains p.slot)).map
    (fun p => { p with lastSeq := p.reqReserve, replySeq := p.replyReserve })
  { s with flash := { s.flash with netRecord := l }, cmd := { s.cmd with peers := l } }

/-- The mode that BOOT goes to (R41). -/
def State.bootTarget (s : State) : Mode :=
  if s.aon.strapTest then .test
  else if s.provRecord.isNone then .provision
  else if s.uncalibrated.isEmpty then .service else .calibrate

/-- The image of a slot runs: membership, requesters, the host port, and the transition out of BOOT. -/
def State.runImage (s : State) (light : Nat) : State :=
  let ks := match s.provRecord with | some r => r.keys | none => []
  let s := (ks.foldl State.bootKey s).restorePeers (ks.map (·.slot))
  let s := { s with cmd := { s.cmd with hostReady := true } }
  let m := s.bootTarget
  s.beginTrans ⟨m, m, 0, none, light, false, none⟩

/-- The slots to try, in order, and whether a trial boot falls back. -/
def FlashState.bootOrder (f : FlashState) : List Nat × Bool :=
  let back := f.trial && decide (1 ≤ f.trialCount)
  let n := if back then 1 - f.bootSlot else f.bootSlot
  ([n, 1 - n], back)

/-- A slot boots. -/
def State.bootSlot (s : State) (n : Nat) (light : Nat) : State :=
  let a := A.cdmBootStatus
  let s := { s with cdm := { s.cdm with slotBooted := n + 1, imageVersion := imgLE (s.flash.slot n) 6 2 } }
  (s.setFld a F.cdmBootStatus_booted_slot n).runImage light

/-- The bytes of a flash command: 0x66 and 0x99 for the JEDEC reset, the address of a read highest first (R561). -/
def flashBytes : FlashOp → List Byte
  | .enableReset => [0x66]
  | .reset => [0x99]
  | .read a => Crypto.toBE 4 a

/-- Where the flash holds its records, and an image slot (R532). -/
def recordBase : Nat := 0x2C00000
def slotBase (n : Nat) : Nat := if n = 0 then 0xC00000 else 0x1C00000

/-- The boot ROM sends commands to the flash. -/
def State.flashOp (s : State) (l : List FlashOp) : State := { s with cdm := { s.cdm with flashSent := s.cdm.flashSent ++ l } }

/-- Calibration records whose check fails as they are read count as absent (R190). -/
def State.dropCal (s : State) (bad : Nat) : State :=
  { s with flash := { s.flash with calValid := (bitsOf 3 bad).foldl (fun l r => l.set r false) s.flash.calValid } }

/-- BOOT_ROM_START: the flash is reset before its first read (R561); the device key, the board record, the active slot or its
fallback, its verification, and the image; with the test strap high the device goes to TEST. `badCal` names the radios whose
calibration record fails its check (log entry 23). -/
def execBootRomStart (badCal : Fin 8) (light : Nat) (s : State) : Host.Outcome State Fault Refusal :=
  .next (if s.mode.mode = .boot ∧ s.isLit 1 ∧ !s.mode.romDone then
    let s := ({ s with mode := { s.mode with romDone := true } }.flashOp [.enableReset, .reset, .read recordBase]).dropCal badCal
    let s := s.setKey 0xFFF { KeySlot.erased with cls := 2, key := s.flash.deviceKey, gen := nextGen (s.key 0xFFF).gen }
    let a := A.cdmBootStatus
    let s := s.setFld a F.cdmBootStatus_trial (if s.flash.trial then 1 else 0)
    if s.aon.strapTest then s.runImage light
    else if !s.flash.boardValid then { s with cmd := { s.cmd with hostReady := true } }.enterRecovery 9 none light
    else
      let (slots, back) := s.flash.bootOrder
      let s := if back then (s.setFld a F.cdmBootStatus_fallback 1).raise 1 .bootFallback 0 2 [slots.headD 0] else s
      let s := if s.flash.trial then { s with flash := { s.flash with trialCount := s.flash.trialCount + 1 } } else s
      match slots.find? (fun n => verifyImage s.flash.keyHash s.flash.minVersion (s.flash.slot n) == 0) with
      | some n => (s.flashOp ((slots.takeWhile (· != n) ++ [n]).map (fun k => .read (slotBase k)))).bootSlot n light
      | none =>
        let s := s.flashOp (slots.map (fun k => .read (slotBase k)))
        { s with cmd := { s.cmd with hostReady := true } }.enterRecovery 5 none light
  else s)

end Sys2Proof.Machine
end

