-- ==== Sys2Proof/Machine/Transports.lean ====
section
/-!
DEFINITION. The command transports: mailbox, host port, network (R52–R78), and the limits of commands (R59, R63).
-/

namespace Sys2Proof.Machine

open Crypto (toBE ofBE)

/-! ### Core mailbox (R65–R67) -/

/-- MBX_DOORBELL: a write of CDM_MBX_DOORBELL: the slots' requests are taken in the order of their bits, or discarded while the
transport is unavailable (log entry 19). -/
def execMbxDoorbell (who : Requester) (w : Word) (s : State) : Host.Outcome State Fault Refusal :=
  .next (s.access who (A.cdmMbxDoorbell) true fun s =>
    if !mayWrite D.cdmMbxDoorbell.wr who then s.busOk 0
    else
      let a := A.cdmMbxDoorbell
      let f := F.cdmMbxDoorbell_req
      let old := s.fld a f
      let new := (bitsOf 4 (f.get w)).filter (fun n => !old.testBit n)
      let s := (s.setFld a f (old ||| f.get w)).busOk 0
      let s := { s with cmd := { s.cmd with bells := s.cmd.bells ++ new } }
      if s.transportUp .mailbox then s.pumpMbx 4 else s.dropBells)

/-- Held replies are placed while a reply slot is free. -/
def State.refillMbx (s : State) : Nat → State
  | 0 => s
  | n + 1 =>
    match s.cmd.mbxHeld, s.freeSlot with
    | f :: fs, some k => ({ s with cmd := { s.cmd with mbxHeld := fs } }.fillSlot k f).refillMbx n
    | _, _ => s

/-- MBX_RSP_FREE: a write of CDM_MBX_RSP_STATUS frees reply slots; held replies take them, and requests are taken again. -/
def execMbxRspFree (who : Requester) (w : Word) (s : State) : Host.Outcome State Fault Refusal :=
  .next (s.access who (A.cdmMbxRspStatus) true fun s =>
    if !mayWrite D.cdmMbxRspStatus.wr who then s.busOk 0
    else
      let a := A.cdmMbxRspStatus
      ((s.setReg a (D.cdmMbxRspStatus.write false (s.reg a) w)).busOk 0 |>.refillMbx 4).pumpMbx 4)

/-! ### Host port (R68–R71) -/

/-- The port answers while CDM is lit outside OFF. -/
def State.hostPort (s : State) : Bool := s.isLit 1 && s.mode.mode != .off

/-- The fall of HOST_CS_N is an edge of wake source 0 (R496), lost inside the entry window. -/
def State.hostEdge (s : State) : State :=
  if s.aon.window then s
  else if s.aon.entering ∨ s.mode.pending.any (fun t => sleeps t.target) then
    { s with aon := { s.aon with latched := setBit s.aon.latched 0 } }
  else s.wakeAct 0 false 0

/-- Is a WRITE's frame whole: byte count and trailer (R69)? -/
def hostFrameOk (b : List Byte) : Bool :=
  let n := beAt b 6 2
  decide (20 ≤ b.length) && b.length == 16 + n + padLen n + 4 && ofBE (b.drop (b.length - 4)) == crc32 (b.take (b.length - 4))

/-- A WRITE's frame joins the request buffers; a port without a free one, or a bad frame, discards it. -/
def State.hostTake (s : State) (b : List Byte) : State :=
  if !s.transportUp .host then s
  else if s.hostFree = 0 then { s with cmd := { s.cmd with hostOverflow := true } }.count A.cdmCmdHostOverflow
  else if !hostFrameOk b then { s with cmd := { s.cmd with hostFrameErr := true } }.count A.cdmCmdHostFrameErr
  else { s with cmd := { s.cmd with hostRaw := s.cmd.hostRaw ++ [b.take (b.length - 4)] } }

/-- HOST_WRITE: the bytes after the instruction (log entries 19, 22). -/
def execHostWrite (bytes : List Byte) (s : State) : Host.Outcome State Fault Refusal :=
  .next (if s.hostPort then
    ((({ s with miso := List.replicate bytes.length 0 }.hostTake bytes).hostEdge).pumpHost 4).doze
  else { s with miso := [] })

/-- The status word. -/
def State.hostStatusWord (s : State) : Nat :=
  let next := match s.cmd.hostWaiting with | f :: _ => f.length | [] => 0
  next * 2 ^ 19 + s.cmd.hostWaiting.length * 2 ^ 14 + s.hostFree * 2 ^ 12 + (if s.cmd.hostOverflow then 2 ^ 11 else 0)
    + (if s.cmd.hostFrameErr then 2 ^ 10 else 0) + (if s.cmd.hostReady ∨ s.mode.mode ≠ .boot then 2 ^ 9 else 0)

/-- HOST_STATUS: a STATUS transaction in which this many bytes of the status word are clocked out; all four clear the flags
(log entry 22). -/
def execHostStatus (clocked : Fin 5) (s : State) : Host.Outcome State Fault Refusal :=
  .next (if s.hostPort then
    let s := { s with miso := (toBE 4 s.hostStatusWord).take clocked }
    let s := if clocked.val = 4 then { s with cmd := { s.cmd with hostOverflow := false, hostFrameErr := false } } else s
    s.hostEdge.doze
  else { s with miso := [] })

/-- HOST_READ: a READ transaction that clocks out this many bytes after its dummy byte; a reply leaves with its last byte
(log entry 22). -/
def execHostRead (clocked : Nat) (s : State) : Host.Outcome State Fault Refusal :=
  .next (if s.hostPort then
    match s.cmd.hostWaiting with
    | [] => ({ s with miso := List.replicate clocked 0 }.hostEdge).doze
    | f :: rest =>
      let s := { s with miso := f.take clocked ++ List.replicate (clocked - f.length) 0 }
      let s := if f.length ≤ clocked then ({ s with cmd := { s.cmd with hostWaiting := rest } }.refillHost) else s
      ((s.hostEdge).pumpHost 4).doze
  else { s with miso := [] })

/-! ### Network (R72–R78) -/

/-- What authenticates a frame: its slot, header, and parameters with padding, where everything holds; CIP counts its refusal or
the tag's failure (R73, R74, R285, R286). -/
def State.netOpen (s : State) (b : List Byte) : State × Option (Nat × Hdr × List Byte) :=
  let e := etherAt b 12 2 + 2
  let sel := b.drop e |>.take 4
  let hdr := b.drop (e + 4) |>.take 16
  let h := parseHdr hdr
  let n := h.plen + padLen h.plen
  let slot := beAt sel 1 2
  if b.length < e + 36 + n ∨ beAt sel 0 1 ≠ 1 ∨ beAt sel 3 1 ≠ 0 ∨ 0xFFF < slot then (s, none)
  else match s.cipBegin slot (fun c => c == 1) (some 32) none with
  | (s, st, _) =>
    if st ≠ ST.ok then (s, none)
    else match Crypto.gcmOpen (s.key slot).key (b.drop 6 |>.take 6 |> (· ++ toBE 4 h.seq ++ [0, 0])) (sel ++ hdr) (b.drop (e + 20) |>.take n)
        (b.drop (e + 20 + n) |>.take 16) with
    | some pt => (s, some (slot, h, pt))
    | none => (s.count A.cipAuthFail, none)

/-- A frame that fails authentication: counted, the first of a second logged with its address and port (R74). -/
def State.netFail (s : State) (src mac : Nat) : State :=
  let s := s.count A.cdmCmdAuthFail
  if s.cmd.netFailLogged then s
  else { s with cmd := { s.cmd with netFailLogged := true } }.raise 0x4002 .cmdAuthFail 0 2 [mac % 2 ^ 32, mac / 2 ^ 32, src]

/-- The requester's entry after a sequence: a new one, or a greater sequence; none for a replay or a 65th requester (R75). A
reservation that the sequence passes is raised (R76). -/
def State.netSeq (s : State) (mac slot seq : Nat) : Option State :=
  match s.peer? mac slot with
  | some p =>
    if seq ≤ p.lastSeq then none
    else
      let up := if p.reqReserve < seq then (seq - p.reqReserve + 65535) / 65536 * 65536 else 0
      some (s.putPeer { p with lastSeq := seq, reqReserve := p.reqReserve + up })
  | none =>
    if 64 ≤ s.cmd.peers.length then none
    else
      let up := if 65536 < seq then (seq - 65536 + 65535) / 65536 * 65536 else 0
      let p : NetPeer := ⟨mac, slot, seq, 0, 65536 + up, 65536⟩
      some { s with cmd := { s.cmd with peers := s.cmd.peers ++ [p] }
                    flash := { s.flash with netRecord := s.flash.netRecord ++ [p] } }

/-- Verified network requests that wait. -/
def State.netQueued (s : State) : Nat :=
  (s.cmd.out.filter (fun o => !o.dispatched && classOf o.req.who == 2)).length

/-- A packet of another tag or opcode abandons its requester's open fragmented request (R63). -/
def State.foreignFrag (s : State) (r : Request) : State :=
  match s.openFrag r.who with
  | some f => if f.tag = r.tag ∧ f.island = r.island ∧ f.op = r.op then s else s.abandon f ST.badLength
  | none => s

/-- A request that is answered before checks 4 to 15 and not executed; it ends an open request that it continues. -/
def State.turnAway (s : State) (r : Request) (status : Nat) : State := (s.closeFrag r.who).sendReply r status none []

/-- Is it a MODE_SET with mode OFF, which is never answered ST_BUSY (R43)? -/
def Request.asksOff (r : Request) : Bool := opcOf r.island r.op == some .modeSet && r.params.length == 4 && r.p 0 1 == 0

/-- An authentic frame: replay check, checks 2 and 3, spent sequence, full queue, then checks 4 to 15 (log entry 19). -/
def State.netAccept (s : State) (src : Nat) (f : RxFrame) (slot : Nat) (h : Hdr) (pt : List Byte) : State :=
  let mac := beAt f.bytes 6 6
  match s.netSeq mac slot h.seq with
  | none => s.count A.cdmCmdReplay
  | some s =>
    let tags := f.bytes.drop 12 |>.take (etherAt f.bytes 12 2 - 12)
    let r := mkRequest (.network mac slot) h (pt.take h.plen) src f.station (f.bytes.take 6 ++ tags) (s.key slot).gen
    let ok : Bool := crc16 ((toBE 1 h.b0 ++ toBE 1 h.cls ++ toBE 1 h.island ++ toBE 1 h.op ++ toBE 2 h.tag ++ toBE 2 h.plen
      ++ toBE 4 h.seq ++ toBE 2 h.status)) == h.chk
    if !ok ∨ h.isReply then s.accept h r ok pt.length
    else if h.seq = 0xFFFFFFFF then (s.foreignFrag r).turnAway r ST.nonceExhausted
    else if 8 ≤ s.netQueued ∧ !h.more ∧ !r.asksOff then (s.foreignFrag r).turnAway r ST.busy
    else s.accept h r ok pt.length

/-- NETWORK_COMMAND_FRAME: the oldest frame of an ingress source, where it is a command frame; with CIP dark it is lost, counted in
AON_DARK_LOSS (R518) (log entry 21). -/
def execNetworkCommandFrame (src : Fin 19) (s : State) : Host.Outcome State Fault Refusal :=
  .next (match Tbl.get (fun _ => []) s.rxFifo src with
  | [] => s
  | f :: rest =>
    if !s.isLit 1 ∨ !isCommandFrame src f then s
    else
      let s := { s with rxFifo := Tbl.set (fun _ => []) src.val rest s.rxFifo }
      let mac := beAt f.bytes 6 6
      if !s.transportUp (.network mac 0) then s
      else
        let n := Tbl.get (fun _ => 0) s.cmd.netCount src
        if s.fld A.cdmCmdCtl F.cdmCmdCtl_net_rate ≤ n then s.count A.cdmCmdRateDrop
        else
          let s := { s with cmd := { s.cmd with netCount := Tbl.set (fun _ => 0) src.val (n + 1) s.cmd.netCount } }
          if !s.isLit 10 then s.count (A.aonDarkLoss 10)
          else match s.netOpen f.bytes with
            | (s, none) => s.netFail src mac
            | (s, some (slot, h, pt)) => s.netAccept src f slot h pt)

/-! ### Limits and seconds (R59, R63, R77) -/

/-- FRAGMENT_TIMEOUT: 100 ms without the next fragment. -/
def execFragmentTimeout (who : CmdReq) (s : State) : Host.Outcome State Fault Refusal :=
  .next (if s.glovesRun then
    match s.openFrag who with
    | some f => s.abandon f ST.timeout
    | none => s
  else s)

/-- A request leaves its DALI bus. -/
def State.dropDali (s : State) (r : Request) : State :=
  [0, 1].foldl (fun s b =>
    let d := s.dali b
    let s := s.setDali b { d with queue := d.queue.filter (fun f => f.req != some r) }
    if d.busy.any (fun f => f.req == some r) then s.freeDali b else s) s

/-- The event that a PROVISION_COMMIT whose transition waits for the slot has raised. -/
def State.dueEvent (s : State) (r : Request) : Option Nat :=
  match s.mode.provisionDue with
  | some d => if d.req = r then some d.event else none
  | none => none

/-- COMMAND_LIMIT_TIMEOUT: a dispatched command passes its limit; its effect word shows what it had changed. The limits of MODE_SET,
TEST_ENTER and RENEW, and of a PROVISION_COMMIT whose transition runs, are those of their transitions and renewal steps
(log entry 20). -/
def execCommandLimitTimeout (who : CmdReq) (tag : Fin 65536) (s : State) : Host.Outcome State Fault Refusal :=
  .next (if s.glovesRun then
    match s.cmd.out.find? (fun o => o.dispatched && o.req.who == who && o.req.tag == tag.val) with
    | some o =>
      match opcOf o.req.island o.req.op with
      | some .modeSet | some .testEnter | some .renew => s
      | _ =>
        if s.mode.pending.any (fun t => t.req == some o.req) then s
        else match s.dueEvent o.req with
          | some n => (s.finish o.req ST.timeout (some n) []).doze
          | none => ((s.endEarly o.req ST.timeout).dropDali o.req).doze
    | none => s
  else s)

/-- DISTRICT_SECOND_BOUNDARY: a second has begun: command frame counts, logs of the first per second, and management rate counts restart
(log entry 21). -/
def execDistrictSecondBoundary (s : State) : Host.Outcome State Fault Refusal :=
  .next (if s.nowSec = s.cmd.second then s
  else
    let s := { s with cmd := { s.cmd with netCount := [], netFailLogged := false, second := s.nowSec } }
    (List.range 3).foldl (fun s r => s.setWr r { s.wr r with sec := s.nowSec, unknown := [], mgmtCount := 0 }) s)

end Sys2Proof.Machine
end

