-- ==== Sys2Proof/Machine/RegView.lean ====
section
/-!
DEFINITION. What a register reads as: the stored word, or the state that the register shows (R14–R18, R26, R30).
-/

namespace Sys2Proof.Machine

/-! ### State shown by registers -/

/-- The state a command leaves, or the state before where it stops. -/
def afterCmd (s : State) (o : Host.Outcome State Fault Refusal) : State := match o with | .next t => t | _ => s

/-- AON_PWR_STATE_k (R488). -/
def State.pwrWord (s : State) (k : Nat) : Word :=
  BitVec.ofNat 32 ((List.range 8).foldl (fun a n => a + (if 8 * k + n < 22 then pwrCode (s.pw (8 * k + n)).st else 0) * 16 ^ n) 0)

/-- The four words of CIP_SLOT_s (R286–R297). -/
def State.slotWord (s : State) (slot i : Nat) : Word :=
  let k := s.key slot
  let b (x : Bool) (n : Nat) : Nat := if x then 2 ^ n else 0
  BitVec.ofNat 32 (match i with
    | 0 => k.cls * 2 ^ 24 + b (k.key.length == 32) 23 + k.use * 2 ^ 20 + b k.shadow.isSome 0 + b k.warned 1 + b k.exhausted 2
    | 1 => k.gen
    | 2 => k.pn % 2 ^ 32
    | _ => k.pn / 2 ^ 32)

/-- A map in the store's layout (R140): header, entries, zeros to whole units. -/
def mapBytes (m : HolMap) : List Byte :=
  let row (e : List Nat) : List Byte := (List.range ((m.groups + 1) / 2)).map (fun i =>
    BitVec.ofNat 8 (e.getD (2 * i) 0 + 16 * e.getD (2 * i + 1) 0))
  let head := toLE 2 (m.partner % 1024 + m.band * 2 ^ 10 + m.mapId * 2 ^ 12 + m.kind * 2 ^ 14 + (if m.valid then 2 ^ 15 else 0))
    ++ toLE 1 m.width ++ toLE 1 (m.rate * 4 + (m.streams - 1)) ++ toLE 4 m.codedBits ++ toLE 2 m.groups ++ toLE 1 m.seq
    ++ toLE 1 0 ++ toLE 4 m.calVersion
  let body := head ++ (m.entries.map row).flatten
  body ++ List.replicate (64 * m.units - body.length) 0

/-- A word of the map store; a unit that no map takes reads as zero. -/
def State.mapWord (s : State) (x : Nat) : Word :=
  match s.hol.maps.find? (fun m => m.unit ≤ x / 64 && x / 64 < m.unit + m.units) with
  | some m => BitVec.ofNat 32 (ofLE (((mapBytes m).drop (x - 64 * m.unit)).take 4))
  | none => 0

/-- The packet number of the next frame to a station: of its transmit key's slot. -/
def State.staPn (s : State) (n : Nat) : Nat :=
  (s.key (s.staSlot n (s.fld (A.hmacWlanStationW3 n) F.hmacWlanStationW3_tx_key_id))).pn

/-- Is an offset n · stride + word of an array from a base? The index. -/
def idxOf (off base stride count word : Nat) : Option Nat :=
  if base + word ≤ off ∧ (off - base) % stride = word ∧ (off - base) / stride < count then some ((off - base) / stride) else none

/-- CAL_STATE for 1 µs from an application: step shows that it is applying (R180) (log entry 48). -/
def State.applying (s : State) (r : Nat) : Bool :=
  match (s.rd r).cal.lastApply with | some t => decide (s.elapsed < t + 1000) | none => false

/-- A register whose value the state holds elsewhere than in the register file. -/
def State.shown (s : State) (a : Nat) : Option Word :=
  let id := islandOf a
  let off := offOf a
  if off = 0xFFF004 then some (BitVec.ofNat 32 (s.nextSeq id))
  else if id = 0 then
    if off = 0 then some (BitVec.ofNat 32 (0x740 * 2 ^ 16 + s.flash.stepLetter * 2 ^ 12 + s.flash.stepDigit * 2 ^ 8 + s.flash.grade * 16))
    else (idxOf off 0x100 4 3 0).map s.pwrWord
  else if id = 1 then
    if off = 0x100 then some s.deviceModeWord
    else if off = 0x500 then some (BitVec.ofNat 32 s.log.next0)
    else if off = 0x504 then some (BitVec.ofNat 32 s.log.next1)
    else if off = 0x508 then some (BitVec.ofNat 32 s.flash.tier2Next)
    else if off = 0x600 then some (F.cdmBootStatus_min_version.put s.flash.minVersion (s.reg a))
    else none
  else if id = 2 then
    if off = 0x200 then some (F.timeQuality_quality.put s.quality (s.reg a)) else none
  else if id = 3 then
    (idxOf off 0x400000 0x100 8192 0x90).map (fun n => F.pktRuleLive_free.put (if s.ruleFree n then 1 else 0) (s.reg a))
  else if id = 4 then
    match idxOf off 0x100000 0x20 4096 0x18, idxOf off 0x100000 0x20 4096 0x1C with
    | some q, _ => some (BitVec.ofNat 32 (unsigned 32 (s.creditNow q / 1000000)))
    | none, some q =>
      some (F.schQW7_eligible.put (if s.bit (A.schQW0 q) F.schQW0_enable ∧ s.qEligible q then 1 else 0) (s.reg a))
    | none, none => match idxOf off 0x200000 0x20 16384 0x10 with
      | some m => some (F.schMtrW4_tc.put (((s.meter m).settle s.elapsed).tc / 1000000) 0)
      | none => (idxOf off 0x200000 0x20 16384 0x14).map (fun m =>
          F.schMtrW5_tp.put (((s.meter m).settle s.elapsed).tp / 1000000) 0)
  else if id = 5 then (idxOf off 0x10000 0x100 24 0x14).map (fun k => BitVec.ofNat 32 (s.irqClaim k))
  else if id = 10 then
    if 0x100000 ≤ off ∧ off < 0x110000 then some (s.slotWord ((off - 0x100000) / 16) (off / 4 % 4)) else none
  else if 17 ≤ id ∧ id ≤ 19 then
    if off = 0x2010 ∧ s.applying (id - 17) then some (F.radCalState_step.put 3 (s.reg a)) else none
  else if id = 21 then
    if off = 0x5000 then some (F.hmacHolCtl_device_number.put s.ownDevice (s.reg a))
    else if 0x100000 ≤ off ∧ off < 0x200000 then some (s.mapWord (off - 0x100000))
    else match idxOf off 0x80000 0x20 1536 0x18 with
      | some n => some (BitVec.ofNat 32 (s.staPn n % 2 ^ 32))
      | none => (idxOf off 0x80000 0x20 1536 0x1C).map (fun n => BitVec.ofNat 32 (s.staPn n / 2 ^ 32 % 65536))
  else none

/-- What software reads at an address of a lit island's window, beside a read's own effect: an offset without a register reads
as zero (R16), write-only fields too (R18). -/
def State.regView (s : State) (a : Nat) : Word :=
  match s.shown a with
  | some w => w
  | none => match findReg a with
    | some d => d.readView (s.reg a)
    | none => 0

/-- A read of the word at an aligned window address by a requester, with the effect the read has: it latches district time, the
high word of a counter, or dispatches a work item; a core's block of TSK answers only that core. -/
def State.readWord (s : State) (who : Requester) (a : Nat) : State × Word :=
  let id := islandOf a
  let off := offOf a
  if id = 2 ∧ a = A.timeNowNs then
    let t := afterCmd s (execTimeNowRead who s)
    (t, t.bus.data)
  else if id = 5 ∧ 0x10000 ≤ off ∧ off < 0x11800 then
    let k := (off - 0x10000) / 0x100
    if who ≠ .core (Fin.ofNat 24 k) then (s, 0)
    else if off % 0x100 = 0 then
      let t := afterCmd s (execTskGet (Fin.ofNat 24 k) s)
      (t, t.bus.data)
    else (s, s.regView a)
  else if 6 ≤ id ∧ id ≤ 8 ∧ 0x10000 ≤ off ∧ off < 0x12000 ∧ off % 0x400 < 0x80 then
    let k := 8 * (id - 6) + (off - 0x10000) / 0x400
    let n := off % 0x400 / 8
    if off % 8 = 0 then
      let t := afterCmd s (execPerfCounterRead who (Fin.ofNat 24 k) (Fin.ofNat 16 n) s)
      (t, t.bus.data)
    else (s, BitVec.ofNat 32 (Tbl.get (fun _ => 0) s.perf (srcId who)))
  else if 13 ≤ id ∧ id ≤ 16 ∧ 0x10000 ≤ off ∧ off < 0x10800 then
    let p := 4 * (id - 13) + (off - 0x10000) / 0x200
    let n := off % 0x200 / 4
    if n = 0 ∨ n = 24 then
      let t := afterCmd s (execOctetCounterRead who (Fin.ofNat 16 p) (n == 24) s)
      (t, t.bus.data)
    else match if n = 1 then (s.port p).rxHigh else if n = 25 then (s.port p).txHigh else none with
      | some h => (s, BitVec.ofNat 32 h)
      | none => (s, s.regView a)
  else (s, s.regView a)

end Sys2Proof.Machine
end

