-- ==== Sys2Proof/Machine/Bus.lean ====
section
/-!
DEFINITION. Register accesses: the access rules of every window, what a write of each register does, and the handshake
limit (R14–R19, R22–R25, R30).
-/

namespace Sys2Proof.Machine

/-! ### Plain writes -/

/-- A write by the access codes alone (R17, R18). -/
def State.plain (s : State) (d : RegDesc) (a : Nat) (w : Word) : State := (s.setReg a (d.write false (s.reg a) w)).busOk 0

/-- A write of some fields of a register, the others kept. -/
def State.part (s : State) (a : Nat) (fs : List Fld) (w : Word) : State :=
  (s.setReg a (fs.foldl (fun r f => f.write false r w) (s.reg a))).busOk 0

/-! ### AON and CDM -/

/-- A write in the AON window. A wake status bit cleared sets again while its level source holds (R496). -/
def State.writeAon (s : State) (who : Requester) (d : RegDesc) (a : Nat) (w : Word) : State :=
  if a = A.aonVigilStatus then afterCmd s (execVigilStatusClear who w s)
  else if a = A.aonWakeStatus then
    let s := s.plain d a w
    let held := bitsOf 10 s.heldSources
    held.foldl (fun s n => if s.wakeEnabled n then
      s.setFld a F.aonWakeStatus_wake (setBit (s.fld a F.aonWakeStatus_wake) n) else s) s
  else s.plain d a w

/-- A write in the CDM window. net_en, mbx_mgmt and net_rate are locked with lock (R79). -/
def State.writeCdm (s : State) (who : Requester) (d : RegDesc) (a : Nat) (w : Word) : State :=
  if a = A.cdmMbxDoorbell then afterCmd s (execMbxDoorbell who w s)
  else if a = A.cdmMbxRspStatus then afterCmd s (execMbxRspFree who w s)
  else if a = A.cdmGloveKick then afterCmd s (execGloveKick who w s)
  else if a = A.cdmCmdCtl then (s.setReg a (d.write (s.bit a F.cdmCmdCtl_lock) (s.reg a) w)).busOk 0
  else if a = A.cdmDaliCtl 0 then (s.plain d a w).runDali 0
  else if a = A.cdmDaliCtl 1 then (s.plain d a w).runDali 1
  else s.plain d a w

/-! ### TIME -/

/-- A write in the TIME window. -/
def State.writeTime (s : State) (who : Requester) (d : RegDesc) (a : Nat) (w : Word) : State :=
  if a = A.timeOffsetFrac then afterCmd s (execTimeOffsetSubmit who w s)
  else match idxOf (offOf a) 0x1000 32 11 0xC with
    | some c =>
      let s := s.part a [F.timeCuffCtl_irq_en] w
      if F.timeCuffCtl_pop.get w = 1 then afterCmd s (execCuffPop who (Fin.ofNat 11 c) s) else s
    | none => if a = A.timeCtl ∨ a = A.timeQuality then (s.plain d a w).refreshQuality else s.plain d a w

/-! ### PKT and SCH -/

/-- A write in the PKT window. -/
def State.writePkt (s : State) (who : Requester) (d : RegDesc) (a : Nat) (w : Word) : State :=
  let off := offOf a
  if a = A.pktVersionCtl then
    let s := s.part a [F.pktVersionCtl_retired, F.pktVersionCtl_retire_irq_en] w
    if F.pktVersionCtl_commit_req.get w = 1 then afterCmd s (execRuleCommit who s) else s
  else if a = A.pktRuleStage then (s.ruleStage w).busOk 0
  else if 0x400 ≤ off ∧ off < 0x440 then (s.creditClass ((off - 0x400) / 8)).plain d a w
  else if a = A.pktEpSeed1 then afterCmd s (execEpSeedWrite who false w s)
  else if a = A.pktEpSeed2 then afterCmd s (execEpSeedWrite who true w s)
  else if a = A.pktEpInval then afterCmd s (execEpInvalidate who w s)
  else if 0x400000 ≤ off ∧ off % 0x100 < 0x90 then
    afterCmd s (execRuleEntryWrite who (Fin.ofNat 8192 ((off - 0x400000) / 0x100)) (Fin.ofNat 36 (off % 0x100 / 4)) w s)
  else s.plain d a w

/-- A write in the SCH window. -/
def State.writeSch (s : State) (who : Requester) (d : RegDesc) (a : Nat) (w : Word) : State :=
  let off := offOf a
  if a = A.schQFlush then afterCmd s (execQFlush who w s)
  else if a = A.schPoolCfg ∧ !isCudom who then s.busOk 0
  else if 0x100000 ≤ off ∧ off < 0x120000 ∧ off % 32 < 24 then
    afterCmd s (execSchQWrite who (Fin.ofNat 4096 ((off - 0x100000) / 32)) (Fin.ofNat 6 (off % 32 / 4)) w s)
  else match idxOf off 0x200000 32 16384 12 with
    | some m => afterCmd s (execMeterSubmit who (Fin.ofNat 16384 m) w s)
    | none => s.plain d a w

/-! ### TSK, clusters, DMA -/

/-- A write in the TSK window; a core's block answers only that core. -/
def State.writeTsk (s : State) (who : Requester) (d : RegDesc) (a : Nat) (w : Word) : State :=
  let off := offOf a
  if a = A.tskIrqSoft then afterCmd s (execTskIrqSoft who w s)
  else if a = A.tskCtl ∧ !isCudom who then s.busOk 0
  else if 0x10000 ≤ off ∧ off < 0x11800 then
    let k : Fin 24 := Fin.ofNat 24 ((off - 0x10000) / 0x100)
    let o := off % 0x100
    if who ≠ .core k then s.busOk 0
    else if o = 4 then afterCmd s (execTskDone k w s)
    else if o = 0xC then
      let id := Fin.ofNat 65536 (F.tskCmd_id.get w)
      match F.tskCmd_op.get w with
      | 0 => afterCmd s (execTskReady k id s)
      | 1 => afterCmd s (execTskCancel k id .nothing s)
      | _ => s.busOk 0
    else if o = 0xBC then afterCmd s (execTskSubmit k w s)
    else s.plain d a w
  else s.plain d a w

/-- A write in a cluster's window. -/
def State.writeCl (s : State) (who : Requester) (d : RegDesc) (a : Nat) (w : Word) : State :=
  if offOf a = 0 then
    let cl := Fin.ofNat 3 (islandOf a - 6)
    let s := (s.settleCluster cl).plain d a w
    afterCmd s (execClusterPark who cl (F.clClk_parked.get w == 1) s)
  else s.plain d a w

/-- A write in the DMA window; channels 57 to 63 are Cudom's (R422). -/
def State.writeDma (s : State) (who : Requester) (d : RegDesc) (a : Nat) (w : Word) : State :=
  let off := offOf a
  if 0x1000 ≤ off ∧ off < 0x2000 then
    let c : Fin 64 := Fin.ofNat 64 ((off - 0x1000) / 0x40)
    if !dmaMay who c then s.busOk 0
    else if off % 0x40 = 0 then
      if F.dmaChCtl_enable.get w = 1 then afterCmd s (execDmaChEnable who c w s) else afterCmd s (execDmaChDisable who c w s)
    else s.plain d a w
  else s.plain d a w

/-! ### CIP -/

/-- A write in the CIP window: ring 1 is Cudom's; a valid SA entry keeps its fields but valid; a write of a ring's pointers
clears its interrupt. -/
def State.writeCip (s : State) (who : Requester) (d : RegDesc) (a : Nat) (w : Word) : State :=
  let off := offOf a
  if 0x100 ≤ off ∧ off < 0x140 then
    let r := (off - 0x100) / 32
    if r = 1 ∧ !isCudom who then s.busOk 0
    else if off % 32 = 8 then afterCmd s (execCipJobCtlWrite who (Fin.ofNat 2 r) w s)
    else if off % 32 = 12 then
      let s := s.plain d a w
      { s with cip := { s.cip with irq := clrBit s.cip.irq r } }
    else s.plain d a w
  else if 0x200000 ≤ off ∧ s.bit (A.cipMsecSaW0 ((off - 0x200000) / 64)) F.cipMsecSaW0_valid then
    if off % 64 = 0 then s.part a [F.cipMsecSaW0_valid] w else s.busOk 0
  else s.plain d a w

/-! ### MEM -/

/-- A write in a MEM window: R466's lock, R463's entries, and drain levels in order. -/
def State.writeMem (s : State) (who : Requester) (d : RegDesc) (a : Nat) (w : Word) : State :=
  let off := offOf a
  let n := islandOf a - 11
  if off = 0 then
    let s := if F.memCfg_cfg_err.get w = 1 ∧ isCudom who then s.setFld a F.memCfg_cfg_err 0 else s
    afterCmd s (execChamberLock who (Fin.ofNat 2 n) w s)
  else if 0x1000 ≤ off ∧ off < 0x1200 then
    let c := (off - 0x1000) / 16
    if off % 16 = 0 then afterCmd s (execChamberSubmit who (Fin.ofNat 2 n) (Fin.ofNat 32 c) w s)
    else if s.memLocked n ∨ s.bit (A.memChamberW0 n c) F.memChamberW0_valid then s.busOk 0
    else s.plain d a w
  else if off = 4 then
    if F.memSched_wq_high.get w ≤ F.memSched_wq_low.get w then (s.memErr n).busOk 0 else s.plain d a w
  else s.plain d a w

/-! ### LNQ -/

/-- A write of a quad's PLLs. A Kalhar Link's PLL keeps its fields (R360); one that an enabled Ethernet port uses keeps them with
cfg_err (R362); rate code 7 is refused; a PLL off or at another rate loses lock. -/
def State.writePll (s : State) (q : Nat) (w : Word) : State :=
  let a := A.lnqPllCtl q
  let on := ((List.range 4).map (4 * q + ·)).filter s.portOn
  ([false, true].foldl (fun s b =>
    let en := (pllEn b).get w
    let rate := (pllRate b).get w
    let same := en = s.fld a (pllEn b) ∧ rate = s.fld a (pllRate b)
    if same ∨ on.any (fun k => s.ownsPll k b) then s
    else if on.any (fun k => (s.portLanes k).any (fun l => s.lanePll q l == b)) then s.lnqErr q 4
    else if rate = 7 then s.lnqErr q 3
    else ((s.setFld a (pllEn b) en).setFld a (pllRate b) rate).setFld a (pllLock b) 0) s).busOk 0

/-- A write of a lane's settings; pll_sel and the inversions of an enabled MAC's lane are kept, with cfg_err (R362). -/
def State.writeLane (s : State) (q l : Nat) (w : Word) : State :=
  let a := A.lnqLaneCfg q l
  let held := [F.lnqLaneCfg_pll_sel, F.lnqLaneCfg_tx_invert, F.lnqLaneCfg_rx_invert]
  let free := [F.lnqLaneCfg_tx_amp, F.lnqLaneCfg_tx_pre, F.lnqLaneCfg_tx_post, F.lnqLaneCfg_rx_eq]
  if s.bit (A.lnqLaneStatus q l) F.lnqLaneStatus_in_use then
    let t := s.part a free w
    if held.all (fun f => f.get w == s.fld a f) then t else t.lnqErr q 4
  else s.part a (held ++ free) w

/-- A write in a LNQ window. -/
def State.writeLnq (s : State) (who : Requester) (d : RegDesc) (a : Nat) (w : Word) : State :=
  let off := offOf a
  let q := islandOf a - 13
  if off = 0 then s.writePll q w
  else if 0x10 ≤ off ∧ off < 0x20 then s.writeLane q ((off - 0x10) / 4) w
  else if 0x30 ≤ off ∧ off < 0x40 then
    afterCmd s (execLaneTestWrite who (Fin.ofNat 4 q) (Fin.ofNat 4 ((off - 0x30) / 4)) w s)
  else if 0x100 ≤ off ∧ off < 0x200 then
    let m := (off - 0x100) / 0x40
    let p : Fin 16 := Fin.ofNat 16 (4 * q + m)
    let o := off % 0x40
    if o = 0 then
      if F.lnqPortCfg_enable.get w = 1 then afterCmd s (execPortEnable who p w s) else afterCmd s (execPortDisable who p w s)
    else if o = 0xC then
      if F.lnqPortFlow_xoff.get w ≤ F.lnqPortFlow_xon.get w then (s.setFld (A.lnqCtl q) F.lnqCtl_cfg_err 1).busOk 0
      else s.plain d a w
    else if o = 0x10 then
      if F.lnqPortTx_thresh_reset.get w = 1 then afterCmd s (execThreshReset who p s) else s.busOk 0
    else if o = 0x20 ∨ o = 0x24 then
      let s := s.plain d a w
      let left := s.reg (A.lnqCntHalfLo q m) ||| s.reg (A.lnqCntHalfHi q m)
      s.setFld (A.lnqPortIrq q m) F.lnqPortIrq_half (if left = 0 then 0 else 1)
    else s.plain d a w
  else s.plain d a w

/-! ### Radios and the gallery -/

/-- The chains of a radio that its calibration record does not record as failed (R189), of those it has. -/
def State.usableChains (s : State) (r : Nat) : Nat :=
  let failed := (Tbl.get (fun _ => CalRec.init) s.calRecs r).failed
  (List.range (chainsOf r)).foldl (fun a k => if failed.testBit k then a else a + 2 ^ k) 0

/-- A write of rad_CTL: chain enables of fitted chains that did not fail; receive chains raise their LNA_EN (R92); enable 0 is
R571's. -/
def State.writeRadCtl (s : State) (who : Requester) (r : Fin 3) (w : Word) : State :=
  let m := s.usableChains r
  let w := F.radCtl_tx_chain_en.put (F.radCtl_tx_chain_en.get w &&& m)
    (F.radCtl_rx_chain_en.put (F.radCtl_rx_chain_en.get w &&& m) w)
  if s.bit (A.radCtl r) F.radCtl_enable ∧ F.radCtl_enable.get w = 0 then afterCmd s (execRadioDisable who r w s)
  else
    let s := s.plain D.radCtl (A.radCtl r) w
    if F.radCtl_enable.get w = 1 then (s.restPins r).showSlot r else s

/-- A write in a radio's window. -/
def State.writeRad (s : State) (who : Requester) (d : RegDesc) (a : Nat) (w : Word) : State :=
  let r : Fin 3 := Fin.ofNat 3 (islandOf a - 17)
  if a = A.radCtl r then s.writeRadCtl who r w
  else if a = A.radSynCtl r then afterCmd s (execRetuneRequestReg who r w false s)
  else if a = A.radFeSeqLag r then afterCmd s (execFeSeqSubmit who r w s)
  else if a = A.radDetCfg r then afterCmd s (execDetCfgWrite who r w s)
  else if a = A.radDetStatus r then afterCmd s (execMuteClear who r w s)
  else if a = A.radDetMuteSet r then afterCmd s (execMuteSet who r w s)
  else if a = A.radTunCmd r then afterCmd s (execTunerCommand who r w s)
  else if a = A.radCoexCtl r then (s.plain d a w).showSlot r
  else s.plain d a w

/-! ### HMAC -/

/-- A write of a partner's entry: schedule fields only while it is FREE (R242). -/
def State.writePartner (s : State) (d : RegDesc) (a : Nat) (w : Word) : State :=
  let p := (offOf a - 0x60000) / 32
  if s.partnerState p = 0 then s.plain d a w
  else match (offOf a - 0x60000) % 32 with
    | 0 => s.part a [F.hmacHolPartnerW0_tx_key_id] w
    | 4 => s.part a [F.hmacHolPartnerW1_retry_limit] w
    | 16 => s.part a [F.hmacHolPartnerW4_key_slot0] w
    | 20 => s.part a [F.hmacHolPartnerW5_key_slot1] w
    | _ => s.busOk 0

/-- A write of a station's entry: fields other than state, keys and protection only while it is FREE (R253). -/
def State.writeStation (s : State) (who : Requester) (d : RegDesc) (a : Nat) (w : Word) : State :=
  let n := (offOf a - 0x80000) / 32
  let o := (offOf a - 0x80000) % 32
  if o = 4 then afterCmd s (execStationStateWrite who (Fin.ofNat 1536 n) w s)
  else if s.sta n = 0 then s.plain d a w
  else if o = 12 then
    s.part a [F.hmacWlanStationW3_protect_en, F.hmacWlanStationW3_tx_key_id, F.hmacWlanStationW3_key_slot1,
      F.hmacWlanStationW3_key_slot0] w
  else s.busOk 0

/-- A write in the HMAC window; the map store is read-only (R141). -/
def State.writeHmac (s : State) (who : Requester) (d : RegDesc) (a : Nat) (w : Word) : State :=
  let off := offOf a
  if a = A.hmacHolRound then afterCmd s (execHolRoundWrite who w s)
  else if a = A.hmacHolChmapCtl then afterCmd s (execChmapChangeReq who w s)
  else if a = A.hmacHolAdmit then
    if F.hmacHolAdmit_op.get w = 1 then afterCmd s (execHolRelease who w s) else afterCmd s (execHolAdmit who w s)
  else if a = A.hmacHolAbsence then afterCmd s (execHolAbsenceGo who w s)
  else if a = A.hmacHolParentCtl then
    if F.hmacHolParentCtl_leave.get w = 1 then afterCmd s (execParentLeave who w s) else afterCmd s (execParentJoin who w s)
  else if 0x5100 ≤ off ∧ off < 0x5200 then
    afterCmd s (execChdefWrite who (Fin.ofNat 64 ((off - 0x5100) / 4)) w s)
  else if 0x60000 ≤ off ∧ off < 0x68000 then s.writePartner d a w
  else if 0x80000 ≤ off ∧ off < 0x8C000 then s.writeStation who d a w
  else if 0x6000 ≤ off ∧ off < 0x6300 then
    let r := (off - 0x6000) / 0x100
    if off % 0x100 = 8 then afterCmd s (execSteerGo who (Fin.ofNat 3 r) w s)
    else if 0x40 ≤ off % 0x100 ∧ off % 0x100 < 0x80 then (s.plain d a w).bssCheck r
    else s.plain d a w
  else if 0x6300 ≤ off ∧ off < 0x6318 then (s.plain d a w).bssCheck ((off - 0x6300) / 8)
  else s.plain d a w

/-! ### The access rules -/

/-- A word write at an aligned offset of an island that answers: a register that the requester may not write, and an offset
without one, discard it without a bus error (R16). -/
def State.writeWord (s : State) (who : Requester) (a : Nat) (w : Word) : State :=
  match findReg a with
  | none => s.busOk 0
  | some d =>
    let id := islandOf a
    if !mayWrite d.wr who then s.busOk 0
    else if id = 0 then s.writeAon who d a w
    else if id = 1 then s.writeCdm who d a w
    else if id = 2 then s.writeTime who d a w
    else if id = 3 then s.writePkt who d a w
    else if id = 4 then s.writeSch who d a w
    else if id = 5 then s.writeTsk who d a w
    else if id ≤ 8 then s.writeCl who d a w
    else if id = 9 then s.writeDma who d a w
    else if id = 10 then s.writeCip who d a w
    else if id ≤ 12 then s.writeMem who d a w
    else if id ≤ 16 then s.writeLnq who d a w
    else if id ≤ 19 then s.writeRad who d a w
    else if id = 20 then (if a = A.decCtl then afterCmd s (execDecCtlWrite who w s) else s.plain d a w)
    else s.writeHmac who d a w

/-- Is an address of the core mailbox SRAM (R66)? -/
def inMailbox (a : Nat) : Bool := islandOf a == 1 && decide (0x10000 ≤ offOf a) && decide (offOf a < 0x18000)

/-- Does an access of n bytes touch a register? -/
def touchesReg (a n : Nat) : Bool := (List.range n).any (fun k => (findReg ((a + k) / 4 * 4)).isSome)

/-- A write in the island windows: an empty slot, a dark island, and a register at a wrong width or alignment answer with a bus
error; an offset that no register occupies discards it (R15, R16, R23, R499). -/
def State.winWrite (s : State) (who : Requester) (a : Nat) (bs : List Byte) : State :=
  let id := islandOf a
  if 22 ≤ id then s.busErr
  else if !s.answers who id then (if id = 0 then s else s.darkRecord who id (offOf a) true).busErr
  else if inMailbox a then
    if [1, 2, 4, 8].contains bs.length ∧ a % bs.length = 0 then
      let x := offOf a - 0x10000
      { s with cmd := { s.cmd with mbx := writeBytes s.cmd.mbx x bs } }.busOk 0
    else s.busErr
  else if bs.length ≠ 4 ∨ a % 4 ≠ 0 then (if touchesReg a bs.length then s.busErr else s.busOk 0)
  else s.writeWord who a (BitVec.ofNat 32 (ofLE bs))

/-- A read of n bytes in the island windows; none is a bus error. -/
def State.winRead (s : State) (who : Requester) (a n : Nat) : State × Option (List Byte) :=
  let id := islandOf a
  if 22 ≤ id then (s, none)
  else if !s.answers who id then (if id = 0 then s else s.darkRecord who id (offOf a) false, none)
  else if inMailbox a then
    if [1, 2, 4, 8].contains n ∧ a % n = 0 then
      (s, some ((List.range n).map (fun i => Tbl.get (fun _ => 0) s.cmd.mbx (offOf a - 0x10000 + i))))
    else (s, none)
  else if n ≠ 4 ∨ a % 4 ≠ 0 then (s, if touchesReg a n then none else some (List.replicate n 0))
  else
    let (s, w) := s.readWord who a
    (s, some (toLE 4 w.toNat))

/-- REGISTER_WRITE: a write of bytes, the first at the address; an address that the map does not list answers with a bus error
(R24) (log entries 12, 13). -/
def execRegisterWrite (who : Requester) (a : Fin 0x10000000000) (data : List Byte) (s : State) :
    Host.Outcome State Fault Refusal :=
  .next (if inWindows a then s.winWrite who a data
  else match s.memWrite who a data with
    | (s, true) => s.busOk 0
    | (s, false) => s.busErr)

/-- HANDSHAKE_TIMEOUT: a request to a lit island is not acknowledged within 100 µs. DMA follows R439, a dark island R499
(log entry 15). A DRAM request that has waited so long for room is dropped (R468). -/
def execHandshakeTimeout (who : Requester) (i : Fin 22) (off : Fin 0x1000000) (s : State) :
    Host.Outcome State Fault Refusal :=
  .next (match who with
  | .dma _ => s
  | _ => if s.answers who i then
      let late (w : DramWait) : Bool := w.who == who && memId (chanOf w.x) == i.val && decide (w.since + 100000 ≤ s.elapsed)
      let s := { s with dram := { s.dram with waiting := s.dram.waiting.eraseP late } }
      (s.raise i .handshakeTimeout 0 2 [i, off, srcId who]).busErr
    else s)

end Sys2Proof.Machine
end

