-- ==== Sys2Proof/Machine/Counters.lean ====
section
/-!
DEFINITION. QUERY and COUNTERS_READ, the opcodes of every island (R84).
-/

namespace Sys2Proof.Machine

open Crypto (toBE)

/-- A run of counters that interleave: base offset, index dimensions (stride, count) with the larger stride first, and within
each index the offset of a counter and whether its high word follows it. -/
structure CtrGroup where
  base : Nat
  dims : List (Nat × Nat)
  offs : List (Nat × Bool)
  deriving DecidableEq, Repr

/-- n counter registers of 32 bits in a row. -/
def words32 (n : Nat) : List (Nat × Bool) := (List.range n).map (fun k => (4 * k, false))

def CtrGroup.size (g : CtrGroup) : Nat := g.dims.foldl (fun a d => a * d.2) 1 * g.offs.length

/-- The offset of index k of the dimensions. -/
def dimOff : List (Nat × Nat) → Nat → Nat
  | [], _ => 0
  | (st, _) :: ds, k =>
    let n := ds.foldl (fun a d => a * d.2) 1
    k / n * st + dimOff ds (k % n)

/-- The k-th counter of a group: its offset, and whether it has a high word. -/
def CtrGroup.at (g : CtrGroup) (k : Nat) : Nat × Bool :=
  let o := g.offs.getD (k % g.offs.length) (0, false)
  (g.base + dimOff g.dims (k / g.offs.length) + o.1, o.2)

/-- The counters of a MAC: 32-bit ones, but for the octet counters of two words at indices 0 and 24 (R393). -/
def macOffs : List (Nat × Bool) :=
  (List.range 42).filterMap (fun n => if n = 1 ∨ n = 25 then none else some (4 * n, n = 0 ∨ n = 24))

/-- An island's counters, in ascending offset order. -/
def counters (i : Nat) : List CtrGroup :=
  if i = 0 then [⟨0xF04, [(4, 21)], words32 1⟩, ⟨0xF80, [], words32 3⟩]
  else if i = 1 then [⟨0x210, [], words32 8⟩, ⟨0xF00, [], words32 8⟩]
  else if i = 2 then [⟨0xF00, [(4, 11)], words32 1⟩, ⟨0xF40, [], words32 3⟩]
  else if i = 3 then [⟨0xF00, [], words32 12⟩, ⟨0xF40, [(8, 8)], words32 2⟩]
  else if i = 4 then [⟨0xF00, [], words32 7⟩, ⟨0x300000, [(32, 4096)], words32 6⟩, ⟨0x400000, [(64, 4096), (4, 16)], words32 1⟩]
  else if i = 5 then [⟨0xF00, [], words32 7⟩]
  else if i ≤ 8 then [⟨0x10000, [(0x400, 8), (8, 16)], [(0, true)]⟩]
  else if i = 9 then [⟨0x1020, [(64, 64)], words32 4⟩]
  else if i = 10 then [⟨0xF00, [], words32 6⟩, ⟨0x1000, [(16, 16)], words32 4⟩]
  else if i ≤ 12 then [⟨0xF00, [], words32 10⟩]
  else if i ≤ 16 then [⟨0xF00, [(8, 4)], words32 2⟩, ⟨0xF40, [(32, 4)], words32 7⟩, ⟨0x10000, [(0x200, 4)], macOffs⟩]
  else if i ≤ 19 then [⟨0xF00, [], words32 11⟩, ⟨0x1F00, [], words32 8⟩, ⟨0x2F00, [], words32 8⟩]
  else if i = 20 then [⟨0x8, [], words32 1⟩, ⟨0x100, [(32, 3)], words32 4⟩]
  else if i = 21 then [⟨0x4F00, [], words32 2⟩, ⟨0x5F00, [], words32 22⟩, ⟨0x6F00, [(64, 3)], words32 16⟩]
  else []

/-- The k-th counter of a list of groups. -/
def counterAt : List CtrGroup → Nat → Option (Nat × Bool)
  | [], _ => none
  | g :: gs, k => if k < g.size then some (g.at k) else counterAt gs (k - g.size)

/-- The value of a counter of an island. -/
def State.counterVal (s : State) (i : Nat) (c : Nat × Bool) : Nat :=
  let a := win i + c.1
  (s.reg a).toNat + (if c.2 then (s.reg (a + 4)).toNat * 2 ^ 32 else 0)

/-- COUNTERS_READ (log entry 19). -/
def execCountersRead (src : CmdSource) (s : State) : Host.Outcome State Fault Refusal :=
  .next (s.withRequest src .countersRead fun s r =>
    let first := r.p 0 2
    let cs := (List.range (r.p 2 2)).filterMap (fun k => counterAt (counters r.island) (first + k))
    s.finish r ST.ok none (toBE 2 cs.length ++ [0, 0] ++ (cs.map (fun c => toBE 8 (s.counterVal r.island c))).flatten))

/-- QUERY, answered for dark islands too: power state, renewal step, block revision, failed, next event sequence
(log entry 19). -/
def execQuery (src : CmdSource) (s : State) : Host.Outcome State Fault Refusal :=
  .next (s.withRequest src .query fun s r =>
    let i := r.island
    s.finish r ST.ok none (toBE 1 (pwrCode (s.pw i).st) ++ toBE 1 (s.renStep i)
      ++ toBE 1 (F.xxxIdent_block_rev.get (resetWord (A.xxxIdent i))) ++ toBE 1 (if s.isFailed i then 1 else 0)
      ++ toBE 2 (s.nextSeq i) ++ [0, 0]))

end Sys2Proof.Machine
end

