-- ==== Sys2Proof/Machine/DmaMove.lean ====
section
/-!
DEFINITION. The data a DMA channel moves: bursts by priority, and frames placed in receive descriptors (R431–R437).
-/

namespace Sys2Proof.Machine

/-! ### Accesses to any address -/

/-- A read of n bytes for a burst. A fixed address serves every beat; an address that increments into the windows fails
(R15, R431). -/
def State.dmaRead (s : State) (c a n : Nat) (fixed : Bool) : State × Option (List Byte) :=
  let who := Requester.dma (Fin.ofNat 64 c)
  if !fixed then s.memRead who a n
  else (List.range (n / beat a)).foldl (fun (r : State × Option (List Byte)) _ =>
    match r.2 with
    | none => r
    | some acc => match (if inWindows a then r.1.winRead who a 4 else r.1.memRead who a 8) with
      | (s, some b) => (s, some (acc ++ b))
      | (s, none) => (s, none)) (s, some [])

/-- A write of a burst's bytes; a last beat that is not full is filled with zeros. -/
def State.dmaWrite (s : State) (c a : Nat) (bs : List Byte) (fixed : Bool) : State × Bool :=
  let who := Requester.dma (Fin.ofNat 64 c)
  let k := beat a
  if !fixed then s.memWrite who a bs
  else (List.range ((bs.length + k - 1) / k)).foldl (fun (r : State × Bool) i =>
    if !r.2 then r
    else
      let b := (bs.drop (k * i)).take k
      let b := b ++ List.replicate (k - b.length) 0
      if inWindows a then
        let t := r.1.winWrite who a b
        (t, !t.bus.err)
      else r.1.memWrite who a b) (s, true)

/-! ### Bursts (R431, R432) -/

/-- A channel with bytes of a descriptor to move, whose peripheral takes them. -/
def State.dmaWants (s : State) (c : Nat) : Bool :=
  s.dmaRuns c && !isRxChan c && (!s.isTxChan c || if c < 48 then s.schTakes else s.isLit 21) &&
    match (s.dmaCh c).desc with
    | some d => decide ((s.dmaCh c).moved < dCount d)
    | none => false

def State.dmaPrio (s : State) (c : Nat) : Nat := s.fld (A.dmaChCtl c) F.dmaChCtl_prio

/-- How many bursts of higher priorities in a row a priority has waited for. -/
def State.dmaWaited (s : State) (p : Nat) : Nat := Tbl.get (fun _ => 0) s.dma.waited p

/-- The channel that receives the next burst: of the highest priority that has waited age_limit bursts, else of the highest
priority that waits; in it the first after the one last served. -/
def State.dmaPick (s : State) : Option Nat :=
  let want := (List.range 64).filter s.dmaWants
  let prios := (List.range 4).reverse.filter (fun p => want.any (fun c => s.dmaPrio c == p))
  let limit := max 1 (s.fld A.dmaCtl F.dmaCtl_age_limit)
  let aged := prios.find? (fun p => decide (limit ≤ s.dmaWaited p))
  match aged.orElse (fun _ => prios.head?) with
  | none => none
  | some p =>
    let mine := want.filter (fun c => s.dmaPrio c == p)
    let last := Tbl.get (fun _ => 63) s.dma.last p
    (mine.find? (fun c => decide (last < c))).orElse (fun _ => mine.head?)

/-- The channel's turn noted: lower priorities that wait have seen one more burst, its own has waited none. -/
def State.dmaServed (s : State) (c : Nat) : State :=
  let p := s.dmaPrio c
  let want := (List.range 64).filter s.dmaWants
  let waited := (List.range 4).foldl (fun t q =>
    let n := if q < p ∧ want.any (fun k => s.dmaPrio k == q) then s.dmaWaited q + 1
      else if p < q then s.dmaWaited q else 0
    Tbl.set (fun _ => 0) q n t) s.dma.waited
  { s with dma := { s.dma with waited := waited, last := Tbl.set (fun _ => 63) p c s.dma.last } }

/-- Bytes up to the next 512-byte boundary of an address that increments. -/
def toBoundary (a : Nat) (fixed : Bool) : Nat := if fixed then 512 else 512 - a % 512

/-- The bytes of a channel's next burst. -/
def State.burstLen (s : State) (c : Nat) (d : List Byte) (moved : Nat) : Nat :=
  let most := 64 * 2 ^ s.fld (A.dmaChCtl c) F.dmaChCtl_max_burst
  let src := if isRxChan c then 512 else toBoundary (dSrc d + moved) (dSrcFixed d)
  let dst := if s.isTxChan c then 512 else toBoundary (dDst d + moved) (dDstFixed d)
  min (min most (dCount d - moved)) (min src dst)

/-- DMA_BURST: the next burst is issued and moves its bytes whole (log entry 102). -/
def execDmaBurst (s : State) : Host.Outcome State Fault Refusal :=
  .next (match s.dmaPick with
  | none => s
  | some c =>
    let x := s.dmaCh c
    match x.desc with
    | none => s
    | some d =>
      let s := s.dmaServed c
      let n := s.burstLen c d x.moved
      let src := if dSrcFixed d then dSrc d else dSrc d + x.moved
      let dst := if dDstFixed d then dDst d else dDst d + x.moved
      match s.dmaRead c src n (dSrcFixed d) with
      | (s, none) => s.dmaFault c 1 src
      | (s, some bs) =>
        let moved (s : State) : State :=
          (s.setFld (A.dmaChStatus c) F.dmaChStatus_hops 0).setDmaCh c
            { x with moved := x.moved + n, frame := if s.isTxChan c then x.frame ++ bs else x.frame }
        if s.isTxChan c then moved s
        else match s.dmaWrite c dst bs (dDstFixed d) with
          | (s, true) => moved s
          | (s, false) => s.dmaFault c 2 dst)

/-! ### Frames into memory (R433–R435) -/

/-- A descriptor a receive walk has passed and not yet written back: its address, its bytes, the frame bytes placed in it, and
whether it is a null descriptor. -/
structure Placed where
  at_ : Nat
  desc : List Byte
  count : Nat
  null : Bool
  deriving DecidableEq, Repr

/-- How a walk over receive descriptors ended: the frame placed whole; descriptors exhausted; a halt. -/
inductive WalkEnd where
  | whole | exhausted | halted
  deriving DecidableEq, Repr

/-- A receive descriptor's write-back; on a sop descriptor with its stamp. -/
def State.backRx (s : State) (c : Nat) (p : Placed) (sop eop err short : Bool) (stamp : Option Int) : State × Bool :=
  let who := Requester.dma (Fin.ofNat 64 c)
  match s.memWrite who p.at_ (backWords p.desc sop eop err err short p.count) with
  | (s, false) => (s, false)
  | (s, true) => match stamp with
    | none => (s, true)
    | some t =>
      let (count, frac) := stampOf t
      s.memWrite who (p.at_ + 24) (toLE 4 count ++ toLE 2 frac)

/-- The walk that places a frame's bytes, from the current descriptor on. -/
def State.rxWalk (c : Nat) : Nat → State → List Byte → List Placed → State × List Placed × WalkEnd
  | 0, s, _, ps => (s, ps, .exhausted)
  | k + 1, s, bs, ps =>
    let cur := s.dmaCur c
    if ps.any (fun p => p.at_ == cur) then (s, ps, .exhausted)
    else match s.memRead (.dma (Fin.ofNat 64 c)) cur 32 with
      | (s, none) => (s.dmaFault c 0 cur, ps, .halted)
      | (s, some d) =>
        if 2 ≤ dKind d then (s.dmaHalt c 5, ps, .halted)
        else if !dOwn d then (s, ps, .exhausted)
        else if dKind d = 1 then
          match s.dmaLink c d with
          | (s, false) => (s, ps, .halted)
          | (s, true) => rxWalk c k s bs ps
        else if !s.fixedOk c d then (s.dmaHalt c 5, ps, .halted)
        else
          let n := min (dCount d) bs.length
          match s.dmaWrite c (dDst d) (bs.take n) (dDstFixed d) with
          | (s, false) => (s.dmaFault c 2 (dDst d), ps, .halted)
          | (s, true) =>
            let s := (s.setFld (A.dmaChStatus c) F.dmaChStatus_hops 0).setDmaCur c (s.dmaNext c cur)
            let ps := ps ++ [⟨cur, d, n, dCount d == 0⟩]
            if 0 < n ∧ n = bs.length then (s, ps, .whole) else rxWalk c k s (bs.drop n) ps

/-- The bytes of a transmit status record (R275). -/
def TxStatus.bytes (t : TxStatus) : List Byte :=
  toLE 2 t.frameId ++ toLE 2 t.station ++ toLE 2 t.status ++ toLE 1 t.tries
    ++ toLE 1 ((if t.acked then 1 else 0) + (if t.aborted then 2 else 0) + 4 * t.link) ++ toLE 4 t.calVersion ++ toLE 4 0

/-- The frame that waits first for a receive channel: its bytes and, of a received frame, its stamp. -/
def State.rxHead (s : State) (c : Nat) : Option (List Byte × Option Int) :=
  let x := s.wr (chanRad c)
  if (c - 48) % 3 = 1 then x.mgmtRx.head?.map (fun f => (f.1, some f.2)) else x.status.head?.map (fun t => (t.bytes, none))

/-- That frame leaves the radio's FIFO. -/
def State.rxDrop (s : State) (c : Nat) : State :=
  let r := chanRad c
  let x := s.wr r
  s.setWr r (if (c - 48) % 3 = 1 then { x with mgmtRx := x.mgmtRx.drop 1 } else { x with status := x.status.drop 1 })

/-- The passed descriptors written back in walk order. A frame placed whole ends with eop; one cut short by the ring carries err
and truncated, and no eop; `short` marks the last of one that the peripheral ended early. -/
def State.rxBack (s : State) (c : Nat) (ps : List Placed) (stamp : Option Int) (whole short : Bool) : State :=
  let cur := s.dmaCur c
  let data := ps.filter (fun p => !p.null)
  let first := data.head?
  let last := data.getLast?
  let r := ps.foldl (fun (r : State × Bool) p =>
    if !r.2 then r
    else
      let sop := some p == first
      let e := some p == last
      match (if p.null then r.1.backRx c p false false false false none
        else r.1.backRx c p sop (e && whole) (!whole) (e && short) (if sop then stamp else none)) with
      | (s, true) => (s.dmaDone c p.desc p.at_, true)
      | (s, false) => (s.dmaFault c 3 p.at_, false)) (s, true)
  if r.2 then r.1.setDmaCur c cur else r.1

/-- May a receive channel take a frame now? -/
def State.rxReady (s : State) (c : Nat) : Bool := isRxChan c && s.dmaRuns c && s.isLit 21 && s.renStep 9 != 2

/-- DMA_RX_FRAME: the frame that waits first is placed in the descriptors, or cut where they are exhausted (log entry 102). -/
def execDmaRxFrame (c : Fin 64) (s : State) : Host.Outcome State Fault Refusal :=
  .next (match if s.rxReady c then s.rxHead c else none with
  | none => s
  | some (bs, stamp) =>
    match State.rxWalk c 131072 s bs [] with
    | (s, ps, .whole) => (s.rxDrop c).rxBack c ps stamp true false
    | (s, ps, .exhausted) =>
      let s := (s.rxBack c ps stamp false false)
      let s := if ps.any (fun p => !p.null) then (s.rxDrop c).count (A.dmaChRxNoBuffer c) else s
      if s.dmaRuns c then s.setFld (A.dmaChStatus c) F.dmaChStatus_idle 1 else s
    | (s, ps, .halted) => if ps.any (fun p => !p.null) then s.rxDrop c else s)

/-- DMA_SHORT: the peripheral delivers n bytes of the frame that waits first into the current descriptor and ends the data early:
zeros to the end of that burst, and the descriptor short (R433) (log entry 102). -/
def execDmaShort (c : Fin 64) (n : Nat) (s : State) : Host.Outcome State Fault Refusal :=
  .next (match if s.rxReady c then s.rxHead c else none with
  | none => s
  | some (bs, stamp) =>
    let cur := s.dmaCur c
    match s.memRead (.dma c) cur 32 with
    | (s, none) => s.dmaFault c 0 cur
    | (s, some d) =>
      if 2 ≤ dKind d then s.dmaHalt c 5
      else if !dOwn d then s.setFld (A.dmaChStatus c) F.dmaChStatus_idle 1
      else if dKind d = 1 then (s.dmaLink c d).1
      else if !s.fixedOk c d then s.dmaHalt c 5
      else if min (dCount d) bs.length ≤ n then s
      else
        -- the bursts up to the one that is short
        let stop := (List.range (n / 64 + 2)).foldl (fun m _ => if m ≤ n then m + s.burstLen c d m else m) 0
        let data := bs.take n ++ List.replicate (stop - n) 0
        match s.dmaWrite c (dDst d) data (dDstFixed d) with
        | (s, false) => s.dmaFault c 2 (dDst d)
        | (s, true) =>
          let s := s.setDmaCur c (s.dmaNext c cur)
          ((s.rxDrop c).rxBack c [⟨cur, d, n, false⟩] stamp true true).count (A.dmaChShort c))

end Sys2Proof.Machine
end

