-- ==== Sys2Proof/Machine/Dispatch.lean ====
section
/-!
DEFINITION. The dispatcher: each command runs its meaning.
-/

namespace Sys2Proof.Machine

/-- The effect of a command on everything but the queue. -/
def exec (i : Instr) (s : State) : Host.Outcome State Fault Refusal :=
  match i with
  | .registerWrite who a data => Sys2Proof.Machine.execRegisterWrite who a data s
  | .handshakeTimeout who idx off => Sys2Proof.Machine.execHandshakeTimeout who idx off s
  | .supplyLoss rail => Sys2Proof.Machine.execSupplyLoss rail s
  | .sysReset => Sys2Proof.Machine.execSysReset s
  | .resetRelease strap light => Sys2Proof.Machine.execResetRelease strap light s
  | .bootRomStart badCal light => Sys2Proof.Machine.execBootRomStart badCal light s
  | .xtal32Start => Sys2Proof.Machine.execXtal32Start s
  | .modeTransitionComplete light => Sys2Proof.Machine.execModeTransitionComplete light s
  | .modeTransitionTimeout light => Sys2Proof.Machine.execModeTransitionTimeout light s
  | .modeSetOffReset strap light => Sys2Proof.Machine.execModeSetOffReset strap light s
  | .mbxDoorbell who w => Sys2Proof.Machine.execMbxDoorbell who w s
  | .mbxRspFree who w => Sys2Proof.Machine.execMbxRspFree who w s
  | .hostWrite bytes => Sys2Proof.Machine.execHostWrite bytes s
  | .hostStatus clocked => Sys2Proof.Machine.execHostStatus clocked s
  | .hostRead clocked => Sys2Proof.Machine.execHostRead clocked s
  | .networkCommandFrame src => Sys2Proof.Machine.execNetworkCommandFrame src s
  | .fragmentTimeout who => Sys2Proof.Machine.execFragmentTimeout who s
  | .commandLimitTimeout who tag => Sys2Proof.Machine.execCommandLimitTimeout who tag s
  | .districtSecondBoundary => Sys2Proof.Machine.execDistrictSecondBoundary s
  | .query src => Sys2Proof.Machine.execQuery src s
  | .countersRead src => Sys2Proof.Machine.execCountersRead src s
  | .renew src light => Sys2Proof.Machine.execRenew src light s
  | .wakeConfig src => Sys2Proof.Machine.execWakeConfig src s
  | .vigilProgram src => Sys2Proof.Machine.execVigilProgram src s
  | .faultClear src => Sys2Proof.Machine.execFaultClear src s
  | .modeSet src light rival => Sys2Proof.Machine.execModeSet src light rival s
  | .modeGet src => Sys2Proof.Machine.execModeGet src s
  | .abort src light => Sys2Proof.Machine.execAbort src light s
  | .testChallenge src => Sys2Proof.Machine.execTestChallenge src s
  | .testHoldExpiry => Sys2Proof.Machine.execTestHoldExpiry s
  | .testEnter src light => Sys2Proof.Machine.execTestEnter src light s
  | .imageStage src => Sys2Proof.Machine.execImageStage src s
  | .imageVerify src => Sys2Proof.Machine.execImageVerify src s
  | .imageActivate src => Sys2Proof.Machine.execImageActivate src s
  | .logRead src => Sys2Proof.Machine.execLogRead src s
  | .sensorRead src => Sys2Proof.Machine.execSensorRead src s
  | .provisionCommit src => Sys2Proof.Machine.execProvisionCommit src s
  | .daliSend src => Sys2Proof.Machine.execDaliSend src s
  | .daliSendDone b how => Sys2Proof.Machine.execDaliSendDone b how s
  | .servoMode src => Sys2Proof.Machine.execServoMode src s
  | .timeSet src => Sys2Proof.Machine.execTimeSet src s
  | .timeGet src => Sys2Proof.Machine.execTimeGet src s
  | .keyWrite src => Sys2Proof.Machine.execKeyWrite src s
  | .keyWritePendingTimeout => Sys2Proof.Machine.execKeyWritePendingTimeout s
  | .keyErase src => Sys2Proof.Machine.execKeyErase src s
  | .keyState src => Sys2Proof.Machine.execKeyState src s
  | .retrain src => Sys2Proof.Machine.execRetrain src s
  | .calRun src => Sys2Proof.Machine.execCalRun src s
  | .calRunDone r o light => Sys2Proof.Machine.execCalRunDone r o light s
  | .calInvalidate src => Sys2Proof.Machine.execCalInvalidate src s
  | .calStatus src => Sys2Proof.Machine.execCalStatus src s
  | .radioDisable who r w => Sys2Proof.Machine.execRadioDisable who r w s
  | .retuneRequest r target preset => Sys2Proof.Machine.execRetuneRequest r target preset s
  | .retuneRequestReg who r w sameCycle => Sys2Proof.Machine.execRetuneRequestReg who r w sameCycle s
  | .synLock r n band margin => Sys2Proof.Machine.execSynLock r n band margin s
  | .synLockTimeout r n light => Sys2Proof.Machine.execSynLockTimeout r n light s
  | .synLockLoss r n => Sys2Proof.Machine.execSynLockLoss r n s
  | .synSwitchComplete r width => Sys2Proof.Machine.execSynSwitchComplete r width s
  | .txCommand r c => Sys2Proof.Machine.execTxCommand r c s
  | .txCommit r => Sys2Proof.Machine.execTxCommit r s
  | .txCommitDeadline r => Sys2Proof.Machine.execTxCommitDeadline r s
  | .frontEndEdge r k => Sys2Proof.Machine.execFrontEndEdge r k s
  | .txRfStart r => Sys2Proof.Machine.execTxRfStart r s
  | .txRfEnd r => Sys2Proof.Machine.execTxRfEnd r s
  | .feSeqSubmit who r w => Sys2Proof.Machine.execFeSeqSubmit who r w s
  | .feSeqApply r => Sys2Proof.Machine.execFeSeqApply r s
  | .mismatchAverage r c m0 m1 m2 m3 => Sys2Proof.Machine.execMismatchAverage r c m0 m1 m2 m3 s
  | .detCfgWrite who r w => Sys2Proof.Machine.execDetCfgWrite who r w s
  | .muteClear who r w => Sys2Proof.Machine.execMuteClear who r w s
  | .muteSet who r w => Sys2Proof.Machine.execMuteSet who r w s
  | .tunerCommand who r w => Sys2Proof.Machine.execTunerCommand who r w s
  | .tunerCommandDone r data parityErr => Sys2Proof.Machine.execTunerCommandDone r data parityErr s
  | .coexSyncEdge => Sys2Proof.Machine.execCoexSyncEdge s
  | .coexBlankStart r => Sys2Proof.Machine.execCoexBlankStart r s
  | .coexBlankEnd r => Sys2Proof.Machine.execCoexBlankEnd r s
  | .coexGntRise r => Sys2Proof.Machine.execCoexGntRise r s
  | .coexGntFall r => Sys2Proof.Machine.execCoexGntFall r s
  | .holaelRxWindow r win => Sys2Proof.Machine.execHolaelRxWindow r win s
  | .agcStfDetect r idle level again second => Sys2Proof.Machine.execAgcStfDetect r idle level again second s
  | .agcDetectTimeout r => Sys2Proof.Machine.execAgcDetectTimeout r s
  | .agcLltfFound r settle => Sys2Proof.Machine.execAgcLltfFound r settle s
  | .agcRestart r level again => Sys2Proof.Machine.execAgcRestart r level again s
  | .rxPpduEnd r syms => Sys2Proof.Machine.execRxPpduEnd r syms s
  | .hsigDecoded r soft lsig => Sys2Proof.Machine.execHsigDecoded r soft lsig s
  | .codewordSubmit r k left syms => Sys2Proof.Machine.execCodewordSubmit r k left syms s
  | .galleryDispatch cell => Sys2Proof.Machine.execGalleryDispatch cell s
  | .codewordDecodeDone cell converged => Sys2Proof.Machine.execCodewordDecodeDone cell converged s
  | .codewordDeadline cell satisfied => Sys2Proof.Machine.execCodewordDeadline cell satisfied s
  | .decCtlWrite who w => Sys2Proof.Machine.execDecCtlWrite who w s
  | .nfWindow r vals => Sys2Proof.Machine.execNfWindow r vals s
  | .captureComplete r e clipped low => Sys2Proof.Machine.execCaptureComplete r e clipped low s
  | .calApply r => Sys2Proof.Machine.execCalApply r s
  | .refreshHoldoffExpiry r p => Sys2Proof.Machine.execRefreshHoldoffExpiry r p s
  | .calStepStart r k => Sys2Proof.Machine.execCalStepStart r k s
  | .calStepEnd r value sub margin => Sys2Proof.Machine.execCalStepEnd r value sub margin s
  | .calStepAbort r => Sys2Proof.Machine.execCalStepAbort r s
  | .rxGainTrigger r => Sys2Proof.Machine.execRxGainTrigger r s
  | .rxGainUpdateTimeout r => Sys2Proof.Machine.execRxGainUpdateTimeout r s
  | .thinChainEval r => Sys2Proof.Machine.execThinChainEval r s
  | .calFrame r frameId earliest deadline run => Sys2Proof.Machine.execCalFrame r frameId earliest deadline run s
  | .lanternTx frameId => Sys2Proof.Machine.execLanternTx frameId s
  | .holaelEventStart p frameId => Sys2Proof.Machine.execHolaelEventStart p frameId s
  | .holaelFrameRx r psdu train raw => Sys2Proof.Machine.execHolaelFrameRx r psdu train raw s
  | .holaelFrameTx r frameId => Sys2Proof.Machine.execHolaelFrameTx r frameId s
  | .replyWindowClose r => Sys2Proof.Machine.execReplyWindowClose r s
  | .lanternListenEnd => Sys2Proof.Machine.execLanternListenEnd s
  | .chmapChangeReq who w => Sys2Proof.Machine.execChmapChangeReq who w s
  | .chmapSwitch member => Sys2Proof.Machine.execChmapSwitch member s
  | .chdefWrite who idx w => Sys2Proof.Machine.execChdefWrite who idx w s
  | .holRoundWrite who w => Sys2Proof.Machine.execHolRoundWrite who w s
  | .parentJoin who w => Sys2Proof.Machine.execParentJoin who w s
  | .joinReqTx frameId k body => Sys2Proof.Machine.execJoinReqTx frameId k body s
  | .joinRetry => Sys2Proof.Machine.execJoinRetry s
  | .joinSupervisionTimeout => Sys2Proof.Machine.execJoinSupervisionTimeout s
  | .memberSupervisionTimeout => Sys2Proof.Machine.execMemberSupervisionTimeout s
  | .searchTimeout => Sys2Proof.Machine.execSearchTimeout s
  | .partnerSupervisionTimeout p => Sys2Proof.Machine.execPartnerSupervisionTimeout p s
  | .absenceLimitExpiry p => Sys2Proof.Machine.execAbsenceLimitExpiry p s
  | .parentLeave who w => Sys2Proof.Machine.execParentLeave who w s
  | .holAdmit who w => Sys2Proof.Machine.execHolAdmit who w s
  | .holRelease who w => Sys2Proof.Machine.execHolRelease who w s
  | .holAbsenceGo who w => Sys2Proof.Machine.execHolAbsenceGo who w s
  | .absenceStart p => Sys2Proof.Machine.execAbsenceStart p s
  | .absenceEnd p => Sys2Proof.Machine.execAbsenceEnd p s
  | .mapOffer p r => Sys2Proof.Machine.execMapOffer p r s
  | .reorderTimeout r p => Sys2Proof.Machine.execReorderTimeout r p s
  | .beaconTx r a => Sys2Proof.Machine.execBeaconTx r a s
  | .wlanFrameRx r f => Sys2Proof.Machine.execWlanFrameRx r f s
  | .wlanTxOpportunity r a v => Sys2Proof.Machine.execWlanTxOpportunity r a v s
  | .wlanReorderTimeout n tid => Sys2Proof.Machine.execWlanReorderTimeout n tid s
  | .stationStateWrite who n w => Sys2Proof.Machine.execStationStateWrite who n w s
  | .protectCts r a cts => Sys2Proof.Machine.execProtectCts r a cts s
  | .sounding r n a => Sys2Proof.Machine.execSounding r n a s
  | .triggerTx r a users => Sys2Proof.Machine.execTriggerTx r a users s
  | .twtServicePeriod n starts => Sys2Proof.Machine.execTwtServicePeriod n starts s
  | .steerGo who r w => Sys2Proof.Machine.execSteerGo who r w s
  | .steerSwitchTime r => Sys2Proof.Machine.execSteerSwitchTime r s
  | .steerLimitEnd r => Sys2Proof.Machine.execSteerLimitEnd r s
  | .cipOperationStart u id slot encrypt len expedited => Sys2Proof.Machine.execCipOperationStart u id slot encrypt len expedited s
  | .cipOperationDone id => Sys2Proof.Machine.execCipOperationDone id s
  | .cipJobFetch r => Sys2Proof.Machine.execCipJobFetch r s
  | .cipJobWriteback r => Sys2Proof.Machine.execCipJobWriteback r s
  | .cipRingFault r => Sys2Proof.Machine.execCipRingFault r s
  | .cipJobCtlWrite who r w => Sys2Proof.Machine.execCipJobCtlWrite who r w s
  | .macsecRxFrame p => Sys2Proof.Machine.execMacsecRxFrame p s
  | .pktFrameParse src => Sys2Proof.Machine.execPktFrameParse src s
  | .epBucketReadDone k evict => Sys2Proof.Machine.execEpBucketReadDone k evict s
  | .epReadTimeout k => Sys2Proof.Machine.execEpReadTimeout k s
  | .ruleEntryWrite who n idx w => Sys2Proof.Machine.execRuleEntryWrite who n idx w s
  | .ruleStageAdd who n => Sys2Proof.Machine.execRuleStageAdd who n s
  | .ruleStageRemove who n => Sys2Proof.Machine.execRuleStageRemove who n s
  | .ruleCommit who => Sys2Proof.Machine.execRuleCommit who s
  | .seedComplete => Sys2Proof.Machine.execSeedComplete s
  | .versionRetire => Sys2Proof.Machine.execVersionRetire s
  | .epInvalidate who w => Sys2Proof.Machine.execEpInvalidate who w s
  | .epSeedWrite who second w => Sys2Proof.Machine.execEpSeedWrite who second w s
  | .fragEntryExpiry => Sys2Proof.Machine.execFragEntryExpiry s
  | .fragHoldExpiry => Sys2Proof.Machine.execFragHoldExpiry s
  | .schEnqueue src => Sys2Proof.Machine.execSchEnqueue src s
  | .schServe e who => Sys2Proof.Machine.execSchServe e who s
  | .shaperCreditZero q => Sys2Proof.Machine.execShaperCreditZero q s
  | .qFlush who w => Sys2Proof.Machine.execQFlush who w s
  | .meterSubmit who m w => Sys2Proof.Machine.execMeterSubmit who m w s
  | .schQWrite who q idx w => Sys2Proof.Machine.execSchQWrite who q idx w s
  | .portEnable who p w => Sys2Proof.Machine.execPortEnable who p w s
  | .portDisable who p w => Sys2Proof.Machine.execPortDisable who p w s
  | .symbolLockChange q l signal bits => Sys2Proof.Machine.execSymbolLockChange q l signal bits s
  | .autonegComplete p full psym pasym remoteFault => Sys2Proof.Machine.execAutonegComplete p full psym pasym remoteFault s
  | .sgmiiConfigWord p link speed full => Sys2Proof.Machine.execSgmiiConfigWord p link speed full s
  | .linkUp p => Sys2Proof.Machine.execLinkUp p s
  | .linkDown p receiving => Sys2Proof.Machine.execLinkDown p receiving s
  | .klTs1Detected p ts => Sys2Proof.Machine.execKlTs1Detected p ts s
  | .klTrainComplete p => Sys2Proof.Machine.execKlTrainComplete p s
  | .klTrainTimeout p => Sys2Proof.Machine.execKlTrainTimeout p s
  | .klLockAligned p skew => Sys2Proof.Machine.execKlLockAligned p skew s
  | .klLockTimeout p => Sys2Proof.Machine.execKlLockTimeout p s
  | .klExchangeComplete p => Sys2Proof.Machine.execKlExchangeComplete p s
  | .klExchangeTimeout p => Sys2Proof.Machine.execKlExchangeTimeout p s
  | .klSignalLoss p rx => Sys2Proof.Machine.execKlSignalLoss p rx s
  | .klLaneFailure p k rx => Sys2Proof.Machine.execKlLaneFailure p k rx s
  | .klMarkerLoss p rx => Sys2Proof.Machine.execKlMarkerLoss p rx s
  | .param p blk => Sys2Proof.Machine.execParam p blk s
  | .thriftReq p blk => Sys2Proof.Machine.execThriftReq p blk s
  | .thriftAck p blk => Sys2Proof.Machine.execThriftAck p blk s
  | .thriftNak p blk => Sys2Proof.Machine.execThriftNak p blk s
  | .lpIdle p blk => Sys2Proof.Machine.execLpIdle p blk s
  | .deepReq p blk => Sys2Proof.Machine.execDeepReq p blk s
  | .deepAck p blk => Sys2Proof.Machine.execDeepAck p blk s
  | .idleEEntry p => Sys2Proof.Machine.execIdleEEntry p s
  | .idleERefresh p => Sys2Proof.Machine.execIdleERefresh p s
  | .idleERxTimeout p => Sys2Proof.Machine.execIdleERxTimeout p s
  | .deepIdleExpiry p => Sys2Proof.Machine.execDeepIdleExpiry p s
  | .deepExit p => Sys2Proof.Machine.execDeepExit p s
  | .thriftWindow p bits => Sys2Proof.Machine.execThriftWindow p bits s
  | .thriftWidthChange p => Sys2Proof.Machine.execThriftWidthChange p s
  | .klRateFail p => Sys2Proof.Machine.execKlRateFail p s
  | .macFrameRx p f raw var bad esym => Sys2Proof.Machine.execMacFrameRx p f raw var bad esym s
  | .pauseRx p => Sys2Proof.Machine.execPauseRx p s
  | .pauseExpiry p => Sys2Proof.Machine.execPauseExpiry p s
  | .pauseTx p => Sys2Proof.Machine.execPauseTx p s
  | .macTxFrame p buffered => Sys2Proof.Machine.execMacTxFrame p buffered s
  | .txUnderrun p => Sys2Proof.Machine.execTxUnderrun p s
  | .threshReset who p => Sys2Proof.Machine.execThreshReset who p s
  | .portHoldoff p => Sys2Proof.Machine.execPortHoldoff p s
  | .portHoldoffEnd p => Sys2Proof.Machine.execPortHoldoffEnd p s
  | .laneTestWrite who q l w => Sys2Proof.Machine.execLaneTestWrite who q l w s
  | .octetCounterRead who p tx => Sys2Proof.Machine.execOctetCounterRead who p tx s
  | .timeNowRead who => Sys2Proof.Machine.execTimeNowRead who s
  | .timeOffsetSubmit who w => Sys2Proof.Machine.execTimeOffsetSubmit who w s
  | .holdoverEntry => Sys2Proof.Machine.execHoldoverEntry s
  | .cuffStore c k width frameId boundary aborted errEnded => Sys2Proof.Machine.execCuffStore c k width frameId boundary aborted errEnded s
  | .cuffPop who c => Sys2Proof.Machine.execCuffPop who c s
  | .dmaChEnable who c w => Sys2Proof.Machine.execDmaChEnable who c w s
  | .dmaChDisable who c w => Sys2Proof.Machine.execDmaChDisable who c w s
  | .dmaKick who c => Sys2Proof.Machine.execDmaKick who c s
  | .dmaDescFetch c => Sys2Proof.Machine.execDmaDescFetch c s
  | .dmaBurst => Sys2Proof.Machine.execDmaBurst s
  | .dmaWriteback c => Sys2Proof.Machine.execDmaWriteback c s
  | .dmaShort c n => Sys2Proof.Machine.execDmaShort c n s
  | .dmaAccessFault c phase a => Sys2Proof.Machine.execDmaAccessFault c phase a s
  | .dmaRxFrame c => Sys2Proof.Machine.execDmaRxFrame c s
  | .tskSchItem => Sys2Proof.Machine.execTskSchItem s
  | .tskSubmit k w => Sys2Proof.Machine.execTskSubmit k w s
  | .tskSubmitTimeout k => Sys2Proof.Machine.execTskSubmitTimeout k s
  | .tskGet k => Sys2Proof.Machine.execTskGet k s
  | .tskDone k w => Sys2Proof.Machine.execTskDone k w s
  | .tskReady k id => Sys2Proof.Machine.execTskReady k id s
  | .tskCancel k id also => Sys2Proof.Machine.execTskCancel k id also s
  | .tskLongRun slot => Sys2Proof.Machine.execTskLongRun slot s
  | .affinityWaitExpiry slot => Sys2Proof.Machine.execAffinityWaitExpiry slot s
  | .tskIrqSoft who w => Sys2Proof.Machine.execTskIrqSoft who w s
  | .perfCounterRead who k n => Sys2Proof.Machine.execPerfCounterRead who k n s
  | .clusterPark who cl parked => Sys2Proof.Machine.execClusterPark who cl parked s
  | .chamberSubmit who n c w => Sys2Proof.Machine.execChamberSubmit who n c w s
  | .chamberLock who n w => Sys2Proof.Machine.execChamberLock who n w s
  | .dramAccess who x len data e bank row => Sys2Proof.Machine.execDramAccess who x len data e bank row s
  | .readPromote n => Sys2Proof.Machine.execReadPromote n s
  | .dramRefresh n => Sys2Proof.Machine.execDramRefresh n s
  | .mr4Read n code temp => Sys2Proof.Machine.execMr4Read n code temp s
  | .wckOscRead n value => Sys2Proof.Machine.execWckOscRead n value s
  | .scrubRead n e => Sys2Proof.Machine.execScrubRead n e s
  | .trainingComplete n ok light => Sys2Proof.Machine.execTrainingComplete n ok light s
  | .resyncComplete => Sys2Proof.Machine.execResyncComplete s
  | .wakePhaseReady u bad => Sys2Proof.Machine.execWakePhaseReady u bad s
  | .wakePhaseTimeout u light => Sys2Proof.Machine.execWakePhaseTimeout u light s
  | .islandDark u => Sys2Proof.Machine.execIslandDark u s
  | .entryWindowEnd held goMask light => Sys2Proof.Machine.execEntryWindowEnd held goMask light s
  | .wakeEvent src go light => Sys2Proof.Machine.execWakeEvent src go light s
  | .darkAccess who idx off write => Sys2Proof.Machine.execDarkAccess who idx off write s
  | .thriftFillCheck light => Sys2Proof.Machine.execThriftFillCheck light s
  | .vigilCyclePoint => Sys2Proof.Machine.execVigilCyclePoint s
  | .vigilCompare light0 light1 gpio => Sys2Proof.Machine.execVigilCompare light0 light1 gpio s
  | .vigilRadioWake => Sys2Proof.Machine.execVigilRadioWake s
  | .vigilLanternFound hsig stamp => Sys2Proof.Machine.execVigilLanternFound hsig stamp s
  | .vigilListenEnd => Sys2Proof.Machine.execVigilListenEnd s
  | .vigilStatusClear who w => Sys2Proof.Machine.execVigilStatusClear who w s
  | .renewPrepareDone idx => Sys2Proof.Machine.execRenewPrepareDone idx s
  | .renewPrepareTimeout idx => Sys2Proof.Machine.execRenewPrepareTimeout idx s
  | .renewDrainIdle idx => Sys2Proof.Machine.execRenewDrainIdle idx s
  | .renewDrainTimeout idx => Sys2Proof.Machine.execRenewDrainTimeout idx s
  | .renewFenceSaved idx => Sys2Proof.Machine.execRenewFenceSaved idx s
  | .renewFenceTimeout idx light => Sys2Proof.Machine.execRenewFenceTimeout idx light s
  | .renewMittenElapsed idx => Sys2Proof.Machine.execRenewMittenElapsed idx s
  | .renewLoadDone idx ok light => Sys2Proof.Machine.execRenewLoadDone idx ok light s
  | .renewLoadTimeout idx light => Sys2Proof.Machine.execRenewLoadTimeout idx light s
  | .renewCalibrateDone idx gains bands light => Sys2Proof.Machine.execRenewCalibrateDone idx gains bands light s
  | .renewCalibrateTimeout idx light => Sys2Proof.Machine.execRenewCalibrateTimeout idx light s
  | .gloveKick who w => Sys2Proof.Machine.execGloveKick who w s
  | .gloveKickTimeout g light => Sys2Proof.Machine.execGloveKickTimeout g light s
  | .cudomWatchdog light => Sys2Proof.Machine.execCudomWatchdog light s
  | .sensorSample die mv ma tcxo lane light => Sys2Proof.Machine.execSensorSample die mv ma tcxo lane light s
  | .logEntry => Sys2Proof.Machine.execLogEntry s
  | .logPageWrite => Sys2Proof.Machine.execLogPageWrite s
  | .logSuppressSummary => Sys2Proof.Machine.execLogSuppressSummary s
  | .daliScheduleEntry e => Sys2Proof.Machine.execDaliScheduleEntry e s
  | .daliForwardRx b bits24 frame => Sys2Proof.Machine.execDaliForwardRx b bits24 frame s
  | .daliBusDown b low => Sys2Proof.Machine.execDaliBusDown b low s
  | .imageStageDone ended => Sys2Proof.Machine.execImageStageDone ended s
  | .imageVerifyDone => Sys2Proof.Machine.execImageVerifyDone s
  | .logReadDone => Sys2Proof.Machine.execLogReadDone s
  | .provisionCommitDone light => Sys2Proof.Machine.execProvisionCommitDone light s
  | .joinWindowOpen frameId rsp => Sys2Proof.Machine.execJoinWindowOpen frameId rsp s
  | .lanePllLock q b => Sys2Proof.Machine.execLanePllLock q b s
  | .autonegRestart p => Sys2Proof.Machine.execAutonegRestart p s
  | .linkFaultSignal p loc rem skew => Sys2Proof.Machine.execLinkFaultSignal p loc rem skew s
  | .pauseTxRepeat p => Sys2Proof.Machine.execPauseTxRepeat p s

end Sys2Proof.Machine
end

