-- ==== Sys2Proof/Safety.lean ====
section
/-!
DEFINITION. The terms of the claims: which registers stay, what a reply touches, the canonical form of the stores, and what
nothing but the fuses' makers may change.
-/

namespace Sys2Proof.Machine

/-- Every register outside a list holds in t what it holds in s. -/
def RegsKept (l : List Nat) (s t : State) : Prop := ∀ a, a ∉ l → t.reg a = s.reg a

/-- The state t with what the transport of replies may change taken from s: the packet transports, the registers, the halting of
the Cudom cores, the network sequence record, and, where a network reply was sent, the key slots, whose use it sets (R57, R67, R70,
R76, R290, R497). -/
def State.apart (t s : State) : State :=
  { t with cmd := s.cmd, regs := s.regs, pwr := s.pwr, cdm := { t.cdm with halted := s.cdm.halted }
           keys := if t.cmd.cdmTx.length = s.cmd.cdmTx.length then t.keys else s.keys
           flash := { t.flash with netRecord := s.flash.netRecord } }

/-- The registers that the transport of replies writes: the mailbox's reply slots and the counter of dropped replies (R67, R76, R78). -/
def replyRegs : List Nat := [A.cdmMbxRspStatus, A.cdmCmdReplyDrop]

/-- Between s and t nothing changed in the key slots but the use of some to a supplied IV, as a network reply sets it (R290). -/
def State.keysButUse (s t : State) : Prop := ∀ k, t.key k = s.key k ∨ t.key k = { s.key k with use := 1 }

/-- Is SA entry e a receive SA under a key slot (R298)? -/
def State.rxSaOn (s : State) (e slot : Nat) : Bool :=
  s.bit (A.cipMsecSaW0 e) F.cipMsecSaW0_valid && s.fld (A.cipMsecSaW0 e) F.cipMsecSaW0_dir == 0
    && s.fld (A.cipMsecSaW0 e) F.cipMsecSaW0_slot == slot

/-- The words of the SA entries that hold next_pn. -/
def saPnRegs : List Nat := (List.range 128).flatMap (fun e => [A.cipMsecSaW8 e, A.cipMsecSaW9 e])

/-- A command's request is answered finally: its tag is free, and nothing but replies moved beside what the clause names (R59,
R60). -/
def Answered (s1 t : State) (r : Request) : Prop := t.cmd.out = dropOut s1.cmd.out r

/-- The canonical form of a memory of bytes: entries by rising address, each a byte that something has written. -/
abbrev Memory.wf (t : Tbl (Option Byte)) : Bool := Tbl.wf (fun _ => none) t

/-- The stores are in their canonical form: registers, DRAM, packet store, core mailbox. -/
def State.canonical (s : State) : Bool :=
  Tbl.wf resetWord s.regs && Memory.wf s.dram.bytes && Memory.wf s.pst && Tbl.wf (fun _ => 0) s.cmd.mbx

/-- The fuses but min_version (R10, R533–R537). -/
def FlashState.fuses (f : FlashState) : Nat × Nat × Nat × List Byte × Option (List Byte) × List Byte :=
  (f.stepLetter, f.stepDigit, f.grade, f.keyHash, f.testKeyHash, f.deviceKey)

/-- The calibration record of a radio (R188). -/
def State.calRec (s : State) (r : Nat) : CalRec := Tbl.get (fun _ => CalRec.init) s.calRecs r

/-- A key slot from which a Holael frame can draw its next packet number: CIP lit, a 256-bit traffic key, and a counter below its
refused value that no other use holds (R217, R286, R296, R572). -/
def State.holKeyReady (s : State) (slot : Nat) : Prop :=
  s.isLit 10 = true ∧ (s.key slot).cls = 0 ∧ (s.key slot).key.length = 32 ∧ ((s.key slot).use = 0 ∨ (s.key slot).use = 3)
    ∧ (s.key slot).pn < 2 ^ 48 - 1

/-- The PSDU last sent on a radio is of this link and frame type, and starts then (R207). -/
def State.sentIs (s : State) (r : Nat) (peer : Option Nat) (type start : Nat) : Prop :=
  ∃ x, Tbl.find? s.hol.sent r = some x ∧ x.peer = peer ∧ x.type = type ∧ x.start = start

/-- The state words of the four scheduler queues of a WLAN station's entry, which follow when the station may be served (R253, R344). -/
def State.staQueueRegs (s : State) (n : Nat) : List Nat :=
  let b := s.fld (A.hmacWlanStationW4 n) F.hmacWlanStationW4_queue_base / 4 * 4
  [A.schQW6 b, A.schQW7 b, A.schQW6 (b + 1), A.schQW7 (b + 1), A.schQW6 (b + 2), A.schQW7 (b + 2), A.schQW6 (b + 3), A.schQW7 (b + 3)]

/-- A command as its radio takes it: a Holael one with the length and airtime of its H-SIG, a response on the active synthesiser
(R98, R105, R126). -/
def State.issued (s : State) (r : Nat) (c : TxCmd) : TxCmd :=
  let c := s.timed r c
  if c.response then { c with centre := s.synFreq r (s.synActive r) } else c

/-- The pending slot as a command that has just been issued fills it (R98, R104). -/
def State.slotFor (s : State) (r : Nat) (c : TxCmd) : Slot :=
  ⟨c, s.absNs c.earliest, s.absNs c.deadline, s.tableLead r, none, false, false⟩

/-- The command in a radio's slot asks for no retune: it is committed, or a synthesiser holds or seeks its centre (R101). -/
def State.asksNothing (s : State) (r : Nat) : Bool :=
  (s.rd r).slot.all (fun p => p.commit.isSome || (s.holding r p.cmd.centre).isSome || s.tuningTo r p.cmd.centre)

/-- No retune waits for the radio to be idle, and a synthesiser holds the centre of the command in its slot. -/
def State.steady (s : State) (r : Nat) : Bool :=
  (s.rd r).retune.isNone && (s.rd r).slot.all (fun p => (s.holding r p.cmd.centre).isSome)

/-- Is an address in the noise table of a radio (R149, R150)? -/
def inNoise (r a : Nat) : Bool := decide (win (radId r) + 0x10000 ≤ a) && decide (a < win (radId r) + 0x14000)

/-- The starts of a WLAN transmission are still ahead: neither crossed nor past (R98, R104). -/
def State.ahead (s : State) (earliest deadline : Nat) : Prop :=
  s.absNs (earliest % 2 ^ 32) ≤ s.absNs (deadline % 2 ^ 32) ∧ s.nowNs ≤ s.absNs (deadline % 2 ^ 32)

/-- From s to t one event of a source is numbered, and the log takes it while CDM is lit (R34, R35). -/
def State.logs (s t : State) (src : Nat) (n : Ev) (detail : List Nat) : Prop :=
  ∃ e : Event, e.src = src ∧ e.name = n ∧ e.detail = detail ∧ e.seq = s.nextSeq src ∧ t.nextSeq src = (e.seq + 1) % 0x10000
    ∧ t.log = { s.log with evSeq := t.log.evSeq, events := s.log.events ++ (if s.isLit 1 then [e] else []) }

/-- MAC counter n of a port. -/
def macReg (p n : Nat) : Nat := A.lnqMacCnt (p / 4) (p % 4) n

/-- The registers that the counting of some MAC counters may change. -/
def macRegs (p : Nat) (ns : List Nat) : List Nat :=
  ns.map (macReg p) ++ [A.lnqCntHalfLo (p / 4) (p % 4), A.lnqCntHalfHi (p / 4) (p % 4), A.lnqPortIrq (p / 4) (p % 4)]

/-- No frame of the port has ended on the wire without having been counted yet. -/
def State.wireSettled (s : State) (p : Nat) : Prop := ∀ f, (s.port p).tx = some f → s.elapsed < f.ends

/-- From s, where the link is up, to t the link has fallen (R369, R391). -/
def State.linkFell (s t : State) (p : Nat) (receiving : Bool) : Prop :=
  t.linkUp p = false ∧ t.bit (A.lnqPortIrq (p / 4) (p % 4)) F.lnqPortIrq_link_change = true
    ∧ (t.port p).txq = [] ∧ (t.port p).tx = none ∧ s.elapsed ∈ (t.port p).flaps
    ∧ t.reg (macReg p 41) = s.reg (macReg p 41) + 1
    ∧ t.reg (macReg p 21) = (if receiving then s.reg (macReg p 21) + 1 else s.reg (macReg p 21))
    ∧ t.reg (macReg p 40) = s.reg (macReg p 40) + BitVec.ofNat 32 ((s.port p).txq.length + (if (s.port p).tx.isSome then 1 else 0))
    ∧ s.logs t (portSrc (p / 4) (p % 4)) .linkDown [p]

/-- From s to t the PLL of a Kalhar Link is taken to a rate code: its lock stands only where it ran at that rate already; the other
PLL of the quad is left alone (R360, R374). -/
def State.pllAt (s t : State) (p rate : Nat) : Prop :=
  let a := A.lnqPllCtl (p / 4)
  let b := s.klPll p
  t.fld a (pllRate b) = rate ∧ t.fld a (pllEn b) = 1
    ∧ t.fld a (pllLock b) = (if s.fld a (pllRate b) = rate ∧ s.fld a (pllEn b) = 1 then s.fld a (pllLock b) else 0)
    ∧ t.fld a (pllRate !b) = s.fld a (pllRate !b) ∧ t.fld a (pllEn !b) = s.fld a (pllEn !b)
    ∧ t.fld a (pllLock !b) = s.fld a (pllLock !b)

/-- The lane status registers of a port's quad. -/
def laneRegs (p : Nat) : List Nat := (List.range 4).map (A.lnqLaneStatus (p / 4))

/-- A flag of a lane of the port's quad. -/
def State.lane (s : State) (p l : Nat) (f : Fld) : Bool := s.bit (A.lnqLaneStatus (p / 4) l) f

/-- From s to t the ends of a Kalhar Link in ACTIVE have agreed on a step: one of another rate takes the link through TRAIN, which counts
among its flaps, one of another width waits (R382, R391). -/
def State.stepAgreed (s t : State) (p : Nat) (y : Nat × Nat) : Prop :=
  (t.port p).ownReq = none
    ∧ (y ≠ s.klStep p → (t.port p).change = some y ∧ (t.port p).passFrom = s.klStep p ∧ (t.port p).changeAt = s.elapsed)
    ∧ (y.2 = s.klRate p → t.klState p = 4 ∧ t.klStep p = s.klStep p)
    ∧ (y.2 ≠ s.klRate p → t.klState p = 1 ∧ t.klRate p = y.2 ∧ (t.port p).pass = .thrift ∧ s.pllAt t p y.2
        ∧ t.linkUp p = s.linkUp p ∧ s.elapsed ∈ (t.port p).flaps)
    ∧ RegsKept (pStat p :: A.lnqPllCtl (p / 4) :: laneRegs p) s t ∧ t = { s with regs := t.regs, ports := t.ports }

/-- The performance counters of a core's events 0 to 14, and the value of one (R454). -/
def perfRegs (k : Nat) : List Nat := (List.range 15).flatMap (fun n => [A.clPerfLo (k / 8) (k % 8) n, A.clPerfHi (k / 8) (k % 8) n])
def State.perfVal (s : State) (k n : Nat) : Nat :=
  (s.reg (A.clPerfHi (k / 8) (k % 8) n)).toNat % 65536 * 2 ^ 32 + (s.reg (A.clPerfLo (k / 8) (k % 8) n)).toNat

/-- What identifies an item beside its words: slot, generation, state, prio, mode, entry, source, packet, and when it became READY. -/
def Item.key (i : Item) : (Nat × Nat × ItemSt × Nat × Nat) × Nat × Option Nat × Option (Nat × Nat) × Nat :=
  ((i.slot, i.gen, i.st, i.prio, i.aff), i.entry, i.fromCore, i.pkt, i.readyAt)

/-- A range of the packet store by its address, and a byte of it (R24). -/
def inStore (a n : Nat) : Prop := 0x80000000 ≤ a ∧ a + n ≤ 0x82000000
def State.store (s : State) (a : Nat) : Byte := s.pstByte (a - 0x80000000)

/-- From s to t the bytes of the store from an address on are these, and every other byte is as before. -/
def State.stored (s t : State) (a : Nat) (bs : List Byte) : Prop :=
  (∀ i < bs.length, t.store (a + i) = bs.getD i 0) ∧ (∀ x, x < a ∨ a + bs.length ≤ x → 0x80000000 ≤ x → t.store x = s.store x)

/-- From s to t the bytes of DRAM from an offset on are these, and every other byte is as before. -/
def State.dramStored (s t : State) (x : Nat) (bs : List Byte) : Prop :=
  (∀ i < bs.length, t.dramByte (x + i) = bs.getD i 0) ∧ (∀ y, y < x ∨ x + bs.length ≤ y → t.dramByte y = s.dramByte y)

/-- From s to t a line has joined the queues of some channels, and a write may begin their drain; no other channel changed (R468,
R470). -/
def State.queued (s t : State) (ns : List Nat) (write : Bool) (r : DramReq) : Prop :=
  (∀ n ∈ ns, t.chan n = if write then
      { s.chan n with writes := (s.chan n).writes ++ [r]
                      draining := (s.chan n).draining || decide (s.fld (A.memSched n) F.memSched_wq_high ≤ (s.chan n).writes.length + 1) }
    else { s.chan n with reads := (s.chan n).reads ++ [r] })
    ∧ (∀ n, n ∉ ns → t.chan n = s.chan n)

/-- Registers of a DMA channel that its walk changes. -/
def dmaWalkRegs (c : Nat) : List Nat := [A.dmaChStatus c, A.dmaChCurLo c, A.dmaChCurHi c, A.dmaChDescDone c]

/-- The descriptor of a channel's current address, read from the packet store. -/
def State.storeDesc (s : State) (a : Nat) : List Byte := (List.range 32).map (fun i => s.store (a + i))

/-- A flag of a DMA channel's status. -/
def State.dmaFlag (s : State) (c : Nat) (f : Fld) : Nat := s.fld (A.dmaChStatus c) f

end Sys2Proof.Machine
end

