-- ==== Sys2Proof/Certificates/Slice0/Obligations.lean ====
section
/-! DEFINITION. The statements for the provers: what the spec's rules say the device does, one
proposition each. -/

open Sys2Proof Sys2Proof.Machine

/-! ### The block -/

/-- A step takes the command at the front of the queue and runs it with the queue's rest. -/
def Obligations.StepRunsTheFrontCommand : Prop :=
  ∀ (c : Instr) (rest : List Instr) (s : State), step { s with pending := c :: rest } = exec c { s with pending := rest }

/-- On an empty queue a step is one 500 MHz cycle of 2 ns (the model's choice, log entry 2): district time advances by
TIME_INCR.increment, in units of 2^−28 ns, but in OFF; where no line stands in a DRAM queue and no DRAM request waits, nothing else
changes. -/
def Obligations.IdleStepIsOneTimeTick : Prop :=
  ∀ s : State, s.pending = [] →
    ∃ t, step s = .next t ∧ t.elapsed = s.elapsed + 2
      ∧ (s.mode.mode = .off → t.time = s.time)
      ∧ (s.mode.mode ≠ .off → t.time.clock = s.time.clock + s.fld A.timeIncr F.timeIncr_increment)
      ∧ ((∀ n < 2, (s.chan n).reads = [] ∧ (s.chan n).writes = []) → s.dram.waiting = [] →
          t = { s with elapsed := t.elapsed, time := { s.time with clock := t.time.clock } })

/-- Every command answers a next state from every state, and leaves the queue of waiting commands alone.
Log entry 10: the model's reading. -/
def Obligations.EveryCommandAnswersAndKeepsTheQueue : Prop :=
  ∀ (c : Instr) (s : State), ∃ t, exec c s = .next t ∧ t.pending = s.pending

/-- Every step keeps the stores in canonical form: the register file, DRAM, the packet store and the core mailbox list their
entries by rising address, and none that equals what an unlisted address reads as. -/
def Obligations.EveryStepKeepsCanonicalStores : Prop :=
  ∀ s t : State, s.canonical = true → step s = .next t → t.canonical = true

/-- The state after reset has its stores in canonical form. -/
def Obligations.ResetStoresAreCanonical : Prop := State.reset.canonical = true

/-- No step changes a fuse, and min_version never falls (R537): it is only ever burned upward. -/
def Obligations.FusesOnlyEverBurnUpward : Prop :=
  ∀ s t : State, step s = .next t →
    t.flash.fuses = s.flash.fuses ∧ s.flash.minVersion ≤ t.flash.minVersion

/-- What the spec gives for reset: OFF with every island dark, every register at its reset value, so AON_WAKE_EN enables source 0
alone and AON_THRIFT_CFG and the drain limits hold their defaults; events number from 0; TIME_INCR is 1 ns per 2 ns cycle
times 2^28. -/
def Obligations.ResetStateIsAsTheTablesGive : Prop :=
  let s := State.reset
  s.mode.mode = .off ∧ (∀ i, (s.pw i).st = .dark)
    ∧ (∀ a, s.reg a = resetWord a) ∧ (∀ src, s.nextSeq src = 0) ∧ s.pending = []
    ∧ s.fld A.aonWakeEn F.aonWakeEn_enable = 1 ∧ s.fld A.aonThriftCfg F.aonThriftCfg_fill_exit = 0x18000
    ∧ s.fld (A.aonRenew 17) F.aonRenew_drain_limit = 0x1F4 ∧ s.fld (A.aonRenew 3) F.aonRenew_drain_limit = 0xA
    ∧ s.fld A.timeIncr F.timeIncr_increment = 0x20000000

/-! ### Register accesses -/

/-- A software write changes each field of a register by its access code, and no bit that no field names: RW and WO take the
value written, RO keeps its own, W1C clears where a one is written and W1S sets there, and RWL takes the value unless its
register is locked (R17, R18). -/
def Obligations.AccessCodesGovernEveryField : Prop :=
  ∀ (id : Nat) (d : RegDesc) (locked : Bool) (old v : Word), id < 22 → d ∈ islandRegs id ++ commonRegs →
    (∀ f ∈ d.fields, f.get (d.write locked old v) = match f.acc with
      | .rw | .wo => f.get v
      | .ro => f.get old
      | .w1c => f.get old &&& (2 ^ f.width - 1 - f.get v)
      | .w1s => f.get old ||| f.get v
      | .rwl => if locked then f.get old else f.get v)
    ∧ (∀ k, (∀ f ∈ d.fields, k < f.lo ∨ f.hi < k) → (d.write locked old v).getLsbD k = old.getLsbD k)

/-- A write in the island windows. An empty slot, a wrong width or an alignment that is wrong answers with a bus error and
discards the write; so does an address that the map does not list; an offset without a register and a register that the
requester may not write discard it without one; a register of AON without an effect of its own takes it by its access codes, and
nothing else changes. A request that is not acknowledged in time is logged with island, offset and requester and answered with a
bus error (R14–R16, R18, R23, R24, R30). Log entries 13, 14, 15: the model's reading. -/
def Obligations.RegisterWritesFollowTheAccessRules : Prop :=
  (∀ (who : Requester) (a : Fin 0x10000000000) (bs : List Byte) (s : State),
    inWindows a = true → 22 ≤ islandOf a → exec (.registerWrite who a bs) s = .next { s with bus := ⟨true, 0, []⟩ })
  ∧ (∀ (who : Requester) (a : Fin 0x10000000000) (bs : List Byte) (s : State),
    inWindows a = true → islandOf a < 22 → s.answers who (islandOf a) = true → inMailbox a = false →
    (bs.length ≠ 4 ∨ a.val % 4 ≠ 0) → exec (.registerWrite who a bs) s = .next { s with bus := ⟨true, 0, []⟩ })
  ∧ (∀ (who : Requester) (a : Fin 0x10000000000) (bs : List Byte) (s : State),
    inWindows a = true → islandOf a < 22 → s.answers who (islandOf a) = true → inMailbox a = false →
    bs.length = 4 → a.val % 4 = 0 → (findReg a).all (fun d => !mayWrite d.wr who) = true →
    exec (.registerWrite who a bs) s = .next { s with bus := ⟨false, 0, []⟩ })
  ∧ (∀ (who : Requester) (a : Fin 0x10000000000) (bs : List Byte) (s : State),
    (a.val < 0x80000000 ∨ (0x82000000 ≤ a.val ∧ a.val < 0xF0000000) ∨ (0x110000000 ≤ a.val ∧ a.val < 0x1000000000)
      ∨ 0x1400000000 ≤ a.val) → bs ≠ [] →
    exec (.registerWrite who a bs) s = .next { s with bus := ⟨true, 0, []⟩ })
  ∧ (∀ (who : Requester) (a : Fin 0x10000000000) (bs : List Byte) (d : RegDesc) (s : State),
    inWindows a = true → islandOf a = 0 → s.answers who 0 = true → bs.length = 4 → a.val % 4 = 0 →
    findReg a = some d → mayWrite d.wr who = true → a.val ≠ A.aonVigilStatus → a.val ≠ A.aonWakeStatus →
    ∃ t, exec (.registerWrite who a bs) s = .next t
      ∧ t.reg a = d.write false (s.reg a) (BitVec.ofNat 32 (ofLE bs))
      ∧ RegsKept [a.val] s t ∧ t = { s with regs := t.regs, bus := ⟨false, 0, []⟩ })
  ∧ (∀ (who : Requester) (i : Fin 22) (off : Fin 0x1000000) (s : State),
    (∀ c, who ≠ .dma c) → s.answers who i = true →
    ∃ t, exec (.handshakeTimeout who i off) s = .next t ∧ t.bus.err = true ∧ t.nextSeq i = (s.nextSeq i + 1) % 65536
      ∧ (s.isLit 1 = true → t.log.events.map (fun e => (e.src, e.name, e.detail))
          = s.log.events.map (fun e => (e.src, e.name, e.detail)) ++ [(i.val, .handshakeTimeout, [i.val, off.val, srcId who])])
      ∧ t = { s with log := t.log, bus := t.bus })

/-! ### Reset and power-up -/

/-- A supply loss and a low pulse on SYS_RESET_N take the device to OFF: every register at its reset value, every island dark, no
packet in a transport, no key, no queue, work item or memory content; the flash keeps, but for a page that was being programmed; the
log's flight buffer keeps unless the supply is lost. The release of reset brings BOOT with AON lit and CDM waking, and of TIME and the
MEM islands those that firmware chooses; MODE_SET OFF's reset does both; the start of the 32.768 kHz oscillator is noted in AON's
state. Log entries 6, 24: the model's reading. -/
def Obligations.ResetTakesTheDeviceThroughOff : Prop :=
  (∀ (rail : Fin 14) (s : State), ∃ t, exec (.supplyLoss rail) s = .next t
    ∧ t.mode = ModeState.init ∧ (∀ a, t.reg a = resetWord a) ∧ (∀ i, (t.pw i).st = .dark)
    ∧ (s.cdm.jobs.stageBegun = false → t.flash = s.flash) ∧ t.flash.fuses = s.flash.fuses
    ∧ t.cmd = CmdState.init ∧ t.keys = [] ∧ t.sch = SchState.init ∧ t.tsk = TskState.init ∧ t.dram.bytes = [] ∧ t.pst = []
    ∧ t.log = LogState.init ∧ t.aon.supplyGood = false
    ∧ t.aon.xtal32 = (if rail.val = 0 then false else s.aon.xtal32))
  ∧ (∀ s : State, ∃ t, exec .sysReset s = .next t
    ∧ t.mode = ModeState.init ∧ (∀ a, t.reg a = resetWord a) ∧ (∀ i, (t.pw i).st = .dark)
    ∧ (s.cdm.jobs.stageBegun = false → t.flash = s.flash) ∧ t.flash.fuses = s.flash.fuses
    ∧ t.cmd = CmdState.init ∧ t.keys = [] ∧ t.sch = SchState.init ∧ t.tsk = TskState.init ∧ t.dram.bytes = [] ∧ t.pst = []
    ∧ t.log.tier0 = s.log.tier0 ∧ t.log.events = [] ∧ t.log.tier1 = [] ∧ t.aon.resetPin = true)
  ∧ (∀ (strap : Bool) (light : Nat) (s : State), s.mode.mode = .off → (∀ i < 34, s.pw i = IslandPwr.init ∧ s.renStep i = 0) →
    let chosen (i : Nat) : Prop := (i = 2 ∨ i = 11 ∨ i = 12) ∧ light.testBit i = true
    ∃ t, exec (.resetRelease strap light) s = .next t ∧ t.mode.mode = .boot ∧ t.mode.prev = .off ∧ t.mode.cause = 0
      ∧ t.fld A.aonModeShadow F.aonModeShadow_mode = 1 ∧ (t.pw 0).st = .lit
      ∧ (∀ i, i = 1 ∨ chosen i → (t.pw i).st = .waking ∧ (t.pw i).phase = .regulator)
      ∧ (∀ i, 2 ≤ i → ¬ chosen i → t.pw i = s.pw i) ∧ t.aon.strapTest = strap ∧ t.aon.resetPin = false
      ∧ RegsKept [A.aonModeShadow] s t ∧ t = { s with regs := t.regs, mode := t.mode, aon := t.aon, pwr := t.pwr })
  ∧ (∀ (strap : Bool) (light : Nat) (s : State), s.mode.offReset = true →
    ∃ t, exec (.modeSetOffReset strap light) s = .next t ∧ t.mode.mode = .boot ∧ t.mode.prev = .off ∧ (t.pw 0).st = .lit
      ∧ (t.pw 1).st = .waking ∧ t.cmd = CmdState.init ∧ t.keys = [] ∧ (s.cdm.jobs.stageBegun = false → t.flash = s.flash)
      ∧ t.log.tier0 = s.log.tier0 ∧ t.aon.strapTest = strap ∧ ∀ a, a ≠ A.aonModeShadow → t.reg a = resetWord a)
  ∧ (∀ s : State, exec .xtal32Start s = .next { s with aon := { s.aon with xtal32 := true } })

/-! ### Power: the wake sequence, going dark, the dark responder -/

/-- The phases of a wake sequence follow one another as the ready signals come; a phase that ends on its retry path leaves the unit
on it and is logged; slots that fail CIP's retention check are erased; at LOGIC_READY outside a renewal the island is LIT, but a radio
lit for VIGIL sampling, which is REDUCED (R291, R488–R490, R507, R574). -/
def Obligations.WakePhasesFollowTheirReadySignals : Prop :=
  (∀ (u : Fin 34) (bad : List (Fin 4096)) (ph : Phase) (s : State),
    (s.pw u).st = .waking → (u.val = 10 ∧ (s.pw u).phase = .memory → bad = []) → (s.pw u).phase ≠ .restore →
    nextPhase u (s.pw u).renewal (s.pw u).phase = some ph →
    ∃ t, exec (.wakePhaseReady u bad) s = .next t
      ∧ t.pw u = { s.pw u with phase := ph, retried := false
                               bypass := (s.pw u).bypass || ((s.pw u).retried && (s.pw u).phase == .regulator)
                               secondary := (s.pw u).secondary || ((s.pw u).retried && (s.pw u).phase == .oscillator) }
      ∧ (∀ i, i ≠ u.val → t.pw i = s.pw i) ∧ t.nextSeq 0 = (if (s.pw u).retried = true ∧ (s.pw u).phase ≠ .memory
          then (s.nextSeq 0 + 1) % 65536 else s.nextSeq 0)
      ∧ t = { s with pwr := t.pwr, log := t.log })
  ∧ (∀ (bad : List (Fin 4096)) (s : State), (s.pw 10).st = .waking → (s.pw 10).phase = .memory → (s.pw 10).renewal = false →
    ∃ t, exec (.wakePhaseReady 10 bad) s = .next t ∧ (t.pw 10).phase = .logic
      ∧ (∀ k ∈ bad, (t.key k).cls = 255 ∧ (t.key k).key = []) ∧ (∀ k : Fin 4096, k ∉ bad → t.key k = s.key k)
      ∧ t = { s with pwr := t.pwr, log := t.log, keys := t.keys })
  ∧ (∀ (u : Fin 34) (bad : List (Fin 4096)) (s : State),
    (s.pw u).st = .waking → (s.pw u).phase = .logic → (s.pw u).renewal = false → s.mode.toLight = [] → s.mode.toDark = [] →
    ∃ t, exec (.wakePhaseReady u bad) s = .next t
      ∧ (t.pw u).st = (if 17 ≤ u.val ∧ u.val ≤ 19 ∧ s.aon.vgListening = true ∧ u.val = 16 + s.aon.vgRadio then .reduced else .lit)
      ∧ (t.pw u).fenced = false ∧ (∀ i, i ≠ u.val → i ≠ 32 → i ≠ 33 → t.pw i = s.pw i)
      ∧ (u.val = 1 → t.role 0 = 0 ∧ t.role 1 = 1 ∧ t.cdm.kickL = s.elapsed ∧ t.cdm.kickR = s.elapsed)
      ∧ ((u.val = 11 ∨ u.val = 12) → t.held (u.val - 11) = true)
      ∧ t = { s with regs := t.regs, pwr := t.pwr, log := t.log, cdm := t.cdm, rad := t.rad, flash := t.flash
                     coreClk := t.coreClk })
  ∧ (∀ (i : Fin 22) (bad : List (Fin 4096)) (s : State),
    2 ≤ i.val → i.val ≠ 11 → i.val ≠ 12 → (s.pw i).st = .waking → (s.pw i).phase = .logic → (s.pw i).renewal = true →
    ∃ t, exec (.wakePhaseReady (i.castLE (by decide)) bad) s = .next t ∧ (t.pw i).st = .lit ∧ t.renStep i = 8
      ∧ (t.pw i).fenced = (s.pw i).fenced ∧ RegsKept [A.aonRenew i] s t
      ∧ t = { s with regs := t.regs, pwr := t.pwr, coreClk := t.coreClk })

/-- A phase that times out runs once more, the restore phase not at all; after that the wake fails: FAULT_N, the fault register,
the counter, WAKE_FAULT in the log, and the island is FAILED and dark, which takes the device to DEGRADED (R490, R491, R544). -/
def Obligations.WakeTimeoutsRetryOnceThenFail : Prop :=
  (∀ (u : Fin 34) (light : Nat) (s : State), (s.pw u).st = .waking → (s.pw u).phase ≠ .restore → (s.pw u).retried = false →
    ∃ t, exec (.wakePhaseTimeout u light) s = .next t ∧ t.pw u = { s.pw u with retried := true }
      ∧ (∀ i, i ≠ u.val → t.pw i = s.pw i) ∧ t = { s with pwr := t.pwr })
  ∧ (∀ (u : Fin 34) (light : Nat) (s : State), 2 ≤ u.val → u.val ≤ 10 → (s.pw u).st = .waking → (s.pw u).retried = true →
    (s.pw u).renewal = false → s.mode.mode = .service → s.mode.pending = none →
    ∃ t, exec (.wakePhaseTimeout u light) s = .next t ∧ (t.pw u).st = .failed ∧ t.isFailed u = true ∧ t.mode.mode = .degraded
      ∧ t.mode.cause = 4 ∧ t.fld A.aonModeShadow F.aonModeShadow_mode = 9
      ∧ t.bit A.aonFaultCause F.aonFaultCause_wake_fault = true ∧ t.bit A.aonFaultCause F.aonFaultCause_asserted = true
      ∧ t.bit A.aonWakeFault F.aonWakeFault_valid = true ∧ t.fld A.aonWakeFault F.aonWakeFault_island = u.val
      ∧ t.fld A.aonWakeFault F.aonWakeFault_stage = phaseCode (s.pw u).phase
      ∧ t.reg A.aonWakeFaults = satInc (s.reg A.aonWakeFaults) ∧ t.dram = s.dram ∧ t.pst = s.pst)

/-- An island that has discharged is DARK, with its registers at reset and its events numbered from 0 again, and a renewal's DARK
leads to LOAD; a request that the dark responder answers gets a bus error, is counted for the island, and the first of the period is
recorded with island, offset, direction and requester (R35, R494, R499, R501, R511). -/
def Obligations.DarkIslandsAreAnsweredByAon : Prop :=
  (∀ (i : Fin 34) (s : State), 6 ≤ i.val → i.val ≤ 9 → (s.pw i).goingDark = true → s.renStep i ≠ 5 → s.mode.pending = none →
    s.mode.toLight = [] → s.mode.toDark = [] →
    ∃ t, exec (.islandDark i) s = .next t ∧ (t.pw i).st = .dark ∧ (t.pw i).goingDark = false ∧ t.nextSeq i = 0
      ∧ (∀ a, inWindows a = true → islandOf a = i.val → t.reg a = resetWord a)
      ∧ (∀ k, k ≠ i.val → t.pw k = s.pw k) ∧ t.dram = s.dram ∧ t.pst = s.pst ∧ t.keys = s.keys ∧ t.flash = s.flash)
  ∧ (∀ (i : Fin 34) (s : State), 6 ≤ i.val → i.val ≤ 9 → (s.pw i).goingDark = true → s.renStep i = 5 →
    ∃ t, exec (.islandDark i) s = .next t ∧ (t.pw i).st = .dark ∧ (t.pw i).fenced = true ∧ t.renStep i = 6)
  ∧ (∀ (who : Requester) (i : Fin 22) (off : Fin 0x1000000) (write : Bool) (s : State),
    1 ≤ i.val → s.answers who i = false → (∀ c, who ≠ .dma c) →
    ∃ t, exec (.darkAccess who i off write) s = .next t ∧ t.bus = ⟨true, 0, []⟩ ∧ (t.pw i).darkLogged = true
      ∧ t.reg (A.aonDarkLoss i) = satInc (s.reg (A.aonDarkLoss i))
      ∧ ((s.pw i).darkLogged = false → t.fld A.aonDarkAccessLo F.aonDarkAccessLo_island = i.val
          ∧ t.fld A.aonDarkAccessLo F.aonDarkAccessLo_offset = off.val
          ∧ t.fld A.aonDarkAccessHi F.aonDarkAccessHi_source = srcId who
          ∧ t.fld A.aonDarkAccessHi F.aonDarkAccessHi_write = (if write then 1 else 0)
          ∧ t.bit A.aonDarkAccessHi F.aonDarkAccessHi_valid = true ∧ t.nextSeq 0 = (s.nextSeq 0 + 1) % 65536)
      ∧ ((s.pw i).darkLogged = true → RegsKept [A.aonDarkLoss i] s t ∧ t.log = s.log)
      ∧ RegsKept [A.aonDarkLoss i, A.aonDarkAccessLo, A.aonDarkAccessHi] s t
      ∧ t = { s with regs := t.regs, pwr := t.pwr, log := t.log, bus := t.bus })
  ∧ (∀ (c : Fin 64) (i : Fin 22) (off : Fin 0x1000000) (write : Bool) (s : State),
    1 ≤ i.val → s.answers (.dma c) i = false → (s.bit (A.dmaChCtl c) F.dmaChCtl_enable) = true → s.isLit 9 = true →
    ∃ t, exec (.darkAccess (.dma c) i off write) s = .next t ∧ t.bus = ⟨true, 0, []⟩
      ∧ t.reg (A.aonDarkLoss i) = satInc (s.reg (A.aonDarkLoss i)))

/-- Wake events. Outside VIGIL and HIBERNATE an enabled source sets its bit in AON_WAKE_STATUS alone; before the entry window it is
latched, inside it an edge is lost; at the window's end what is latched, and level sources that hold, act (R495–R497).
Log entry 27: the model's reading. -/
def Obligations.WakeEventsActLatchOrAreLost : Prop :=
  (∀ (src : Fin 10) (go : Bool) (light : Nat) (s : State), s.mode.mode ≠ .off → sleeps s.mode.mode = false → s.wakeEnabled src = true →
    (src.val = 5 ∨ src.val = 6 ∨ src.val = 9 → s.heldSources.testBit src = true) → s.aon.window = false →
    s.aon.entering = false → (s.mode.pending.any (fun t => sleeps t.target)) = false →
    ∃ t, exec (.wakeEvent src go light) s = .next t
      ∧ t.fld A.aonWakeStatus F.aonWakeStatus_wake = s.fld A.aonWakeStatus F.aonWakeStatus_wake ||| 2 ^ src.val
      ∧ RegsKept [A.aonWakeStatus] s t ∧ t = { s with regs := t.regs })
  ∧ (∀ (src : Fin 10) (go : Bool) (light : Nat) (s : State), s.mode.mode ≠ .off → s.wakeEnabled src = true →
    (src.val = 5 ∨ src.val = 6 ∨ src.val = 9 → s.heldSources.testBit src = true) → s.aon.window = false → s.aon.entering = true →
    ∃ t, exec (.wakeEvent src go light) s = .next t ∧ t.aon.latched = s.aon.latched ||| 2 ^ src.val
      ∧ t = { s with aon := { s.aon with latched := t.aon.latched, latchedGo := t.aon.latchedGo } })
  ∧ (∀ (src : Fin 10) (go : Bool) (light : Nat) (s : State), s.aon.window = true → exec (.wakeEvent src go light) s = .next s)
  ∧ (∀ (src : Fin 10) (light : Nat) (s : State), s.mode.mode = .vigil → s.mode.pending = none → 1 ≤ src.val → s.wakeEnabled src = true →
    (src.val = 5 ∨ src.val = 6 ∨ src.val = 9 → s.heldSources.testBit src = true) → s.aon.window = false → s.aon.entering = false →
    ∃ t, exec (.wakeEvent src true light) s = .next t ∧ t.mode.pending.map (·.target) = some .thrift ∧ t.cdm.halted = false
      ∧ t.mode.pending.map (·.cause) = some 3 ∧ t.mode.mode = .vigil)
  ∧ (∀ (held goMask : Fin 1024) (light : Nat) (s : State), s.aon.window = true → s.mode.pending.isSome = true →
    ∃ t, exec (.entryWindowEnd held goMask light) s = .next t ∧ t.aon.window = false
      ∧ (∀ k, k < 10 → s.aon.latched.testBit k = true → t.aon.latched.testBit k = true)
      ∧ (∀ k, 1 ≤ k → k ≤ 8 → k ≠ 5 → k ≠ 6 → held.val.testBit k = true → s.levelType k = true → s.wakeEnabled k = true →
          t.aon.latched.testBit k = true)
      ∧ t = { s with aon := { s.aon with window := false, latched := t.aon.latched, latchedGo := t.aon.latchedGo } })

/-! ### THRIFT, VIGIL sampling -/

/-- A VIGIL cycle: its point fixes the round boundary at least 2 ms on; the comparison keeps the light codes and hits for a light
in its second cycle in a row or a GPIO at its level; the radio of the programme is woken, and goes dark when its listen ends, with a
lantern's stamp kept and the misses cleared, or with a miss more, which at miss_limit sets lantern_loss; a write of ones clears
AON_VIGIL_STATUS bits, and with lantern_loss the misses. In THRIFT, free cells below fill_exit begin the way back to SERVICE (R504,
R506, R508–R510). Log entry 27: the model's reading. -/
def Obligations.VigilCyclesSampleAndCompare : Prop :=
  (∀ s : State, s.sampling = true → s.aon.vgPoint + 1000000 * s.aon.vgPeriod ≤ s.elapsed →
    ∃ t, exec .vigilCyclePoint s = .next t ∧ t.aon.vgSampling = true
      ∧ (let len := 125000 * max 1 (s.fld A.aonVigilAnchor F.aonVigilAnchor_round_units)
         len ∣ t.aon.vgBoundary ∧ s.nowNs + 2000000 ≤ t.aon.vgBoundary ∧ t.aon.vgBoundary < s.nowNs + 2000000 + len)
      ∧ t.reg A.aonVigilCycles = satInc (s.reg A.aonVigilCycles) ∧ RegsKept [A.aonVigilCycles] s t
      ∧ t = { s with regs := t.regs, aon := { s.aon with vgSampling := true, vgBoundary := t.aon.vgBoundary, vgPoint := s.elapsed } })
  ∧ (∀ (light0 light1 : Fin 4096) (gpio : Fin 16) (s : State), s.sampling = true → s.aon.vgSampling = true →
    s.aon.vgPoint + 280517 ≤ s.elapsed →
    let a := A.aonVigilStatus
    let past0 : Bool := if s.bit A.aonVigilCmp F.aonVigilCmp_dir0 then decide (s.aon.vgThr0 < light0) else decide (light0 < s.aon.vgThr0)
    let past1 : Bool := if s.bit A.aonVigilCmp F.aonVigilCmp_dir1 then decide (s.aon.vgThr1 < light1) else decide (light1 < s.aon.vgThr1)
    ∃ t, exec (.vigilCompare light0 light1 gpio) s = .next t
      ∧ t.fld a F.aonVigilStatus_light0 = light0 ∧ t.fld a F.aonVigilStatus_light1 = light1
      ∧ t.bit a F.aonVigilStatus_hit_light0 = (s.bit a F.aonVigilStatus_hit_light0 || (past0 && s.aon.vgPrev0))
      ∧ t.bit a F.aonVigilStatus_hit_light1 = (s.bit a F.aonVigilStatus_hit_light1 || (past1 && s.aon.vgPrev1))
      ∧ (t.bit a F.aonVigilStatus_hit_gpio = true ↔ s.bit a F.aonVigilStatus_hit_gpio = true ∨ ∃ k < 4,
          s.aon.vgGpioMask.testBit k = true ∧ gpio.val.testBit k = s.aon.vgGpioLevel.testBit k)
      ∧ t.aon.vgPrev0 = past0 ∧ t.aon.vgPrev1 = past1 ∧ RegsKept [a] s t ∧ t = { s with regs := t.regs, aon := t.aon })
  ∧ (∀ s : State, s.sampling = true → s.mode.mode = .vigil → 1 ≤ s.aon.vgRadio → s.aon.vgListening = false →
    (s.pw (16 + s.aon.vgRadio)).st = .dark → s.isFitted (16 + s.aon.vgRadio) = true →
    s.aon.vgBoundary ≤ s.nowNs + s.halfListen + 1000000 → s.nowNs < s.aon.vgBoundary + s.halfListen →
    ∃ t, exec .vigilRadioWake s = .next t ∧ (t.pw (16 + s.aon.vgRadio)).st = .waking ∧ t.aon.vgListening = true
      ∧ (∀ i, i ≠ 16 + s.aon.vgRadio → t.pw i = s.pw i) ∧ t = { s with pwr := t.pwr, aon := { s.aon with vgListening := true } })
  ∧ (∀ (hsig stamp : Nat) (s : State), s.listening = true → s.onAnchor = true → s.bit A.aonVigilCmp F.aonVigilCmp_time_en = false →
    hsigField hsig 47 40 = hsigCrc hsig → hsigVersion hsig = 0 → hsigType hsig = 0 →
    65536 * s.aon.vgBoundary ≤ stamp + 65536 * s.halfListen → stamp ≤ 65536 * s.aon.vgBoundary + 65536 * s.halfListen →
    ∃ t, exec (.vigilLanternFound hsig stamp) s = .next t ∧ t.fld A.aonVigilStamp F.aonVigilStamp_count = stamp / 65536 % 2 ^ 32
      ∧ t.fld A.aonVigilStatus F.aonVigilStatus_misses = 0 ∧ (t.pw (16 + s.aon.vgRadio)).goingDark = true
      ∧ RegsKept [A.aonVigilStamp, A.aonVigilStatus] s t ∧ t = { s with regs := t.regs, pwr := t.pwr, aon := { s.aon with vgListening := false } })
  ∧ (∀ s : State, s.listening = true → s.aon.vgBoundary + s.halfListen ≤ s.nowNs →
    let n := min 15 (s.fld A.aonVigilStatus F.aonVigilStatus_misses + 1)
    let lim := s.fld A.aonVigilCmp F.aonVigilCmp_miss_limit
    ∃ t, exec .vigilListenEnd s = .next t ∧ t.fld A.aonVigilStatus F.aonVigilStatus_misses = n
      ∧ t.reg A.aonVigilLanternMiss = satInc (s.reg A.aonVigilLanternMiss)
      ∧ t.bit A.aonVigilStatus F.aonVigilStatus_lantern_loss
          = (s.bit A.aonVigilStatus F.aonVigilStatus_lantern_loss || (lim != 0 && decide (lim ≤ n)))
      ∧ (t.pw (16 + s.aon.vgRadio)).goingDark = true ∧ RegsKept [A.aonVigilStatus, A.aonVigilLanternMiss] s t
      ∧ t = { s with regs := t.regs, pwr := t.pwr, aon := { s.aon with vgListening := false } })
  ∧ (∀ (who : Requester) (w : Word) (s : State), isCudom who = true →
    let a := A.aonVigilStatus
    let cl (f : Fld) : Prop := f.get w = 1
    ∃ t, exec (.vigilStatusClear who w) s = .next t
      ∧ (∀ f ∈ [F.aonVigilStatus_hit_light0, F.aonVigilStatus_hit_light1, F.aonVigilStatus_hit_gpio, F.aonVigilStatus_lantern_loss],
          t.fld a f = if f.get w = 1 then 0 else s.fld a f)
      ∧ t.fld a F.aonVigilStatus_light0 = s.fld a F.aonVigilStatus_light0
      ∧ (cl F.aonVigilStatus_lantern_loss → t.fld a F.aonVigilStatus_misses = 0)
      ∧ (¬ cl F.aonVigilStatus_lantern_loss → t.fld a F.aonVigilStatus_misses = s.fld a F.aonVigilStatus_misses)
      ∧ RegsKept [a] s t ∧ t = { s with regs := t.regs, bus := ⟨false, 0, []⟩ })
  ∧ (∀ (light : Nat) (s : State), s.mode.mode = .thrift → s.mode.pending = none → s.isLit 4 = true →
    s.freeCells < s.fld A.aonThriftCfg F.aonThriftCfg_fill_exit →
    ∃ t, exec (.thriftFillCheck light) s = .next t ∧ t.mode.mode = .thrift
      ∧ t.mode.pending = some ⟨.service, .service, 2, none, light, false, none⟩)

/-! ### Renewal -/

/-- RENEW and the steps of a renewal up to the wake: PREPARE, DRAIN, FENCE, MITTEN, DARK, LOAD, WAKE, in that order, each entered
when the one before ends; a drain limit forces the island down, with every request outstanding at it answered (R500, R511–R514,
R516). Log entries 24, 34: the model's reading. -/
def Obligations.RenewalStepsRunInOrder : Prop :=
  (∀ (src : CmdSource) (light : Nat) (s s1 : State) (r : Request), s.begin src .renew = (s1, some r) → s1.isFitted r.island = true →
    1 ≤ r.island → r.island < 22 → (r.p 1 1 = 1 → (s1.stagedSlot r.island).isSome = true) → s1.renewBusy r.island (r.p 0 1) = false →
    let i := r.island
    ∃ t, exec (.renew src light) s = .next t ∧ t.renStep i = 1 ∧ (t.ren i).isSome = true
      ∧ t.fld (A.aonRenew i) F.aonRenew_image = r.p 1 1 % 2 ∧ t.fld (A.aonRenew i) F.aonRenew_forced = 0
      ∧ t.fld (A.aonRenew i) F.aonRenew_drain_limit
          = (if r.p 2 2 ≠ 0 then r.p 2 2 else if 17 ≤ i ∧ i ≤ 19 then 0x1F4 else 0xA)
      ∧ (s1.mode.mode = .service → t.mode.mode = .renew ∧ t.mode.cause = 7)
      ∧ (s1.mode.mode ≠ .service → t.mode.mode = s1.mode.mode) ∧ t.cmd.out = s1.cmd.out)
  ∧ (∀ (i : Fin 22) (r : Renewal) (s : State), s.ren i = some r → s.renStep i = 1 → r.waitSteer = false → s.absBegun i = true →
    ∃ t, exec (.renewPrepareDone i) s = .next t ∧ t.renStep i = (if r.wasFailed then 4 else 2)
      ∧ (r.wasFailed = false → (i.val = 11 ∨ i.val = 12) → t.held (i.val - 11) = true)
      ∧ (s.dram.waiting = [] → RegsKept [A.aonRenew i, A.memMirror 0, A.memMirror 1] s t
          ∧ t = { s with regs := t.regs, pwr := t.pwr, dram := { s.dram with logged := t.dram.logged, chans := t.dram.chans } }))
  ∧ (∀ (i : Fin 22) (r : Renewal) (s : State), s.ren i = some r → s.renStep i = 1 →
    ∃ t, exec (.renewPrepareTimeout i) s = .next t ∧ t.renStep i = (if r.wasFailed then 4 else 2)
      ∧ t.nextSeq 1 = (s.nextSeq 1 + 1) % 65536
      ∧ (s.dram.waiting = [] → RegsKept [A.aonRenew i, A.memMirror 0, A.memMirror 1] s t
          ∧ t = { s with regs := t.regs, pwr := t.pwr, log := t.log
                         dram := { s.dram with logged := t.dram.logged, chans := t.dram.chans } }))
  ∧ (∀ (i : Fin 22) (s : State), (s.ren i).isSome = true → s.renStep i = 2 → (i.val = 1 ∨ s.islandIdle i = true) →
    ∃ t, exec (.renewDrainIdle i) s = .next t ∧ t.renStep i = 3 ∧ (i.val ≠ 1 → (t.pw i).fenced = true)
      ∧ (∀ k, k ≠ i.val → t.pw k = s.pw k) ∧ RegsKept [A.aonRenew i] s t ∧ t = { s with regs := t.regs, pwr := t.pwr })
  ∧ (∀ (i : Fin 22) (s : State), 2 ≤ i.val → (s.ren i).isSome = true → s.renStep i = 2 →
    ∃ t, exec (.renewDrainTimeout i) s = .next t ∧ t.renStep i = 3 ∧ (t.pw i).fenced = true
      ∧ t.fld (A.aonRenew i) F.aonRenew_forced = 1
      ∧ (∀ o ∈ t.cmd.out, o.dispatched = true → o.req.island = i.val → o.req.op = 1 ∨ o.req.op = 3)
      ∧ t.mode = s.mode ∧ (i.val ≠ 10 → t.dram = s.dram) ∧ t.flash.fuses = s.flash.fuses)
  ∧ (∀ (i : Fin 22) (r : Renewal) (s : State), s.ren i = some r → s.renStep i = 3 →
    ∃ t, exec (.renewFenceSaved i) s = .next t ∧ t.renStep i = 4 ∧ t.ren i = some (s.saveIsland i r)
      ∧ (i.val ≠ 1 → (t.pw i).goingDark = true) ∧ (i.val = 1 → (t.pw (32 + r.part)).goingDark = true)
      ∧ RegsKept [A.aonRenew i] s t ∧ t = { s with regs := t.regs, pwr := t.pwr, renew := t.renew })
  ∧ (∀ (i : Fin 22) (s : State), (s.ren i).isSome = true → s.renStep i = 4 →
    ∃ t, exec (.renewMittenElapsed i) s = .next t ∧ t.renStep i = 5 ∧ RegsKept [A.aonRenew i] s t ∧ t = { s with regs := t.regs })
  ∧ (∀ (i : Fin 22) (light : Nat) (r : Renewal) (s : State), s.ren i = some r → s.renStep i = 6 →
    ∃ t, exec (.renewLoadDone i true light) s = .next t ∧ t.renStep i = 7 ∧ (t.pw (unitOf i r.part)).st = .waking
      ∧ (t.pw (unitOf i r.part)).renewal = true ∧ (t.pw (unitOf i r.part)).phase = .regulator
      ∧ t = { s with regs := t.regs, pwr := t.pwr })

/-- How a renewal ends: REJOIN releases the mittens, clears the island's failed bit and completes the RENEW; a FENCE that times out
abandons it, and the island goes on; a LOAD or CALIBRATE that fails leaves the island dark and FAILED, with the device DEGRADED; the
RENEW's tag is free in each case (R511, R515, R516, R520). Log entry 28: the model's reading. -/
def Obligations.RenewalsRejoinAreAbandonedOrFail : Prop :=
  (∀ (i : Fin 22) (gains : List (Nat × Int)) (bands : List (Nat × Nat)) (light : Nat) (r : Renewal) (q : Request) (s : State),
    s.ren i = some r → r.req = some q → s.isOut q = true → s.renStep i = 8 →
    ((i.val ≠ 11 ∧ i.val ≠ 12) ∨ (s.held (i.val - 11) = false ∧ s.mirror = 0)) →
    (17 ≤ i.val → i.val ≤ 19 → renewMeasured (i.val - 17) (s.renewSets (i.val - 17) r) gains bands = true) →
    ∃ t, exec (.renewCalibrateDone i gains bands light) s = .next t ∧ t.renStep i = 0 ∧ t.ren i = none
      ∧ t.fld (A.aonRenew i) F.aonRenew_result = 1 ∧ (i.val ≠ 1 → (t.pw i).fenced = false ∧ t.isFailed i = false)
      ∧ (i.val = 1 → t.role r.part = 1) ∧ t.cmd.out = dropOut s.cmd.out q)
  ∧ (∀ (i : Fin 22) (light : Nat) (r : Renewal) (q : Request) (s : State), 2 ≤ i.val → s.ren i = some r → r.req = some q →
    s.isOut q = true → s.renStep i = 3 →
    ∃ t, exec (.renewFenceTimeout i light) s = .next t ∧ t.renStep i = 0 ∧ t.ren i = none
      ∧ t.fld (A.aonRenew i) F.aonRenew_result = 3 ∧ (t.pw i).fenced = false ∧ t.cmd.out = dropOut s.cmd.out q
      ∧ ((s.pw i).st = .lit → s.isFitted i = true → light.testBit i = true → (t.pw i).goingDark = false ∧ (t.pw i).st = .lit))
  ∧ (∀ (i : Fin 22) (light : Nat) (r : Renewal) (q : Request) (s : State), 2 ≤ i.val → s.ren i = some r → r.req = some q →
    s.isOut q = true → s.renStep i = 6 → (s.mode.mode = .renew ∨ s.mode.mode = .degraded) → s.mode.pending = none → i.val ∉ s.mode.toLight →
    ∃ t, exec (.renewLoadTimeout i light) s = .next t ∧ exec (.renewLoadDone i false light) s = .next t ∧ t.renStep i = 0
      ∧ t.ren i = none ∧ t.fld (A.aonRenew i) F.aonRenew_result = 2 ∧ (t.pw i).st = .failed ∧ t.isFailed i = true
      ∧ t.mode.mode = .degraded ∧ (s.mode.mode = .renew → t.mode.cause = 4) ∧ t.isOut q = false)
  ∧ (∀ (i : Fin 22) (light : Nat) (r : Renewal) (q : Request) (s : State), 2 ≤ i.val → s.ren i = some r → r.req = some q →
    s.isOut q = true → s.renStep i = 8 → (s.mode.mode = .renew ∨ s.mode.mode = .degraded) → s.mode.pending = none → i.val ∉ s.mode.toLight →
    ∃ t, exec (.renewCalibrateTimeout i light) s = .next t ∧ t.renStep i = 0 ∧ t.ren i = none
      ∧ t.fld (A.aonRenew i) F.aonRenew_result = 2 ∧ (t.pw i).st = .failed ∧ t.isFailed i = true ∧ t.mode.mode = .degraded
      ∧ t.isOut q = false)

/-! ### The glove pair, sensors, log -/

/-- A glove's write of its own bit kicks it and no other; a late kick fails a glove: FAULT_N, GLOVE_FAILED, the standby takes over
from a primary, DEGRADED; expiry of the Cudom watchdog leads to RECOVERY, but in TEST both gloves are held and both DALI buses fail;
the sensors' values stand for SENSOR_READ, and one above the alarm limit asserts FAULT_N (R44, R520, R521, R524–R526).
Log entry 33: the model's reading. -/
def Obligations.GlovesAndSensorsAreWatched : Prop :=
  (∀ (g : Fin 2) (w : Word) (s : State), s.isLit 1 = true → s.role g < 2 → s.cdm.halted = false → s.cdm.held = false →
    (if g.val = 0 then F.cdmGloveKick_left else F.cdmGloveKick_right).get w = 1 →
    exec (.gloveKick (.glove g) w) s = .next { s with
      cdm := if g.val = 0 then { s.cdm with kickL := s.elapsed } else { s.cdm with kickR := s.elapsed }, bus := ⟨false, 0, []⟩ })
  ∧ (∀ (who : Requester) (w : Word) (s : State), s.isLit 1 = true → (∀ g, who ≠ .glove g) →
    exec (.gloveKick who w) s = .next { s with bus := ⟨false, 0, []⟩ })
  ∧ (∀ (g : Fin 2) (light : Nat) (s : State), s.isLit 1 = true → s.mode.romDone = true → s.cdm.halted = false → s.cdm.held = false →
    s.role g = 0 → s.role (1 - g.val) = 1 → s.lastKick g + s.kickTimeout ≤ s.elapsed → s.mode.mode = .service → s.mode.pending = none →
    ∃ t, exec (.gloveKickTimeout g light) s = .next t ∧ t.role g = 3 ∧ t.role (1 - g.val) = 0
      ∧ t.reg A.cdmGloveTakeover = satInc (s.reg A.cdmGloveTakeover) ∧ t.bit A.aonFaultCause F.aonFaultCause_glove_failed = true
      ∧ t.bit A.aonFaultCause F.aonFaultCause_asserted = true ∧ t.mode.mode = .degraded ∧ t.mode.cause = 4 ∧ t.isFailed 1 = s.isFailed 1)
  ∧ (∀ (light : Nat) (s : State), s.isLit 1 = true → s.mode.romDone = true → s.cdm.halted = false → s.cdm.held = false →
    (s.role 0 = 3 ∧ s.role 1 = 3 ∨ max s.cdm.kickL s.cdm.kickR + 100000000 ≤ s.elapsed) → s.mode.mode = .service →
    ∃ t, exec (.cudomWatchdog light) s = .next t ∧ t.mode.mode = .recovery ∧ t.mode.cause = 6 ∧ t.keys = [] ∧ t.role 0 = 0 ∧ t.role 1 = 1
      ∧ t.fld A.cdmBootStatus F.cdmBootStatus_booted_slot = 2 ∧ t.flash.prov = s.flash.prov
      ∧ t.bit A.aonFaultCause F.aonFaultCause_recovery = true)
  ∧ (∀ (light : Nat) (s : State), s.isLit 1 = true → s.mode.romDone = true → s.cdm.halted = false → s.cdm.held = false →
    (s.role 0 = 3 ∧ s.role 1 = 3 ∨ max s.cdm.kickL s.cdm.kickR + 100000000 ≤ s.elapsed) → s.mode.mode = .test →
    ∃ t, exec (.cudomWatchdog light) s = .next t ∧ t.mode = s.mode ∧ t.cdm.held = true ∧ t.cdm.dali0.failed = true ∧ t.cdm.dali1.failed = true
      ∧ t.nextSeq 0 = (s.nextSeq 0 + 1) % 65536 ∧ t = { s with cdm := t.cdm, log := t.log })
  ∧ (∀ (die : List Int) (mv ma : List Nat) (tcxo lane : Int) (light : Nat) (s : State), s.mode.mode ≠ .off → die.length = 12 →
    mv.length = 14 → s.cdm.die.length = 12 → s.cdm.railMv.length = 14 → s.cdm.sampledAt + 1000000 ≤ s.elapsed →
    ∃ t, exec (.sensorSample die mv ma tcxo lane light) s = .next t ∧ t.cdm.die = die ∧ t.cdm.railMv = mv
      ∧ t.cdm.rail10mA = (List.range 14).map (fun n => ma.getD n 0) ∧ t.cdm.tcxoPpb = tcxo ∧ t.cdm.laneRefPpb = lane
      ∧ (∀ v ∈ die, 8 * signed 8 (s.fld A.cdmTempLimit F.cdmTempLimit_alarm) < v →
          t.bit A.aonFaultCause F.aonFaultCause_temp_alarm = true ∧ t.bit A.aonFaultCause F.aonFaultCause_asserted = true))

/-- The log: the oldest event is taken into tier 0, whose oldest of 4 096 is overwritten and counted; after 16 of one name and
source in a second later ones are suppressed, and the second's end gives one summary with their count; the primary glove writes the
staged entries to tier 2; a LOG_READ completes (R528–R531, R575). Log entries 17, 33: the model's reading. -/
def Obligations.TheLogTakesSuppressesAndWrites : Prop :=
  (∀ (e : Event) (rest : List Event) (s : State), s.isLit 1 = true → s.log.events = e :: rest →
    (s.log.supp.find? (·.for e)).all (fun x => decide (x.taken < 16)) = true →
    ∃ t, exec .logEntry s = .next t ∧ t.log.events = rest
      ∧ t.log.tier0 = (if 4096 ≤ s.log.tier0.length then s.log.tier0.drop 1 else s.log.tier0) ++ [e]
      ∧ t.log.next0 = (s.log.next0 + 1) % 2 ^ 32
      ∧ (s.servesLog = false → t.log.tier1 = s.log.tier1 ∧ t.log.next1 = s.log.next1)
      ∧ (2 ≤ e.sev → s.log.staging.length < 64 → t.log.staging = s.log.staging ++ [e])
      ∧ (e.sev < 2 → t.log.staging = s.log.staging)
      ∧ RegsKept [A.cdmLogOverwrite, A.cdmLogFlashDrop] s t ∧ t = { s with log := t.log, regs := t.regs })
  ∧ (∀ (e : Event) (rest : List Event) (x : Suppress) (s : State), s.isLit 1 = true → s.log.events = e :: rest →
    s.log.supp.find? (·.for e) = some x → 16 ≤ x.taken →
    ∃ t, exec .logEntry s = .next t ∧ t.log.events = rest ∧ t.log.tier0 = s.log.tier0 ∧ t.log.tier1 = s.log.tier1
      ∧ t.log.staging = s.log.staging ∧ t = { s with log := t.log })
  ∧ (∀ (x : Suppress) (s : State), s.isLit 1 = true →
    (s.log.supp.filter (fun y => !(s.secondOver y && y.count == 0))).find? s.secondOver = some x →
    ∃ t, exec .logSuppressSummary s = .next t ∧ t.reg A.cdmLogSuppressed = satInc (s.reg A.cdmLogSuppressed)
      ∧ t.log.tier0.getLast? = some (s.summary x) ∧ t.log.events = s.log.events
      ∧ RegsKept [A.cdmLogSuppressed, A.cdmLogOverwrite, A.cdmLogFlashDrop] s t ∧ t = { s with log := t.log, regs := t.regs })
  ∧ (∀ s : State, s.glovesRun = true → s.pageDue = true → s.flash.tier2.length + s.log.staging.length ≤ 262144 →
    ∃ t, exec .logPageWrite s = .next t ∧ t.log.staging = [] ∧ t.flash.tier2 = s.flash.tier2 ++ s.log.staging
      ∧ t.flash.tier2Next = (s.flash.tier2Next + s.log.staging.length) % 2 ^ 32
      ∧ t = { s with log := { s.log with staging := [], pageAt := some s.elapsed }
                     flash := { s.flash with tier2 := t.flash.tier2, tier2Next := t.flash.tier2Next } })
  ∧ (∀ (r : Request) (rest : List Request) (s : State), s.glovesRun = true → s.cdm.jobs.logRead = r :: rest → s.isOut r = true →
    ∃ t, exec .logReadDone s = .next t ∧ t.cdm.jobs.logRead = rest ∧ t.cmd.out = dropOut s.cmd.out r
      ∧ RegsKept replyRegs s t ∧ t.apart s = { s with cdm := { s.cdm with jobs := t.cdm.jobs } })

/-! ### Command packets: replies, dispatch, opcodes -/

/-- A reply of one frame (R57, R58, R67, R70): the request's first byte with reply set, its class, opcode and tag, the reply
sequence of its requester, the status, and the effect word before the parameters, padded with zeros. It goes to a free mailbox slot,
whose rsp_valid sets, or is held; to the host port's 16 places with its CRC-32, or is held; and the requester's reply sequence
advances by one. Log entries 8, 9, 19: the model's reading. -/
def Obligations.RepliesCarryHeaderStatusAndEffect : Prop :=
  (∀ (s : State) (r : Request) (status : Nat) (eff : Option Nat) (ps : List Byte), r.who = .host → ps.length ≤ 4076 →
    let body := Crypto.toBE 4 (effectWord eff) ++ ps
    let f := buildHdr (r.hdr0 + 1) r.cls r.island r.op r.tag body.length s.cmd.seqHost status ++ body
      ++ List.replicate (padLen body.length) 0
    let w := f ++ Crypto.toBE 4 (crc32 f)
    let t := s.sendReply r status eff ps
    t.cmd.seqHost = (s.cmd.seqHost + 1) % 2 ^ 32
      ∧ (s.cmd.hostHeld = [] → s.cmd.hostWaiting.length < 16 → t.cmd.hostWaiting = s.cmd.hostWaiting ++ [w] ∧ t.cmd.hostHeld = [])
      ∧ ((s.cmd.hostHeld ≠ [] ∨ 16 ≤ s.cmd.hostWaiting.length) → t.cmd.hostHeld = s.cmd.hostHeld ++ [w])
      ∧ t.regs = s.regs ∧ t = { s with cmd := t.cmd })
  ∧ (∀ (s : State) (r : Request) (status : Nat) (eff : Option Nat) (ps : List Byte), r.who = .mailbox → ps.length ≤ 4076 →
    let body := Crypto.toBE 4 (effectWord eff) ++ ps
    let f := buildHdr (r.hdr0 + 1) r.cls r.island r.op r.tag body.length s.cmd.seqMbx status ++ body
      ++ List.replicate (padLen body.length) 0
    let t := s.sendReply r status eff ps
    t.cmd.seqMbx = (s.cmd.seqMbx + 1) % 2 ^ 32
      ∧ ((s.cmd.mbxHeld ≠ [] ∨ s.freeSlot = none) → t.cmd.mbxHeld = s.cmd.mbxHeld ++ [f] ∧ t.regs = s.regs)
      ∧ (∀ n, s.cmd.mbxHeld = [] → s.freeSlot = some n →
          (∀ k < f.length, Tbl.get (fun _ => 0) t.cmd.mbx (0x4000 + 0x1000 * n + k) = f.getD k 0)
          ∧ (t.fld A.cdmMbxRspStatus F.cdmMbxRspStatus_rsp_valid).testBit n = true ∧ t.cmd.mbxHeld = [])
      ∧ RegsKept [A.cdmMbxRspStatus] s t ∧ t = { s with cmd := t.cmd, regs := t.regs })
  ∧ (∀ (s : State) (r : Request) (status : Nat) (eff : Option Nat) (ps : List Byte),
    let t := s.finish r status eff ps
    t.cmd.out = dropOut s.cmd.out r ∧ RegsKept replyRegs s t ∧ s.keysButUse t ∧ t.apart s = s)

/-- Queries and reads answer with what their rule gives and change nothing else: QUERY, COUNTERS_READ, MODE_GET, SENSOR_READ, TIME_GET,
KEY_STATE and CAL_STATUS (R84, R399). Log entry 19: the model's reading. -/
def Obligations.QueriesAnswerAndChangeNothing : Prop :=
  ∀ (src : CmdSource) (s s1 : State) (r : Request),
    (s.begin src .query = (s1, some r) → exec (.query src) s = .next (s1.finish r ST.ok none
      (Crypto.toBE 1 (pwrCode (s1.pw r.island).st) ++ Crypto.toBE 1 (s1.renStep r.island)
        ++ Crypto.toBE 1 (F.xxxIdent_block_rev.get (resetWord (A.xxxIdent r.island)))
        ++ Crypto.toBE 1 (if s1.isFailed r.island then 1 else 0) ++ Crypto.toBE 2 (s1.nextSeq r.island) ++ [0, 0])).doze)
    ∧ (s.begin src .countersRead = (s1, some r) →
      let cs := (List.range (r.p 2 2)).filterMap (fun k => counterAt (counters r.island) (r.p 0 2 + k))
      exec (.countersRead src) s = .next (s1.finish r ST.ok none (Crypto.toBE 2 cs.length ++ [0, 0]
        ++ (cs.map (fun c => Crypto.toBE 8 (s1.counterVal r.island c))).flatten)).doze)
    ∧ (s.begin src .modeGet = (s1, some r) → exec (.modeGet src) s = .next (s1.finish r ST.ok none
      (Crypto.toBE 4 s1.deviceModeWord.toNat ++ Crypto.toBE 4 (s1.reg A.cdmFailedIslands).toNat)).doze)
    ∧ (s.begin src .sensorRead = (s1, some r) →
      exec (.sensorRead src) s = .next (s1.finish r ST.ok none (s1.sensorGroup (r.p 0 1))).doze)
    ∧ (s.begin src .timeGet = (s1, some r) → exec (.timeGet src) s = .next (s1.finish r ST.ok none
      (Crypto.toBE 6 s1.nowSec ++ Crypto.toBE 4 s1.nowSub ++ Crypto.toBE 2 s1.nowFrac)).doze)
    ∧ (s.begin src .keyState = (s1, some r) →
      let k := s1.key (r.p 0 2)
      exec (.keyState src) s = .next (s1.finish r ST.ok none (Crypto.toBE 1 k.cls
        ++ Crypto.toBE 1 ((if k.shadow.isSome then 1 else 0) + (if k.warned then 2 else 0) + (if k.exhausted then 4 else 0)) ++ [0, 0]
        ++ Crypto.toBE 4 k.gen)).doze)
    ∧ (s.begin src .calStatus = (s1, some r) → exec (.calStatus src) s = .next (s1.finish r ST.ok none
      (Crypto.toBE 4 (s1.reg (A.radCalVersion (r.island - 17))).toNat ++ Crypto.toBE 2 (s1.fld (A.radDetStatus (r.island - 17)) F.radDetStatus_muted) ++ [0, 0])).doze)

/-- Settings that a command makes: the wake configuration with source 0 enabled, the VIGIL programme, FAULT_CLEAR, the servo mode and its
increment, TIME_SET with its step, the boot record of IMAGE_ACTIVATE, and an invalidated calibration record. Each ends its request, and
an event of the target island records it (R84, R190, R408, R409, R496, R510, R537, R544, R577).
Log entries 16, 32: the model's reading. -/
def Obligations.SettingCommandsSetWhatTheyName : Prop :=
  ∀ (src : CmdSource) (s s1 : State) (r : Request),
    (s.begin src .wakeConfig = (s1, some r) → ∃ t, exec (.wakeConfig src) s = .next t
      ∧ t.fld A.aonWakeEn F.aonWakeEn_enable = (r.p 0 4 ||| 1) % 1024
      ∧ t.fld A.aonWakeLevel F.aonWakeLevel_level = r.p 4 4 % 1024 ∧ t.nextSeq 0 = (s1.nextSeq 0 + 1) % 65536 ∧ Answered s1 t r
      ∧ RegsKept (A.aonWakeEn :: A.aonWakeLevel :: replyRegs) s1 t ∧ t.apart s1 = { s1 with log := t.log })
    ∧ (s.begin src .vigilProgram = (s1, some r) → ∃ t, exec (.vigilProgram src) s = .next t
      ∧ t.aon = { s1.aon with vgPeriod := r.p 0 4, vgRadio := r.p 4 1, vgListen := r.p 6 2, vgThr0 := r.p 8 2, vgThr1 := r.p 10 2
                              vgGpioMask := r.p 12 1, vgGpioLevel := r.p 13 1, vgPoint := s1.elapsed, vgPrev0 := false, vgPrev1 := false }
      ∧ Answered s1 t r ∧ RegsKept replyRegs s1 t ∧ t.apart s1 = { s1 with log := t.log, aon := t.aon })
    ∧ (s.begin src .faultClear = (s1, some r) → s1.fld A.cdmFailedIslands F.cdmFailedIslands_failed = 0 → s1.gloveDown = false →
      ∃ t, exec (.faultClear src) s = .next t
      ∧ (s1.tempAlarmed = false → t.reg A.aonFaultCause = 0)
      ∧ (s1.tempAlarmed = true → t.bit A.aonFaultCause F.aonFaultCause_temp_alarm = true
          ∧ t.bit A.aonFaultCause F.aonFaultCause_wake_fault = false ∧ t.bit A.aonFaultCause F.aonFaultCause_recovery = false
          ∧ t.bit A.aonFaultCause F.aonFaultCause_asserted = true)
      ∧ Answered s1 t r ∧ RegsKept (A.aonFaultCause :: replyRegs) s1 t ∧ t.apart s1 = { s1 with log := t.log })
    ∧ (s.begin src .servoMode = (s1, some r) → r.p 0 1 = 0 ∨ r.p 0 1 = 2 → ∃ t, exec (.servoMode src) s = .next t
      ∧ t.fld A.timeCtl F.timeCtl_servo_mode = r.p 0 1
      ∧ (r.p 0 1 = 2 → t.fld A.timeIncr F.timeIncr_increment = r.p 4 4 % 2 ^ F.timeIncr_increment.width)
      ∧ (r.p 0 1 = 0 → t.reg A.timeIncr = s1.reg A.timeIncr)
      ∧ Answered s1 t r ∧ RegsKept (A.timeCtl :: A.timeIncr :: replyRegs) s1 t ∧ t.apart s1 = { s1 with log := t.log })
    ∧ (s.begin src .servoMode = (s1, some r) → r.p 0 1 = 1 → s1.isLit 2 = true → ∃ t, exec (.servoMode src) s = .next t
      ∧ t.fld A.timeCtl F.timeCtl_servo_mode = 1
      ∧ (s1.fld A.timeCtl F.timeCtl_servo_mode ≠ 1 → t.time.lastSample = none ∧ t.time.sampled = false ∧ t.time.goodRun = 0)
      ∧ (s1.fld A.timeCtl F.timeCtl_servo_mode = 1 → t.time = s1.time) ∧ t.time.clock = s1.time.clock
      ∧ Answered s1 t r ∧ RegsKept (A.timeCtl :: A.timeQuality :: replyRegs) s1 t
      ∧ t.apart s1 = { s1 with log := t.log, time := t.time })
    ∧ (s.begin src .timeSet = (s1, some r) → s1.fld A.timeCtl F.timeCtl_servo_mode ≠ 1 → r.p 6 4 < nsPerSec →
      ∃ t, exec (.timeSet src) s = .next t
      ∧ t.nowSec = r.p 0 6 ∧ t.nowSub = r.p 6 4 ∧ t.nowFrac = 0 ∧ t.reg A.timeStep = satInc (s1.reg A.timeStep)
      ∧ t.fld A.timeCtl F.timeCtl_locked = 0 ∧ t.nextSeq 2 = (s1.nextSeq 2 + 1) % 65536
      ∧ t.fld A.timeQuality F.timeQuality_quality = t.quality
      ∧ Answered s1 t r ∧ RegsKept (A.timeStep :: A.timeCtl :: A.timeQuality :: replyRegs) s1 t
      ∧ t.apart s1 = { s1 with log := t.log, time := { s1.time with clock := t.time.clock, goodRun := 0 } })
    ∧ (s.begin src .imageActivate = (s1, some r) → s1.flash.valid (r.p 0 1) = true → ∃ t, exec (.imageActivate src) s = .next t
      ∧ t.flash.bootSlot = r.p 0 1 ∧ t.flash.trial = true ∧ t.flash.trialCount = 0
      ∧ t.bit A.cdmBootStatus F.cdmBootStatus_trial = true ∧ t.flash.minVersion = s1.flash.minVersion
      ∧ Answered s1 t r ∧ RegsKept (A.cdmBootStatus :: replyRegs) s1 t
      ∧ t.apart s1 = { s1 with log := t.log, flash := { s1.flash with bootSlot := r.p 0 1, trial := true, trialCount := 0 } })
    ∧ (s.begin src .calInvalidate = (s1, some r) → ∃ t, exec (.calInvalidate src) s = .next t
      ∧ t.flash.calValid = s1.flash.calValid.set (r.island - 17) false ∧ t.rad = s1.rad ∧ t.nextSeq r.island = (s1.nextSeq r.island + 1) % 65536
      ∧ Answered s1 t r ∧ RegsKept replyRegs s1 t
      ∧ t.apart s1 = { s1 with log := t.log, flash := { s1.flash with calValid := t.flash.calValid } })

/-- Commands that complete later answer ST_PENDING first, so their tag stays outstanding, and leave their work waiting: IMAGE_STAGE
(whose slot is not valid from then on), IMAGE_VERIFY, LOG_READ, PROVISION_COMMIT, CAL_RUN and RETRAIN, which holds its channel; a
DALI_SEND waits for its bus, or takes it where it is idle (R59, R84, R188, R482, R531, R535, R538, R539, R541).
Log entries 19, 31: the model's reading. -/
def Obligations.PendingCommandsLeaveTheirWorkWaiting : Prop :=
  ∀ (src : CmdSource) (s s1 : State) (r : Request),
    (s.begin src .imageStage = (s1, some r) → r.p 0 1 < 2 → s1.cdm.slotBooted ≠ r.p 0 1 + 1 → s1.loadsFrom (r.p 0 1) = false →
      ∃ t, exec (.imageStage src) s = .next t ∧ t.cdm.jobs.stage = s1.cdm.jobs.stage ++ [r] ∧ t.flash.valid (r.p 0 1) = false
      ∧ t.cmd.out = s1.cmd.out ∧ RegsKept replyRegs s1 t
      ∧ t.cdm.jobs.altered = (if s1.flash.valid (r.p 0 1) then s1.cdm.jobs.altered ++ [r] else s1.cdm.jobs.altered)
      ∧ t.apart s1 = { s1 with flash := s1.flash.setValid (r.p 0 1) false
                               cdm := { s1.cdm with jobs := { s1.cdm.jobs with stage := t.cdm.jobs.stage, altered := t.cdm.jobs.altered } } })
    ∧ (s.begin src .imageVerify = (s1, some r) → ∃ t, exec (.imageVerify src) s = .next t
      ∧ t.cmd.out = s1.cmd.out ∧ RegsKept replyRegs s1 t
      ∧ t.apart s1 = { s1 with cdm := { s1.cdm with jobs := { s1.cdm.jobs with verify := s1.cdm.jobs.verify ++ [(r, r.p 0 1)] } } })
    ∧ (s.begin src .logRead = (s1, some r) → ∃ t, exec (.logRead src) s = .next t
      ∧ t.cmd.out = s1.cmd.out ∧ RegsKept replyRegs s1 t
      ∧ t.apart s1 = { s1 with cdm := { s1.cdm with jobs := { s1.cdm.jobs with logRead := s1.cdm.jobs.logRead ++ [r] } } })
    ∧ (s.begin src .provisionCommit = (s1, some r) → ∃ t, exec (.provisionCommit src) s = .next t
      ∧ t.cmd.out = s1.cmd.out ∧ RegsKept replyRegs s1 t
      ∧ t.apart s1 = { s1 with cdm := { s1.cdm with jobs := { s1.cdm.jobs with provision := s1.cdm.jobs.provision ++ [r] } } })
    ∧ (s.begin src .calRun = (s1, some r) → s1.synState (r.island - 17) 0 ≠ 3 ∨ s1.synState (r.island - 17) 1 ≠ 3 →
      ∃ t, exec (.calRun src) s = .next t ∧ t.cmd.out = s1.cmd.out ∧ RegsKept replyRegs s1 t
      ∧ Tbl.get (fun _ => []) t.cdm.jobs.calRun (r.island - 17) = Tbl.get (fun _ => []) s1.cdm.jobs.calRun (r.island - 17) ++ [r]
      ∧ t.apart s1 = { s1 with cdm := { s1.cdm with jobs := { s1.cdm.jobs with calRun := t.cdm.jobs.calRun } } })
    ∧ (s.begin src .retrain = (s1, some r) → 11 ≤ r.island → r.island ≤ 12 → s1.isLit (memId (1 - (r.island - 11))) = true →
      let n := r.island - 11
      ∃ t, exec (.retrain src) s = .next t ∧ t.cmd.out = s1.cmd.out ∧ t.held n = true
      ∧ t.fld (A.memMirror 0) F.memMirror_state = 1 ∧ t.fld (A.memMirror 1) F.memMirror_state = 1
      ∧ r ∈ Tbl.get (fun _ => []) t.cdm.jobs.retrain n ∧ (s1.dram.waiting = [] → RegsKept (A.memMirror 0 :: A.memMirror 1 :: replyRegs) s1 t
          ∧ t.apart s1 = { s1 with cdm := { s1.cdm with jobs := { s1.cdm.jobs with retrain := t.cdm.jobs.retrain } }
                                   dram := { s1.dram with logged := t.dram.logged, chans := t.dram.chans } }))
    ∧ (s.begin src .daliSend = (s1, some r) → r.p 0 1 < 2 → s1.daliFails (r.p 0 1) = false → (s1.dali (r.p 0 1)).busy = none →
      (s1.dali (r.p 0 1)).queue = [] → ∃ t, exec (.daliSend src) s = .next t ∧ t.cmd.out = s1.cmd.out
      ∧ (t.dali (r.p 0 1)).busy = some ⟨r.p 1 1 == 24, (r.p 2 1).testBit 1, (r.p 2 1).testBit 0, r.p 4 4, some r, s1.elapsed, 0⟩
      ∧ (t.dali (r.p 0 1)).queue = [] ∧ t.dali (1 - r.p 0 1) = s1.dali (1 - r.p 0 1) ∧ RegsKept replyRegs s1 t
      ∧ t.apart s1 = { s1 with cdm := { s1.cdm with dali0 := t.cdm.dali0, dali1 := t.cdm.dali1 } })

/-- The work of pending commands goes on: the start of a page's program is noted, a staged image stands in its slot from its offset, a
verification finds its result and makes a slot valid only when it is 0, a provisioning record is written and the transition to CALIBRATE
begins for its request, a frame on a DALI bus ends with its answer, and a KEY_WRITE that has waited 1 ms is answered and leaves its slot
as it was. Log entries 31, 32, 35: the model's reading. -/
def Obligations.PendingWorkCompletes : Prop :=
  (∀ (r : Request) (rest : List Request) (s : State), s.glovesRun = true → s.cdm.jobs.stage = r :: rest → s.isOut r = true → r.p 0 1 < 2 →
    ∃ t, exec (.imageStageDone true) s = .next t ∧ t.cdm.jobs.stage = rest ∧ Answered s t r
      ∧ (∀ k < r.params.length - 8, Tbl.get (fun _ => 0xFF) (t.flash.slot (r.p 0 1)) (r.p 4 4 + k) = r.params.getD (8 + k) 0)
      ∧ (∀ k, k < r.p 4 4 ∨ r.p 4 4 + (r.params.length - 8) ≤ k →
          Tbl.get (fun _ => 0xFF) (t.flash.slot (r.p 0 1)) k = Tbl.get (fun _ => 0xFF) (s.flash.slot (r.p 0 1)) k)
      ∧ t.flash.slot (1 - r.p 0 1) = s.flash.slot (1 - r.p 0 1) ∧ t.flash.golden = s.flash.golden
      ∧ t.flash.valid (r.p 0 1) = false ∧ RegsKept replyRegs s t)
  ∧ (∀ (r : Request) (rest : List Request) (s : State), s.glovesRun = true → s.cdm.jobs.stage = r :: rest →
    ∃ t, exec (.imageStageDone false) s = .next t ∧ t.cdm.jobs.stageBegun = true ∧ r ∈ t.cdm.jobs.altered
      ∧ t = { s with cdm := { s.cdm with jobs := { s.cdm.jobs with stageBegun := true, altered := t.cdm.jobs.altered } } })
  ∧ (∀ (r : Request) (n : Nat) (rest : List (Request × Nat)) (s : State), s.glovesRun = true → s.cdm.jobs.verify = (r, n) :: rest →
    s.isOut r = true → n < 2 →
    let v := verifyImage s.flash.keyHash s.flash.minVersion (s.flash.slot n)
    ∃ t, exec .imageVerifyDone s = .next t ∧ t.cdm.jobs.verify = rest ∧ Answered s t r ∧ t.flash.valid n = (v == 0)
      ∧ (v = 0 → t.flash.lastValid = n) ∧ (v ≠ 0 → t.flash.lastValid = s.flash.lastValid)
      ∧ t.flash.slotA = s.flash.slotA ∧ t.flash.slotB = s.flash.slotB ∧ RegsKept replyRegs s t)
  ∧ (∀ (light : Nat) (r : Request) (rest : List Request) (s : State), s.glovesRun = true → s.cdm.jobs.provision = r :: rest →
    s.isOut r = true → s.mode.mode = .provision → s.mode.pending = none →
    ∃ t, exec (.provisionCommitDone light) s = .next t ∧ t.cdm.jobs.provision = rest ∧ t.cmd.out = s.cmd.out
      ∧ t.flash.prov = some ⟨r.p 0 4, r.p 4 2, s.provKeys⟩ ∧ t.mode.mode = .provision ∧ t.mode.provisionDue = none
      ∧ t.mode.pending = some ⟨.calibrate, .calibrate, 1, some r, light, false, some (s.nextSeq 1)⟩)
  ∧ (∀ (b : Fin 2) (f : DaliFrame) (q : Request) (v : Fin 256) (s : State), (s.dali b).busy = some f → f.req = some q → s.isOut q = true →
    (s.dali b).queue = [] →
    ∃ t, exec (.daliSendDone b (.backward v)) s = .next t ∧ (t.dali b).busy = none ∧ Answered s t q
      ∧ t.dali (1 - b.val) = s.dali (1 - b.val) ∧ RegsKept replyRegs s t
      ∧ t.apart s = { s with cdm := { s.cdm with dali0 := t.cdm.dali0, dali1 := t.cdm.dali1 } })
  ∧ (∀ (r : Request) (since : Nat) (rest : List (Request × Nat)) (s : State), s.cdm.jobs.keyWait = (r, since) :: rest →
    since + 1000000 ≤ s.elapsed → s.isOut r = true →
    ∃ t, exec .keyWritePendingTimeout s = .next t ∧ t.cdm.jobs.keyWait = rest ∧ s.keysButUse t ∧ Answered s t r
      ∧ RegsKept replyRegs s t ∧ t.apart s = { s with cdm := { s.cdm with jobs := { s.cdm.jobs with keyWait := rest } } })

/-! ### Modes -/

/-- MODE_SET: a neighbouring mode of the chain SERVICE, THRIFT, VIGIL, HIBERNATE takes the transition slot, with ST_PENDING first;
the current mode needs nothing; one that the table does not permit, and any while a transition is pending, changes nothing; RECOVERY is
entered at once, and erases the provisioning record; OFF is answered and then resets. Of two that reach Cudom in one cycle the one of
the lower source class is taken first. Log entries 18, 24: the model's reading. -/
def Obligations.ModeSetTakesTheTransitionSlot : Prop :=
  (∀ (src rival : CmdSource) (light : Nat) (s : State),
    let two (first second : CmdSource) : Prop := ∃ u, exec (.modeSet first light none) s = .next u
      ∧ exec (.modeSet src light (some rival)) s = exec (.modeSet second light none) u
    if srcClass rival < srcClass src then two rival src else two src rival)
  ∧ (∀ (src : CmdSource) (light : Nat) (s s1 : State) (r : Request) (m : Mode),
    s.begin src .modeSet = (s1, some r) → modeOf (r.p 0 1) = some m →
    (∀ next, s1.mode.pending = none → chainStep s1.mode.mode m = some next → (sleeps m = true → s1.aon.xtal32 = true) →
      ∃ t, exec (.modeSet src light none) s = .next t ∧ t.mode.mode = s1.mode.mode ∧ t.cmd.out = s1.cmd.out
        ∧ t.mode.pending.map (fun x => (x.target, x.final, x.cause, x.req)) = some (next, m, if r.who = .internal then 2 else 1, some r))
    ∧ (s1.mode.pending = none → m = s1.mode.mode → m ≠ .off → m ≠ .recovery → m ≠ .degraded →
      ∃ t, exec (.modeSet src light none) s = .next t ∧ Answered s1 t r ∧ RegsKept replyRegs s1 t ∧ t.apart s1 = s1)
    ∧ ((s1.mode.pending.isSome = true ∨ chainStep s1.mode.mode m = none) → m ≠ .off → m ≠ .recovery → m ≠ .degraded →
      ∃ t, exec (.modeSet src light none) s = .next t ∧ Answered s1 t r ∧ RegsKept replyRegs s1 t ∧ t.apart s1 = s1)
    ∧ (m = .recovery → s1.mode.mode ≠ .off → s1.mode.mode ≠ .test → s1.mode.mode ≠ .recovery → s1.mode.pending = none → s1.isOut r = true →
      ∃ t, exec (.modeSet src light none) s = .next t ∧ t.mode.mode = .recovery ∧ t.mode.cause = 1 ∧ t.flash.prov = none ∧ t.keys = [])
    ∧ (m = .off → s1.mode.pending = none →
      ∃ t, exec (.modeSet src light none) s = .next t ∧ t.mode.offReset = true ∧ t.mode.mode = s1.mode.mode ∧ Answered s1 t r))

/-- A transition completes once every island has switched: mode, previous mode, cause, count and shadow change, the slot is free, and the
request is answered; past its limit THRIFT to VIGIL stays where it is, an island that THRIFT to SERVICE could not light is failed, and
BOOT goes to RECOVERY. The test hold of BOOT ends after 10 s. Log entries 23, 24, 28: the model's reading. -/
def Obligations.TransitionsCompleteOrTimeOut : Prop :=
  (∀ (tr : Trans) (light : Nat) (s : State), s.mode.pending = some tr → s.canComplete tr = true → tr.target = tr.final → tr.req = none →
    (tr.target = .boot ∨ tr.target = .provision ∨ tr.target = .test) → s.mode.provisionDue = none →
    ∃ t, exec (.modeTransitionComplete light) s = .next t ∧ t.mode.mode = tr.target ∧ t.mode.prev = s.mode.mode ∧ t.mode.cause = tr.cause
      ∧ t.mode.count = (s.mode.count + 1) % 256 ∧ t.mode.pending = none
      ∧ t.fld A.aonModeShadow F.aonModeShadow_mode = modeCode tr.target ∧ t.nextSeq 1 = (s.nextSeq 1 + 1) % 65536)
  ∧ (∀ (tr : Trans) (light : Nat) (q : Request) (s : State), s.mode.pending = some tr → s.canComplete tr = true → tr.req = some q → s.isOut q = true →
    (tr.target = .service ∨ tr.target = .thrift ∨ tr.target = .vigil ∨ tr.target = .hibernate) → tr.final = tr.target →
    s.aon.window = true → s.mode.provisionDue = none →
    ∃ t, exec (.modeTransitionComplete light) s = .next t ∧ t.mode.mode = tr.target ∧ t.mode.prev = s.mode.mode ∧ t.mode.cause = tr.cause
      ∧ t.mode.pending = none ∧ Answered s t q ∧ t.fld A.aonModeShadow F.aonModeShadow_mode = modeCode tr.target
      ∧ (sleeps tr.target = true → t.cdm.halted = true))
  ∧ (∀ (tr : Trans) (light : Nat) (s : State), s.mode.mode = .thrift → s.mode.pending = some tr → tr.target = .vigil → tr.req = none →
    s.mode.provisionDue = none →
    ∃ t, exec (.modeTransitionTimeout light) s = .next t ∧ t.mode.mode = .thrift ∧ t.mode.pending = none ∧ t.mode.count = s.mode.count
      ∧ t.mode.cause = s.mode.cause ∧ t.aon.window = false)
  ∧ (∀ (tr : Trans) (light : Nat) (i : Nat) (s : State), s.mode.mode = .thrift → s.mode.pending = some tr → tr.target = .service →
    s.unlit .service tr.light = [i] → i ≠ 1 →
    ∃ t, exec (.modeTransitionTimeout light) s = .next t ∧ t.mode.mode = .degraded ∧ t.mode.cause = 4 ∧ t.isFailed i = true ∧ (t.pw i).st = .failed)
  ∧ (∀ (light : Nat) (s : State), s.mode.mode = .boot → s.mode.pending = none → s.cmd.testHold = false → s.isLit 1 = true →
    ∃ t, exec (.modeTransitionTimeout light) s = .next t ∧ t.mode.mode = .recovery)
  ∧ (∀ s : State, s.cmd.testHoldAt + 10 * nsPerSec ≤ s.elapsed →
    exec .testHoldExpiry s = .next { s with cmd := { s.cmd with testHold := false } })

/-- The boot ROM loads the device key into slot 0xFFF, and with the test strap high begins TEST; a board record that fails, read after
the flash was reset, sends the device to RECOVERY; a slot that verifies is run, the boot record's first, and on a device without a
provisioning record the transition to PROVISION begins; with both slots erased the golden image runs in RECOVERY. Log entry 23: the
model's reading. -/
def Obligations.BootRunsTheChosenImage : Prop :=
  (∀ (badCal : Fin 8) (light : Nat) (s : State), s.mode.mode = .boot → s.isLit 1 = true → s.mode.romDone = false → s.aon.strapTest = true →
    s.provRecord = none →
    ∃ t, exec (.bootRomStart badCal light) s = .next t ∧ t.mode.romDone = true ∧ (t.key 0xFFF).cls = 2 ∧ (t.key 0xFFF).key = s.flash.deviceKey
      ∧ t.mode.pending = some ⟨.test, .test, 0, none, light, false, none⟩ ∧ t.cmd.hostReady = true)
  ∧ (∀ (badCal : Fin 8) (light : Nat) (s : State), s.mode.mode = .boot → s.isLit 1 = true → s.mode.romDone = false → s.aon.strapTest = false →
    s.flash.boardValid = false →
    ∃ t, exec (.bootRomStart badCal light) s = .next t ∧ t.mode.mode = .recovery ∧ t.mode.cause = 9
      ∧ t.fld A.cdmBootStatus F.cdmBootStatus_booted_slot = 2 ∧ t.flash.prov = s.flash.prov
      ∧ t.cdm.flashSent = s.cdm.flashSent ++ [.enableReset, .reset, .read recordBase])
  ∧ (∀ (badCal : Fin 8) (light n : Nat) (s : State), s.mode.mode = .boot → s.isLit 1 = true → s.mode.romDone = false → s.aon.strapTest = false →
    s.flash.boardValid = true → s.flash.trial = false → s.flash.bootSlot < 2 → s.provRecord = none →
    [s.flash.bootSlot, 1 - s.flash.bootSlot].find?
      (fun n => verifyImage s.flash.keyHash s.flash.minVersion (s.flash.slot n) == 0) = some n →
    ∃ t, exec (.bootRomStart badCal light) s = .next t ∧ t.fld A.cdmBootStatus F.cdmBootStatus_booted_slot = n ∧ t.cdm.slotBooted = n + 1
      ∧ t.bit A.cdmBootStatus F.cdmBootStatus_trial = false ∧ t.mode.mode = .boot
      ∧ t.mode.pending = some ⟨.provision, .provision, 0, none, light, false, none⟩ ∧ t.cmd.hostReady = true)
  ∧ (∀ (badCal : Fin 8) (light : Nat) (s : State), s.mode.mode = .boot → s.isLit 1 = true → s.mode.romDone = false → s.aon.strapTest = false →
    s.flash.boardValid = true → s.flash.slotA = [] → s.flash.slotB = [] → s.flash.bootSlot < 2 →
    ∃ t, exec (.bootRomStart badCal light) s = .next t ∧ t.mode.mode = .recovery ∧ t.mode.cause = 5
      ∧ t.fld A.cdmBootStatus F.cdmBootStatus_booted_slot = 2
      ∧ t.flash.trialCount = (if s.flash.trial then s.flash.trialCount + 1 else s.flash.trialCount))

/-- ABORT ends an IMAGE_VERIFY, LOG_READ or IMAGE_STAGE that it names, and abandons a RENEW before DARK; past the point of no return, or
for a tag that is not outstanding, it changes nothing. TEST_CHALLENGE gives a nonce and holds the device in BOOT; TEST_ENTER with the
fused key's signature begins TEST, and without it spends the nonce. A verification past its limit is ended, and a fragmented request that
stays open 100 ms is abandoned and counted. Log entries 20, 23, 31: the model's reading. -/
def Obligations.AbortsTestsAndLimitsEndRequests : Prop :=
  (∀ (src : CmdSource) (light : Nat) (o : Outst) (s s1 : State) (r : Request), s.begin src .abort = (s1, some r) →
    s1.cmd.out.find? (fun o => o.req.who == r.who && o.req.tag == r.p 0 2) = some o → o.req.tag ≠ r.tag →
    (opcOf o.req.island o.req.op = some .imageVerify ∨ opcOf o.req.island o.req.op = some .logRead
      ∨ opcOf o.req.island o.req.op = some .imageStage) → (o.dispatched = true → s1.tooLate o.req = false) →
    ∃ t, exec (.abort src light) s = .next t ∧ t.cmd.out = dropOut (dropOut s1.cmd.out r) o.req
      ∧ o.req ∉ t.cdm.jobs.stage ∧ o.req ∉ t.cdm.jobs.logRead ∧ (∀ e ∈ t.cdm.jobs.verify, e.1 ≠ o.req)
      ∧ (s1.changedBy o.req = none → t.log = s1.log)
      ∧ RegsKept replyRegs s1 t ∧ t.apart s1 = { s1 with cdm := { s1.cdm with jobs := t.cdm.jobs }, log := t.log })
  ∧ (∀ (src : CmdSource) (light : Nat) (o : Outst) (x : Renewal) (s s1 : State) (r : Request), s.begin src .abort = (s1, some r) →
    s1.cmd.out.find? (fun o => o.req.who == r.who && o.req.tag == r.p 0 2) = some o → o.req.tag ≠ r.tag →
    opcOf o.req.island o.req.op = some .renew → o.dispatched = true → s1.tooLate o.req = false →
    1 ≤ o.req.island → o.req.island < 22 → s1.ren o.req.island = some x → x.req = some o.req →
    ∃ t, exec (.abort src light) s = .next t ∧ t.ren o.req.island = none ∧ t.renStep o.req.island = 0
      ∧ t.fld (A.aonRenew o.req.island) F.aonRenew_result = 3 ∧ t.cmd.out = dropOut (dropOut s1.cmd.out r) o.req)
  ∧ (∀ (src : CmdSource) (light : Nat) (o : Outst) (c : Opc) (s s1 : State) (r : Request), s.begin src .abort = (s1, some r) →
    s1.cmd.out.find? (fun o => o.req.who == r.who && o.req.tag == r.p 0 2) = some o → opcOf o.req.island o.req.op = some c →
    (c.abortable = false ∨ o.dispatched = true ∧ s1.tooLate o.req = true) →
    ∃ t, exec (.abort src light) s = .next t ∧ Answered s1 t r ∧ RegsKept replyRegs s1 t ∧ t.apart s1 = s1)
  ∧ (∀ (src : CmdSource) (light : Nat) (s s1 : State) (r : Request), s.begin src .abort = (s1, some r) →
    s1.cmd.out.find? (fun o => o.req.who == r.who && o.req.tag == r.p 0 2) = none →
    ∃ t, exec (.abort src light) s = .next t ∧ Answered s1 t r ∧ RegsKept replyRegs s1 t ∧ t.apart s1 = s1)
  ∧ (∀ (src : CmdSource) (s s1 : State) (r : Request), s.begin src .testChallenge = (s1, some r) → s1.cmd.testRefused < 3 →
    ∃ t, exec (.testChallenge src) s = .next t ∧ t.cmd.testHold = true ∧ Answered s1 t r
      ∧ t.cmd.nonce = some ((List.range 32).map (fun i => Config.freeByte s1.free (2 ^ 40 + i))) ∧ RegsKept replyRegs s1 t
      ∧ t.apart s1 = { s1 with free := s1.free + 1 })
  ∧ (∀ (src : CmdSource) (light : Nat) (s s1 : State) (r : Request), s.begin src .testEnter = (s1, some r) →
    s1.testKeyOk r.params = true → s1.mode.pending = none →
    ∃ t, exec (.testEnter src light) s = .next t ∧ t.mode.pending = some ⟨.test, .test, 1, some r, light, false, none⟩
      ∧ t.cmd.testHold = false ∧ t.cmd.out = s1.cmd.out ∧ t.mode.mode = s1.mode.mode)
  ∧ (∀ (src : CmdSource) (light : Nat) (s s1 : State) (r : Request), s.begin src .testEnter = (s1, some r) →
    s1.testKeyOk r.params = false →
    ∃ t, exec (.testEnter src light) s = .next t ∧ t.cmd.nonce = none ∧ t.cmd.testRefused = s1.cmd.testRefused + 1 ∧ Answered s1 t r
      ∧ RegsKept replyRegs s1 t ∧ t.apart s1 = s1)
  ∧ (∀ (who : CmdReq) (tag : Fin 65536) (o : Outst) (s : State), s.glovesRun = true →
    s.cmd.out.find? (fun o => o.dispatched && o.req.who == who && o.req.tag == tag.val) = some o →
    opcOf o.req.island o.req.op = some .imageVerify → s.mode.pending.any (fun x => x.req == some o.req) = false →
    s.dueEvent o.req = none →
    ∃ t, exec (.commandLimitTimeout who tag) s = .next t ∧ t.cmd.out = dropOut s.cmd.out o.req
      ∧ (∀ e ∈ t.cdm.jobs.verify, e.1 ≠ o.req) ∧ RegsKept replyRegs s t)
  ∧ (∀ (who : CmdReq) (f : Request) (s : State), s.glovesRun = true → s.openFrag who = some f →
    ∃ t, exec (.fragmentTimeout who) s = .next t ∧ t.openFrag who = none
      ∧ t.reg A.cdmCmdFragAbandon = satInc (s.reg A.cdmCmdFragAbandon) ∧ t.cmd.out = s.cmd.out
      ∧ RegsKept (A.cdmCmdFragAbandon :: replyRegs) s t ∧ t.apart s = s)

/-! ### Transports -/

/-- The core mailbox, host port and network transports. A doorbell is discarded while the transport is unavailable, waits while a reply
is held, and is taken otherwise: a request that passes its checks becomes outstanding, one with a wrong header check is counted; a freed
reply slot takes a held reply; a host WRITE with a good trailer becomes outstanding too, or joins a request buffer while a reply is
held, and a bad one is counted and flagged; STATUS clears its flags only when read whole; a reply leaves the port with its last byte; a
network frame that authenticates becomes outstanding, and one that does not is counted; what is counted per second restarts once a
second. Log entries 12, 19, 21, 22: the model's reading. -/
def Obligations.TransportsTakeAndReturnPackets : Prop :=
  (∀ (who : Requester) (w : Word) (s : State), s.isLit 1 = true → mayWrite D.cdmMbxDoorbell.wr who = true →
    s.transportUp .mailbox = false →
    ∃ t, exec (.mbxDoorbell who w) s = .next t ∧ t.fld A.cdmMbxDoorbell F.cdmMbxDoorbell_req = 0 ∧ t.cmd.bells = []
      ∧ RegsKept [A.cdmMbxDoorbell] s t ∧ t = { s with regs := t.regs, cmd := { s.cmd with bells := [] }, bus := ⟨false, 0, []⟩ })
  ∧ (∀ (who : Requester) (w : Word) (s : State), s.isLit 1 = true → mayWrite D.cdmMbxDoorbell.wr who = true →
    s.transportUp .mailbox = true → s.cmd.mbxHeld ≠ [] → s.cmd.bells = [] → s.fld A.cdmMbxDoorbell F.cdmMbxDoorbell_req = 0 →
    ∃ t, exec (.mbxDoorbell who w) s = .next t ∧ t.fld A.cdmMbxDoorbell F.cdmMbxDoorbell_req = F.cdmMbxDoorbell_req.get w
      ∧ t.cmd.bells = bitsOf 4 (F.cdmMbxDoorbell_req.get w) ∧ RegsKept [A.cdmMbxDoorbell] s t
      ∧ t = { s with regs := t.regs, cmd := { s.cmd with bells := t.cmd.bells }, bus := ⟨false, 0, []⟩ })
  ∧ (∀ (n : Fin 4) (s : State), s.isLit 1 = true → s.transportUp .mailbox = true → s.cmd.mbxHeld = [] → s.cmd.bells = [] →
    s.cdm.halted = false → s.cdm.held = false → s.fld A.cdmMbxDoorbell F.cdmMbxDoorbell_req = 0 →
    crc16 ((readBytes 0 s.cmd.mbx (0x1000 * n.val) 4096).take 14) ≠ (parseHdr (readBytes 0 s.cmd.mbx (0x1000 * n.val) 4096)).chk →
    ∃ t, exec (.mbxDoorbell (.core 0) (BitVec.ofNat 32 (2 ^ n.val))) s = .next t
      ∧ t.fld A.cdmMbxDoorbell F.cdmMbxDoorbell_req = 0 ∧ t.reg A.cdmCmdHdrErr = satInc (s.reg A.cdmCmdHdrErr)
      ∧ t.cmd.out = s.cmd.out ∧ t.cmd.bells = [])
  ∧ (∀ (n : Fin 4) (o : Opc) (s : State), s.isLit 1 = true → s.transportUp .mailbox = true → s.cmd.mbxHeld = [] → s.cmd.bells = [] →
    s.cdm.halted = false → s.cdm.held = false → s.fld A.cdmMbxDoorbell F.cdmMbxDoorbell_req = 0 →
    let b := readBytes 0 s.cmd.mbx (0x1000 * n.val) 4096
    let h := parseHdr b
    let r := mkRequest .mailbox h ((b.drop 16).take h.plen) 0 0 [] 0
    crc16 (b.take 14) = h.chk → h.isReply = false → h.more = false → s.openFrag .mailbox = none →
    earlyChecks h 0 (h.plen + padLen h.plen) r.params = none → opcOf r.island r.op = some o → s.lateChecks r o true = none →
    ∃ t, exec (.mbxDoorbell (.core 0) (BitVec.ofNat 32 (2 ^ n.val))) s = .next t
      ∧ t.fld A.cdmMbxDoorbell F.cdmMbxDoorbell_req = 0 ∧ t.cmd.out = s.cmd.out ++ [⟨r, false⟩] ∧ t.cmd.bells = []
      ∧ RegsKept [A.cdmMbxDoorbell] s t)
  ∧ (∀ (n : Fin 4) (f : List Byte) (s : State), s.isLit 1 = true → s.cmd.mbxHeld = [f] → s.cmd.bells = [] →
    s.fld A.cdmMbxRspStatus F.cdmMbxRspStatus_rsp_valid = 15 →
    ∃ t, exec (.mbxRspFree (.core 0) (BitVec.ofNat 32 (2 ^ n.val))) s = .next t ∧ t.cmd.mbxHeld = []
      ∧ t.fld A.cdmMbxRspStatus F.cdmMbxRspStatus_rsp_valid = 15
      ∧ (∀ k < f.length, Tbl.get (fun _ => 0) t.cmd.mbx (0x4000 + 0x1000 * n.val + k) = f.getD k 0)
      ∧ RegsKept [A.cdmMbxRspStatus] s t)
  ∧ (∀ (bytes : List Byte) (s : State), s.hostPort = true → s.transportUp .host = true → s.hostFree ≠ 0 → hostFrameOk bytes = false →
    sleeps s.mode.mode = false → s.mode.pending = none → s.aon.entering = false → s.cmd.hostRaw = [] →
    ∃ t, exec (.hostWrite bytes) s = .next t ∧ t.cmd.hostFrameErr = true
      ∧ t.reg A.cdmCmdHostFrameErr = satInc (s.reg A.cdmCmdHostFrameErr) ∧ t.cmd.out = s.cmd.out
      ∧ RegsKept [A.cdmCmdHostFrameErr, A.aonWakeStatus] s t ∧ t.miso = List.replicate bytes.length 0)
  ∧ (∀ (bytes : List Byte) (s : State), s.hostPort = true → s.transportUp .host = true → s.hostFree ≠ 0 → hostFrameOk bytes = true →
    s.cmd.hostHeld ≠ [] → sleeps s.mode.mode = false → s.mode.pending = none → s.aon.entering = false →
    ∃ t, exec (.hostWrite bytes) s = .next t ∧ t.cmd.hostRaw = s.cmd.hostRaw ++ [bytes.take (bytes.length - 4)]
      ∧ RegsKept [A.aonWakeStatus] s t)
  ∧ (∀ (bytes : List Byte) (o : Opc) (s : State), s.hostPort = true → s.transportUp .host = true → s.hostFree ≠ 0 →
    hostFrameOk bytes = true → s.cmd.hostHeld = [] → s.cmd.hostRaw = [] → s.cdm.halted = false → s.cdm.held = false →
    sleeps s.mode.mode = false → s.mode.pending = none → s.aon.entering = false → s.aon.window = false →
    let b := bytes.take (bytes.length - 4)
    let h := parseHdr b
    let r := mkRequest .host h ((b.drop 16).take h.plen) 0 0 [] 0
    crc16 (b.take 14) = h.chk → h.isReply = false → h.more = false → s.openFrag .host = none →
    earlyChecks h 1 (b.length - 16) r.params = none → opcOf r.island r.op = some o → s.lateChecks r o true = none →
    ∃ t, exec (.hostWrite bytes) s = .next t ∧ t.cmd.out = s.cmd.out ++ [⟨r, false⟩] ∧ t.cmd.hostRaw = []
      ∧ RegsKept [A.aonWakeStatus] s t)
  ∧ (∀ (k : Fin 5) (s : State), s.hostPort = true → sleeps s.mode.mode = false → s.mode.pending = none → s.aon.entering = false →
    ∃ t, exec (.hostStatus k) s = .next t ∧ t.miso = (Crypto.toBE 4 s.hostStatusWord).take k
      ∧ t.cmd = (if k.val = 4 then { s.cmd with hostOverflow := false, hostFrameErr := false } else s.cmd)
      ∧ RegsKept [A.aonWakeStatus] s t ∧ t = { s with regs := t.regs, cmd := t.cmd, miso := t.miso })
  ∧ (∀ (f : List Byte) (rest : List (List Byte)) (n : Nat) (s : State), s.hostPort = true → s.cmd.hostWaiting = f :: rest →
    sleeps s.mode.mode = false → s.mode.pending = none → s.aon.entering = false → s.cmd.hostHeld = [] → s.cmd.hostRaw = [] →
    ∃ t, exec (.hostRead n) s = .next t ∧ t.miso = f.take n ++ List.replicate (n - f.length) 0
      ∧ t.cmd.hostWaiting = (if f.length ≤ n then rest else f :: rest) ∧ RegsKept [A.aonWakeStatus] s t)
  ∧ (∀ (src : Fin 19) (f : RxFrame) (rest : List RxFrame) (s : State), Tbl.get (fun _ => []) s.rxFifo src = f :: rest →
    s.isLit 1 = true → isCommandFrame src f = true → s.transportUp (.network (beAt f.bytes 6 6) 0) = true →
    Tbl.get (fun _ => 0) s.cmd.netCount src < s.fld A.cdmCmdCtl F.cdmCmdCtl_net_rate → s.isLit 10 = true →
    (s.netOpen f.bytes).2 = none →
    ∃ t, exec (.networkCommandFrame src) s = .next t ∧ Tbl.get (fun _ => []) t.rxFifo src = rest
      ∧ t.reg A.cdmCmdAuthFail = satInc (s.reg A.cdmCmdAuthFail) ∧ t.cmd.out = s.cmd.out
      ∧ Tbl.get (fun _ => 0) t.cmd.netCount src = Tbl.get (fun _ => 0) s.cmd.netCount src + 1
      ∧ RegsKept [A.cdmCmdAuthFail, A.cipClassDeny, A.cipKeylenErr, A.cipAuthFail] s t
      ∧ t = { s with regs := t.regs, rxFifo := t.rxFifo, cmd := t.cmd, log := t.log })
  ∧ (∀ (src : Fin 19) (f : RxFrame) (rest : List RxFrame) (slot : Nat) (h : Hdr) (pt : List Byte) (o : Opc) (s : State),
    Tbl.get (fun _ => []) s.rxFifo src = f :: rest → s.isLit 1 = true → isCommandFrame src f = true →
    s.transportUp (.network (beAt f.bytes 6 6) 0) = true →
    Tbl.get (fun _ => 0) s.cmd.netCount src < s.fld A.cdmCmdCtl F.cdmCmdCtl_net_rate → s.isLit 10 = true →
    (s.netOpen f.bytes).2 = some (slot, h, pt) →
    let mac := beAt f.bytes 6 6
    let tags := f.bytes.take 6 ++ (f.bytes.drop 12).take (etherAt f.bytes 12 2 - 12)
    let r := mkRequest (.network mac slot) h (pt.take h.plen) src f.station tags (s.key slot).gen
    (s.netSeq mac slot h.seq).isSome = true → h.seq ≠ 0xFFFFFFFF →
    crc16 (Crypto.toBE 1 h.b0 ++ Crypto.toBE 1 h.cls ++ Crypto.toBE 1 h.island ++ Crypto.toBE 1 h.op ++ Crypto.toBE 2 h.tag
      ++ Crypto.toBE 2 h.plen ++ Crypto.toBE 4 h.seq ++ Crypto.toBE 2 h.status) = h.chk →
    h.isReply = false → h.more = false → s.netQueued < 8 → s.openFrag (.network mac slot) = none →
    earlyChecks h 2 pt.length r.params = none → opcOf r.island r.op = some o → s.lateChecks r o true = none →
    ∃ t, exec (.networkCommandFrame src) s = .next t ∧ Tbl.get (fun _ => []) t.rxFifo src = rest
      ∧ t.cmd.out = s.cmd.out ++ [⟨r, false⟩] ∧ (t.peer? mac slot).map (·.lastSeq) = some h.seq
      ∧ t.reg A.cdmCmdAuthFail = s.reg A.cdmCmdAuthFail)
  ∧ (∀ s : State, s.nowSec = s.cmd.second → exec .districtSecondBoundary s = .next s)
  ∧ (∀ s : State, s.nowSec ≠ s.cmd.second → ∃ t, exec .districtSecondBoundary s = .next t ∧ t.cmd.netCount = []
      ∧ t.cmd.netFailLogged = false ∧ t.cmd.second = s.nowSec
      ∧ (∀ r < 3, (t.wr r).mgmtCount = 0 ∧ (t.wr r).unknown = []) ∧ t.regs = s.regs
      ∧ t = { s with cmd := t.cmd, hmac := { s.hmac with wrad := t.hmac.wrad } })

/-! ### Cipher engine and keys -/

/-- KEY_WRITE puts class and key into its slot under the next generation, with no use and packet number 1, the old key staying as the
shadow while operations under it run, and clears what the receivers under the slot remember; while a shadow is in use the write waits.
KEY_ERASE ends every operation on the slot, its jobs with ST_KEY_REVOKED, and erases it. An operation that passes the tests of R572
takes a context and latches key, generation and packet number; one of HMAC's that fails a test counts that test alone; an ended
operation frees its context, and the last of an old generation clears the shadow; a job whose operation ends has its result. Log
entries 36, 81: the model's reading. -/
def Obligations.KeysAndOperationsOfTheCipherEngine : Prop :=
  (∀ (src : CmdSource) (s s1 : State) (r : Request), s.begin src .keyWrite = (s1, some r) → (s1.key (r.p 0 2)).shadow = none →
    (r.p 2 1 = 0 ∨ r.p 3 1 ≠ 16) → ((s1.key (r.p 0 2)).cls = 255 ∨ (s1.key (r.p 0 2)).cls = r.p 2 1) →
    let n := r.p 0 2
    let k := s1.key n
    ∃ t, exec (.keyWrite src) s = .next t
      ∧ t.key n = { cls := r.p 2 1, key := (r.params.drop 4).take (r.p 3 1), gen := nextGen k.gen, use := 0, pn := 1, warned := false,
                    exhausted := false,
                    shadow := if s1.cip.ops.any (fun o => o.slot == n && o.gen == k.gen) then some (k.gen, k.key) else none }
      ∧ (∀ m, m ≠ n → t.key m = s1.key m ∨ t.key m = { s1.key m with use := 1 }) ∧ (∀ p ∈ t.cmd.peers, p.slot ≠ n)
      ∧ (∀ e < 128, t.reg (A.cipMsecSaW8 e) = (if s1.rxSaOn e n then 1 else s1.reg (A.cipMsecSaW8 e))
          ∧ t.reg (A.cipMsecSaW9 e) = (if s1.rxSaOn e n then 0 else s1.reg (A.cipMsecSaW9 e)))
      ∧ Answered s1 t r ∧ RegsKept (saPnRegs ++ replyRegs) s1 t ∧ { t.apart s1 with keys := s1.keys } = { s1 with log := t.log })
  ∧ (∀ (src : CmdSource) (s s1 : State) (r : Request), s.begin src .keyWrite = (s1, some r) → (s1.key (r.p 0 2)).shadow.isSome = true →
    ∃ t, exec (.keyWrite src) s = .next t ∧ t.cdm.jobs.keyWait = s1.cdm.jobs.keyWait ++ [(r, s1.elapsed)] ∧ t.keys = s1.keys
      ∧ t.cmd = s1.cmd ∧ t.regs = s1.regs)
  ∧ (∀ (src : CmdSource) (s s1 : State) (r : Request), s.begin src .keyErase = (s1, some r) →
    s1.cdm.jobs.keyWait.find? (fun q => q.1.p 0 2 == r.p 0 2) = none →
    let n := r.p 0 2
    ∃ t, exec (.keyErase src) s = .next t ∧ t.key n = { KeySlot.erased with gen := nextGen (s1.key n).gen }
      ∧ (∀ m, m ≠ n → t.key m = s1.key m ∨ t.key m = { s1.key m with use := 1 })
      ∧ t.cip.ops = s1.cip.ops.filter (fun o => o.slot != n)
      ∧ (∀ j ∈ s1.cip.jobs, j.result = none → (∃ o ∈ s1.cip.ops, o.slot = n ∧ j.op = some o.id) →
          ({ j with result := some (ST.keyRevoked, 0) } : CipJob) ∈ t.cip.jobs)
      ∧ t.cip.jobs.length = s1.cip.jobs.length ∧ (∀ p ∈ t.cmd.peers, p.slot ≠ n) ∧ Answered s1 t r)
  ∧ (∀ (u : CipUser) (id : Nat) (slot : Fin 4096) (encrypt : Bool) (len : Fin 33) (expedited : Bool) (s : State),
    (∀ q, u ≠ .job q) → s.isLit 10 = true → s.cip.ops.any (·.id == id) = false → s.cip.ops.length < 64 →
    (expedited = true ∨ u = .network ∨ (s.cip.ops.filter (!·.expedited)).length < 56) →
    let use := s.cipUse u slot
    s.cipRefusal slot (cipCls u) (cipLen u len) (if encrypt then some use else none) = none →
    let k := s.key slot
    ∃ t, exec (.cipOperationStart u id slot encrypt len expedited) s = .next t
      ∧ t.cip.ops = s.cip.ops ++ [⟨id, u, slot, k.gen, k.key, if encrypt then k.pn else 0, expedited || u == .network⟩]
      ∧ (encrypt = false → t.keys = s.keys) ∧ (encrypt = true → (t.key slot).use = use)
      ∧ (encrypt = true → (t.key slot).pn = if 2 ≤ use then k.pn + 1 else k.pn)
      ∧ (t.key slot).gen = k.gen ∧ (t.key slot).key = k.key ∧ (∀ m, m ≠ slot.val → t.key m = s.key m)
      ∧ t.fld A.cipStatus F.cipStatus_contexts = s.cip.ops.length + 1
      ∧ t.fld A.cipStatus F.cipStatus_expedited = s.cip.ops.length + 1 - 56
      ∧ RegsKept [A.cipStatus, A.cipPnWarn] s t
      ∧ t = { s with cip := { s.cip with ops := t.cip.ops }, keys := t.keys, regs := t.regs, log := t.log })
  ∧ (∀ (id : Nat) (slot : Fin 4096) (encrypt : Bool) (len : Fin 33) (expedited : Bool) (st a : Nat) (s : State),
    s.isLit 10 = true → s.cip.ops.any (·.id == id) = false → s.cip.ops.length < 64 →
    (expedited = true ∨ (s.cip.ops.filter (!·.expedited)).length < 56) →
    s.cipRefusal slot (cipCls .hmac) (some len.val) (if encrypt then some 3 else none) = some (st, a) →
    ∃ t, exec (.cipOperationStart .hmac id slot encrypt len expedited) s = .next t ∧ t.reg a = satInc (s.reg a)
      ∧ t.key slot = (if st = ST.nonceExhausted then { s.key slot with exhausted := true } else s.key slot)
      ∧ (∀ m, m ≠ slot.val → t.key m = s.key m) ∧ RegsKept [a] s t ∧ t = { s with regs := t.regs, keys := t.keys })
  ∧ (∀ (id : Nat) (o : CipOp) (s : State), s.cip.ops.find? (·.id == id) = some o →
    s.cip.jobs.find? (fun j => j.op == some id && j.result.isNone) = none → s.cdm.jobs.keyWait.find? (fun q => q.1.p 0 2 == o.slot) = none →
    ∃ t, exec (.cipOperationDone id) s = .next t ∧ t.cip.ops = s.cip.ops.filter (·.id != id) ∧ t.cip.jobs = s.cip.jobs
      ∧ (∀ m, m ≠ o.slot → t.key m = s.key m)
      ∧ (∀ g k, (s.key o.slot).shadow = some (g, k) → (∀ p ∈ t.cip.ops, p.slot = o.slot → p.gen ≠ g) →
          t.key o.slot = { s.key o.slot with shadow := none })
      ∧ (∀ g k, (s.key o.slot).shadow = some (g, k) → (∃ p ∈ t.cip.ops, p.slot = o.slot ∧ p.gen = g) → t.keys = s.keys)
      ∧ RegsKept [A.cipStatus] s t ∧ t = { s with cip := { s.cip with ops := t.cip.ops }, keys := t.keys, regs := t.regs })
  ∧ (∀ (id : Nat) (o : CipOp) (j : CipJob) (s : State), s.cip.ops.find? (·.id == id) = some o →
    s.cip.jobs.find? (fun j => j.op == some id && j.result.isNone) = some j → (s.key o.slot).shadow = none →
    ∃ t, exec (.cipOperationDone id) s = .next t ∧ t.cip.ops = s.cip.ops.filter (·.id != id) ∧ t.keys = s.keys
      ∧ t.cip.jobs.length = s.cip.jobs.length ∧ ∃ x ∈ t.cip.jobs, x.desc = j.desc ∧ x.ring = j.ring ∧ x.result.isSome = true)

/-- Job rings and MACsec reception. A descriptor that the engine owns is taken; the oldest job, done, is written back with own 0 and the
done index advances; a faulting job completes with ST_BAD_PARAM and its ring halts; a ring is enabled only with a usable size; ring 1 is
Cudom's. A frame on a port without receive SAs is delivered; one without a SecTAG is dropped where a receive SA is Strict and delivered
where none is, counted either way. Log entry 81: the model's reading. -/
def Obligations.JobRingsAndMacsecReception : Prop :=
  (∀ (r : Fin 2) (s s1 : State) (d : List Byte), s.isLit 10 = true → s.bit (A.cipJobCtl r) F.cipJobCtl_enable = true →
    s.bit (A.cipJobCtl r) F.cipJobCtl_ring_err = false → s.fld (A.cipJobCtl r) F.cipJobCtl_size ≠ 0 →
    (s.fld (A.cipJobPtr r) F.cipJobPtr_done + (s.cip.jobs.filter (·.ring == r.val)).length) % s.fld (A.cipJobCtl r) F.cipJobCtl_size
      ≠ s.fld (A.cipJobPtr r) F.cipJobPtr_prod →
    s.memRead (.island 10) (s.jobAddr r (s.cip.jobs.filter (·.ring == r.val)).length) 64 = (s1, some d) → (dle d 0 1).testBit 7 = true →
    exec (.cipJobFetch r) s = .next { s1 with cip := { s1.cip with jobs := s1.cip.jobs ++ [⟨r, d, none, none⟩] } })
  ∧ (∀ (r : Fin 2) (j : CipJob) (st n : Nat) (s : State), s.cip.jobs.find? (·.ring == r.val) = some j → j.result = some (st, n) →
    s.isLit 10 = true → s.answers (.island 10) 4 = true → j.desc.length = 64 → 0x80000000 ≤ s.jobAddr r 0 →
    s.jobAddr r 0 + 64 ≤ 0x82000000 → s.fld (A.cipJobCtl r) F.cipJobCtl_size ≤ 4096 →
    ∃ t, exec (.cipJobWriteback r) s = .next t ∧ t.cip.jobs = s.cip.jobs.erase j
      ∧ t.fld (A.cipJobPtr r) F.cipJobPtr_done
          = (s.fld (A.cipJobPtr r) F.cipJobPtr_done + 1) % max 1 (s.fld (A.cipJobCtl r) F.cipJobCtl_size)
      ∧ (s.bit (A.cipJobCtl r) F.cipJobCtl_irq_en = true → t.cip.irq.testBit r = true)
      ∧ (s.bit (A.cipJobCtl r) F.cipJobCtl_irq_en = false → t.cip.irq = s.cip.irq)
      ∧ t.pstByte (s.jobAddr r 0 - 0x80000000) = BitVec.ofNat 8 (dle j.desc 0 1 % 128)
      ∧ (∀ x, x < s.jobAddr r 0 - 0x80000000 ∨ s.jobAddr r 0 - 0x80000000 + 64 ≤ x → t.pstByte x = s.pstByte x)
      ∧ RegsKept [A.cipJobPtr r] s t ∧ t = { s with regs := t.regs, pst := t.pst, cip := t.cip })
  ∧ (∀ (r : Fin 2) (j : CipJob) (s : State), s.isLit 10 = true →
    s.cip.jobs.find? (fun j => j.ring == r.val && j.result.isNone) = some j →
    ∃ t, exec (.cipRingFault r) s = .next t ∧ ({ j with result := some (ST.badParam, 0) } : CipJob) ∈ t.cip.jobs
      ∧ t.cip.ops = s.cip.ops.filter (fun o => some o.id != j.op) ∧ t.bit (A.cipJobCtl r) F.cipJobCtl_ring_err = true
      ∧ t.bit (A.cipJobCtl r) F.cipJobCtl_enable = false)
  ∧ (∀ (who : Requester) (r : Fin 2) (w : Word) (s : State), s.isLit 10 = true → (r = 0 ∨ isCudom who = true) →
    let a := A.cipJobCtl r
    let v := D.cipJobCtl.write false (s.reg a) w
    let ok := [16, 32, 64, 128, 256, 512, 1024, 2048, 4096].contains (F.cipJobCtl_size.get v)
    ∃ t, exec (.cipJobCtlWrite who r w) s = .next t ∧ t.bus.err = false ∧ t.fld a F.cipJobCtl_size = F.cipJobCtl_size.get v
      ∧ (t.bit a F.cipJobCtl_enable = true ↔ F.cipJobCtl_enable.get v = 1 ∧ ok = true ∧ F.cipJobCtl_ring_err.get v = 0)
      ∧ (t.bit a F.cipJobCtl_ring_err = true ↔ F.cipJobCtl_ring_err.get v = 1 ∨ (F.cipJobCtl_enable.get v = 1 ∧ ok = false))
      ∧ RegsKept [a] s t ∧ t = { s with regs := t.regs, bus := t.bus })
  ∧ (∀ (who : Requester) (w : Word) (s : State), s.isLit 10 = true → isCudom who = false →
    exec (.cipJobCtlWrite who 1 w) s = .next (s.busOk 0))
  ∧ (∀ (p : Fin 16) (bytes : List Byte) (stamp : Int) (s : State), s.cip.rx.find? (·.1 == p.val) = some (p.val, bytes, stamp) →
    s.isLit 10 = true → s.rxSas p = [] →
    ((Tbl.get (fun _ => []) s.rxFifo p).foldl (fun a f => a + f.bytes.length) 0) + bytes.length ≤ 262144 →
    ∃ t, exec (.macsecRxFrame p) s = .next t ∧ t.cip = { s.cip with rx := s.cip.rx.erase (p.val, bytes, stamp) }
      ∧ t.rxFifo = Tbl.set (fun _ => []) p.val (Tbl.get (fun _ => []) s.rxFifo p ++ [⟨bytes, 0, false, stamp⟩]) s.rxFifo
      ∧ t.reg (macReg p 2) = s.reg (macReg p 2) + 1 ∧ RegsKept (macRegs p [0, 1, 2]) s t
      ∧ t = { s with cip := t.cip, rxFifo := t.rxFifo, regs := t.regs })
  ∧ (∀ (p : Fin 16) (bytes : List Byte) (stamp : Int) (s : State), s.cip.rx.find? (·.1 == p.val) = some (p.val, bytes, stamp) →
    s.isLit 10 = true → s.rxSas p ≠ [] → beAt bytes 12 2 ≠ 0x88E5 →
    ((Tbl.get (fun _ => []) s.rxFifo p).foldl (fun a f => a + f.bytes.length) 0) + bytes.length ≤ 262144 →
    ∃ t, exec (.macsecRxFrame p) s = .next t ∧ t.cip = { s.cip with rx := s.cip.rx.erase (p.val, bytes, stamp) }
      ∧ t.reg (A.cipMsecRxNoSa p) = satInc (s.reg (A.cipMsecRxNoSa p)) ∧ RegsKept (A.cipMsecRxNoSa p :: macRegs p [0, 1, 2]) s t
      ∧ ((∃ e ∈ s.rxSas p, s.bit (A.cipMsecSaW0 e) F.cipMsecSaW0_strict = true) → t.rxFifo = s.rxFifo
          ∧ t.reg (macReg p 2) = s.reg (macReg p 2))
      ∧ ((∀ e ∈ s.rxSas p, s.bit (A.cipMsecSaW0 e) F.cipMsecSaW0_strict = false) → t.reg (macReg p 2) = s.reg (macReg p 2) + 1
          ∧ t.rxFifo = Tbl.set (fun _ => []) p.val (Tbl.get (fun _ => []) s.rxFifo p ++ [⟨bytes, 0, false, stamp⟩]) s.rxFifo)
      ∧ t = { s with cip := t.cip, rxFifo := t.rxFifo, regs := t.regs })

/-! ### DALI schedule and bus, calibration runs, steering limits -/

/-- A schedule entry at its local time of day, sent once in that second, takes its bus; a forward frame of another unit is kept; a bus
that stays low is down until it is high again, with one event; a steering run that reaches its limit disassociates the clients left and
ends; and CAL_RUN ends with a valid record and a new calibration version where a chain passes, else without them; either way the chains
asked for that do not pass are recorded as failed. Log entries 35, 48: the model's reading. -/
def Obligations.SchedulesBusesAndLongRunsEnd : Prop :=
  (∀ (e : Fin 64) (s : State), s.isLit 1 = true → s.bit (A.cdmDaliSchedW0 e) F.cdmDaliSchedW0_valid = true →
    s.fld (A.cdmDaliSchedW0 e) F.cdmDaliSchedW0_time < 86400 →
    (s.fld (A.cdmDaliSchedW0 e) F.cdmDaliSchedW0_time : Int)
      = ((s.nowSec : Int) + signed 32 (s.fld A.cdmDaliTz F.cdmDaliTz_tz_offset)) % 86400 →
    s.cdm.schedSec ≠ (s.localSec % 2 ^ 49).toNat → (∀ k < e.val, s.schedDue k = false) →
    s.bit (A.cdmDaliCtl (s.fld (A.cdmDaliSchedW0 e) F.cdmDaliSchedW0_bus)) F.cdmDaliCtl_sched_en = true →
    s.daliFails (s.fld (A.cdmDaliSchedW0 e) F.cdmDaliSchedW0_bus) = false →
    (s.dali (s.fld (A.cdmDaliSchedW0 e) F.cdmDaliSchedW0_bus)).busy = none →
    (s.dali (s.fld (A.cdmDaliSchedW0 e) F.cdmDaliSchedW0_bus)).queue = [] →
    let b := s.fld (A.cdmDaliSchedW0 e) F.cdmDaliSchedW0_bus
    let w1 := A.cdmDaliSchedW1 e
    let long := s.bit w1 F.cdmDaliSchedW1_bits24
    let v := s.fld w1 F.cdmDaliSchedW1_frame
    let u := { s with cdm := { s.cdm with schedSec := (s.localSec % 2 ^ 49).toNat, schedSent := [e.val] } }
    exec (.daliScheduleEntry e) s = .next (u.setDali b { u.dali b with
      busy := some ⟨long, s.bit w1 F.cdmDaliSchedW1_twice, false, if long then v else v % 0x10000, none, s.elapsed, 0⟩ }))
  ∧ (∀ (b : Fin 2) (bits24 : Bool) (f : Fin 0x1000000) (s : State), s.daliFails b = false →
    exec (.daliForwardRx b bits24 f) s
      = .next (s.setDali b { s.dali b with rx := some (bits24, if bits24 then f.val else f.val % 0x10000) }))
  ∧ (∀ (b : Fin 2) (s : State), s.isLit 1 = true → s.daliFails b = false → (s.dali b).busy = none →
    s.bit (A.cdmDaliCtl b) F.cdmDaliCtl_bus_down = false →
    ∃ t, exec (.daliBusDown b true) s = .next t ∧ t.bit (A.cdmDaliCtl b) F.cdmDaliCtl_bus_down = true
      ∧ t.nextSeq 1 = (s.nextSeq 1 + 1) % 65536 ∧ RegsKept [A.cdmDaliCtl b] s t ∧ t = { s with regs := t.regs, log := t.log })
  ∧ (∀ (b : Fin 2) (s : State), s.isLit 1 = true →
    ∃ t, exec (.daliBusDown b false) s = .next t ∧ t.bit (A.cdmDaliCtl b) F.cdmDaliCtl_bus_down = false
      ∧ RegsKept [A.cdmDaliCtl b] s t ∧ t = { s with regs := t.regs })
  ∧ (∀ (r : Rad) (s : State), s.isLit 21 = true → (s.wr r).steerEnd.any (· ≤ s.elapsed) = true → s.renStep (17 + r) ≠ 1 → s.mode.pending = none →
    ∃ t, exec (.steerLimitEnd r) s = .next t ∧ (t.wr r).steerEnd = none
      ∧ t.fld (A.hmacWlanSteer r) F.hmacWlanSteer_active = 0
      ∧ (t.reg (A.hmacWlanSteerDisassoc r)).toNat
          = min 0xFFFFFFFF ((s.reg (A.hmacWlanSteerDisassoc r)).toNat + (s.steerClients r).length)
      ∧ t.mode = s.mode ∧ t.rad = s.rad)
  ∧ (∀ (r : Rad) (o : CalRunOut) (light : Nat) (q : Request) (rest : List Request) (s : State),
    Tbl.get (fun _ => []) s.cdm.jobs.calRun r = q :: rest → s.glovesRun = true → s.radLit r = true → s.isOut q = true →
    s.radIdle r = true → s.mode.mode ≠ .calibrate → calPass r (q.p 0 2) o.meas ≠ 0 → r.val < s.flash.calValid.length →
    ∃ t, exec (.calRunDone r o light) s = .next t ∧ Tbl.get (fun _ => []) t.cdm.jobs.calRun r = rest ∧ Answered s t q
      ∧ t.flash.calValid.getD r false = true ∧ t.mode = s.mode
      ∧ (t.calRec r).failed = (without (s.calRec r).failed (q.p 0 2) ||| without (q.p 0 2) (calPass r (q.p 0 2) o.meas))
      ∧ t.fld (A.radCalVersion r) F.radCalVersion_update = nextUpdate (s.fld (A.radCalVersion r) F.radCalVersion_update)
      ∧ t.reg (A.radCalUpdate r) = satInc (s.reg (A.radCalUpdate r)))
  ∧ (∀ (r : Rad) (o : CalRunOut) (light : Nat) (q : Request) (rest : List Request) (s : State),
    Tbl.get (fun _ => []) s.cdm.jobs.calRun r = q :: rest → s.glovesRun = true → s.radLit r = true → s.isOut q = true →
    s.radIdle r = true → s.mode.mode ≠ .calibrate → calPass r (q.p 0 2) o.meas = 0 →
    ∃ t, exec (.calRunDone r o light) s = .next t ∧ Tbl.get (fun _ => []) t.cdm.jobs.calRun r = rest ∧ Answered s t q
      ∧ (t.calRec r).failed = (without (s.calRec r).failed (q.p 0 2) ||| q.p 0 2)
      ∧ t.flash.calValid = s.flash.calValid.set r
          (without (2 ^ chainsOf r - 1) (t.calRec r).failed != 0 && s.flash.calValid.getD r false)
      ∧ t.reg (A.radCalVersion r) = s.reg (A.radCalVersion r) ∧ t.mode = s.mode)

/-! ### Radio units -/

/-- The synthesiser pair. A request in the band retunes the standby with the writes of its preset, or with one synthesiser in FAULT the
other in place, once the radio is idle; outside the band, or in the cycle of a sequencer request, it is lost and counted. Lock makes a
synthesiser LOCKED, and active where the other is in FAULT; a small tuning margin stages a band result. A first timeout retries; a second
is FAULT, with the other active, or the radio failed; a lock loss is counted and returns it to TUNING. A switch makes the locked standby
active, and empties the noise table where centre or width change. A radio that is disabled stops RF, loses its reception and takes its
pins low through the lag edges. Log entry 42: the model's reading. -/
def Obligations.SynthesisersTuneLockAndSwitch : Prop :=
  (∀ (r : Rad) (f : Nat) (p : Option (Fin 16)) (s : State), s.radLit r = true → inBand r f = true → s.synState r 0 ≠ 3 → s.synState r 1 ≠ 3 →
    (∀ q, (s.rd r).slot = some q → s.holding r q.cmd.centre = some (s.synActive r)) →
    let n := 1 - s.synActive r
    let w := match p with | some k => if s.tunOff r then [] else s.presetOps r k | none => []
    ∃ t, exec (.retuneRequest r f p) s = .next t ∧ t.synState r n = 1 ∧ t.synFreq r n = f
      ∧ t.synActive r = s.synActive r ∧ t.synState r (1 - n) = s.synState r (1 - n) ∧ t.synFreq r (1 - n) = s.synFreq r (1 - n)
      ∧ t.bit (A.radSynStatus r) F.radSynStatus_retune_busy = true ∧ ((t.rd r).syn n) = ⟨w, !w.isEmpty, false⟩
      ∧ RegsKept [A.radSynStatus r, A.radSynFreq r n, A.radTxPending r, A.radCalState r, A.radCalStepAbort r] s t
      ∧ t = { s with regs := t.regs, rad := t.rad })
  ∧ (∀ (r : Rad) (f : Nat) (p : Option (Fin 16)) (n : Fin 2) (s : State), s.radLit r = true → inBand r f = true →
    s.synState r n = 3 → s.synState r (1 - n.val) ≠ 3 → s.radIdle r = true → (∀ q, (s.rd r).slot = some q → q.cmd.centre = f) →
    ∃ t, exec (.retuneRequest r f p) s = .next t ∧ t.synState r (1 - n.val) = 1
      ∧ t.synFreq r (1 - n.val) = f ∧ t.synState r n = 3
      ∧ t = { s with regs := t.regs, rad := t.rad })
  ∧ (∀ (r : Rad) (f : Nat) (p : Option (Fin 16)) (s : State), s.radLit r = true → inBand r f = false → s.asksNothing r = true →
    ∃ t, exec (.retuneRequest r f p) s = .next t ∧ t.reg (A.radSynReqLost r) = satInc (s.reg (A.radSynReqLost r))
      ∧ RegsKept [A.radSynReqLost r, A.radTxPending r] s t ∧ t = { s with regs := t.regs, rad := t.rad })
  ∧ (∀ (who : Requester) (r : Rad) (w : Word) (s : State), s.radLit r = true → F.radSynCtl_retune_req.get w = 1 →
    ∃ t, exec (.retuneRequestReg who r w true) s = .next t ∧ t.reg (A.radSynReqLost r) = satInc (s.reg (A.radSynReqLost r))
      ∧ t.fld (A.radSynCtl r) F.radSynCtl_retune_req = 0
      ∧ t.fld (A.radSynCtl r) F.radSynCtl_target_freq = F.radSynCtl_target_freq.get w
      ∧ RegsKept [A.radSynReqLost r, A.radSynCtl r] s t ∧ t = { s with regs := t.regs, bus := ⟨false, 0, []⟩ })
  ∧ (∀ (who : Requester) (r : Rad) (w : Word) (s : State), s.radLit r = true → F.radSynCtl_retune_req.get w = 1 →
    inBand r (F.radSynCtl_target_freq.get w) = true → s.synState r 0 ≠ 3 → s.synState r 1 ≠ 3 → (s.rd r).retune = none →
    (∀ q, (s.rd r).slot = some q → s.holding r q.cmd.centre = some (s.synActive r)) →
    let n := 1 - s.synActive r
    let ops := if F.radSynCtl_preset_en.get w = 1 ∧ s.tunOff r = false then s.presetOps r (F.radSynCtl_preset.get w) else []
    ∃ t, exec (.retuneRequestReg who r w false) s = .next t ∧ t.synState r n = 1
      ∧ t.synFreq r n = F.radSynCtl_target_freq.get w
      ∧ t.fld (A.radSynCtl r) F.radSynCtl_retune_req = 0 ∧ ((t.rd r).syn n).writes = ops
      ∧ RegsKept [A.radSynCtl r, A.radSynStatus r, A.radSynFreq r n, A.radTxPending r, A.radCalState r, A.radCalStepAbort r] s t
      ∧ t = { s with regs := t.regs, rad := t.rad, bus := ⟨false, 0, []⟩ })
  ∧ (∀ (r : Rad) (n : Fin 2) (band margin : Nat) (s : State), s.isUp (radId r) = true → s.synState r n = 1 → s.asksNothing r = true →
    let stages : Bool := (s.fld (A.radCalCtl r) F.radCalCtl_loop_en).testBit 5 && decide (margin < 64)
    ∃ t, exec (.synLock r n band margin) s = .next t ∧ t.synState r n = 2
      ∧ t.synActive r = (if s.synState r (1 - n.val) = 3 then n.val else s.synActive r)
      ∧ t.bit (A.radSynStatus r) F.radSynStatus_retune_busy = decide (s.synState r (1 - n.val) = 1)
      ∧ ((t.rd r).syn n).writes = [] ∧ ((t.rd r).syn n).retried = false
      ∧ (stages = true → t.bit (A.radCalState r) F.radCalState_staged = true
          ∧ (t.rd r).cal.bandNew = Tbl.insert (512 * n + s.synFreq r n / 256 % 512) band (s.rd r).cal.bandNew)
      ∧ (stages = false → (t.rd r).cal = (s.rd r).cal ∧ t.reg (A.radCalState r) = s.reg (A.radCalState r))
      ∧ RegsKept [A.radSynStatus r, A.radTxPending r, A.radCalState r] s t ∧ t = { s with regs := t.regs, rad := t.rad })
  ∧ (∀ (r : Rad) (n : Fin 2) (light : Nat) (s : State), s.isUp (radId r) = true → s.synState r n = 1 → ((s.rd r).syn n).retried = false →
    ∃ t, exec (.synLockTimeout r n light) s = .next t ∧ ((t.rd r).syn n) = { (s.rd r).syn n with retried := true }
      ∧ t = { s with rad := t.rad })
  ∧ (∀ (r : Rad) (n : Fin 2) (light : Nat) (s : State), s.isUp (radId r) = true → s.synState r n = 1 → ((s.rd r).syn n).retried = true →
    s.synState r (1 - n.val) ≠ 3 → (∀ q, (s.rd r).slot = some q → (s.holding r q.cmd.centre).isSome = true) →
    let moved : Bool := s.synActive r == n.val && s.synFreq r n != s.synFreq r (1 - n.val)
    ∃ t, exec (.synLockTimeout r n light) s = .next t ∧ t.synState r n = 3 ∧ t.synActive r = 1 - n.val
      ∧ t.reg (A.radSynRetuneFail r) = satInc (s.reg (A.radSynRetuneFail r))
      ∧ s.logs t (radSrc r) .synFault [n.val, s.synFreq r n]
      ∧ (∀ a, moved = true → inNoise r a = true → t.reg a = resetWord a)
      ∧ (∀ a, (moved && inNoise r a) = false → a ∉ [A.radSynRetuneFail r, A.radSynStatus r, A.radTxPending r] → t.reg a = s.reg a)
      ∧ t = { s with regs := t.regs, rad := t.rad, log := t.log })
  ∧ (∀ (r : Rad) (n : Fin 2) (light : Nat) (s : State), s.isUp (radId r) = true → s.synState r n = 1 → ((s.rd r).syn n).retried = true →
    s.synState r (1 - n.val) = 3 → s.mode.mode = .service →
    ∃ t, exec (.synLockTimeout r n light) s = .next t ∧ t.isFailed (17 + r) = true ∧ (t.pw (17 + r)).st = .failed ∧ t.mode.mode = .degraded)
  ∧ (∀ (r : Rad) (n : Fin 2) (s : State), s.radLit r = true → s.synState r n = 2 → (s.rd r).retune = none → s.asksNothing r = true →
    ∃ t, exec (.synLockLoss r n) s = .next t ∧ t.reg (A.radSynUnlock r) = satInc (s.reg (A.radSynUnlock r))
      ∧ t.synState r n = 1 ∧ t.synFreq r n = s.synFreq r n
      ∧ (s.synActive r = n.val → (t.rd r).air = none ∧ (∀ q, (s.rd r).rx = some q → (t.rd r).rx = some { q with lost := some .radio }))
      ∧ (s.synActive r = n.val → (s.rd r).air.isSome = true → t.reg (A.radTxAbort r) = satInc (s.reg (A.radTxAbort r)))
      ∧ ((s.synActive r ≠ n.val ∨ (s.rd r).air = none) → t.reg (A.radTxAbort r) = s.reg (A.radTxAbort r))
      ∧ (∀ p, (s.rd r).slot = some p → s.holding r p.cmd.centre = some n.val → ∃ q, (t.rd r).slot = some q ∧ q.cmd = p.cmd ∧ q.commit = none))
  ∧ (∀ (r : Rad) (width : Fin 5) (s : State), s.radLit r = true → width.val ≤ maxWidth r → s.synState r (1 - s.synActive r) = 2 →
    (s.rd r).air = none → (s.rd r).rx = none →
    (∀ p, (s.rd r).slot = some p → p.cmd.response = false ∧ (p.commit = none ∨ p.switch = true)) → s.asksNothing r = true →
    let changed : Bool := s.synFreq r (s.synActive r) != s.synFreq r (1 - s.synActive r)
      || s.fld (A.radNfStatus r) F.radNfStatus_width != width.val
    ∃ t, exec (.synSwitchComplete r width) s = .next t ∧ t.synActive r = 1 - s.synActive r
      ∧ t.fld (A.radNfStatus r) F.radNfStatus_width = width
      ∧ (∀ p, (s.rd r).slot = some p → (t.rd r).slot = some { p with switch := false })
      ∧ (∀ a, changed = true → inNoise r a = true → t.reg a = resetWord a)
      ∧ (∀ a, (changed && inNoise r a) = false → a ∉ [A.radSynStatus r, A.radNfStatus r, A.radTxPending r] → t.reg a = s.reg a)
      ∧ t = { s with regs := t.regs, rad := t.rad })
  ∧ (∀ (who : Requester) (r : Rad) (w : Word) (s : State), s.radLit r = true → F.radCtl_enable.get w = 0 → isCudom who = true →
    ∃ t, exec (.radioDisable who r w) s = .next t ∧ t.bit (A.radCtl r) F.radCtl_enable = false ∧ (t.rd r).air = none
      ∧ (t.rd r).lnaEn = 0 ∧ (t.rd r).paEn = (s.rd r).paEn &&& (t.rd r).lagging s.nowNs (s.rd r).paOff
      ∧ (t.rd r).trsw = (s.rd r).trsw &&& (t.rd r).lagging s.nowNs (s.rd r).trswRx
      ∧ ((t.rd r).coexEnd = none → (t.rd r).coexReq = false ∧ (t.rd r).coexPri = false)
      ∧ (∀ q, (s.rd r).rx = some q → (t.rd r).rx = some { q with lost := some .radio })
      ∧ (∀ p, (s.rd r).slot = some p → ∃ q, (t.rd r).slot = some q ∧ q.cmd = p.cmd ∧ q.commit = none)
      ∧ t.reg (A.radTxAbort r) = if (s.rd r).air.isSome then satInc (s.reg (A.radTxAbort r)) else s.reg (A.radTxAbort r))
  ∧ (∀ (who : Requester) (r : Rad) (w : Word) (s : State), s.radLit r = true → F.radCtl_enable.get w = 0 → isCudom who = false →
    exec (.radioDisable who r w) s = .next (s.busOk 0))

/-- The pending slot. A command enters the empty slot, asking for a retune where no synthesiser holds or seeks its centre, or completes
ST_TX_LATE with a start already past; with the slot taken, a response or lantern displaces a waiting command or waits behind a committed
one, and any other command is held. The commit fixes the RF start at the larger of earliest and now plus the commit lead; at the last
instant the command completes ST_SYNTH_NOT_READY or ST_TX_LATE; without a grant RF does not start; RF starts on the chains that may
transmit and ends with status 0. An edge moves its pins once its lead or lag is reached, and no lead edge before. Log entry 44: the
model's reading. -/
def Obligations.TransmitCommandsWaitCommitAndRadiate : Prop :=
  (∀ (r : Rad) (c : TxCmd) (s : State), s.radLit r = true → txFmtOk r c.tx = true → (s.rd r).slot = none →
    let v := s.issued r c
    s.txRefused r v = none → s.absNs v.earliest ≤ s.absNs v.deadline → s.nowNs ≤ s.absNs v.deadline →
    ∃ t, exec (.txCommand r c) s = .next t ∧ (t.rd r).held = (s.rd r).held
      ∧ (t.rd r).slot = some ⟨v, s.absNs v.earliest, s.absNs v.deadline, s.tableLead r, none, false, false⟩
      ∧ t.bit (A.radTxPending r) F.radTxPending_occupied = true ∧ t.fld (A.radTxPending r) F.radTxPending_frame_id = c.frameId % 65536
      ∧ (((s.holding r v.centre).isSome || s.tuningTo r v.centre) = true → RegsKept [A.radTxPending r] s t)
      ∧ (s.holding r v.centre = none → s.tuningTo r v.centre = false → inBand r v.centre = true → s.synState r 0 ≠ 3 → s.synState r 1 ≠ 3 →
          t.synState r (1 - s.synActive r) = 1 ∧ t.synFreq r (1 - s.synActive r) = v.centre ∧ t.synActive r = s.synActive r)
      ∧ t = { s with regs := t.regs, rad := t.rad })
  ∧ (∀ (r : Rad) (c : TxCmd) (s : State), s.radLit r = true → txFmtOk r c.tx = true → (s.rd r).slot = none → (s.rd r).held = [] →
    let v := s.issued r c
    s.txRefused r v = none → (v.isHolael || v.response) = true → v.cal = none →
    (s.absNs v.deadline < s.absNs v.earliest ∨ s.absNs v.deadline < s.nowNs) →
    ∃ t, exec (.txCommand r c) s = .next t ∧ (t.rd r).slot = none ∧ (t.rd r).last = some ⟨c.frameId, ST.txLate, false, 0⟩
      ∧ t.reg (A.radTxLate r) = satInc (s.reg (A.radTxLate r)) ∧ RegsKept [A.radTxLate r] s t ∧ t = { s with regs := t.regs, rad := t.rad })
  ∧ (∀ (r : Rad) (c : TxCmd) (p : Slot) (s : State), s.radLit r = true → txFmtOk r c.tx = true → (s.rd r).slot = some p →
    let v := s.issued r c
    let l := (s.rd r).held
    s.txRefused r v = none →
    (urgent v = false → exec (.txCommand r c) s = .next (s.setRd r { s.rd r with held := l ++ [v] }))
    ∧ (urgent v = true → p.commit.isSome = true ∨ (p.cmd.isHolael = true ∧ p.cmd.cls = 1) →
        exec (.txCommand r c) s = .next (s.setRd r { s.rd r with held := l.takeWhile urgent ++ v :: l.dropWhile urgent }))
    ∧ (urgent v = true → p.commit = none → (p.cmd.isHolael = false ∨ p.cmd.cls ≠ 1) →
        s.absNs v.earliest ≤ s.absNs v.deadline → s.nowNs ≤ s.absNs v.deadline →
        ∃ t, exec (.txCommand r c) s = .next t ∧ (t.rd r).slot.map (·.cmd) = some v
          ∧ (t.rd r).held = l.takeWhile urgent ++ p.cmd :: l.dropWhile urgent))
  ∧ (∀ (r : Rad) (p : Slot) (s : State), s.radLit r = true → (s.rd r).slot = some p → p.commit = none →
    s.bit (A.radCtl r) F.radCtl_enable = true → s.waitingOn r p = 0 → s.nowNs + s.leadOf r p ≤ p.deadline →
    let x := s.rd r
    let chains := p.cmd.chains &&& s.txChains r
    ∃ t, exec (.txCommit r) s = .next t
      ∧ (t.rd r).slot = some { p with commit := some (max p.earliest (s.nowNs + s.leadOf r p)), switch := s.needsSwitch r p, gntWait := false }
      ∧ (t.rd r).detSel = (if s.bit (A.radCtl r) F.radCtl_det_en then (nextInTurn x.detTurn chains).getD x.detSel else x.detSel)
      ∧ (p.cmd.cal = none → (t.rd r).obsSel = (nextInTurn x.cal.turn chains).getD x.obsSel)
      ∧ t.fld (A.radTxPending r) F.radTxPending_waiting_on = 0 ∧ RegsKept [A.radTxPending r] s t
      ∧ t = { s with regs := t.regs, rad := t.rad })
  ∧ (∀ (r : Rad) (p : Slot) (s : State), s.radLit r = true → (s.rd r).slot = some p → p.commit = none → (s.rd r).held = [] →
    (p.cmd.isHolael || p.cmd.response) = true → p.cmd.cal = none → p.deadline ≤ s.nowNs + s.leadOf r p →
    let n := s.waitingOn r p
    ∃ t, exec (.txCommitDeadline r) s = .next t ∧ (t.rd r).slot = none ∧ t.reg (A.radTxPending r) = 0
      ∧ (t.rd r).last = some ⟨p.cmd.frameId, if n = 1 then ST.synthNotReady else ST.txLate, false, 0⟩
      ∧ t.reg (if n = 1 then A.radTxSynthNotReady r else A.radTxLate r)
          = satInc (s.reg (if n = 1 then A.radTxSynthNotReady r else A.radTxLate r))
      ∧ RegsKept [if n = 1 then A.radTxSynthNotReady r else A.radTxLate r, A.radTxPending r, A.radCalState r] s t
      ∧ t = { s with regs := t.regs, rad := t.rad })
  ∧ (∀ (r : Rad) (p : Slot) (t0 : Nat) (s : State), s.radLit r = true → (s.rd r).slot = some p → p.commit = some t0 → t0 ≤ s.nowNs →
    p.switch = false → (s.rd r).air = none → s.onActive r p.cmd.centre = true →
    (s.bit (A.radCtl r) F.radCtl_coex_en = false ∨ (s.rd r).gnt = true) →
    ∃ t, exec (.txRfStart r) s = .next t ∧ ((s.rd r).held = [] → (t.rd r).slot = none ∧ t.reg (A.radTxPending r) = 0)
      ∧ ∃ a, (t.rd r).air = some a ∧ a.cmd = p.cmd ∧ a.start = s.nowNs
        ∧ a.chains = p.cmd.chains &&& s.txChains r ∧ a.version = (s.reg (A.radCalVersion r)).toNat
        ∧ (∀ k < 8, a.gs.getD k 0 = s.chainGs r p.cmd k))
  ∧ (∀ (r : Rad) (p : Slot) (t0 : Nat) (s : State), s.radLit r = true → (s.rd r).slot = some p → p.commit = some t0 → t0 ≤ s.nowNs →
    p.switch = false → (s.rd r).air = none → s.onActive r p.cmd.centre = true →
    s.bit (A.radCtl r) F.radCtl_coex_en = true → (s.rd r).gnt = false → (s.rd r).retune = none →
    ∃ t, exec (.txRfStart r) s = .next t ∧ (t.rd r).air = none ∧ (t.rd r).slot = some { p with commit := none, gntWait := true }
      ∧ t.reg (A.radCoexDenied r) = satInc (s.reg (A.radCoexDenied r)) ∧ RegsKept [A.radCoexDenied r, A.radTxPending r] s t
      ∧ t = { s with regs := t.regs, rad := t.rad })
  ∧ (∀ (r : Rad) (a : Air) (s : State), s.radLit r = true → (s.rd r).air = some a → (a.cmd.isHolael || a.cmd.response) = true →
    a.cmd.cal = none → (s.rd r).retune = none → s.asksNothing r = true →
    ∃ t, exec (.txRfEnd r) s = .next t ∧ (t.rd r).air = none ∧ (t.rd r).last = some ⟨a.cmd.frameId, ST.ok, false, a.version⟩
      ∧ (∀ k < 8, (t.rd r).endOf k = if a.chains.testBit k then some s.nowNs else (s.rd r).endOf k)
      ∧ RegsKept [A.radTxPending r, A.radCalState r, A.hmacHolLanternTx] s t ∧ t = { s with regs := t.regs, rad := t.rad })
  ∧ (∀ (r : Rad) (t0 : Nat) (p : Slot) (s : State), s.radLit r = true → (s.rd r).slot = some p → p.commit = some t0 →
    let x := s.rd r
    let c := p.cmd.chains &&& s.txChains r
    let lead := 250 * s.fld (A.radCoexCtl r) F.radCoexCtl_coex_lead
    (t0 ≤ s.nowNs + x.lnaOff → ∃ t, exec (.frontEndEdge r .lnaOff) s = .next t ∧ (t.rd r).lnaEn = without x.lnaEn c
        ∧ t.fld (A.radAgcStatus r) F.radAgcStatus_state = 4 ∧ RegsKept [A.radAgcStatus r] s t ∧ t = { s with regs := t.regs, rad := t.rad })
    ∧ (t0 ≤ s.nowNs + x.trswTx → exec (.frontEndEdge r .trswTx) s = .next (s.setRd r { x with trsw := x.trsw ||| c }))
    ∧ (t0 ≤ s.nowNs + x.paOn → exec (.frontEndEdge r .paOn) s = .next (s.setRd r { x with paEn := x.paEn ||| c }))
    ∧ (s.bit (A.radCtl r) F.radCtl_coex_en = true → t0 ≤ s.nowNs + lead → exec (.frontEndEdge r .coexReq) s = .next (s.setRd r
        { x with coexReq := true, coexPri := (s.fld (A.radCoexCtl r) F.radCoexCtl_pri_mask).testBit p.cmd.cls, coexEnd := none }))
    ∧ (s.nowNs + x.lnaOff < t0 → exec (.frontEndEdge r .lnaOff) s = .next s)
    ∧ (s.nowNs + x.trswTx < t0 → exec (.frontEndEdge r .trswTx) s = .next s)
    ∧ (s.nowNs + x.paOn < t0 → exec (.frontEndEdge r .paOn) s = .next s)
    ∧ (s.nowNs + lead < t0 → exec (.frontEndEdge r .coexReq) s = .next s))
  ∧ (∀ (r : Rad) (s : State), s.radLit r = true → s.bit (A.radCtl r) F.radCtl_enable = true → (s.rd r).air = none → (s.rd r).slot = none →
    let x := s.rd r
    let due (lag k : Nat) : Bool := x.ends.any (fun e => e.1 == k && decide (e.2 + lag ≤ s.nowNs))
    (∃ t, exec (.frontEndEdge r .paOff) s = .next t ∧ (∀ k < 8, (t.rd r).paEn.testBit k = (x.paEn.testBit k && !due x.paOff k))
        ∧ t = s.setRd r { x with paEn := (t.rd r).paEn })
    ∧ (∃ t, exec (.frontEndEdge r .trswRx) s = .next t ∧ (∀ k < 8, (t.rd r).trsw.testBit k = (x.trsw.testBit k && !due x.trswRx k))
        ∧ t = s.setRd r { x with trsw := (t.rd r).trsw })
    ∧ (∃ t, exec (.frontEndEdge r .lnaOn) s = .next t ∧ (∀ k < 8, (t.rd r).lnaEn.testBit k = (x.lnaEn.testBit k
          || (due x.lnaOn k && (s.rxChains r).testBit k && !(x.trsw.testBit k || x.paEn.testBit k || x.stepChains.testBit k))))
        ∧ t = s.setRd r { x with lnaEn := (t.rd r).lnaEn })
    ∧ (s.fld (A.radAgcStatus r) F.radAgcStatus_state = 4 → ∃ t, exec (.frontEndEdge r .lnaSettled) s = .next t
        ∧ t.fld (A.radAgcStatus r) F.radAgcStatus_state = 0 ∧ RegsKept [A.radAgcStatus r] s t
        ∧ t = { s.setRd r { x with idleSince := s.elapsed } with regs := t.regs }))

/-- Sequencing, detection, tuner: a sequencing pair that keeps R106 is submitted, else seq_err sets, and it takes effect while the
radio is idle; an average of four measurements sets return loss, back-off and mute by their thresholds, a mute with its event;
thresholds out of order are refused; a mute ends when its bit is written and is added by the mask; a tuner command is not issued
with the bus off, starts unless another, a preset or a switch goes first, and ends with data or err. Log entries 41, 42, 45: the
model's reading. -/
def Obligations.SequencingDetectionAndTuner : Prop :=
  (∀ (who : Requester) (r : Rad) (w : Word) (s : State), s.radLit r = true →
    let v := D.radFeSeqLag.write false (s.reg (A.radFeSeqLag r)) w
    let lead := s.reg (A.radFeSeqLead r)
    ∃ t, exec (.feSeqSubmit who r w) s = .next t
      ∧ (seqOk lead v = true → t.reg (A.radFeSeqLag r) = v ∧ t.rd r = { s.rd r with seqNext := some (lead, v) })
      ∧ (seqOk lead v = false → t.bit (A.radFeSeqLag r) F.radFeSeqLag_seq_err = true ∧ t.rad = s.rad)
      ∧ RegsKept [A.radFeSeqLag r] s t ∧ t = { s with regs := t.regs, rad := t.rad, bus := ⟨false, 0, []⟩ })
  ∧ (∀ (r : Rad) (lead lag : Word) (s : State), s.radLit r = true → (s.rd r).seqNext = some (lead, lag) →
    ∃ t, exec (.feSeqApply r) s = .next t
      ∧ (s.radIdle r = true → t.rd r = { s.rd r with seqLead := lead, seqLag := lag, seqNext := none })
      ∧ (s.radIdle r = false → t = s) ∧ t = { s with rad := t.rad })
  ∧ (∀ (r : Rad) (c : Chain) (m0 m1 m2 m3 : Int) (s : State), s.radLit r = true → s.bit (A.radCtl r) F.radCtl_det_en = true →
    c.val < chainsOf r → (s.rd r).muted.testBit c = false → 4 ≤ Tbl.get (fun _ => 0) (s.rd r).detCount c →
    let rl := (m0 + m1 + m2 + m3) / 4 + signed 8 (s.fld (A.radDetCfg r) F.radDetCfg_coupler_offset)
    let backed := s.fld (A.radDetStatus r) F.radDetStatus_backed_off
    ∃ t, exec (.mismatchAverage r c m0 m1 m2 m3) s = .next t ∧ t.fld (A.radDetRl r c) F.radDetRl_rl = rlCode rl
      ∧ t.fld (A.radDetRl r c) F.radDetRl_meas_count = (s.fld (A.radDetRl r c) F.radDetRl_meas_count + 1) % 65536
      ∧ (rl < s.fld (A.radDetCfg r) F.radDetCfg_backoff_rl → backed.testBit c = false →
          (t.fld (A.radDetStatus r) F.radDetStatus_backed_off).testBit c = true
          ∧ t.reg (A.radMismatchBackoff r) = satInc (s.reg (A.radMismatchBackoff r)))
      ∧ ((s.fld (A.radDetCfg r) F.radDetCfg_backoff_rl : Int) ≤ rl → t.fld (A.radDetStatus r) F.radDetStatus_backed_off = backed)
      ∧ (rl < s.fld (A.radDetCfg r) F.radDetCfg_mute_rl → (t.fld (A.radDetStatus r) F.radDetStatus_muted).testBit c = true
          ∧ t.reg (A.radMismatchMute r) = satInc (s.reg (A.radMismatchMute r))
          ∧ s.logs t (radSrc r) .mismatch [r.val, c.val, rlCode rl])
      ∧ ((s.fld (A.radDetCfg r) F.radDetCfg_mute_rl : Int) ≤ rl →
          t.fld (A.radDetStatus r) F.radDetStatus_muted = s.fld (A.radDetStatus r) F.radDetStatus_muted ∧ t.log = s.log)
      ∧ ((s.fld (A.radDetCfg r) F.radDetCfg_release_rl : Int) ≤ rl → Tbl.get (fun _ => 0) (s.rd r).release c = 15 → backed.testBit c = true →
          (t.rd r).relDue.testBit c = true)
      ∧ Tbl.get (fun _ => 0) (t.rd r).detCount c = Tbl.get (fun _ => 0) (s.rd r).detCount c - 4
      ∧ RegsKept [A.radDetRl r c, A.radDetStatus r, A.radMismatchBackoff r, A.radMismatchMute r] s t
      ∧ t = { s with regs := t.regs, rad := t.rad, log := t.log })
  ∧ (∀ (who : Requester) (r : Rad) (w : Word) (s : State), s.radLit r = true → isCudom who = true →
    let ok : Bool := decide (F.radDetCfg_mute_rl.get w < F.radDetCfg_backoff_rl.get w)
      && decide (F.radDetCfg_backoff_rl.get w < F.radDetCfg_release_rl.get w)
    ∃ t, exec (.detCfgWrite who r w) s = .next t ∧ t.reg (A.radDetCfg r) = (if ok then w else s.reg (A.radDetCfg r))
      ∧ t.bit (A.radDetStatus r) F.radDetStatus_cfg_err = !ok
      ∧ RegsKept [A.radDetCfg r, A.radDetStatus r] s t ∧ t = { s with regs := t.regs, bus := ⟨false, 0, []⟩ })
  ∧ (∀ (who : Requester) (r : Rad) (w : Word) (s : State), s.radLit r = true → isCudom who = true →
    (∃ t, exec (.muteClear who r w) s = .next t
      ∧ (∀ c < 8, (t.fld (A.radDetStatus r) F.radDetStatus_muted).testBit c
          = ((s.fld (A.radDetStatus r) F.radDetStatus_muted).testBit c && !(F.radDetStatus_muted.get w).testBit c))
      ∧ t.fld (A.radDetStatus r) F.radDetStatus_backed_off = s.fld (A.radDetStatus r) F.radDetStatus_backed_off
      ∧ RegsKept [A.radDetStatus r] s t ∧ t = { s with regs := t.regs, bus := ⟨false, 0, []⟩ })
    ∧ (∃ t, exec (.muteSet who r w) s = .next t
      ∧ (t.rd r).muteDue = (s.rd r).muteDue ||| (F.radDetMuteSet_mute_set.get w &&& (2 ^ chainsOf r - 1))
      ∧ t = { s with rad := t.rad, bus := ⟨false, 0, []⟩ }))
  ∧ (∀ (who : Requester) (r : Rad) (w : Word) (s : State), s.radLit r = true → isCudom who = false →
    exec (.detCfgWrite who r w) s = .next (s.busOk 0) ∧ exec (.muteClear who r w) s = .next (s.busOk 0)
      ∧ exec (.muteSet who r w) s = .next (s.busOk 0))
  ∧ (∀ (who : Requester) (r : Rad) (w : Word) (s : State), s.radLit r = true → F.radTunCmd_go.get w = 1 →
    let x := s.rd r
    let starts : Bool := !s.tunOff r && !x.tunGo && x.syn0.writes.isEmpty && x.syn1.writes.isEmpty
      && !(x.slot.any (fun p => p.commit.isSome && p.switch))
    ∃ t, exec (.tunerCommand who r w) s = .next t ∧ t.bit (A.radTunCmd r) F.radTunCmd_go = !s.tunOff r
      ∧ t.fld (A.radTunCmd r) F.radTunCmd_addr = F.radTunCmd_addr.get w
      ∧ t.fld (A.radTunCmd r) F.radTunCmd_kind = F.radTunCmd_kind.get w
      ∧ (starts = true → t.rd r = { x with tunGo := true, tunSent := [⟨F.radTunCmd_kind.get w, F.radTunCmd_usid.get w,
          F.radTunCmd_addr.get w, BitVec.ofNat 8 (F.radTunCmd_data.get w)⟩] })
      ∧ (starts = false → t.rad = s.rad)
      ∧ RegsKept [A.radTunCmd r] s t ∧ t = { s with regs := t.regs, rad := t.rad, bus := ⟨false, 0, []⟩ })
  ∧ (∀ (r : Rad) (data : Byte) (parityErr : Bool) (s : State), s.radLit r = true → s.bit (A.radTunCmd r) F.radTunCmd_go = true →
    (s.rd r).tunGo = true →
    let a := A.radTunCmd r
    let read : Bool := s.fld a F.radTunCmd_kind % 2 == 1
    let bad : Bool := (read && parityErr) || (decide (s.fld a F.radTunCmd_kind < 2) && decide (31 < s.fld a F.radTunCmd_addr))
    ∃ t, exec (.tunerCommandDone r data parityErr) s = .next t ∧ t.bit a F.radTunCmd_go = false ∧ t.bit a F.radTunCmd_err = bad
      ∧ t.reg (A.radTunerErr r) = (if bad then satInc (s.reg (A.radTunerErr r)) else s.reg (A.radTunerErr r))
      ∧ t.fld a F.radTunCmd_data = (if !bad && read then data.toNat else s.fld a F.radTunCmd_data)
      ∧ RegsKept [a, A.radTunerErr r] s t ∧ t = { s.setRd r { s.rd r with tunGo := false } with regs := t.regs })

/-- Coexistence: an edge of COEX_SYNC schedules a blanking window in every lit radio that applies it; a window opens and closes, and the
PPDU in the air goes on; the grant follows its pin, and its fall with abort_en stops the PPDU in the air, counted; without abort_en the
PPDU goes on. Log entry 44: the model's reading. -/
def Obligations.CoexistenceBlanksAndAborts : Prop :=
  (∀ s : State, ∃ t, exec .coexSyncEdge s = .next t
    ∧ (∀ r < 3, s.radLit r = true → s.bit (A.radCoexCtl r) F.radCoexCtl_sync_en = true → s.fld (A.radCoexBlank r) F.radCoexBlank_blank_len ≠ 0 →
        let b := s.nowNs + 1000 * s.fld (A.radCoexBlank r) F.radCoexBlank_blank_start
        (t.rd r).blanks = (s.rd r).blanks ++ [(b, b + 1000 * s.fld (A.radCoexBlank r) F.radCoexBlank_blank_len)])
    ∧ (∀ r < 3, (s.radLit r = false ∨ s.bit (A.radCoexCtl r) F.radCoexCtl_sync_en = false
        ∨ s.fld (A.radCoexBlank r) F.radCoexBlank_blank_len = 0) → t.rd r = s.rd r)
    ∧ (∀ r < 3, (t.rd r).air = (s.rd r).air)
    ∧ ((∀ r < 3, s.steady r = true) → RegsKept [A.radTxPending 0, A.radTxPending 1, A.radTxPending 2] s t)
    ∧ t = { s with regs := t.regs, rad := t.rad })
  ∧ (∀ (r : Rad) (s : State), s.radLit r = true → (s.rd r).blanks ≠ [] → (s.rd r).blankOpen = false →
    ∃ t, exec (.coexBlankStart r) s = .next t ∧ (t.rd r).blankOpen = true ∧ (t.rd r).blanks = (s.rd r).blanks
      ∧ (t.rd r).air = (s.rd r).air ∧ (s.steady r = true → RegsKept [A.radTxPending r] s t) ∧ t = { s with regs := t.regs, rad := t.rad })
  ∧ (∀ (r : Rad) (s : State), s.radLit r = true → (s.rd r).blankOpen = true →
    ∃ t, exec (.coexBlankEnd r) s = .next t ∧ (t.rd r).blankOpen = false ∧ (t.rd r).blanks = (s.rd r).blanks.drop 1
      ∧ (t.rd r).slot = (s.rd r).slot ∧ (t.rd r).air = (s.rd r).air
      ∧ (s.asksNothing r = true → RegsKept [A.radTxPending r] s t) ∧ t = { s with regs := t.regs, rad := t.rad })
  ∧ (∀ (r : Rad) (s : State), ∃ t, exec (.coexGntRise r) s = .next t ∧ (t.rd r).gnt = true
      ∧ (t.rd r).slot = (s.rd r).slot ∧ (t.rd r).air = (s.rd r).air
      ∧ (s.asksNothing r = true → RegsKept [A.radTxPending r] s t) ∧ t = { s with regs := t.regs, rad := t.rad })
  ∧ (∀ (r : Rad) (s : State), (s.radLit r = false ∨ s.bit (A.radCtl r) F.radCtl_coex_en = false
      ∨ s.bit (A.radCoexCtl r) F.radCoexCtl_abort_en = false ∨ (s.rd r).air = none) →
    ∃ t, exec (.coexGntFall r) s = .next t ∧ (t.rd r).gnt = false ∧ (t.rd r).slot = (s.rd r).slot ∧ (t.rd r).air = (s.rd r).air
      ∧ (s.asksNothing r = true → RegsKept [A.radTxPending r] s t) ∧ t = { s with regs := t.regs, rad := t.rad })
  ∧ (∀ (r : Rad) (a : Air) (s : State), s.radLit r = true → s.bit (A.radCtl r) F.radCtl_coex_en = true →
    s.bit (A.radCoexCtl r) F.radCoexCtl_abort_en = true → (s.rd r).air = some a → (a.cmd.isHolael || a.cmd.response) = true →
    a.cmd.cal = none → (s.rd r).retune = none → s.asksNothing r = true →
    ∃ t, exec (.coexGntFall r) s = .next t ∧ (t.rd r).air = none ∧ (t.rd r).gnt = false
      ∧ (t.rd r).last = some ⟨a.cmd.frameId, ST.ok, true, a.version⟩
      ∧ (∀ k < 8, (t.rd r).endOf k = if a.chains.testBit k then some s.nowNs else (s.rd r).endOf k)
      ∧ t.reg (A.radCoexAbort r) = satInc (s.reg (A.radCoexAbort r)) ∧ t.reg (A.radTxAbort r) = satInc (s.reg (A.radTxAbort r))
      ∧ RegsKept [A.radCoexAbort r, A.radTxAbort r, A.radTxPending r, A.radCalState r] s t
      ∧ t = { s with regs := t.regs, rad := t.rad })

/-! ### Reception -/

/-- The gain control: an STF takes IDLE of a radio that can receive to DETECT, or on to SETTLE, and begins a reception; no L-LTF within
8 µs returns it to IDLE, counted; the L-LTF freezes the gain, kept for the partner of a Holael window; a rise outside Holael windows with
restart_en restarts, counted; the end of the PPDU frees the receiver, of a discarded one not before its time. A window is honoured only
with holael_rx_en and while HMAC listens, and COEX_REQ is high over it with rx_req_en; closing it lets COEX_REQ fall where nothing else
holds it. Log entries 41, 43: the model's reading of the levels and of the window's command. -/
def Obligations.GainFollowsTheReceptionStates : Prop :=
  (∀ (r : Rad) (idle : List Int) (level : Int) (again second : Option Int) (s : State), s.radLit r = true → s.agc r = 0 →
    s.canReceive r = true →
    ∃ t, exec (.agcStfDetect r idle level again second) s = .next t ∧ t.agc r = (if second.isSome then 2 else 1)
      ∧ (t.rd r).rx = some (Rx.start (s.rd r).rxNum) ∧ (t.rd r).rxNum = (s.rd r).rxNum + 1 ∧ (t.rd r).detectAt = s.elapsed
      ∧ (idle = [] → (t.rd r).idleGain = s.gain r)
      ∧ RegsKept [A.radAgcStatus r, A.radCalState r, A.radCalStepAbort r] s t ∧ t = { s with regs := t.regs, rad := t.rad })
  ∧ (∀ (r : Rad) (s : State), s.radLit r = true → (s.agc r = 1 ∨ s.agc r = 2) → (s.rd r).detectAt + 8000 ≤ s.elapsed →
    ∃ t, exec (.agcDetectTimeout r) s = .next t ∧ t.agc r = 0 ∧ t.rd r = { s.rd r with rx := none, idleSince := s.elapsed }
      ∧ t.reg (A.radAgcFalseDetect r) = satInc (s.reg (A.radAgcFalseDetect r))
      ∧ RegsKept [A.radAgcStatus r, A.radAgcFalseDetect r] s t ∧ t = { s with regs := t.regs, rad := t.rad })
  ∧ (∀ (r : Rad) (settle : List Int) (s : State), s.radLit r = true → (s.agc r = 1 ∨ s.agc r = 2) →
    ∃ t, exec (.agcLltfFound r settle) s = .next t ∧ t.agc r = 3
      ∧ (∀ w, (s.rd r).rxWin = some w → ∀ p, w.partner = some p → Tbl.find? (t.rd r).frozen p = some (t.gain r))
      ∧ ((s.rd r).rxWin = none → t.rad = s.rad) ∧ (settle = [] → t.gain r = s.gain r)
      ∧ RegsKept [A.radAgcStatus r] s t ∧ t = { s with regs := t.regs, rad := t.rad })
  ∧ (∀ (r : Rad) (level : Int) (again : Option Int) (s : State), s.radLit r = true → s.agc r = 3 → (s.rd r).rxWin = none →
    s.bit (A.radPhyCtl r) F.radPhyCtl_restart_en = true →
    ∃ t, exec (.agcRestart r level again) s = .next t ∧ t.agc r = 1 ∧ (t.rd r).rx = some (Rx.start (s.rd r).rxNum)
      ∧ t.reg (A.radAgcRestart r) = satInc (s.reg (A.radAgcRestart r)) ∧ (t.rd r).idleGain = (s.rd r).idleGain
      ∧ RegsKept [A.radAgcStatus r, A.radAgcRestart r, A.radCalState r, A.radCalStepAbort r] s t
      ∧ t = { s with regs := t.regs, rad := t.rad })
  ∧ (∀ (r : Rad) (level : Int) (again : Option Int) (s : State), (s.rd r).rxWin.isSome = true →
    exec (.agcRestart r level again) s = .next s)
  ∧ (∀ (r : Rad) (syms : List (List (Int × Int × Int))) (q : Rx) (s : State), s.radLit r = true → (s.rd r).rx = some q →
    (s.nowNs < q.busyUntil → exec (.rxPpduEnd r syms) s = .next s)
    ∧ (q.busyUntil ≤ s.nowNs → ∃ t, exec (.rxPpduEnd r syms) s = .next t
      ∧ (t.rd r).rx = none ∧ (t.rd r).done = some (syms.foldl Rx.track q) ∧ (t.rd r).idleSince = s.elapsed
      ∧ t.agc r = (if s.agc r = 4 then 4 else 0)
      ∧ ((s.rd r).air = none → (s.rd r).rxWin = none → (s.rd r).coexEnd = none → (s.rd r).slot.any (·.commit.isSome) = false →
          (t.rd r).coexReq = false ∧ (t.rd r).coexPri = false)
      ∧ (s.steady r = true → RegsKept [A.radAgcStatus r, A.radTxPending r] s t) ∧ t = { s with regs := t.regs, rad := t.rad }))
  ∧ (∀ (r : Rad) (p : Option Nat) (cls : Fin 8) (s : State), s.radLit r = true →
    let req := s.bit (A.radCtl r) F.radCtl_coex_en && s.bit (A.radCoexCtl r) F.radCoexCtl_rx_req_en
    let open_ := s.bit (A.radPhyCtl r) F.radPhyCtl_holael_rx_en && s.isLit 21 && s.holListens r
    (open_ = false → exec (.holaelRxWindow r (some (p, cls))) s = .next s)
    ∧ (open_ = true → ∃ t, exec (.holaelRxWindow r (some (p, cls))) s = .next t
        ∧ (t.rd r).rxWin = some ⟨p, s.fld (A.radNfStatus r) F.radNfStatus_width⟩ ∧ (t.rd r).coexReq = ((s.rd r).coexReq || req)
        ∧ RegsKept [A.radCalState r, A.radCalStepAbort r] s t ∧ t = { s with regs := t.regs, rad := t.rad })
    ∧ (∃ t, exec (.holaelRxWindow r none) s = .next t ∧ (t.rd r).rxWin = none
        ∧ ((s.rd r).air = none → (s.rd r).coexEnd = none → (s.rd r).slot.any (·.commit.isSome) = false →
            (t.rd r).coexReq = false)))

/-- H-SIG and the noise floor. In a Holael window an H-SIG, decoded from its soft bits, whose check fails is counted and leaves a WLAN
PPDU; a bad field, and a TXTIME outside (D − 4 µs, D], discard the PPDU, counted, with the receiver busy until T + D; else it is accepted.
A window of the noise floor moves each group of each receiving chain by what it measured less the gain in force, and counts. Log entry
41: the model's reading. -/
def Obligations.HsigIsCheckedAndNoiseAveraged : Prop :=
  (∀ (r : Rad) (soft : List Int) (l : Nat) (win : RxWin) (q : Rx) (s : State), s.radLit r = true → (s.rd r).rxWin = some win →
    (s.rd r).rx = some q → q.lost = none →
    let d := lsigDuration l
    let h := hsigDecode soft
    (h / 2 ^ 40 % 256 ≠ hsigCrc h → ∃ t, exec (.hsigDecoded r soft l) s = .next t
      ∧ t.reg (A.radHsigCrcErr r) = satInc (s.reg (A.radHsigCrcErr r)) ∧ RegsKept [A.radHsigCrcErr r] s t ∧ t = { s with regs := t.regs })
    ∧ (h / 2 ^ 40 % 256 = hsigCrc h →
        (h % 4 ≠ 0 ∨ 9 ≤ h / 4 % 16 ∨ h / 2 ^ 20 % 4 = 3 ∨ h / 2 ^ 22 % 2 ^ 17 = 0 ∨ ones (s.rxChains r) < h / 2 ^ 18 % 4 + 1
          ∨ (usesMap (h / 4 % 16) = true ∧ (s.hsigMap r h win).isNone = true)) →
        ∃ t, exec (.hsigDecoded r soft l) s = .next t ∧ t.reg (A.radHsigReject r) = satInc (s.reg (A.radHsigReject r))
          ∧ (t.rd r).rx = some { q with discard := true, busyUntil := s.nowNs - 28000 + d } ∧ RegsKept [A.radHsigReject r] s t
          ∧ t = { s with regs := t.regs, rad := t.rad })
    ∧ (∀ x, h / 2 ^ 40 % 256 = hsigCrc h → s.hsigBad r h win = false → s.hsigTxTime r h win = some x → (d < x ∨ x + 4000 ≤ d) →
        ∃ t, exec (.hsigDecoded r soft l) s = .next t ∧ t.reg (A.radHsigLenConflict r) = satInc (s.reg (A.radHsigLenConflict r))
          ∧ (t.rd r).rx = some { q with discard := true, busyUntil := s.nowNs - 28000 + d } ∧ RegsKept [A.radHsigLenConflict r] s t
          ∧ t = { s with regs := t.regs, rad := t.rad })
    ∧ (∀ x, h / 2 ^ 40 % 256 = hsigCrc h → s.hsigBad r h win = false → s.hsigTxTime r h win = some x → x ≤ d → d < x + 4000 →
        exec (.hsigDecoded r soft l) s = .next (s.setRd r { s.rd r with rx := some { q with hsig := some (h, win) } })))
  ∧ (∀ (r : Rad) (soft : List Int) (l : Nat) (s : State), (s.rd r).rxWin = none → exec (.hsigDecoded r soft l) s = .next s)
  ∧ (∀ (r : Rad) (vals : List (List Int)) (s : State), s.radLit r = true → s.bit (A.radCtl r) F.radCtl_enable = true →
    s.bit (A.radNfCfg r) F.radNfCfg_nf_en = true → s.radIdle r = true → s.agc r = 0 → s.canReceive r = true →
    (s.rd r).idleSince + 28800 ≤ s.elapsed → s.fld (A.radNfStatus r) F.radNfStatus_groups ≤ 980 →
    ∃ t, exec (.nfWindow r vals) s = .next t
      ∧ t.fld (A.radNfStatus r) F.radNfStatus_windows = (s.fld (A.radNfStatus r) F.radNfStatus_windows + 1) % 65536
      ∧ (∀ c < 8, ∀ g < 980, (s.rxChains r).testBit c = false → t.noise r c g = s.noise r c g)
      ∧ (∀ c < 8, ∀ g, g < s.fld (A.radNfStatus r) F.radNfStatus_groups → g < (vals.getD c []).length → (s.rxChains r).testBit c = true →
          let x := (vals.getD c []).getD g 0 - s.gainOf r c (s.gain r);
          t.noise r c g = some (clampI (-32767) 32767 (match s.noise r c g with
            | some n => n + (x - n) / 2 ^ min 6 (s.fld (A.radNfCfg r) F.radNfCfg_nf_shift)
            | none => x)))
      ∧ (∀ a, inNoise r a = false → a ≠ A.radNfStatus r → t.reg a = s.reg a) ∧ t = { s with regs := t.regs })

/-! ### Gallery -/

/-- The gallery: a codeword of a PPDU that is neither lost nor discarded joins with its deadline, unless DEC is dark, which loses the
PPDU, its colour is foreign, or no room is left, each counted; a free cell takes the codeword with the earliest deadline, best effort in
overload with a limit of 4; it is delivered decoded or failed, or abandoned at its deadline, its bits erased; max_iter takes 4 to 20 and
else sets cfg_err. Log entries 46, 120: the model's reading. -/
def Obligations.TheGalleryServesByDeadline : Prop :=
  (∀ (r : Rad) (k : CwKind) (left : Nat) (syms : List (List (Int × Int × Int))) (q : Rx) (s : State), s.radLit r = true →
    (s.rd r).ppdu = some q → q.lost = none → q.discard = false →
    (match k with | .holael => q.hsig.isSome | .wlan _ pre => ldpcPpdu r pre) = true →
    let us := if k = .holael ∧ q.hsig.any (fun h => !immediate (hsigType h.1)) = true then 200 else 10
    let prot := match k with | .holael => true | .wlan v _ => v
    (s.isLit 20 = true → s.dec.waiting.length < 2048 →
        (match k with | .holael => false | .wlan _ pre => s.foreignColour r pre.colour) = false →
      ∃ t, exec (.codewordSubmit r k left syms) s = .next t
        ∧ t.dec = { s.dec with waiting := s.dec.waiting ++ [⟨r, q.num, q.cws, s.half + 2 * (left + 1000 * us), prot, s.half, s.dec.num⟩],
                               num := s.dec.num + 1 }
        ∧ (t.rd r).ppdu.map (·.cws) = some (q.cws + 1) ∧ t.fld A.decStatus F.decStatus_waiting = s.dec.waiting.length + 1
        ∧ RegsKept [A.decStatus, A.decOverloadEntry] s t ∧ t = { s with dec := t.dec, regs := t.regs, rad := t.rad })
    ∧ (s.isLit 20 = false → ∃ t, exec (.codewordSubmit r k left syms) s = .next t
        ∧ t.reg (A.radRxDecDark r) = (if q.counted then s.reg (A.radRxDecDark r) else satInc (s.reg (A.radRxDecDark r)))
        ∧ (t.rd r).ppdu.map (·.lost) = some (some .decDark) ∧ (t.rd r).loss = some .decDark
        ∧ RegsKept [A.radRxDecDark r] s t ∧ t = { s with regs := t.regs, rad := t.rad })
    ∧ (∀ v pre, s.isLit 20 = true → k = .wlan v pre → s.foreignColour r pre.colour = true → q.counted = false →
        ∃ t, exec (.codewordSubmit r k left syms) s = .next t ∧ t.reg (A.radRxObssSkipped r) = satInc (s.reg (A.radRxObssSkipped r))
          ∧ (t.wr r).obss = some pre ∧ RegsKept [A.radRxObssSkipped r] s t
          ∧ t = { s with regs := t.regs, rad := t.rad, hmac := { s.hmac with wrad := t.hmac.wrad } })
    ∧ (s.isLit 20 = true → k = .holael → 2048 ≤ s.dec.waiting.length → ∃ t, exec (.codewordSubmit r k left syms) s = .next t
        ∧ t.reg (A.decGalDeadline r) = satInc (s.reg (A.decGalDeadline r)) ∧ (t.rd r).ppdu.map (·.erased) = some (q.erased ++ [q.cws])
        ∧ RegsKept [A.decGalDeadline r, A.decStatus, A.decOverloadEntry] s t ∧ t = { s with regs := t.regs, rad := t.rad }))
  ∧ (∀ (cell : Fin 6) (c : Codeword) (s : State), s.isLit 20 = true → Tbl.find? s.dec.cells cell = none → c ∈ s.dec.waiting →
    (∀ d ∈ s.dec.waiting, d = c ∨ c.before d = true) → (∀ d ∈ s.dec.waiting, d.num = c.num → d = c) →
    ∃ t, exec (.galleryDispatch cell) s = .next t
      ∧ Tbl.find? t.dec.cells cell = some ⟨c, if s.overloaded && !c.isProtected then 4 else s.maxIter, s.half⟩
      ∧ t.dec.waiting = s.dec.waiting.filter (· != c)
      ∧ t.reg (A.decGalCapped c.radio) = (if s.overloaded && !c.isProtected then satInc (s.reg (A.decGalCapped c.radio))
          else s.reg (A.decGalCapped c.radio))
      ∧ RegsKept [A.decStatus, A.decOverloadEntry, A.decGalCapped c.radio] s t ∧ t = { s with dec := t.dec, regs := t.regs })
  ∧ (∀ (cell : Fin 6) (converged : Bool) (run : CellRun) (s : State), s.isLit 20 = true → Tbl.find? s.dec.cells cell = some run →
    let a := if converged then A.decGalDecoded run.cw.radio else A.decGalFail run.cw.radio
    ∃ t, exec (.codewordDecodeDone cell converged) s = .next t ∧ t.dec = { s.dec with cells := Tbl.erase cell s.dec.cells }
      ∧ (run.cw.radio < 3 → t.reg a = satInc (s.reg a)) ∧ RegsKept [A.decStatus, a] s t ∧ t = { s with dec := t.dec, regs := t.regs })
  ∧ (∀ (cell : Fin 6) (satisfied : Bool) (run : CellRun) (s : State), s.isLit 20 = true → Tbl.find? s.dec.cells cell = some run →
    run.cw.deadline ≤ s.half →
    let a := if satisfied then A.decGalDecoded run.cw.radio else A.decGalDeadline run.cw.radio
    ∃ t, exec (.codewordDeadline (some cell) satisfied) s = .next t ∧ t.dec = { s.dec with cells := Tbl.erase cell s.dec.cells }
      ∧ (run.cw.radio < 3 → t.reg a = satInc (s.reg a)) ∧ (satisfied = true → t.rad = s.rad)
      ∧ (satisfied = false → ∀ q, (s.rd run.cw.radio).rx = some q → q.num = run.cw.ppdu →
          (t.rd run.cw.radio).rx = some { q with erased := q.erased ++ [run.cw.place] })
      ∧ RegsKept [A.decStatus, a] s t ∧ t = { s with dec := t.dec, regs := t.regs, rad := t.rad })
  ∧ (∀ (c : Codeword) (satisfied : Bool) (s : State), s.isLit 20 = true → s.nextCw = some c → c.deadline < s.half + 245 →
    ∃ t, exec (.codewordDeadline none satisfied) s = .next t
      ∧ t.dec = { s.dec with waiting := s.dec.waiting.filter (fun d => d.num != c.num) }
      ∧ (c.radio < 3 → t.reg (A.decGalDeadline c.radio) = satInc (s.reg (A.decGalDeadline c.radio)))
      ∧ (∀ q, (s.rd c.radio).rx = some q → q.num = c.ppdu →
          (t.rd c.radio).rx = some { q with erased := q.erased ++ [c.place] })
      ∧ RegsKept [A.decStatus, A.decGalDeadline c.radio] s t ∧ t = { s with dec := t.dec, regs := t.regs, rad := t.rad })
  ∧ (∀ (who : Requester) (w : Word) (s : State), s.isLit 20 = true →
    let n := F.decCtl_max_iter.get w
    ∃ t, exec (.decCtlWrite who w) s = .next t
      ∧ t.fld A.decCtl F.decCtl_max_iter = (if 4 ≤ n ∧ n ≤ 20 then n else s.fld A.decCtl F.decCtl_max_iter)
      ∧ (¬ (4 ≤ n ∧ n ≤ 20) → t.bit A.decCtl F.decCtl_cfg_err = true)
      ∧ (4 ≤ n → n ≤ 20 → t.bit A.decCtl F.decCtl_cfg_err
          = (s.bit A.decCtl F.decCtl_cfg_err && decide (F.decCtl_cfg_err.get w = 0)))
      ∧ RegsKept [A.decCtl] s t ∧ t = { s with regs := t.regs, bus := ⟨false, 0, []⟩ })

/-! ### Calibration -/

/-- Captures and application. A capture that is spoiled is discarded and counted; else, with loops 0 to 3 enabled, the flowstone entry of
each takes one estimate. With the radio idle every staged set and change due applies under one new version: the update field advances,
nothing stays staged, mute and back-off take effect, and a change of them is a loading trigger; within 10 ms nothing applies unless a
change is due. At the end of the hold-off the deferred request becomes unsent. Log entry 48: the model's reading. -/
def Obligations.CapturesFeedAndStagedSetsApply : Prop :=
  (∀ (r : Rad) (e : CapEst) (clipped low : Bool) (q : Capture) (s : State), s.radLit r = true → (s.rd r).cal.capture = some q →
    (s.rd r).air = none → (q.bad = true ∨ clipped = true ∨ low = true) →
    ∃ t, exec (.captureComplete r e clipped low) s = .next t ∧ (t.rd r).cal = { (s.rd r).cal with capture := none }
      ∧ t.reg (A.radCalCaptureDiscard r) = satInc (s.reg (A.radCalCaptureDiscard r))
      ∧ RegsKept [A.radCalCaptureDiscard r] s t ∧ t = { s with regs := t.regs, rad := t.rad })
  ∧ (∀ (r : Rad) (e : CapEst) (q : Capture) (s : State), s.radLit r = true → (s.rd r).cal.capture = some q → q.rest = [] →
    q.bad = false → q.gs ≤ 4 → q.chain < 8 → (s.fld (A.radCalCtl r) F.radCalCtl_loop_en) % 16 = 15 → (s.rd r).cal.watch = [] →
    (∀ k < 256, (Tbl.get (fun _ => Flow.empty) (s.rd r).cal.flow k).count + 1 < s.fsDepth r) →
    ∃ t, exec (.captureComplete r e false false) s = .next t ∧ (t.rd r).cal.capture = none ∧ t.regs = s.regs
      ∧ Tbl.get (fun _ => Flow.empty) (t.rd r).cal.flow (calKey 0 q.chain q.gs)
          = (let f := Tbl.get (fun _ => Flow.empty) (s.rd r).cal.flow (calKey 0 q.chain q.gs);
             ⟨f.sum + e.leak, f.sum2, f.evm + e.evm, f.count + 1⟩)
      ∧ Tbl.get (fun _ => Flow.empty) (t.rd r).cal.flow (calKey 1 q.chain q.gs)
          = (let f := Tbl.get (fun _ => Flow.empty) (s.rd r).cal.flow (calKey 1 q.chain q.gs);
             ⟨f.sum + e.image, f.sum2, f.evm + e.evm, f.count + 1⟩)
      ∧ Tbl.get (fun _ => Flow.empty) (t.rd r).cal.flow (calKey 2 q.chain q.gs)
          = (let f := Tbl.get (fun _ => Flow.empty) (s.rd r).cal.flow (calKey 2 q.chain q.gs);
             ⟨f.sum + e.predist, f.sum2, f.evm + e.evm, f.count + 1⟩)
      ∧ Tbl.get (fun _ => Flow.empty) (t.rd r).cal.flow (calKey 3 q.chain q.gs)
          = (let f := Tbl.get (fun _ => Flow.empty) (s.rd r).cal.flow (calKey 3 q.chain q.gs);
             ⟨f.sum + e.phase, f.sum2 + e.gain, f.evm + e.evm, f.count + 1⟩)
      ∧ (t.rd r).cal.staged = (s.rd r).cal.staged ∧ t = { s with rad := t.rad })
  ∧ (∀ (r : Rad) (s : State), s.radLit r = true → s.radIdle r = true →
    (s.changesDue r = true ∨ ((s.rd r).cal.waits = true ∧ ∀ t0, (s.rd r).cal.lastApply = some t0 → t0 + 10000000 ≤ s.elapsed)) →
    let muted := s.fld (A.radDetStatus r) F.radDetStatus_muted ||| (s.rd r).muteDue
    ∃ t, exec (.calApply r) s = .next t ∧ (t.rd r).cal.waits = false ∧ (t.rd r).cal.lastApply = some s.elapsed
      ∧ (t.rd r).cal.gainTable = (s.rd r).cal.gainNew.getD (s.rd r).cal.gainTable
      ∧ t.fld (A.radCalVersion r) F.radCalVersion_update = nextUpdate (s.fld (A.radCalVersion r) F.radCalVersion_update)
      ∧ t.fld (A.radCalVersion r) F.radCalVersion_lit_count = s.fld (A.radCalVersion r) F.radCalVersion_lit_count
      ∧ t.reg (A.radCalUpdate r) = satInc (s.reg (A.radCalUpdate r))
      ∧ (t.rd r).muted = muted ∧ ((s.rd r).muteDue < 256 → t.fld (A.radDetStatus r) F.radDetStatus_muted = muted)
      ∧ t.fld (A.radDetStatus r) F.radDetStatus_backed_off = (t.rd r).backedOff
      ∧ (t.rd r).relDue = 0 ∧ (t.rd r).muteDue = 0
      ∧ (∀ n ∈ (s.rd r).cal.staged, (∀ m ∈ (s.rd r).cal.staged, calKey m.loop m.chain m.gs = calKey n.loop n.chain n.gs → m = n) →
          Tbl.find? (t.rd r).cal.inForce (calKey n.loop n.chain n.gs) = some n.set)
      ∧ ((s.rd r).cal.staged = [] → (s.rd r).cal.bandNew = [] → s.changesDue r = false →
          t.reg (A.radCalRefreshReq r) = s.reg (A.radCalRefreshReq r))
      ∧ ((∃ c < 8, (t.rd r).muted.testBit c ≠ (s.rd r).muted.testBit c ∨ (t.rd r).backedOff.testBit c ≠ (s.rd r).backedOff.testBit c) →
          t.reg (A.radCalRefreshReq r) = satInc (s.reg (A.radCalRefreshReq r)))
      ∧ t = { s with regs := t.regs, rad := t.rad, hmac := t.hmac })
  ∧ (∀ (r : Rad) (t0 : Nat) (s : State), (s.rd r).cal.lastApply = some t0 → s.elapsed < t0 + 10000000 → s.changesDue r = false →
    exec (.calApply r) s = .next s)
  ∧ (∀ (r : Rad) (p : Fin 1025) (s : State), s.isLit 21 = true →
    let q := Tbl.get (fun _ => HolPeer.init) s.hmac.hol.peers p
    q.refDeferred.testBit r = true → (∀ t0, Tbl.find? q.refSent r = some t0 → t0 + s.refreshHoldoff r ≤ s.elapsed) →
    ∃ t, exec (.refreshHoldoffExpiry r p) s = .next t
      ∧ Tbl.get (fun _ => HolPeer.init) t.hmac.hol.peers p
          = { q with refDeferred := clrBit q.refDeferred r, refUnsent := setBit q.refUnsent r }
      ∧ (∀ m, m ≠ p.val → Tbl.get (fun _ => HolPeer.init) t.hmac.hol.peers m = Tbl.get (fun _ => HolPeer.init) s.hmac.hol.peers m)
      ∧ t = { s with hmac := { s.hmac with hol := { s.hmac.hol with peers := t.hmac.hol.peers } } })

/-- Steps, thin chains and calibration frames. A probe starts only while nothing transmits or is committed, on a standby synthesiser that
no waiting command needs; a loopback result joins the receive gain update, a probe's with a small margin the band results; a step that a
waiting command needs out of its way is discarded, counted, and resumes later. An update starts on temperature or time and starts again
after 1 s; thin chains are those with too little RF time; a calibration frame serves up to four of those not served lately, one that does
not fit is late and stays due, and one of a CAL_RUN goes to its centre in its gain state. Log entry 48: the model's reading. -/
def Obligations.StepsThinChainsAndCalibrationFrames : Prop :=
  (∀ (r : Rad) (n : Fin 2) (s : State), s.radLit r = true → (s.rd r).air = none →
    (∀ p, (s.rd r).slot = some p → p.commit = none ∧ s.holding r p.cmd.centre ≠ some n.val) → s.asksNothing r = true →
    (s.rd r).cal.step = none → (s.rd r).cal.yielded = none → s.loopOn r 5 = true → s.synActive r ≠ n.val → s.synState r n ≠ 1 →
    s.synState r n ≠ 3 →
    ∃ t, exec (.calStepStart r (.probe n)) s = .next t ∧ (t.rd r).cal = { (s.rd r).cal with step := some ⟨.probe n, s.elapsed⟩ }
      ∧ t.fld (A.radCalState r) F.radCalState_step = 2 ∧ RegsKept [A.radCalState r, A.radTxPending r] s t
      ∧ t = { s with regs := t.regs, rad := t.rad })
  ∧ (∀ (r : Rad) (k : CalStep) (s : State), ((s.rd r).air.isSome = true ∨ (∃ p, (s.rd r).slot = some p ∧ p.commit.isSome = true)) →
    exec (.calStepStart r k) s = .next s)
  ∧ (∀ (r : Rad) (value : Int) (sub margin t0 : Nat) (n : Fin 2) (s : State), s.radLit r = true → s.asksNothing r = true →
    (s.rd r).cal.step = some ⟨.probe n, t0⟩ → s.loopOn r 5 = true →
    ∃ t, exec (.calStepEnd r value sub margin) s = .next t
      ∧ (t.rd r).cal = { (s.rd r).cal with
          step := none,
          bandNew := if margin < 64 then Tbl.insert (512 * n.val + sub % 512) value.toNat (s.rd r).cal.bandNew else (s.rd r).cal.bandNew }
      ∧ t.fld (A.radCalState r) F.radCalState_step = 0 ∧ RegsKept [A.radCalState r, A.radTxPending r] s t
      ∧ t = { s with regs := t.regs, rad := t.rad })
  ∧ (∀ (r : Rad) (value : Int) (sub margin t0 : Nat) (c q : Chain) (g : Fin 26) (s : State), s.radLit r = true → s.asksNothing r = true →
    (s.rd r).cal.step = some ⟨.loopback c q g, t0⟩ → (s.rd r).cal.gainRun.isSome = true →
    let x := (s.rd r).cal
    let done := Tbl.insert (32 * q.val + g.val) value x.gainDone
    ∃ t, exec (.calStepEnd r value sub margin) s = .next t ∧ (t.rd r).cal.step = none ∧ (t.rd r).cal.gainDone = done
      ∧ (gainComplete r done = false → (t.rd r).cal.gainRun = x.gainRun ∧ (t.rd r).cal.gainNew = x.gainNew)
      ∧ (gainComplete r done = true → (t.rd r).cal.gainRun = none ∧ (t.rd r).cal.gainAt = s.elapsed
          ∧ (t.rd r).cal.gainNew = if gainMoved x.gainTable done then some done else x.gainNew)
      ∧ RegsKept [A.radCalState r, A.radTxPending r] s t ∧ t = { s with regs := t.regs, rad := t.rad })
  ∧ (∀ (r : Rad) (p : Slot) (k : StepRun) (s : State), s.radLit r = true → (s.rd r).slot = some p → p.commit = none →
    (s.rd r).cal.step = some k → (s.rd r).stepBlocks (s.holding r p.cmd.centre) p.cmd.chains = true → s.asksNothing r = true →
    ∃ t, exec (.calStepAbort r) s = .next t ∧ (t.rd r).cal = { (s.rd r).cal with step := none, yielded := some k.step }
      ∧ t.reg (A.radCalStepAbort r) = satInc (s.reg (A.radCalStepAbort r)) ∧ t.fld (A.radCalState r) F.radCalState_step = 0
      ∧ RegsKept [A.radCalStepAbort r, A.radCalState r, A.radTxPending r] s t ∧ t = { s with regs := t.regs, rad := t.rad })
  ∧ (∀ (r : Rad) (s : State), s.radLit r = true → s.loopOn r 4 = true → (s.rd r).cal.gainRun = none →
    (16 ≤ absI (s.radTemp r - (s.rd r).cal.gainTemp) ∨ (s.rd r).cal.gainAt + 10 * nsPerSec ≤ s.elapsed) →
    ∃ t, exec (.rxGainTrigger r) s = .next t ∧ t = { s with rad := t.rad }
      ∧ (t.rd r).cal = { (s.rd r).cal with gainRun := some s.elapsed, gainDone := [], gainTemp := s.radTemp r })
  ∧ (∀ (r : Rad) (s : State), absI (s.radTemp r - (s.rd r).cal.gainTemp) < 16 → s.elapsed < (s.rd r).cal.gainAt + 10 * nsPerSec →
    exec (.rxGainTrigger r) s = .next s)
  ∧ (∀ (r : Rad) (t0 : Nat) (s : State), s.radLit r = true → (s.rd r).cal.gainRun = some t0 → t0 + nsPerSec ≤ s.elapsed →
    ∃ t, exec (.rxGainUpdateTimeout r) s = .next t ∧ t = { s with rad := t.rad }
      ∧ (t.rd r).cal = { (s.rd r).cal with gainRun := some s.elapsed, gainDone := [], gainTemp := s.radTemp r })
  ∧ (∀ (r : Rad) (s : State), s.radLit r = true →
    ∃ t, exec (.thinChainEval r) s = .next t
      ∧ (∀ c < 8, (t.fld (A.radCalState r) F.radCalState_thin_chains).testBit c
          = ((s.fld (A.radCtl r) F.radCtl_tx_chain_en).testBit c && decide (c < chainsOf r)
              && !(s.fld (A.radDetStatus r) F.radDetStatus_muted).testBit c
              && decide (s.rfTime r c < 1000 * s.fld (A.radCalThin r) F.radCalThin_thin_time)))
      ∧ (∀ c < 8, t.rfTime r c = s.rfTime r c)
      ∧ t.fld (A.radCalState r) F.radCalState_cal_frames_due = ((t.unserved r).length + 3) / 4
      ∧ RegsKept [A.radCalState r] s t ∧ t = { s with regs := t.regs, rad := t.rad })
  ∧ (∀ (r : Rad) (id e d : Nat) (s : State), s.radLit r = true → s.isLit 21 = true → s.airIdle r = true → s.unserved r ≠ [] →
    let l := (s.unserved r).take 4
    let c := s.calCmd r id e d (s.synFreq r (s.synActive r)) (l.foldl setBit 0) []
    (s.calFits r c = true → (s.holding r (s.synFreq r (s.synActive r))).isSome = true → s.absNs e ≤ s.absNs d → s.nowNs ≤ s.absNs d →
      ∃ t, exec (.calFrame r id e d none) s = .next t ∧ (t.rd r).slot = some ⟨c, s.absNs e, s.absNs d, s.tableLead r, none, false, false⟩
        ∧ t.fld (A.radCalState r) F.radCalState_cal_frames_due = ((s.unserved r).length + 3) / 4
        ∧ RegsKept [A.radCalState r, A.radTxPending r] s t ∧ t = { s with regs := t.regs, rad := t.rad })
    ∧ (s.calFits r c = false → ∃ t, exec (.calFrame r id e d none) s = .next t ∧ (t.rd r).slot = none
        ∧ (t.rd r).last = some ⟨id, ST.windowShort, false, 0⟩
        ∧ t.fld (A.radCalState r) F.radCalState_cal_frames_due = ((s.unserved r).length + 3) / 4
        ∧ t.reg (A.radCalFrameLate r) = satInc (s.reg (A.radCalFrameLate r))
        ∧ RegsKept [A.radCalState r, A.radCalFrameLate r] s t ∧ t = { s with regs := t.regs, rad := t.rad }))
  ∧ (∀ (r : Rad) (id e d : Nat) (p : CalProbe) (q : Request) (rest : List Request) (s : State), s.radLit r = true → s.airIdle r = true →
    Tbl.get (fun _ => []) s.cdm.jobs.calRun r = q :: rest → p.chains.val &&& q.p 0 2 = p.chains.val → p.chains ≠ 0 →
    ones p.chains.val ≤ 4 → s.absNs e ≤ s.absNs d → s.nowNs ≤ s.absNs d →
    ∃ t, exec (.calFrame r id e d (some p)) s = .next t
      ∧ (t.rd r).slot = some ⟨s.calCmd r id e d p.centre p.chains.val (List.replicate 8 p.gs), s.absNs e, s.absNs d, s.tableLead r,
          none, false, false⟩
      ∧ t = { s with regs := t.regs, rad := t.rad })

/-! ### Holael links -/

/-- Channels, rounds and their changes. A channel definition that is valid is taken while no partner is busy, else cfg_err is set and
nothing else; so are the settings of the round; a change of the map is scheduled at the current round plus the lead, of at least 4
rounds, once at a time; from its round on the new map and anchor apply and the version advances, here and at a member that heard it; an
absence is announced at least 2 rounds ahead while fewer than four stand, and with no change pending an anchor on its bands moves, in the
round before, to the lowest used index of another band; writes by no core change nothing. Log entry 62: the model's reading. -/
def Obligations.ChannelsAndRoundsAreSetWhilePartnersAreFree : Prop :=
  (∀ (who : Requester) (i : Fin 64) (w : Word) (s : State), s.isLit 21 = true → isAnyCore who = true → chdefOk i w = true →
    s.anyPartner = false →
    ∃ t, exec (.chdefWrite who i w) s = .next t ∧ t.fld (A.hmacHolChdef i) F.hmacHolChdef_width = F.hmacHolChdef_width.get w
      ∧ t.fld (A.hmacHolChdef i) F.hmacHolChdef_centre = F.hmacHolChdef_centre.get w ∧ RegsKept [A.hmacHolChdef i] s t
      ∧ t = { s with regs := t.regs, bus := ⟨false, 0, []⟩ })
  ∧ (∀ (who : Requester) (i : Fin 64) (w : Word) (s : State), s.isLit 21 = true → isAnyCore who = true →
    (chdefOk i w = false ∨ ∃ p : Fin 1024, s.partnerState p ≠ 0) →
    ∃ t, exec (.chdefWrite who i w) s = .next t ∧ t.fld A.hmacHolRound F.hmacHolRound_cfg_err = 1
      ∧ (∀ f ∈ D.hmacHolRound.fields, f ≠ F.hmacHolRound_cfg_err → t.fld A.hmacHolRound f = s.fld A.hmacHolRound f)
      ∧ RegsKept [A.hmacHolRound] s t ∧ t = { s with regs := t.regs, bus := ⟨false, 0, []⟩ })
  ∧ (∀ (who : Requester) (w : Word) (s : State), s.isLit 21 = true → isAnyCore who = true →
    8 ≤ F.hmacHolRound_round_units.get w → F.hmacHolRound_round_units.get w ≤ 8192 → 2 ≤ F.hmacHolRound_lantern_reserve.get w →
    F.hmacHolRound_lantern_reserve.get w ≤ 8 → F.hmacHolRound_hop_increment.get w % 2 = 1 → s.anyPartner = false →
    ∃ t, exec (.holRoundWrite who w) s = .next t ∧ t.roundUnits = F.hmacHolRound_round_units.get w
      ∧ t.fld A.hmacHolRound F.hmacHolRound_lantern_reserve = F.hmacHolRound_lantern_reserve.get w
      ∧ t.fld A.hmacHolRound F.hmacHolRound_anchor = F.hmacHolRound_anchor.get w
      ∧ t.fld A.hmacHolRound F.hmacHolRound_hop_increment = F.hmacHolRound_hop_increment.get w
      ∧ t.fld A.hmacHolRound F.hmacHolRound_cfg_err
          = (if F.hmacHolRound_cfg_err.get w = 1 then 0 else s.fld A.hmacHolRound F.hmacHolRound_cfg_err)
      ∧ RegsKept [A.hmacHolRound] s t ∧ t = { s with regs := t.regs, bus := ⟨false, 0, []⟩ })
  ∧ (∀ (who : Requester) (w : Word) (s : State), s.isLit 21 = true → isAnyCore who = true →
    (F.hmacHolRound_round_units.get w < 8 ∨ 8192 < F.hmacHolRound_round_units.get w ∨ F.hmacHolRound_lantern_reserve.get w < 2
      ∨ 8 < F.hmacHolRound_lantern_reserve.get w ∨ F.hmacHolRound_hop_increment.get w % 2 = 0 ∨ ∃ p : Fin 1024, s.partnerState p ≠ 0) →
    ∃ t, exec (.holRoundWrite who w) s = .next t ∧ t.fld A.hmacHolRound F.hmacHolRound_cfg_err = 1
      ∧ (∀ f ∈ D.hmacHolRound.fields, f ≠ F.hmacHolRound_cfg_err → t.fld A.hmacHolRound f = s.fld A.hmacHolRound f)
      ∧ RegsKept [A.hmacHolRound] s t ∧ t = { s with regs := t.regs, bus := ⟨false, 0, []⟩ })
  ∧ (∀ (who : Requester) (w : Word) (s : State), s.isLit 21 = true → isAnyCore who = true → F.hmacHolChmapCtl_change_req.get w = 1 →
    s.hol.change = none →
    ∃ t, exec (.chmapChangeReq who w) s = .next t
      ∧ t.hol.change = some ((s.reg A.hmacHolNextHi).toNat * 2 ^ 32 + (s.reg A.hmacHolNextLo).toNat, F.hmacHolChmapCtl_new_anchor.get w,
          s.roundNo + max 4 (F.hmacHolChmapCtl_lead.get w))
      ∧ t.fld A.hmacHolChmapCtl F.hmacHolChmapCtl_pending = 1 ∧ t.fld A.hmacHolChmapCtl F.hmacHolChmapCtl_change_req = 0
      ∧ RegsKept [A.hmacHolChmapCtl] s t
      ∧ t = { s with regs := t.regs, hmac := { s.hmac with hol := { s.hmac.hol with change := t.hol.change } }, bus := ⟨false, 0, []⟩ })
  ∧ (∀ (who : Requester) (w : Word) (s : State), s.isLit 21 = true → isAnyCore who = true → s.hol.change.isSome = true →
    ∃ t, exec (.chmapChangeReq who w) s = .next t ∧ RegsKept [A.hmacHolChmapCtl] s t
      ∧ t = { s with regs := t.regs, bus := ⟨false, 0, []⟩ })
  ∧ (∀ (m a sw : Nat) (s : State), s.isLit 21 = true → s.hol.change = some (m, a, sw) → sw ≤ s.roundNo → m < 2 ^ 64 → a < 64 →
    ∃ t, exec (.chmapSwitch false) s = .next t ∧ t.chMap = m ∧ t.fld A.hmacHolRound F.hmacHolRound_anchor = a
      ∧ t.fld A.hmacHolChmapCtl F.hmacHolChmapCtl_version = (s.fld A.hmacHolChmapCtl F.hmacHolChmapCtl_version + 1) % 256
      ∧ t.fld A.hmacHolChmapCtl F.hmacHolChmapCtl_pending = 0 ∧ t.hol.change = none
      ∧ RegsKept [A.hmacHolChmapHi, A.hmacHolChmapLo, A.hmacHolRound, A.hmacHolChmapCtl] s t
      ∧ t = { s with regs := t.regs, hmac := { s.hmac with hol := { s.hmac.hol with change := none } } })
  ∧ (∀ (s : State), s.isLit 21 = true → s.hol.parent.switchRound ≠ 0 → s.hol.parent.switchRound ≤ s.parentRound →
    let p := s.hol.parent
    exec (.chmapSwitch true) s = .next (s.setHol { s.hol with parent :=
      { p with map := p.nextMap, anchor := p.nextAnchor, switchRound := 0, mapVersion := (p.mapVersion + 1) % 256 } }))
  ∧ (∀ (who : Requester) (w : Word) (s : State), s.isLit 21 = true → isAnyCore who = true → F.hmacHolAbsence_go.get w = 1 →
    s.bit A.hmacHolCtl F.hmacHolCtl_coord_en = true → F.hmacHolAbsence_bands.get w ≠ 0 → F.hmacHolAbsence_duration.get w ≠ 0 →
    let live := s.hol.absences.filter (fun a => s.roundNo < a.start + a.rounds)
    let bands := F.hmacHolAbsence_bands.get w
    let start := s.roundNo + max 2 (F.hmacHolAbsence_lead.get w)
    live.length < 4 →
    ∃ t, exec (.holAbsenceGo who w) s = .next t ∧ t.hol.absences = live ++ [⟨bands, start, F.hmacHolAbsence_duration.get w⟩]
      ∧ t.fld A.hmacHolAbsence F.hmacHolAbsence_busy = (if live.length = 3 then 1 else 0)
      ∧ t.fld A.hmacHolAbsence F.hmacHolAbsence_go = 0
      ∧ (∀ i < 64, s.chMap.testBit i = true → bands.testBit (bandOfIdx i) = false →
          (∀ j < i, s.chMap.testBit j = true → bands.testBit (bandOfIdx j) = true) → s.hol.change = none →
          bands.testBit (bandOfIdx (s.fld A.hmacHolRound F.hmacHolRound_anchor)) = true →
          t.hol.change = some (s.chMap, i, start - 1) ∧ t.fld A.hmacHolChmapCtl F.hmacHolChmapCtl_pending = 1)
      ∧ (bands.testBit (bandOfIdx (s.fld A.hmacHolRound F.hmacHolRound_anchor)) = false → t.hol.change = s.hol.change)
      ∧ RegsKept [A.hmacHolAbsence, A.hmacHolChmapCtl] s t
      ∧ t = { s with regs := t.regs, bus := ⟨false, 0, []⟩,
                     hmac := { s.hmac with hol := { s.hmac.hol with absences := t.hol.absences, change := t.hol.change } } })
  ∧ (∀ (who : Requester) (w : Word) (s : State), s.isLit 21 = true → isAnyCore who = true →
    4 ≤ (s.hol.absences.filter (fun a => s.roundNo < a.start + a.rounds)).length →
    ∃ t, exec (.holAbsenceGo who w) s = .next t ∧ RegsKept [A.hmacHolAbsence] s t
      ∧ t = { s with regs := t.regs, bus := ⟨false, 0, []⟩ })
  ∧ (∀ (who : Requester) (i : Fin 64) (w : Word) (s : State), s.isLit 21 = true → isAnyCore who = false →
    exec (.chdefWrite who i w) s = .next (s.busOk 0) ∧ exec (.holRoundWrite who w) s = .next (s.busOk 0)
      ∧ exec (.chmapChangeReq who w) s = .next (s.busOk 0) ∧ exec (.holAbsenceGo who w) s = .next (s.busOk 0))

/-- What a grant promises (R238): HMAC makes a FREE partner OFFERED only if its schedule is in range, on bands whose radios are fitted,
clear of the lantern reserve and within the round (R198), if on each of its bands its window meets no reserved phase (lantern reserve,
join window, partners that are not FREE, the parent's events) in any round, and if the band's share of reserved time stays within its
limit. A request in range that fails one of these is refused with ST_ADMIT_DENIED and a reason, counted, and leaves every reservation
as it was. -/
def Obligations.AdmittedSchedulesNeverMeet : Prop :=
  (∀ (who : Requester) (w : Word) (s t : State), exec (.holAdmit who w) s = .next t →
    let p := F.hmacHolAdmit_partner.get w
    s.partnerState p = 0 → t.partnerState p = 1 →
    let off (q : Nat) := s.fld (A.hmacHolPartnerW1 q) F.hmacHolPartnerW1_offset
    let phase (q : Nat) := s.fld (A.hmacHolPartnerW2 q) F.hmacHolPartnerW2_phase
    F.hmacHolAdmit_go.get w = 1 ∧ F.hmacHolAdmit_op.get w = 0
      ∧ 1 ≤ s.linkInterval p ∧ s.linkInterval p ≤ 256 ∧ phase p < s.linkInterval p ∧ s.linkBands p ≠ 0 ∧ s.linkWindow p ≠ 0
      ∧ s.fld A.hmacHolRound F.hmacHolRound_lantern_reserve ≤ off p ∧ off p + s.linkWindow p ≤ s.roundUnits
      ∧ (∀ b < 3, (s.linkBands p).testBit b = true → s.isFitted (radId b) = true)
      ∧ (∀ (b round : Nat) (x : Reserved), b < 3 → (s.linkBands p).testBit b = true → x ∈ s.reserved b →
          round % s.linkInterval p = phase p → round % x.1 = x.2.1 →
          off p + s.linkWindow p ≤ x.2.2.1 ∨ x.2.2.1 + x.2.2.2 ≤ off p)
      ∧ (∀ (q : Fin 1024) (b round : Nat), s.partnerState q ≠ 0 → b < 3 → (s.linkBands p).testBit b = true →
          (s.linkBands q).testBit b = true → round % s.linkInterval p = phase p → round % s.linkInterval q = phase q →
          off p + s.linkWindow p ≤ off q ∨ off q + s.linkWindow q ≤ off p)
      ∧ (∀ b < 3, (s.linkBands p).testBit b = true →
          shareOk ((s.linkInterval p, phase p, off p, s.linkWindow p) :: s.reserved b) s.roundUnits (s.shareLimit b) = true))
  ∧ (∀ (who : Requester) (w : Word) (s : State), s.isLit 21 = true → isAnyCore who = true → F.hmacHolAdmit_go.get w = 1 →
    F.hmacHolAdmit_op.get w = 0 →
    let p := F.hmacHolAdmit_partner.get w
    let off := s.fld (A.hmacHolPartnerW1 p) F.hmacHolPartnerW1_offset
    let phase := s.fld (A.hmacHolPartnerW2 p) F.hmacHolPartnerW2_phase
    let iv := s.fld (A.hmacHolPartnerW0 p) F.hmacHolPartnerW0_interval
    let sup := s.fld (A.hmacHolPartnerW4 p) F.hmacHolPartnerW4_supervision
    s.partnerState p = 0 → 1 ≤ iv → iv ≤ 256 → phase < iv → s.linkBands p ≠ 0 → s.linkWindow p ≠ 0 → 100 ≤ sup → sup ≤ 32000 →
    (off < s.fld A.hmacHolRound F.hmacHolRound_lantern_reserve ∨ s.roundUnits < off + s.linkWindow p
      ∨ ∃ b < 3, (s.linkBands p).testBit b = true ∧ (s.isFitted (radId b) = false
          ∨ shareOk ((iv, phase, off, s.linkWindow p) :: s.reserved b) s.roundUnits (s.shareLimit b) = false
          ∨ ∃ x ∈ s.reserved b, ∃ round, round % iv = phase ∧ round % x.1 = x.2.1
              ∧ off < x.2.2.1 + x.2.2.2 ∧ x.2.2.1 < off + s.linkWindow p)) →
    ∃ t, exec (.holAdmit who w) s = .next t ∧ t.fld A.hmacHolAdmitRes F.hmacHolAdmitRes_status = ST.admitDenied
      ∧ t.fld A.hmacHolAdmitRes F.hmacHolAdmitRes_reason ≠ 0 ∧ t.reg A.hmacHolAdmitDenied = satInc (s.reg A.hmacHolAdmitDenied)
      ∧ (∀ b < 3, t.reserved b = s.reserved b) ∧ (∀ q : Fin 1024, t.partnerState q = s.partnerState q))

/-- Admission and release. A granted request makes the partner OFFERED, from the first round of its phase after the current one, with
its event counter at 0 and its supervision running from that round; a refused one is counted with its reason and marks its bands for
congestion; a release frees an OFFERED partner at once, with its maps, offers and queue, and lets one in a later state leave; in none of
these do replay records or keys change. Log entry 62: the model's reading. -/
def Obligations.AdmissionOffersAndReleaseFrees : Prop :=
  (∀ (who : Requester) (w : Word) (s : State), s.isLit 21 = true → isAnyCore who = true → F.hmacHolAdmit_go.get w = 1 →
    F.hmacHolAdmit_op.get w = 0 → s.admission (F.hmacHolAdmit_partner.get w) = (ST.ok, 0) →
    let p := F.hmacHolAdmit_partner.get w
    ∃ t, exec (.holAdmit who w) s = .next t ∧ ∃ first, t.partnerState p = 1 ∧ t.linkEvent p = 0
      ∧ s.roundNo < first ∧ first ≤ s.roundNo + s.linkInterval p
      ∧ first % s.linkInterval p = s.fld (A.hmacHolPartnerW2 p) F.hmacHolPartnerW2_phase
      ∧ t.peer p = { HolPeer.init with first := first, lastRx := s.elapsed + (first * s.roundNs - s.nowNs) }
      ∧ (t.reg (A.hmacHolPartnerW6 p)).toNat = first % 2 ^ 32
      ∧ t.fld (A.hmacHolPartnerW7 p) F.hmacHolPartnerW7_next_round_hi = first / 2 ^ 32 % 65536
      ∧ t.fld A.hmacHolAdmitRes F.hmacHolAdmitRes_status = ST.ok ∧ t.fld A.hmacHolAdmit F.hmacHolAdmit_go = 0
      ∧ (∀ q, q ≠ p → t.peer q = s.peer q)
      ∧ RegsKept [A.hmacHolAdmit, A.hmacHolAdmitRes, A.hmacHolPartnerW0 p, A.hmacHolPartnerW3 p, A.hmacHolPartnerW6 p,
          A.hmacHolPartnerW7 p] s t
      ∧ t = { s with regs := t.regs, bus := ⟨false, 0, []⟩, hmac := { s.hmac with hol := { s.hmac.hol with peers := t.hol.peers } } })
  ∧ (∀ (who : Requester) (w : Word) (why : Nat) (s : State), s.isLit 21 = true → isAnyCore who = true → F.hmacHolAdmit_go.get w = 1 →
    F.hmacHolAdmit_op.get w = 0 → s.admission (F.hmacHolAdmit_partner.get w) = (ST.admitDenied, why) →
    let p := F.hmacHolAdmit_partner.get w
    ∃ t, exec (.holAdmit who w) s = .next t ∧ t.partnerState p = s.partnerState p
      ∧ t.reg A.hmacHolAdmitDenied = satInc (s.reg A.hmacHolAdmitDenied)
      ∧ t.fld A.hmacHolAdmitRes F.hmacHolAdmitRes_status = ST.admitDenied ∧ t.fld A.hmacHolAdmitRes F.hmacHolAdmitRes_reason = why
      ∧ (∀ b < 3, (s.linkBands p).testBit b = true → Tbl.find? t.hol.refused b = some s.elapsed)
      ∧ (∀ b, (s.linkBands p).testBit b = false → Tbl.find? t.hol.refused b = Tbl.find? s.hol.refused b)
      ∧ RegsKept [A.hmacHolAdmit, A.hmacHolAdmitRes, A.hmacHolAdmitDenied] s t
      ∧ t = { s with regs := t.regs, bus := ⟨false, 0, []⟩,
                     hmac := { s.hmac with hol := { s.hmac.hol with refused := t.hol.refused } } })
  ∧ (∀ (who : Requester) (w : Word) (s : State), s.isLit 21 = true → isAnyCore who = true → F.hmacHolAdmit_go.get w = 1 →
    F.hmacHolAdmit_op.get w = 1 → s.partnerState (F.hmacHolAdmit_partner.get w) = 1 →
    let p := F.hmacHolAdmit_partner.get w
    ∃ t, exec (.holRelease who w) s = .next t ∧ t.partnerState p = 0 ∧ (∀ m ∈ t.hol.maps, m.partner ≠ p)
      ∧ (∀ m ∈ s.hol.maps, m.partner ≠ p → m ∈ t.hol.maps) ∧ (∀ o ∈ t.hol.offers, o.peer ≠ p)
      ∧ (∀ q, q ≠ p → t.peer q = s.peer q) ∧ t.peer p = HolPeer.init ∧ t.hol.seen = s.hol.seen ∧ t.hol.parent = s.hol.parent
      ∧ t.fld A.hmacHolAdmitRes F.hmacHolAdmitRes_status = ST.ok
      ∧ RegsKept [A.hmacHolAdmit, A.hmacHolAdmitRes, A.hmacHolPartnerW0 p, A.hmacHolPartnerW2 p, A.hmacMapStatus] s t
      ∧ t = { s with regs := t.regs, bus := ⟨false, 0, []⟩, hmac := { s.hmac with hol := t.hmac.hol } })
  ∧ (∀ (who : Requester) (w : Word) (s : State), s.isLit 21 = true → isAnyCore who = true → F.hmacHolAdmit_go.get w = 1 →
    F.hmacHolAdmit_op.get w = 1 → 2 ≤ s.partnerState (F.hmacHolAdmit_partner.get w) →
    let p := F.hmacHolAdmit_partner.get w
    ∃ t, exec (.holRelease who w) s = .next t ∧ t.peer p = { s.peer p with leaving := true } ∧ (∀ q, q ≠ p → t.peer q = s.peer q)
      ∧ t.fld A.hmacHolAdmitRes F.hmacHolAdmitRes_status = ST.ok ∧ RegsKept [A.hmacHolAdmit, A.hmacHolAdmitRes] s t
      ∧ t = { s with regs := t.regs, bus := ⟨false, 0, []⟩, hmac := { s.hmac with hol := { s.hmac.hol with peers := t.hol.peers } } })

/-- A member's states. A join scans on the anchor; a JOIN_REQ that fits the window makes the member JOINING and goes out on the anchor
adopted, once until its retry; the retry comes a round later at the earliest, and not after an answer; joining ends UNJOINED at its
timeout; the third lantern missed in a row is LANTERN_LOST; from there the supervision timeout leads to SEARCH, and two rounds of SEARCH
lose the link; before its time none of these changes anything; a leave of a member with a link stands for its next event, of one
without is done at once; a listen inside the parent's absence, or one already judged, counts nothing. Log entry 64: the model's
reading. -/
def Obligations.MemberStatesFollowLanternsAndTimeouts : Prop :=
  (∀ (who : Requester) (w : Word) (s : State), s.isLit 21 = true → isAnyCore who = true → F.hmacHolParentCtl_join.get w = 1 →
    s.memberState = 0 → s.bit A.hmacHolCtl F.hmacHolCtl_member_en = true →
    ∃ t, exec (.parentJoin who w) s = .next t ∧ t.memberState = 1 ∧ t.hol.parent.anchor = F.hmacHolParentCtl_anchor.get w
      ∧ t.fld A.hmacHolParentCtl F.hmacHolParentCtl_coord_device = F.hmacHolParentCtl_coord_device.get w
      ∧ t.hol.parent = { ParentLink.init with anchor := F.hmacHolParentCtl_anchor.get w, since := s.elapsed }
      ∧ RegsKept [A.hmacHolParentCtl] s t
      ∧ t = { s with regs := t.regs, bus := ⟨false, 0, []⟩, hmac := { s.hmac with hol := { s.hmac.hol with parent := t.hol.parent } } })
  ∧ (∀ (who : Requester) (w : Word) (s : State), s.isLit 21 = true → isAnyCore who = true → s.memberState ≠ 0 →
    ∃ t, exec (.parentJoin who w) s = .next t ∧ t.memberState = s.memberState ∧ RegsKept [A.hmacHolParentCtl] s t
      ∧ t = { s with regs := t.regs, bus := ⟨false, 0, []⟩ })
  ∧ (∀ (id : Fin 65536) (k : Fin 256) (body : List Byte) (s : State), s.isLit 21 = true → (s.memberState = 1 ∨ s.memberState = 2) →
    s.hol.parent.joinOpen = true → s.hol.parent.joinSent = false → joinReqOk body = true → 40 + body.length ≤ 800 →
    let i := s.hol.parent.anchor
    let need := s.joinNeed i 4 (40 + body.length) (s.brim parentNo)
    let start := (nextAt s.nowNs s.parentNs ((s.hol.parent.joinOffset + k) * 125000)).2
    let left := s.hol.parent.joinLen * 125000 - k * 125000
    k * 125000 + need ≤ s.hol.parent.joinLen * 125000 → need ≤ s.untilBlank (bandOfIdx i) start left →
    s.radLit (bandOfIdx i) = true → s.holKeyReady (s.fld A.hmacHolKeys F.hmacHolKeys_join_slot) →
    ∃ t, exec (.joinReqTx id k body) s = .next t ∧ t.memberState = 2 ∧ t.hol.parent.joinSent = true
      ∧ t.sentIs (bandOfIdx i) none 4 start
      ∧ (t.key (s.fld A.hmacHolKeys F.hmacHolKeys_join_slot)).pn = (s.key (s.fld A.hmacHolKeys F.hmacHolKeys_join_slot)).pn + 1
      ∧ t.hol.peers = s.hol.peers ∧ t.hol.maps = s.hol.maps
      ∧ t = { s with regs := t.regs, keys := t.keys, log := t.log, rad := t.rad, hmac := t.hmac })
  ∧ (∀ (id : Fin 65536) (k : Fin 256) (body : List Byte) (s : State),
    (s.hol.parent.joinOpen = false ∨ s.hol.parent.joinSent = true
      ∨ s.hol.parent.joinLen * 125000 < k * 125000 + s.joinNeed s.hol.parent.anchor 4 (40 + body.length) (s.brim parentNo)) →
    exec (.joinReqTx id k body) s = .next s)
  ∧ (∀ (s : State), s.isLit 21 = true → s.memberState = 2 → s.hol.parent.joinAnswered = false →
    s.hol.parent.since + s.parentNs ≤ s.elapsed →
    exec .joinRetry s = .next (s.setHol { s.hol with parent := { s.hol.parent with joinSent := false } }))
  ∧ (∀ (s : State),
    ((s.hol.parent.joinAnswered = true ∨ s.elapsed < s.hol.parent.since + s.parentNs) → exec .joinRetry s = .next s)
      ∧ (s.elapsed < s.hol.parent.since + s.joinLimit → exec .joinSupervisionTimeout s = .next s)
      ∧ ((s.parentAway = true ∨ s.elapsed < (s.peer parentNo).lastRx
            + 1000000 * s.fld A.hmacHolParentSupv F.hmacHolParentSupv_supervision) → exec .memberSupervisionTimeout s = .next s)
      ∧ (s.elapsed < s.hol.parent.since + 2 * s.parentNs → exec .searchTimeout s = .next s))
  ∧ (∀ (s : State), s.isLit 21 = true → (s.memberState = 1 ∨ s.memberState = 2) → s.hol.parent.since + s.joinLimit ≤ s.elapsed →
    ∃ t, exec .joinSupervisionTimeout s = .next t ∧ t.memberState = 0 ∧ t.reg A.hmacHolLinkLost = satInc (s.reg A.hmacHolLinkLost)
      ∧ (∀ m ∈ t.hol.maps, m.partner ≠ parentNo)
      ∧ RegsKept [A.hmacHolLinkLost, A.hmacHolParentCtl, A.hmacHolParentSync, A.hmacHolParentSupv, A.hmacMapStatus] s t
      ∧ t = { s with regs := t.regs, hmac := { s.hmac with hol := t.hol } })
  ∧ (∀ (s : State), s.isLit 21 = true → s.memberState = 4 → s.parentAway = false →
    (s.peer parentNo).lastRx + 1000000 * s.fld A.hmacHolParentSupv F.hmacHolParentSupv_supervision ≤ s.elapsed →
    ∃ t, exec .memberSupervisionTimeout s = .next t ∧ t.memberState = 5 ∧ t.hol.parent.since = s.elapsed
      ∧ t.hol.peers = s.hol.peers ∧ t.hol.maps = s.hol.maps ∧ RegsKept [A.hmacHolParentCtl, A.hmacHolParentSync] s t
      ∧ t = { s with regs := t.regs, hmac := { s.hmac with hol := { s.hmac.hol with parent := t.hol.parent } } })
  ∧ (∀ (s : State), s.isLit 21 = true → s.memberState = 5 → s.hol.parent.since + 2 * s.parentNs ≤ s.elapsed →
    ∃ t, exec .searchTimeout s = .next t ∧ t.memberState = 0 ∧ t.reg A.hmacHolLinkLost = satInc (s.reg A.hmacHolLinkLost)
      ∧ t.nextSeq 21 = (s.nextSeq 21 + 1) % 65536 ∧ (∀ m ∈ t.hol.maps, m.partner ≠ parentNo)
      ∧ RegsKept [A.hmacHolLinkLost, A.hmacHolParentCtl, A.hmacHolParentSync, A.hmacHolParentSupv, A.hmacMapStatus] s t
      ∧ t = { s with regs := t.regs, log := t.log, hmac := { s.hmac with hol := t.hol } })
  ∧ (∀ (who : Requester) (w : Word) (s : State), s.isLit 21 = true → isAnyCore who = true → F.hmacHolParentCtl_leave.get w = 1 →
    3 ≤ s.memberState →
    ∃ t, exec (.parentLeave who w) s = .next t ∧ t.peer parentNo = { s.peer parentNo with leaving := true }
      ∧ t.memberState = s.memberState ∧ RegsKept [A.hmacHolParentCtl] s t
      ∧ t = { s with regs := t.regs, bus := ⟨false, 0, []⟩, hmac := { s.hmac with hol := { s.hmac.hol with peers := t.hol.peers } } })
  ∧ (∀ (who : Requester) (w : Word) (s : State), s.isLit 21 = true → isAnyCore who = true → F.hmacHolParentCtl_leave.get w = 1 →
    (s.memberState = 1 ∨ s.memberState = 2) →
    ∃ t, exec (.parentLeave who w) s = .next t ∧ t.memberState = 0 ∧ t.reg A.hmacHolLinkLost = s.reg A.hmacHolLinkLost)
  ∧ (∀ (s : State), s.isLit 21 = true → s.radLit (bandOfIdx s.hol.parent.anchor) = true → (s.memberState = 3 ∨ s.memberState = 4) →
    s.parentRound * s.parentNs + s.brim parentNo ≤ s.nowNs → s.hol.parent.listened ≠ some s.parentRound →
    (∀ a ∈ s.hol.parent.absences, a.start ≤ s.parentRound → s.parentRound < a.start + a.rounds →
      a.bands.testBit (bandOfIdx s.hol.parent.anchor) = false) →
    let n := min 15 (s.fld A.hmacHolParentSync F.hmacHolParentSync_missed + 1)
    ∃ t, exec .lanternListenEnd s = .next t ∧ t.fld A.hmacHolParentSync F.hmacHolParentSync_missed = n
      ∧ t.reg A.hmacHolLanternMiss = satInc (s.reg A.hmacHolLanternMiss)
      ∧ (s.memberState = 3 → 3 ≤ n → t.memberState = 4 ∧ t.reg A.hmacHolLanternLost = satInc (s.reg A.hmacHolLanternLost)
          ∧ t.nextSeq 21 = (s.nextSeq 21 + 1) % 65536)
      ∧ t.hol.parent.listened = some s.parentRound
      ∧ ((s.memberState = 4 ∨ n < 3) → t.memberState = s.memberState ∧ t.reg A.hmacHolLanternLost = s.reg A.hmacHolLanternLost
          ∧ t.hol.parent = { s.hol.parent with listened := some s.parentRound })
      ∧ RegsKept [A.hmacHolLanternMiss, A.hmacHolParentSync, A.hmacHolParentCtl, A.hmacHolLanternLost] s t
      ∧ t = { s with regs := t.regs, log := t.log, hmac := { s.hmac with hol := { s.hmac.hol with parent := t.hol.parent } } })
  ∧ (∀ (a : Absence) (s : State), a ∈ s.hol.parent.absences → a.start ≤ s.parentRound → s.parentRound < a.start + a.rounds →
    a.bands.testBit (bandOfIdx s.hol.parent.anchor) = true → exec .lanternListenEnd s = .next s)
  ∧ (∀ (s : State), s.hol.parent.listened = some s.parentRound → exec .lanternListenEnd s = .next s)

/-- Partners. A supervision timeout, or an open absence past its limit, drops the partner with its maps, and not before its time; an
absence that covers its bands makes it ABSENT from its first round on, and at its end ACTIVE with its supervision moved on; events on the
bands of this device's own absence, and the parent's events on those of its absence, end, and both absences are over in their time; a
frame without a reply by 18 µs opens one further exchange if a POLL fits, and else a partner that no band still waits for has missed the
event if it was not heard, the third miss in a row dimming it; MSDUs held too long are released, and none sooner; a candidate worth it is
installed under the next map ID and offered, once, or counted when the map store has no space. Log entries 62, 65: the model's reading. -/
def Obligations.PartnersAreSupervisedPolledAndOfferedMaps : Prop :=
  (∀ (p : Fin 1024) (s : State), s.isLit 21 = true → 1 ≤ s.partnerState p → s.partnerState p ≤ 3 →
    (s.peer p).lastRx + 1000000 * s.fld (A.hmacHolPartnerW4 p) F.hmacHolPartnerW4_supervision ≤ s.elapsed →
    ∃ t, exec (.partnerSupervisionTimeout p) s = .next t ∧ t.partnerState p = 0
      ∧ t.reg A.hmacHolPartnerDrop = satInc (s.reg A.hmacHolPartnerDrop) ∧ (∀ m ∈ t.hol.maps, m.partner ≠ p.val)
      ∧ (∀ m ∈ s.hol.maps, m.partner ≠ p.val → m ∈ t.hol.maps) ∧ (∀ q, q ≠ p.val → t.peer q = s.peer q)
      ∧ t.nextSeq 21 = (if s.partnerState p = 3 then (s.nextSeq 21 + 1) % 65536 else s.nextSeq 21)
      ∧ RegsKept [A.hmacHolPartnerDrop, A.hmacHolPartnerW0 p, A.hmacHolPartnerW2 p, A.hmacMapStatus] s t
      ∧ t = { s with regs := t.regs, log := t.log, hmac := { s.hmac with hol := t.hol } })
  ∧ (∀ (p : Fin 1024) (s : State),
    s.elapsed < (s.peer p).lastRx + 1000000 * s.fld (A.hmacHolPartnerW4 p) F.hmacHolPartnerW4_supervision →
    exec (.partnerSupervisionTimeout p) s = .next s)
  ∧ (∀ (p : Fin 1024) (b r : Nat) (s : State), s.isLit 21 = true → s.partnerState p = 4 → (s.peer p).absence = some (b, r, none) →
    (s.peer p).absentSince + nsPerSec * s.fld A.hmacHolCfg F.hmacHolCfg_absence_limit ≤ s.elapsed →
    ∃ t, exec (.absenceLimitExpiry p) s = .next t ∧ t.partnerState p = 0
      ∧ t.reg A.hmacHolPartnerDrop = satInc (s.reg A.hmacHolPartnerDrop) ∧ (∀ m ∈ t.hol.maps, m.partner ≠ p.val)
      ∧ (∀ q, q ≠ p.val → t.peer q = s.peer q) ∧ t.log = s.log
      ∧ RegsKept [A.hmacHolPartnerDrop, A.hmacHolPartnerW0 p, A.hmacHolPartnerW2 p, A.hmacMapStatus] s t
      ∧ t = { s with regs := t.regs, hmac := { s.hmac with hol := t.hol } })
  ∧ (∀ (p : Fin 1024) (b r n : Nat) (s : State), (s.peer p).absence = some (b, r, some n) → exec (.absenceLimitExpiry p) s = .next s)
  ∧ (∀ (p : Fin 1024) (s : State), s.elapsed < (s.peer p).absentSince + nsPerSec * s.fld A.hmacHolCfg F.hmacHolCfg_absence_limit →
    exec (.absenceLimitExpiry p) s = .next s)
  ∧ (∀ (p : Fin 1025) (b r : Nat) (n : Option Nat) (s : State), p.val < 1024 → s.isLit 21 = true → s.partnerState p ≠ 0 →
    (s.peer p).absence = some (b, r, n) → b < 8 → r ≤ s.roundNo →
    ∃ t, exec (.absenceStart (some p)) s = .next t ∧ t.fld (A.hmacHolPartnerW2 p) F.hmacHolPartnerW2_absent_bands = b
      ∧ (s.linkBands p &&& b = s.linkBands p → t.partnerState p = 4 ∧ (t.peer p).absentSince = s.elapsed)
      ∧ (s.linkBands p &&& b ≠ s.linkBands p → t.partnerState p = s.partnerState p ∧ t.peer p = s.peer p)
      ∧ (∀ q, q ≠ p.val → t.peer q = s.peer q) ∧ RegsKept [A.hmacHolPartnerW0 p, A.hmacHolPartnerW2 p] s t
      ∧ t = { s with regs := t.regs, hmac := { s.hmac with hol := { s.hmac.hol with peers := t.hol.peers } } })
  ∧ (∀ (p : Fin 1025) (b r : Nat) (n : Option Nat) (s : State), p.val < 1024 → (s.peer p).absence = some (b, r, n) → s.roundNo < r →
    exec (.absenceStart (some p)) s = .next s)
  ∧ (∀ (p : Fin 1025) (b r n : Nat) (s : State), p.val < 1024 → s.isLit 21 = true → (s.peer p).absence = some (b, r, some n) →
    r + n ≤ s.roundNo →
    ∃ t, exec (.absenceEnd (some p)) s = .next t ∧ t.peer p = { (s.peer p).back s.elapsed with absence := none }
      ∧ t.fld (A.hmacHolPartnerW2 p) F.hmacHolPartnerW2_absent_bands = 0
      ∧ t.partnerState p = (if s.partnerState p = 4 then 2 else s.partnerState p) ∧ (∀ q, q ≠ p.val → t.peer q = s.peer q)
      ∧ RegsKept [A.hmacHolPartnerW0 p, A.hmacHolPartnerW2 p] s t
      ∧ t = { s with regs := t.regs, hmac := { s.hmac with hol := { s.hmac.hol with peers := t.hol.peers } } })
  ∧ (∀ (p : Fin 1025) (b r : Nat) (s : State), p.val < 1024 → (s.peer p).absence = some (b, r, none) →
    exec (.absenceEnd (some p)) s = .next s)
  ∧ (∀ (p : Fin 1025) (b r n : Nat) (s : State), p.val < 1024 → (s.peer p).absence = some (b, r, some n) → s.roundNo < r + n →
    exec (.absenceEnd (some p)) s = .next s)
  ∧ (∀ (b : Nat) (s : State), s.isLit 21 = true → b < 3 → (s.absentBands s.roundNo).testBit b = true →
    ∃ t, exec (.absenceStart none) s = .next t ∧ Tbl.find? t.hol.events b = none ∧ t.hol.absences = s.hol.absences)
  ∧ (∀ (s : State), s.isLit 21 = true →
    let live := s.hol.absences.filter (fun a => s.roundNo < a.start + a.rounds)
    ∃ t, exec (.absenceEnd none) s = .next t ∧ t.hol.absences = live
      ∧ t.fld A.hmacHolAbsence F.hmacHolAbsence_busy = (if 4 ≤ live.length then 1 else 0) ∧ RegsKept [A.hmacHolAbsence] s t
      ∧ t = { s with regs := t.regs, hmac := { s.hmac with hol := { s.hmac.hol with absences := live } } })
  ∧ (∀ (b : Nat) (e : HolEvent) (a : Absence) (s : State), s.isLit 21 = true → b < 3 → a ∈ s.hol.parent.absences →
    a.start ≤ s.parentRound → s.parentRound < a.start + a.rounds → a.bands.testBit b = true →
    Tbl.find? s.hol.events b = some e → e.peer = parentNo →
    ∃ t, exec (.absenceStart (some 1024)) s = .next t ∧ Tbl.find? t.hol.events b = none)
  ∧ (∀ (s : State), s.isLit 21 = true →
    let s1 := s.setHol { s.hol with parent := { s.hol.parent with
      absences := s.hol.parent.absences.filter (fun a => s.parentRound < a.start + a.rounds) } }
    exec (.absenceEnd (some 1024)) s
      = .next (if s1.parentAway = true then s1 else s1.setPeer parentNo ((s.peer parentNo).back s.elapsed)))
  ∧ (∀ (r : Rad) (p : Fin 1024) (e : HolEvent) (t0 : Nat) (s : State), s.isLit 21 = true → Tbl.find? s.hol.events r = some e →
    e.peer = p.val → e.wait = true → e.last = some t0 → t0 + 18000 ≤ s.nowNs → e.reopened = false →
    t0 + 34000 + s.needNs r p 1 40 ≤ e.stop →
    let e1 := { e with wait := false, reopened := true, again := true, last := some (t0 + 18000) }
    exec (.replyWindowClose r) s = .next (s.setHol { s.hol with events := Tbl.insert r e1 s.hol.events }))
  ∧ (∀ (r : Rad) (e : HolEvent) (t0 : Nat) (s : State), Tbl.find? s.hol.events r = some e → e.last = some t0 → s.nowNs < t0 + 18000 →
    exec (.replyWindowClose r) s = .next s)
  ∧ (∀ (r : Rad) (p : Fin 1024) (e : HolEvent) (t0 : Nat) (s : State), s.isLit 21 = true → Tbl.find? s.hol.events r = some e →
    e.peer = p.val → e.wait = true → e.last = some t0 → t0 + 18000 ≤ s.nowNs →
    (e.reopened = true ∨ e.stop < t0 + 34000 + s.needNs r p 1 40) →
    let s1 := s.setHol { s.hol with events := Tbl.insert r { e with wait := false } s.hol.events }
    (s1.hol.events.any (fun x => x.2.peer == p.val && (x.2.wait || x.2.again)) = true → exec (.replyWindowClose r) s = .next s1)
    ∧ (s1.hol.events.any (fun x => x.2.peer == p.val && (x.2.wait || x.2.again)) = false → (s.peer p).polled = true →
        (s.peer p).heard = true → exec (.replyWindowClose r) s = .next (s1.setPeer p { s.peer p with polled := false })))
  ∧ (∀ (r : Rad) (p : Fin 1024) (e : HolEvent) (t0 : Nat) (s : State), s.isLit 21 = true → Tbl.find? s.hol.events r = some e →
    e.peer = p.val → e.wait = true → e.last = some t0 → t0 + 18000 ≤ s.nowNs →
    (e.reopened = true ∨ e.stop < t0 + 34000 + s.needNs r p 1 40) →
    let s1 := s.setHol { s.hol with events := Tbl.insert r { e with wait := false } s.hol.events }
    s1.hol.events.any (fun x => x.2.peer == p.val && (x.2.wait || x.2.again)) = false → (s.peer p).polled = true →
    (s.peer p).heard = false →
    let w2 := A.hmacHolPartnerW2 p
    let n := s.fld w2 F.hmacHolPartnerW2_missed + 1
    ∃ t, exec (.replyWindowClose r) s = .next t ∧ t.reg A.hmacHolPollMiss = satInc (s.reg A.hmacHolPollMiss)
      ∧ (t.peer p).polled = false ∧ (∀ q, q ≠ p.val → t.peer q = s.peer q)
      ∧ (n < 3 → t.fld w2 F.hmacHolPartnerW2_missed = n ∧ t.partnerState p = s.partnerState p
          ∧ t.fld w2 F.hmacHolPartnerW2_dim_level = s.fld w2 F.hmacHolPartnerW2_dim_level)
      ∧ (3 ≤ n → s.partnerState p = 2 → t.fld w2 F.hmacHolPartnerW2_missed = 0 ∧ t.partnerState p = 3
          ∧ t.fld w2 F.hmacHolPartnerW2_dim_level = min 3 (s.fld w2 F.hmacHolPartnerW2_dim_level + 1)
          ∧ (t.peer p).dimBase = s.linkEvent p
          ∧ t.reg A.hmacHolPartnerDim = satInc (s.reg A.hmacHolPartnerDim) ∧ t.nextSeq 21 = (s.nextSeq 21 + 1) % 65536)
      ∧ (3 ≤ n → s.partnerState p = 3 → t.fld w2 F.hmacHolPartnerW2_missed = 0 ∧ t.partnerState p = 3
          ∧ t.fld w2 F.hmacHolPartnerW2_dim_level = min 3 (s.fld w2 F.hmacHolPartnerW2_dim_level + 1))
      ∧ t.hol.events = s1.hol.events ∧ RegsKept [A.hmacHolPollMiss, A.hmacHolPartnerDim, A.hmacHolPartnerW0 p, w2] s t
      ∧ t = { s with regs := t.regs, log := t.log,
                     hmac := { s.hmac with hol := { s.hmac.hol with peers := t.hol.peers, events := t.hol.events } } })
  ∧ (∀ (r : Rad) (p : Fin 1025) (m : RMsdu) (b : List Byte) (s : State), s.isLit 21 = true → (s.peer p).rxq = [m] → m.whole = some b →
    snSub m.sn (s.peer p).rxNext < 2047 → m.since + (s.linkInterval p * s.linkNs p + 10000000) < s.elapsed →
    ((Tbl.get (fun _ => []) s.rxFifo (16 + r)).foldl (fun a f => a + f.bytes.length) 0) + b.length ≤ 524288 →
    ∃ t, exec (.reorderTimeout r p) s = .next t ∧ t.peer p = { s.peer p with rxq := [], rxNext := (m.sn + 1) % 4096 }
      ∧ Tbl.get (fun _ => []) t.rxFifo (16 + r) = Tbl.get (fun _ => []) s.rxFifo (16 + r) ++ [⟨b, State.rxStation p, true, m.stamp⟩]
      ∧ (∀ q, q ≠ p.val → t.peer q = s.peer q)
      ∧ t = { s with rxFifo := t.rxFifo, hmac := { s.hmac with hol := { s.hmac.hol with peers := t.hol.peers } } })
  ∧ (∀ (r : Rad) (p : Fin 1025) (s : State),
    (∀ m ∈ (s.peer p).rxq, s.elapsed ≤ m.since + (s.linkInterval p * s.linkNs p + 10000000)) →
    exec (.reorderTimeout r p) s = .next s)
  ∧ (∀ (p : Fin 1025) (r : Rad) (c : HolMap) (a : SnrAvg) (s : State), s.isLit 21 = true →
    Tbl.find? s.hol.cands (snrKey p r) = some c → Tbl.find? s.hol.snr (snrKey p r) = some a →
    c.kind = 0 → c.partner = p.val → c.band = r.val → c.valid = true →
    let inUse := (Tbl.find? (s.peer p).rxMapId r).getD 0
    (∀ t0, Tbl.find? (s.peer p).offered r = some t0 → t0 + 1000000 * s.fld A.hmacHolCfg F.hmacHolCfg_offer_holdoff ≤ s.elapsed) →
    a.need ≤ a.taken → offerWorth c (s.findMap 0 p r inUse) a.refresh = true → (∀ o ∈ s.hol.offers, o.peer ≠ p.val ∨ o.band ≠ r.val) →
    ((s.placeMap { c with mapId := (inUse + 1) % 4 }).2 = true →
      ∃ t, exec (.mapOffer p r) s = .next t ∧ (∃ m ∈ t.hol.maps, t.hol.offers = s.hol.offers ++ [⟨p, r, m, 0, none⟩]
            ∧ m.mapId = (inUse + 1) % 4 ∧ m.entries = c.entries ∧ m.rate = c.rate)
        ∧ Tbl.find? (t.peer p).offered r = some s.elapsed ∧ Tbl.find? t.hol.snr (snrKey p r) = some { a with refresh := false }
        ∧ (∀ q, q ≠ p.val → t.peer q = s.peer q) ∧ RegsKept [A.hmacMapStatus] s t
        ∧ t = { s with regs := t.regs, hmac := { s.hmac with hol := t.hol } })
    ∧ ((s.placeMap { c with mapId := (inUse + 1) % 4 }).2 = false →
      ∃ t, exec (.mapOffer p r) s = .next t ∧ t.reg A.hmacMapStoreFull = satInc (s.reg A.hmacMapStoreFull)
        ∧ t.nextSeq 21 = (s.nextSeq 21 + 1) % 65536 ∧ RegsKept [A.hmacMapStoreFull] s t ∧ t = { s with regs := t.regs, log := t.log }))

/-- Frames of the coordinator and the member. A lantern is built for the next round start under the group key, after a map change due
then, and none under this device's own absence; a link's event, at most a round ahead, advances its counter and round; its first frame, a
POLL where nothing else is due, goes at the event start; a member opens its side on its bands; a JOIN_RSP goes at its time; a later
frame goes 16 µs after the PPDU it follows, the next due or one MSDU whole; each takes one packet number; a member with no answer owed
sends nothing; an accepting JOIN_RSP installs base loading. Log entries 59, 63, 66, 67, 68: the model's reading. -/
def Obligations.LanternsEventsAndJoinsAreSent : Prop :=
  (∀ (id : Fin 65536) (s : State), s.isLit 21 = true → s.bit A.hmacHolCtl F.hmacHolCtl_coord_en = true →
    let k := nextAt s.nowNs s.roundNs 0
    let round := k.1 % 2 ^ 48
    let r := bandOfIdx ((s.coordSwitch round).fld A.hmacHolRound F.hmacHolRound_anchor)
    let slot := s.fld A.hmacHolKeys F.hmacHolKeys_group_slot
    s.radLit r = true → (s.absentBands round).testBit r = false → s.holKeyReady slot →
    ∃ t, exec (.lanternTx id) s = .next t ∧ t.sentIs r none 0 k.2 ∧ (t.key slot).pn = (s.key slot).pn + 1
      ∧ t.chMap = (s.coordSwitch round).chMap ∧ t.hol.congLast = s.hol.congNow ∧ t.hol.congNow = 0
      ∧ t.hol.peers = s.hol.peers ∧ t.hol.maps = s.hol.maps
      ∧ t = { s with regs := t.regs, keys := t.keys, log := t.log, rad := t.rad, hmac := t.hmac })
  ∧ (∀ (id : Fin 65536) (s : State), s.isLit 21 = true → s.bit A.hmacHolCtl F.hmacHolCtl_coord_en = true →
    let round := (nextAt s.nowNs s.roundNs 0).1 % 2 ^ 48
    (s.absentBands round).testBit (bandOfIdx ((s.coordSwitch round).fld A.hmacHolRound F.hmacHolRound_anchor)) = true →
    ∃ t, exec (.lanternTx id) s = .next t ∧ t.hol.sent = s.hol.sent ∧ t.keys = s.keys ∧ t.rad = s.rad)
  ∧ (∀ (p : Fin 1025) (id : Fin 65536) (s : State), p.val < 1024 → s.isLit 21 = true → s.bit A.hmacHolCtl F.hmacHolCtl_coord_en = true →
    s.partnerState p ≠ 0 → (s.peer p).leaving = false → s.eventStart p ≤ s.nowNs + s.linkNs p →
    ∃ t, exec (.holaelEventStart p id) s = .next t
      ∧ t.linkEvent p = (if s.nextRound p = (s.peer p).first then 0 else (s.linkEvent p + 1) % 2 ^ 32)
      ∧ t.nextRound p = (s.nextRound p + s.linkInterval p) % 2 ^ 48)
  ∧ (∀ (p : Fin 1025) (id : Fin 65536) (s : State), s.nowNs + s.linkNs p < s.eventStart p →
    exec (.holaelEventStart p id) s = .next s)
  ∧ (∀ (p : Fin 1025) (id : Fin 65536) (b : Fin 3) (s : State), p.val < 1024 → s.isLit 21 = true →
    s.bit A.hmacHolCtl F.hmacHolCtl_coord_en = true → s.partnerState p ≠ 0 → s.partnerState p ≠ 4 → s.linkBands p = 2 ^ b.val →
    let round := s.nextRound p
    let start := s.eventStart p
    let stop := start + 125000 * s.linkWindow p
    let s1 := (s.coordSwitch round).advanceEvent p
    let k := s1.linkKeyId p
    start ≤ s.nowNs + s.linkNs p → s.hol.events = [] → s1.polledNow p = true → (s.absentBands round).testBit b = false →
    (s.fld (A.hmacHolPartnerW2 p) F.hmacHolPartnerW2_absent_bands).testBit b = false → s1.parentHolds b start stop = false →
    s1.parentMeets b start stop = false → (s1.linkChannel p b).isSome = true → s.radLit b = true →
    (s.peer p).txq = [] → (s.peer p).refUnsent.testBit b = false → (s.peer p).leaving = false →
    (s.peer p).absSend = none → (∀ o ∈ s.hol.offers, o.peer ≠ p.val) →
    s1.needNs b p 1 40 ≤ s1.untilBlank b start (stop - start) → s1.linkHeld p k = false → s1.holKeyReady (s1.linkSlot p k) →
    ∃ t, exec (.holaelEventStart p id) s = .next t
      ∧ Tbl.find? t.hol.events b = some { HolEvent.at p start stop with wait := true }
      ∧ (t.peer p).polled = false ∧ (t.peer p).heard = false ∧ t.sentIs b (some p.val) 1 start
      ∧ (t.key (s1.linkSlot p k)).pn = (s.key (s1.linkSlot p k)).pn + 1)
  ∧ (∀ (id : Fin 65536) (b : Nat) (s : State), s.isLit 21 = true → s.bit A.hmacHolCtl F.hmacHolCtl_member_en = true →
    (s.memberState = 3 ∨ s.memberState = 4) → b < 3 → (s.linkBands parentNo).testBit b = true → s.hol.events = [] →
    let round := s.nextRound parentNo
    let start := s.eventStart parentNo
    start ≤ s.nowNs + s.linkNs parentNo →
    (∀ a ∈ s.hol.parent.absences, a.start ≤ round → round < a.start + a.rounds → a.bands.testBit b = false) →
    ∃ t, exec (.holaelEventStart 1024 id) s = .next t
      ∧ Tbl.find? t.hol.events b = some (HolEvent.at parentNo start (start + 125000 * s.linkWindow parentNo))
      ∧ t.linkEvent parentNo = (if round = (s.peer parentNo).first then 0 else (s.linkEvent parentNo + 1) % 2 ^ 32)
      ∧ t.nextRound parentNo = (round + s.linkInterval parentNo) % 2 ^ 48 ∧ t.keys = s.keys ∧ t.rad = s.rad)
  ∧ (∀ (r : Rad) (id : Fin 65536) (start d : Nat) (b : List Byte) (rest : List (Nat × List Byte × Nat)) (s : State), s.isLit 21 = true →
    s.hol.joinRsps = (d, b, start) :: rest → 40 + b.length ≤ 800 →
    let i := s.fld A.hmacHolRound F.hmacHolRound_anchor
    let slot := s.fld A.hmacHolKeys F.hmacHolKeys_join_slot
    bandOfIdx i = r.val → s.joinNeed i 5 (40 + b.length) (s.brim 0) ≤ s.untilBlank r start (s.joinStop start - start) →
    s.radLit r = true → s.holKeyReady slot →
    ∃ t, exec (.holaelFrameTx r id) s = .next t ∧ t.hol.joinRsps = rest ∧ t.sentIs r none 5 start
      ∧ (t.key slot).pn = (s.key slot).pn + 1 ∧ t.hol.peers = s.hol.peers
      ∧ t = { s with regs := t.regs, keys := t.keys, log := t.log, rad := t.rad, hmac := t.hmac })
  ∧ (∀ (r : Rad) (id : Fin 65536) (p : Fin 1025) (e : HolEvent) (t0 type : Nat) (body : List Byte) (ack : Bool) (s : State),
    s.isLit 21 = true → s.hol.joinRsps = [] → Tbl.find? s.hol.events r = some e → e.peer = p.val → e.last = some t0 → e.wait = false →
    (p.val = parentNo → e.owed.isSome = true) → (s.peer p).txq = [] → s.nextFrame r p e false = some (.plain type body ack) →
    s.needNs r p type (psduLen ack body.length) ≤ s.untilBlank r (t0 + 16000) (e.stop - (t0 + 16000)) →
    (s.linkChannel p r).isSome = true → s.linkHeld p (s.linkKeyId p) = false → s.holKeyReady (s.linkSlot p (s.linkKeyId p)) →
    ∃ t, exec (.holaelFrameTx r id) s = .next t ∧ t.sentIs r (some p.val) type (t0 + 16000)
      ∧ (t.key (s.linkSlot p (s.linkKeyId p))).pn = (s.key (s.linkSlot p (s.linkKeyId p))).pn + 1
      ∧ Tbl.find? t.hol.events r = some { e with owed := none, last := none, again := false, wait := immediate type }
      ∧ (∀ q, q ≠ p.val → t.peer q = s.peer q) ∧ t.hol.maps = s.hol.maps
      ∧ t = { s with regs := t.regs, keys := t.keys, log := t.log, rad := t.rad, hmac := t.hmac })
  ∧ (∀ (r : Rad) (id : Fin 65536) (p : Fin 1025) (e : HolEvent) (t0 : Nat) (m : HMsdu) (s : State),
    s.isLit 21 = true → s.hol.joinRsps = [] → Tbl.find? s.hol.events r = some e → e.peer = p.val → e.last = some t0 → e.wait = false →
    (p.val = parentNo → e.owed.isSome = true) → (s.peer p).txq = [m] → m.tries = 0 → m.on = none →
    s.nextFrame r p e false = some .data →
    let n := psduLen (e.owed == some 2) (msduSub m.sn m.frags true (m.payload.drop m.sent)).length
    n ≤ 131071 → s.linkAir r p 2 n ≤ 5484000 → s.needNs r p 2 n ≤ s.untilBlank r (t0 + 16000) (e.stop - (t0 + 16000)) →
    (s.linkChannel p r).isSome = true → s.linkHeld p (s.linkKeyId p) = false → s.holKeyReady (s.linkSlot p (s.linkKeyId p)) →
    ∃ t, exec (.holaelFrameTx r id) s = .next t ∧ t.sentIs r (some p.val) 2 (t0 + 16000)
      ∧ (t.key (s.linkSlot p (s.linkKeyId p))).pn = (s.key (s.linkSlot p (s.linkKeyId p))).pn + 1
      ∧ (t.peer p).txq = [{ m with on := some r.val }] ∧ (∀ q, q ≠ p.val → t.peer q = s.peer q) ∧ t.hol.maps = s.hol.maps
      ∧ t = { s with regs := t.regs, keys := t.keys, log := t.log, rad := t.rad, hmac := t.hmac })
  ∧ (∀ (r : Rad) (id : Fin 65536) (e : HolEvent) (s : State), s.hol.joinRsps = [] → Tbl.find? s.hol.events r = some e →
    e.peer = parentNo → e.owed = none → exec (.holaelFrameTx r id) s = .next s)
  ∧ (∀ (id : Fin 65536) (d : Fin 4096) (st : Fin 3) (why : Fin 4) (p : Fin 1024) (key : List Byte) (s : State),
    s.isLit 21 = true → s.bit A.hmacHolCtl F.hmacHolCtl_coord_en = true → s.bit A.hmacHolJoin F.hmacHolJoin_join_en = true → st.val ≠ 0 →
    46 + key.length ≤ 800 →
    let i := s.fld A.hmacHolRound F.hmacHolRound_anchor
    let slot := s.fld A.hmacHolKeys F.hmacHolKeys_join_slot
    let start := (nextAt s.nowNs s.roundNs (s.fld A.hmacHolJoin F.hmacHolJoin_join_offset * 125000)).2
    s.joinNeed i 5 (46 + key.length) (s.brim 0) ≤ s.untilBlank (bandOfIdx i) start (s.joinStop start - start) →
    s.radLit (bandOfIdx i) = true → s.holKeyReady slot →
    ∃ t, exec (.joinWindowOpen id (some (d, st, why, p, key))) s = .next t ∧ t.sentIs (bandOfIdx i) none 5 start
      ∧ (t.key slot).pn = (s.key slot).pn + 1 ∧ t.hol.maps = s.hol.maps
      ∧ t = { s with regs := t.regs, keys := t.keys, log := t.log, rad := t.rad, hmac := t.hmac })
  ∧ (∀ (id : Fin 65536) (d : Fin 4096) (why : Fin 4) (p : Fin 1024) (key : List Byte) (b : Fin 3) (s : State),
    s.isLit 21 = true → s.bit A.hmacHolCtl F.hmacHolCtl_coord_en = true → s.bit A.hmacHolJoin F.hmacHolJoin_join_en = true →
    s.hol.maps = [] → s.linkBands p = 2 ^ b.val →
    ∃ t, exec (.joinWindowOpen id (some (d, 0, why, p, key))) s = .next t
      ∧ (∀ kind < 2, ∃ m ∈ t.hol.maps, m.kind = kind ∧ m.mapId = 0 ∧ m.partner = p.val ∧ m.band = b.val ∧ m.streams = 1 ∧ m.rate = 0
          ∧ m.valid = true ∧ ∀ e ∈ m.entries, ∀ x ∈ e, x = 2))
  ∧ (∀ (id : Fin 65536) (s : State), exec (.joinWindowOpen id none) s = .next s)

/-- Reception of a Holael frame, its training values apart. The checks go in order, each counted: FCS and erased codewords, header,
district tag and receiver, CIP dark, authentication, replay; a POLL from the parent that passes all of them renews contact, its number
joins the replay record, and an answer is owed; nothing comes of a frame outside its window or for another partner of the parent,
of one without an accepted H-SIG, or of a PPDU that was lost. Log entries 47, 59, 64, 65: the model's reading. -/
def Obligations.HolaelFramesAreCheckedInOrder : Prop :=
  (∀ (r : Rad) (psdu : List Byte) (raw w p : Nat) (q : Rx) (win : RxWin) (s : State), s.isLit 21 = true → (s.rd r).ppdu = some q →
    q.hsig = some (w, win) → q.lost = none → psdu.length = hsigLength w →
    (if usesMap (hsigType w) = true then s.linkOf win w else some 0) = some p →
    s.heardAt r p (hsigType w) (s.rxStamp r win.width raw / 65536) = true →
    let s1 := s.psduTaken r q
    let type := hsigType w
    let n := psdu.length
    let join : Bool := type == 4 || type == 5
    let tx := leAt psdu 2 2
    let kid := if !join && type != 0 && (leAt psdu 0 1).testBit 5 then 1 else 0
    let fcs : Bool := q.erased.isEmpty && decide (4 ≤ n) && leAt psdu (n - 4) 4 == crc32 (psdu.take (n - 4))
    let hdr : Bool := decide (40 ≤ n) && decide (n ≤ (if join then 800 else if type = 2 then n else 2048)) && leAt psdu 0 1 % 16 == type
      && hdrZero psdu && (if join || type == 0 then !(leAt psdu 0 1).testBit 5 else leAt psdu 16 4 == s.linkEvent p)
    let mine : Bool := leAt psdu 6 2 == s.districtTag && (type == 0 || leAt psdu 4 2 == s.ownDevice)
    let slot := if type = 0 then s.fld A.hmacHolKeys F.hmacHolKeys_group_slot
      else if join = true then s.fld A.hmacHolKeys F.hmacHolKeys_join_slot else s.linkSlot p kid
    let rec_ := s.replayOf (seenKey type p kid tx) slot
    let opened := openHol (s.key slot).key psdu tx (leAt psdu 4 2) (leAt psdu 8 6) (type = 0)
    (fcs = false → ∃ t, exec (.holaelFrameRx r psdu [] raw) s = .next t ∧ t.reg A.hmacHolRxFcsErr = satInc (s.reg A.hmacHolRxFcsErr)
        ∧ RegsKept [A.hmacHolRxFcsErr] s t ∧ t = { s1 with regs := t.regs })
    ∧ (fcs = true → hdr = false → ∃ t, exec (.holaelFrameRx r psdu [] raw) s = .next t
        ∧ t.reg A.hmacHolRxHdrErr = satInc (s.reg A.hmacHolRxHdrErr) ∧ RegsKept [A.hmacHolRxHdrErr] s t ∧ t = { s1 with regs := t.regs })
    ∧ (fcs = true → hdr = true → mine = false → ∃ t, exec (.holaelFrameRx r psdu [] raw) s = .next t
        ∧ t.reg A.hmacHolRxForeign = satInc (s.reg A.hmacHolRxForeign) ∧ RegsKept [A.hmacHolRxForeign] s t ∧ t = { s1 with regs := t.regs })
    ∧ (fcs = true → hdr = true → mine = true → s.serves type p tx = false → exec (.holaelFrameRx r psdu [] raw) s = .next s1)
    ∧ (fcs = true → hdr = true → mine = true → s.serves type p tx = true → s.isLit 10 = false →
        ∃ t, exec (.holaelFrameRx r psdu [] raw) s = .next t ∧ t.reg (A.aonDarkLoss 10) = satInc (s.reg (A.aonDarkLoss 10))
          ∧ RegsKept [A.aonDarkLoss 10] s t ∧ t = { s1 with regs := t.regs })
    ∧ (fcs = true → hdr = true → mine = true → s.serves type p tx = true → s.isLit 10 = true → (s.key slot).cls = 0 →
        (s.key slot).key.length = 32 → opened = none →
        ∃ t, exec (.holaelFrameRx r psdu [] raw) s = .next t ∧ t.reg A.hmacHolRxAuthFail = satInc (s.reg A.hmacHolRxAuthFail)
          ∧ t.reg A.cipAuthFail = satInc (s.reg A.cipAuthFail) ∧ RegsKept [A.hmacHolRxAuthFail, A.cipAuthFail] s t
          ∧ t = { s1 with regs := t.regs })
    ∧ (fcs = true → hdr = true → mine = true → s.serves type p tx = true → s.isLit 10 = true → (s.key slot).cls = 0 →
        (s.key slot).key.length = 32 → opened.isSome = true → rec_.ok (leAt psdu 8 6) = false →
        ∃ t, exec (.holaelFrameRx r psdu [] raw) s = .next t ∧ t.reg A.hmacHolRxReplay = satInc (s.reg A.hmacHolRxReplay)
          ∧ RegsKept [A.hmacHolRxReplay] s t ∧ t = { s1 with regs := t.regs })
    ∧ (fcs = true → hdr = true → mine = true → s.serves type p tx = true → s.isLit 10 = true → (s.key slot).cls = 0 →
        (s.key slot).key.length = 32 → opened = some [] → rec_.ok (leAt psdu 8 6) = true → type = 1 → (leAt psdu 0 1).testBit 7 = false →
        p = parentNo →
        ∃ t, exec (.holaelFrameRx r psdu [] raw) s = .next t ∧ (t.peer p).lastRx = s.elapsed ∧ (t.peer p).heard = true
          ∧ (t.peer p).txq = (s.peer p).txq ∧ (∀ m, m ≠ p → t.peer m = s.peer m)
          ∧ (Tbl.find? t.hol.events r).map (fun e => (e.owed, e.more, e.wait, e.begun)) = some (some 1, hsigMore w, false, true)
          ∧ t.replayOf (seenKey type p kid tx) slot = rec_.accept (leAt psdu 8 6)
          ∧ t.keys = s.keys ∧ t.reg A.hmacHolRxHdrErr = s.reg A.hmacHolRxHdrErr ∧ t.memberState = s.memberState))
  ∧ (∀ (r : Rad) (psdu : List Byte) (train : List ToneRx) (raw w : Nat) (q : Rx) (win : RxWin) (s : State), s.isLit 21 = true →
    (s.rd r).ppdu = some q → q.hsig = some (w, win) → q.lost = none → psdu.length = hsigLength w → usesMap (hsigType w) = true →
    (s.linkOf win w = none → exec (.holaelFrameRx r psdu train raw) s = .next (s.psduTaken r q))
    ∧ (∀ p, s.linkOf win w = some p → s.heardAt r p (hsigType w) (s.rxStamp r win.width raw / 65536) = false →
        exec (.holaelFrameRx r psdu train raw) s = .next (s.psduTaken r q)))
  ∧ (∀ (r : Rad) (psdu : List Byte) (train : List ToneRx) (raw : Nat) (s : State),
    ((s.rd r).ppdu = none ∨ ∃ q, (s.rd r).ppdu = some q ∧ (q.hsig = none ∨ q.lost.isSome = true)) →
    exec (.holaelFrameRx r psdu train raw) s = .next s)

/-! ### The WLAN service -/

/-- Stations and reception. An entry takes its address and association ID while FREE and its state 1 to 3 always; FREE discards what is
queued. A data frame of an AUTHORIZED entry marks its contact and goes on after its checks, and one that fails a check is counted; a
frame from no entry is passed up once a second, and management frames within their rate; the eighth PPDU of the own colour within a
second is reported; an MSDU held for more than 50 ms is released, and none sooner; an acknowledgement settles its exchange, retry limit
and counts with it; a CTS opens the exchange that an MU-RTS asked for; a silent user of a trigger is counted; a service period opens or closes its entry; nothing comes of a frame whose
PPDU was lost or whose codewords were erased. Log entries 47, 72, 73, 74: the model's reading. -/
def Obligations.StationsReceiveReorderAndAcknowledge : Prop :=
  (∀ (who : Requester) (n : Fin 1536) (w : Word) (s : State), s.isLit 21 = true → isAnyCore who = true →
    let st := F.hmacWlanStationW1_state.get w
    1 ≤ st → st ≤ 3 →
    ∃ t, exec (.stationStateWrite who n w) s = .next t ∧ t.sta n = st
      ∧ t.fld (A.hmacWlanStationW1 n) F.hmacWlanStationW1_aid
          = (if s.sta n = 0 then F.hmacWlanStationW1_aid.get w else s.fld (A.hmacWlanStationW1 n) F.hmacWlanStationW1_aid)
      ∧ t.fld (A.hmacWlanStationW1 n) F.hmacWlanStationW1_mac_hi
          = (if s.sta n = 0 then F.hmacWlanStationW1_mac_hi.get w else s.fld (A.hmacWlanStationW1 n) F.hmacWlanStationW1_mac_hi)
      ∧ RegsKept (A.hmacWlanStationW1 n :: s.staQueueRegs n) s t ∧ t = { s with regs := t.regs, sch := t.sch, bus := ⟨false, 0, []⟩ })
  ∧ (∀ (who : Requester) (n : Fin 1536) (w : Word) (s : State), s.isLit 21 = true → isAnyCore who = true →
    F.hmacWlanStationW1_state.get w = 0 → s.sta n ≠ 0 → s.bit (A.hmacWlanStationW2 n) F.hmacWlanStationW2_mld = false →
    ∃ t, exec (.stationStateWrite who n w) s = .next t ∧ t.sta n = 0
      ∧ t.bit (A.hmacWlanStationW2 n) F.hmacWlanStationW2_ps = false ∧ (t.wp n).txq = [] ∧ (t.wp n).baRx = [] ∧ (t.wp n).held = []
      ∧ (t.wp n).replay = (s.wp n).replay
      ∧ (t.reg (A.hmacWlanTxRetryDrop (entryRadio n))).toNat
          = min 0xFFFFFFFF ((s.reg (A.hmacWlanTxRetryDrop (entryRadio n))).toNat + (s.wp n).txq.length)
      ∧ t.lk n = StaLink.init ∧ (∀ m, m ≠ n.val → t.lk m = s.lk m)
      ∧ RegsKept [A.hmacWlanStationW1 n, A.hmacWlanStationW2 n, A.hmacWlanTxRetryDrop (entryRadio n)] s t
      ∧ t = { s with regs := t.regs, bus := ⟨false, 0, []⟩, hmac := { s.hmac with wpeers := t.hmac.wpeers, links := t.hmac.links } })
  ∧ (∀ (who : Requester) (n : Fin 1536) (w : Word) (s : State), s.isLit 21 = true → isAnyCore who = false →
    exec (.stationStateWrite who n w) s = .next (s.busOk 0))
  ∧ (∀ (n : Fin 1536) (tid : Fin 8) (h : WHeld) (s : State), (s.wp n).held = [h] → h.tid = tid.val → s.elapsed ≤ h.since + 50000000 →
    exec (.wlanReorderTimeout n tid) s = .next s)
  ∧ (∀ (n : Fin 1536) (tid : Fin 8) (h : WHeld) (s : State), (s.wp n).held = [h] → h.tid = tid.val → h.since + 50000000 < s.elapsed →
    snSub h.sn (Tbl.get (fun _ => 0) (s.wp n).baRx tid) < 2047 →
    ((Tbl.get (fun _ => []) s.rxFifo (16 + entryRadio n)).foldl (fun a f => a + f.bytes.length) 0) + h.bytes.length ≤ 524288 →
    ∃ t, exec (.wlanReorderTimeout n tid) s = .next t ∧ (t.wp n).held = []
      ∧ Tbl.get (fun _ => 0) (t.wp n).baRx tid = (h.sn + 1) % 4096
      ∧ Tbl.get (fun _ => []) t.rxFifo (16 + entryRadio n)
          = Tbl.get (fun _ => []) s.rxFifo (16 + entryRadio n) ++ [⟨h.bytes, n, true, h.stamp⟩]
      ∧ t = { s with rxFifo := t.rxFifo, hmac := { s.hmac with wpeers := t.hmac.wpeers } })
  ∧ (∀ (n : Fin 1536) (b : Bool) (s : State), s.isLit 21 = true → s.sta n ≠ 0 →
    ∃ t, exec (.twtServicePeriod n b) s = .next t ∧ t.lk n = { s.lk n with inSp := b } ∧ (∀ m, m ≠ n.val → t.lk m = s.lk m)
      ∧ RegsKept (s.staQueueRegs n) s t
      ∧ t = { s with regs := t.regs, sch := t.sch, hmac := { s.hmac with links := t.hmac.links } })
  ∧ (∀ (r : Rad) (f : WlanRx) (n : Nat) (s : State), s.isLit 21 = true → s.radLit r = true →
    s.bit (A.hmacWlanCtl r) F.hmacWlanCtl_enable = true → (s.rd r).ppdu.any (·.fails f.cws) = false →
    s.entryOf r f.ta = some n → s.sta n = 3 → f.kind = .data → f.response = none → f.colour = none → f.frag.val = 0 →
    f.moreFrag = false → f.agreement = false → Tbl.find? (s.wp n).baRx f.tid = none → Tbl.find? (s.wp n).board f.tid = none →
    ((Tbl.get (fun _ => []) s.rxFifo (16 + r)).foldl (fun a f => a + f.bytes.length) 0) + f.bytes.length ≤ 524288 →
    let slot := s.staSlot n f.keyId
    let rep := Tbl.get (fun _ => (0, 0)) (s.wp n).replay (16 * f.keyId.val + f.tid.val)
    let heard (t : State) : Bool := (s.linksOf n).all (fun k => t.reg (A.hmacWlanStationW5 k) == BitVec.ofNat 32 s.count32)
      && t.fld (A.hmacWlanStationW2 n) F.hmacWlanStationW2_ps == (if f.pm then 1 else 0) && (t.lk n).missed == 0
    let taken (t : State) : Bool := heard t && t.reg (A.hmacWlanRxMpdu r) == satInc (s.reg (A.hmacWlanRxMpdu r))
      && Tbl.get (fun _ => []) t.rxFifo (16 + r) == Tbl.get (fun _ => []) s.rxFifo (16 + r) ++ [⟨f.bytes, n, true, s.rxStamp r f.width f.raw⟩]
    (f.isProtected = false → s.bit (A.hmacWlanStationW3 n) F.hmacWlanStationW3_protect_en = false →
        ∃ t, exec (.wlanFrameRx r f) s = .next t ∧ taken t = true ∧ t.hmac.wpeers = s.hmac.wpeers)
    ∧ (f.isProtected = false → s.bit (A.hmacWlanStationW3 n) F.hmacWlanStationW3_protect_en = true →
        ∃ t, exec (.wlanFrameRx r f) s = .next t ∧ heard t = true ∧ t.reg (A.hmacWlanRxUnprot r) = satInc (s.reg (A.hmacWlanRxUnprot r))
          ∧ t.rxFifo = s.rxFifo)
    ∧ (f.isProtected = true → s.isLit 10 = true → (s.key slot).cls = 0 → (s.key slot).key.length = s.staKeyLen n →
        (f.authentic = false → ∃ t, exec (.wlanFrameRx r f) s = .next t ∧ heard t = true ∧ t.rxFifo = s.rxFifo
            ∧ t.reg (A.hmacWlanRxDecryptFail r) = satInc (s.reg (A.hmacWlanRxDecryptFail r))
            ∧ t.reg A.cipAuthFail = satInc (s.reg A.cipAuthFail))
        ∧ (f.authentic = true → rep.1 = (s.key slot).gen → f.pn ≤ rep.2 → ∃ t, exec (.wlanFrameRx r f) s = .next t ∧ heard t = true
            ∧ t.rxFifo = s.rxFifo ∧ t.reg (A.hmacWlanRxReplay r) = satInc (s.reg (A.hmacWlanRxReplay r)))
        ∧ (f.authentic = true → (rep.1 ≠ (s.key slot).gen ∨ rep.2 < f.pn) → ∃ t, exec (.wlanFrameRx r f) s = .next t ∧ taken t = true
            ∧ Tbl.find? (t.wp n).replay (16 * f.keyId.val + f.tid.val) = some ((s.key slot).gen, f.pn))))
  ∧ (∀ (r : Rad) (f : WlanRx) (s : State), s.isLit 21 = true → s.radLit r = true →
    s.bit (A.hmacWlanCtl r) F.hmacWlanCtl_enable = true → (s.rd r).ppdu.any (·.fails f.cws) = false →
    s.entryOf r f.ta = none → f.kind = .data → f.response = none → f.colour = none → (s.wr r).sec = s.nowSec →
    ((s.wr r).unknown.contains f.ta = true →
      ∃ t, exec (.wlanFrameRx r f) s = .next t ∧ t.reg (A.hmacWlanRxUnknownTa r) = satInc (s.reg (A.hmacWlanRxUnknownTa r))
        ∧ RegsKept [A.hmacWlanRxUnknownTa r] s t ∧ t = { s with regs := t.regs })
    ∧ ((s.wr r).unknown.contains f.ta = false → (s.wr r).mgmtCount < s.fld (A.hmacWlanCtl r) F.hmacWlanCtl_mgmt_rate →
        s.mgmtRoom r f.bytes.length = true →
      ∃ t, exec (.wlanFrameRx r f) s = .next t ∧ t.reg (A.hmacWlanRxUnknownTa r) = satInc (s.reg (A.hmacWlanRxUnknownTa r))
        ∧ t.wr r = { s.wr r with unknown := (s.wr r).unknown ++ [f.ta], mgmtCount := (s.wr r).mgmtCount + 1,
                                 mgmtRx := (s.wr r).mgmtRx ++ [(f.bytes, s.rxStamp r f.width f.raw)] }
        ∧ RegsKept [A.hmacWlanRxUnknownTa r] s t
        ∧ t = { s with regs := t.regs, hmac := { s.hmac with wrad := t.hmac.wrad } }))
  ∧ (∀ (r : Rad) (f : WlanRx) (s : State), s.isLit 21 = true → s.radLit r = true →
    s.bit (A.hmacWlanCtl r) F.hmacWlanCtl_enable = true → (s.rd r).ppdu.any (·.fails f.cws) = false →
    s.entryOf r f.ta = none → f.kind = .mgmt → f.response = none → f.colour = none → (s.wr r).sec = s.nowSec →
    s.fld (A.hmacWlanCtl r) F.hmacWlanCtl_mgmt_rate ≤ (s.wr r).mgmtCount →
    ∃ t, exec (.wlanFrameRx r f) s = .next t ∧ t.reg (A.hmacWlanMgmtRateDrop r) = satInc (s.reg (A.hmacWlanMgmtRateDrop r))
      ∧ RegsKept [A.hmacWlanMgmtRateDrop r] s t ∧ t = { s with regs := t.regs })
  ∧ (∀ (r : Rad) (f : WlanRx) (c : Nat) (s : State), s.isLit 21 = true → s.radLit r = true →
    s.bit (A.hmacWlanCtl r) F.hmacWlanCtl_enable = true → (s.rd r).ppdu.any (·.fails f.cws) = false →
    s.entryOf r f.ta = none → f.kind = .qosNull → f.response = none → c ≠ 0 → f.colour = some c → (s.wr r).colourNow = c →
    ((s.wr r).colour.filter (fun t => s.elapsed ≤ t + nsPerSec)).length = 7 →
    ∃ t, exec (.wlanFrameRx r f) s = .next t ∧ t.hmac.notices = s.hmac.notices ++ [(r.val, 1, c)] ∧ t.wr r = { s.wr r with colour := [] }
      ∧ t = { s with hmac := { s.hmac with notices := t.hmac.notices, wrad := t.hmac.wrad } })
  ∧ (∀ (r : Rad) (f : WlanRx) (sns : List Nat) (e : WExch) (n : Fin 1536) (m : WMpdu) (s : State), s.isLit 21 = true → s.radLit r = true →
    s.bit (A.hmacWlanCtl r) F.hmacWlanCtl_enable = true → (s.rd r).ppdu.any (·.fails f.cws) = false → f.kind = .ack sns → f.response = none → f.colour = none →
    (s.wr r).exch = some e → (s.wr r).multi = [] → e.entry = some n.val → e.mgmt = none → e.frag = none → (s.wp n).txq = [m] → m.tid = e.tid →
    m.sn ∈ e.sns → m.wantStatus = false →
    ∃ t, exec (.wlanFrameRx r f) s = .next t ∧ (t.wr r).exch = none
      ∧ (m.sn ∈ sns → (t.wp n).txq = [] ∧ t.reg (A.hmacWlanTxMpdu r) = satInc (s.reg (A.hmacWlanTxMpdu r)))
      ∧ (m.sn ∉ sns → m.tries ≤ retryLimit m.tid → (t.wp n).txq = [m]
          ∧ t.reg (A.hmacWlanTxMpdu r) = s.reg (A.hmacWlanTxMpdu r) ∧ t.reg (A.hmacWlanTxRetryDrop r) = s.reg (A.hmacWlanTxRetryDrop r))
      ∧ (m.sn ∉ sns → retryLimit m.tid < m.tries → (t.wp n).txq = []
          ∧ t.reg (A.hmacWlanTxRetryDrop r) = satInc (s.reg (A.hmacWlanTxRetryDrop r))))
  ∧ (∀ (r : Rad) (f : WlanRx) (n d : Nat) (cts : Bool) (s : State), s.isLit 21 = true → s.radLit r = true →
    s.bit (A.hmacWlanCtl r) F.hmacWlanCtl_enable = true → (s.rd r).ppdu.any (·.fails f.cws) = false → f.kind = .cts → f.response = none →
    f.colour = none → s.entryOf r f.ta = some n → (s.wr r).icf = some (n, cts, d) →
    ∃ t, exec (.wlanFrameRx r f) s = .next t ∧ (t.wr r).icf = some (n, true, d) ∧ t.keys = s.keys ∧ t.rad = s.rad)
  ∧ (∀ (r : Rad) (f : WlanRx) (n : Fin 1536) (s : State), s.isLit 21 = true → s.radLit r = true →
    s.bit (A.hmacWlanCtl r) F.hmacWlanCtl_enable = true → (s.rd r).ppdu.any (·.fails f.cws) = false →
    s.entryOf r f.ta = none → f.kind = .tbEnd → f.response = none → f.colour = none → (s.wr r).trigWait = [n.val] →
    ∃ t, exec (.wlanFrameRx r f) s = .next t ∧ t.reg (A.hmacWlanTbNoResponse r) = satInc (s.reg (A.hmacWlanTbNoResponse r))
      ∧ t.lk n = { s.lk n with missed := (s.lk n).missed + 1 } ∧ t.wr r = { s.wr r with trigWait := [], tb := none }
      ∧ RegsKept [A.hmacWlanTbNoResponse r] s t
      ∧ t = { s with regs := t.regs, hmac := { s.hmac with wrad := t.hmac.wrad, links := t.hmac.links } })
  ∧ (∀ (r : Rad) (f : WlanRx) (q : Rx) (s : State), (s.rd r).ppdu = some q → q.lost.isSome = true →
    exec (.wlanFrameRx r f) s = .next s)
  ∧ (∀ (r : Rad) (f : WlanRx) (q : Rx) (k : Nat) (s : State), s.isLit 21 = true → s.radLit r = true →
    s.bit (A.hmacWlanCtl r) F.hmacWlanCtl_enable = true → (s.rd r).ppdu = some q → q.lost = none → k ∈ q.erased →
    f.cws = some (k, k) → exec (.wlanFrameRx r f) s = .next (s.setRd r { s.rd r with loss := some .decDeadline }))
  ∧ (∀ (r : Rad) (f : WlanRx) (s : State), s.bit (A.hmacWlanCtl r) F.hmacWlanCtl_enable = false → exec (.wlanFrameRx r f) s = .next s)

/-- Transmission. An MPDU that fits is issued, protected where its entry says so, alone or as the part of one user in a multi-user PPDU;
one that does not fit is deferred and counted; exhausted packet numbers are refused and the traffic held; an EMLSR client's exchange
opens with an MU-RTS, and its data go once the CTS has come; a management frame with its sequence number, a probe response, a
disassociation and a released group frame are issued in their turn; the lowest enabled BSSID beacons, with its TIM, and
advertises steering; a CTS-to-self,
once before a Holael window, ends 10 µs before it or is counted late; a stale client is sounded; triggers keep their spacing and name
only chosen stations; a steering run starts once, a limit of 0 ending it by disassociation, and at the switch time its link is off, or on
again where withdrawn. Log entries 67, 72, 75, 76, 77: the model's reading. -/
def Obligations.WlanTransmissionsFitTheirWindows : Prop :=
  (∀ (r : Rad) (a : WAir) (n : Fin 1536) (tid : Fin 8) (x fb fns : Nat) (agr : Bool) (m : WMpdu) (s : State), s.wlanMay r = true →
    (s.wr r).exch = none → (s.wr r).multi = [] → (s.wr r).icf = none → s.dataMay r n = true → s.bit (A.hmacWlanStationW2 n) F.hmacWlanStationW2_emlsr = false →
    s.wlanFmt r a.tx = true → s.staTakes n a.tx a.tx.streams = true → (s.wp n).txq = [m] → m.tid = tid.val →
    m.bytes ≠ [] → x + 16000 + a.response ≤ s.wlanRoom r a → s.ahead a.earliest a.deadline →
    let prot := s.bit (A.hmacWlanStationW3 n) F.hmacWlanStationW3_protect_en
    let slot := s.staSlot n (s.fld (A.hmacWlanStationW3 n) F.hmacWlanStationW3_tx_key_id)
    (prot = true → s.isLit 10 = true ∧ (s.key slot).cls = 0 ∧ (s.key slot).key.length = s.staKeyLen n
      ∧ ((s.key slot).use = 0 ∨ (s.key slot).use = 3) ∧ (s.key slot).pn < 2 ^ 48 - 1) →
    ∃ t, exec (.wlanTxOpportunity r a (.data n tid [x] agr fb fns)) s = .next t
      ∧ (t.wr r).exch = some ⟨a.frameId, some n.val, tid, [m.sn], none, none, 0⟩ ∧ (t.wp n).txq = [m]
      ∧ (t.rd r).slot = some (s.slotFor r (s.wlanCmd r a (dataClass tid) m.bytes.length x (if prot then some slot else none) true))
      ∧ t.key slot = (if prot then { s.key slot with use := 3, pn := (s.key slot).pn + 1, warned := (t.key slot).warned } else s.key slot)
      ∧ (prot = false → t.keys = s.keys))
  ∧ (∀ (r : Rad) (a : WAir) (n : Fin 1536) (tid : Fin 8) (x fb fns : Nat) (agr : Bool) (m : WMpdu) (s : State), s.wlanMay r = true →
    (s.wr r).exch = none → (s.wr r).multi = [] → (s.wr r).icf = none → s.dataMay r n = true → s.bit (A.hmacWlanStationW2 n) F.hmacWlanStationW2_emlsr = false →
    s.wlanFmt r a.tx = true → s.staTakes n a.tx a.tx.streams = true → (s.wp n).txq = [m] → m.tid = tid.val →
    s.wlanRoom r a < x + 16000 + a.response → s.bit (A.hmacWlanStationW2 n) F.hmacWlanStationW2_frag_en = false →
    ∃ t, exec (.wlanTxOpportunity r a (.data n tid [x] agr fb fns)) s = .next t
      ∧ t.reg (A.hmacWlanTxWindowShort r) = satInc (s.reg (A.hmacWlanTxWindowShort r))
      ∧ (t.wr r).status = (if m.wantStatus = true ∧ s.mgmtRoom r 16 = true then
          (s.wr r).status ++ [⟨m.frameId, n, ST.windowShort, min 16 m.tries, false, false, r, 0⟩] else (s.wr r).status)
      ∧ (t.wr r).exch = none ∧ t = { s with regs := t.regs, hmac := { s.hmac with wrad := t.hmac.wrad } })
  ∧ (∀ (r : Rad) (a : WAir) (n : Fin 1536) (tid : Fin 8) (x fb fns : Nat) (agr : Bool) (m : WMpdu) (s : State), s.wlanMay r = true →
    (s.wr r).exch = none → (s.wr r).multi = [] → (s.wr r).icf = none → s.dataMay r n = true → s.bit (A.hmacWlanStationW2 n) F.hmacWlanStationW2_emlsr = false →
    s.wlanFmt r a.tx = true → s.staTakes n a.tx a.tx.streams = true → (s.wp n).txq = [m] → m.tid = tid.val →
    x + 16000 + a.response ≤ s.wlanRoom r a → s.bit (A.hmacWlanStationW3 n) F.hmacWlanStationW3_protect_en = true →
    let slot := s.staSlot n (s.fld (A.hmacWlanStationW3 n) F.hmacWlanStationW3_tx_key_id)
    s.isLit 10 = true → (s.key slot).cls = 0 → (s.key slot).key.length = s.staKeyLen n → ((s.key slot).use = 0 ∨ (s.key slot).use = 3) →
    2 ^ 48 - 1 ≤ (s.key slot).pn →
    ∃ t, exec (.wlanTxOpportunity r a (.data n tid [x] agr fb fns)) s = .next t
      ∧ t.reg (A.hmacWlanTxPnExhausted r) = satInc (s.reg (A.hmacWlanTxPnExhausted r))
      ∧ t.reg A.cipPnExhausted = satInc (s.reg A.cipPnExhausted) ∧ (t.wp n).keyHeld = some (slot, (s.key slot).gen)
      ∧ (t.key slot).pn = (s.key slot).pn ∧ (t.wr r).exch = none ∧ t.rad = s.rad)
  ∧ (∀ (r : Rad) (a : WAir) (u : MuUser) (x : Nat) (m : WMpdu) (s : State), s.wlanMay r = true → (s.wr r).exch = none →
    (s.wr r).multi = [] → (s.wr r).icf = none → s.wlanFmt r a.tx = true → muOk r (ones (s.txChains r)) a.tx [u] = true → s.dataMay r u.entry = true →
    s.bit (A.hmacWlanStationW2 u.entry) F.hmacWlanStationW2_emlsr = false → s.staTakes u.entry a.tx u.streams = true →
    s.bit (A.hmacWlanStationW3 u.entry) F.hmacWlanStationW3_protect_en = false → (s.wp u.entry).txq = [m] → m.tid = u.tid.val →
    m.bytes ≠ [] → u.airs = [x] → x + 16000 + a.response ≤ s.wlanRoom r a → s.ahead a.earliest a.deadline →
    ∃ t, exec (.wlanTxOpportunity r a (.multi [u])) s = .next t
      ∧ (t.wr r).multi = [⟨a.frameId, some u.entry.val, u.tid, [m.sn], none, none, 0⟩] ∧ (t.wr r).exch = none
      ∧ (t.rd r).slot = some (s.slotFor r (s.wlanCmd r a (dataClass u.tid) m.bytes.length x none true)) ∧ t.keys = s.keys)
  ∧ (∀ (r : Rad) (a : WAir) (n : Fin 1536) (tid : Fin 8) (airs : List Nat) (fb fns : Nat) (agr : Bool) (m : WMpdu) (s : State),
    s.wlanMay r = true → (s.wr r).exch = none → (s.wr r).multi = [] → (s.wr r).icf = none → s.dataMay r n = true →
    s.bit (A.hmacWlanStationW2 n) F.hmacWlanStationW2_emlsr = true → (s.wp n).txq = [m] → m.tid = tid.val →
    let a' := { a with tx := { a.tx with fmt := .nonHt, mcs := 0, streams := 1 } }
    s.wlanFmt r a'.tx = true → a.len ≠ 0 → a.airNs + 16000 + a.response ≤ s.wlanRoom r a → s.ahead a.earliest a.deadline →
    ∃ t, exec (.wlanTxOpportunity r a (.data n tid airs agr fb fns)) s = .next t
      ∧ t.wr r = { s.wr r with icf := some (n.val, false, a.transition) } ∧ t.hmac.wpeers = s.hmac.wpeers
      ∧ (t.rd r).slot = some (s.slotFor r (s.wlanCmd r a' (dataClass tid) a.len a.airNs none true)) ∧ t.keys = s.keys)
  ∧ (∀ (r : Rad) (a : WAir) (n : Fin 1536) (tid : Fin 8) (x fb fns d : Nat) (agr : Bool) (m : WMpdu) (s : State), s.wlanMay r = true →
    (s.wr r).exch = none → (s.wr r).multi = [] → (s.wr r).icf = some (n.val, true, d) → s.dataMay r n = true →
    s.bit (A.hmacWlanStationW3 n) F.hmacWlanStationW3_protect_en = false → s.wlanFmt r a.tx = true →
    s.staTakes n a.tx a.tx.streams = true → (s.wp n).txq = [m] → m.tid = tid.val →
    m.bytes ≠ [] → x + 16000 + a.response ≤ s.wlanRoom r a → s.ahead a.earliest a.deadline →
    ∃ t, exec (.wlanTxOpportunity r a (.data n tid [x] agr fb fns)) s = .next t
      ∧ t.wr r = { s.wr r with exch := some ⟨a.frameId, some n.val, tid, [m.sn], none, none, 0⟩ }
      ∧ (t.rd r).slot = some (s.slotFor r (s.wlanCmd r a (dataClass tid) m.bytes.length x none true)))
  ∧ (∀ (r : Rad) (a : WAir) (m : WMgmt) (rest : List WMgmt) (s : State), s.wlanMay r = true → (s.wr r).exch = none →
    (s.wr r).multi = [] → (s.wr r).icf = none → s.wlanFmt r a.tx = true → (s.wr r).mgmtTx = m :: rest → m.robust = false → m.bytes ≠ [] →
    a.airNs + 16000 + a.response ≤ s.wlanRoom r a → s.ahead a.earliest a.deadline →
    let sn := (match m.station with | some n => Tbl.get (fun _ => 0) (s.wp n).nextSn 8 | none => (s.wr r).mgmtSn)
    ∃ t, exec (.wlanTxOpportunity r a .mgmt) s = .next t ∧ (t.wr r).mgmtTx = rest
      ∧ (t.wr r).exch = some ⟨a.frameId, m.station, 8, [], some (if m.tries ≠ 0 ∨ m.bytes.length < 24 then m
          else { m with bytes := m.bytes.take 22 ++ toLE 2 (16 * sn) ++ m.bytes.drop 24 }), none, 0⟩
      ∧ (t.rd r).slot = some (s.slotFor r (s.wlanCmd r a 7 m.bytes.length a.airNs none m.station.isSome)) ∧ t.keys = s.keys)
  ∧ (∀ (r : Rad) (a : WAir) (p : Nat) (rest : List Nat) (s : State), s.wlanMay r = true → (s.wr r).exch = none → (s.wr r).multi = [] → (s.wr r).icf = none →
    s.wlanFmt r a.tx = true → (s.wr r).probes = p :: rest → a.len ≠ 0 → a.airNs + 16000 + a.response ≤ s.wlanRoom r a →
    s.ahead a.earliest a.deadline →
    ∃ t, exec (.wlanTxOpportunity r a .probe) s = .next t ∧ t.wr r = { s.wr r with probes := rest }
      ∧ (t.rd r).slot = some (s.slotFor r (s.wlanCmd r a 7 a.len a.airNs none true)) ∧ t.keys = s.keys)
  ∧ (∀ (r : Rad) (a : WAir) (d : Nat × Nat) (rest : List (Nat × Nat)) (s : State), s.wlanMay r = true → (s.wr r).exch = none →
    (s.wr r).multi = [] → (s.wr r).icf = none → s.wlanFmt r a.tx = true → (s.wr r).disassoc = d :: rest → a.len ≠ 0 →
    a.airNs + 16000 + a.response ≤ s.wlanRoom r a → s.ahead a.earliest a.deadline →
    ∃ t, exec (.wlanTxOpportunity r a .disassoc) s = .next t ∧ t.wr r = { s.wr r with disassoc := rest }
      ∧ (t.rd r).slot = some (s.slotFor r (s.wlanCmd r a 7 a.len a.airNs none true)) ∧ t.keys = s.keys)
  ∧ (∀ (r : Rad) (a : WAir) (b : Nat) (bytes : List Byte) (rest : List (Nat × List Byte)) (s : State), s.wlanMay r = true →
    (s.wr r).exch = none → (s.wr r).multi = [] → (s.wr r).icf = none → s.wlanFmt r a.tx = true → (s.wr r).group = (b, bytes) :: rest → bytes ≠ [] →
    (s.wr r).groupReady ≠ 0 → a.airNs + 16000 ≤ s.wlanRoom r a →
    s.ahead a.earliest a.deadline → (s.key (s.fld (A.hmacWlanBssGkey r b) F.hmacWlanBssGkey_gtk_slot)).cls ≠ 0 →
    s.groupHeld r (s.fld (A.hmacWlanBssGkey r b) F.hmacWlanBssGkey_gtk_slot) = false →
    ∃ t, exec (.wlanTxOpportunity r a .group) s = .next t
      ∧ t.wr r = { s.wr r with group := rest, groupReady := (s.wr r).groupReady - 1 }
      ∧ (t.rd r).slot = some (s.slotFor r (s.wlanCmd r a 7 bytes.length a.airNs none false)) ∧ t.keys = s.keys)
  ∧ (∀ (r : Rad) (a : WAir) (v : WServe) (s : State), s.wlanMay r = false → exec (.wlanTxOpportunity r a v) s = .next s)
  ∧ (∀ (r : Rad) (a : WAir) (b : Fin 16) (s : State), s.wlanMay r = true → s.bssUp r b = true → (∀ k < b.val, s.bssUp r k = false) →
    txFmtOk r a.tx = true → a.airNs + 16000 ≤ s.wlanRoom r a → a.len ≠ 0 → s.ahead a.earliest a.deadline →
    (s.key (s.fld (A.hmacWlanBssMkey r b) F.hmacWlanBssMkey_bigtk_slot)).cls ≠ 0 →
    s.groupHeld r (s.fld (A.hmacWlanBssMkey r b) F.hmacWlanBssMkey_bigtk_slot) = false →
    let c := A.hmacWlanBssCfg r b
    ∃ t, exec (.beaconTx r a) s = .next t ∧ (t.rd r).slot = some (s.slotFor r (s.wlanCmd r a 6 a.len a.airNs none false))
      ∧ (t.wr r).beacons = (s.wr r).beacons + 1 ∧ (t.wr r).chan = some (a.centre, a.tx.width)
      ∧ (t.wr r).colourNow = s.fld (A.hmacWlanCtl r) F.hmacWlanCtl_bss_color ∧ (t.wr r).tim = s.timOf r
      ∧ (t.wr r).groupReady = (if ((s.wr r).beacons + 1) % max 1 (s.fld c F.hmacWlanBssCfg_dtim_period) = 0 then (s.wr r).group.length
          else (s.wr r).groupReady)
      ∧ (∀ k < 3, (s.wr k).steerEnd.isSome = true → (s.wr k).linkOff = false → (s.wr k).withdraw = false → (s.wr k).switchAt = none →
          s.sameMld r k = true → (t.wr k).switchAt = some (s.nowNs + 3 * (1024000 * s.fld c F.hmacWlanBssCfg_beacon_int))))
  ∧ (∀ (r : Rad) (a : WAir) (s : State), (∀ b < 16, s.bssUp r b = false) → exec (.beaconTx r a) s = .next s)
  ∧ (∀ (r : Rad) (a : WAir) (start stop t0 : Nat) (s : State), s.isLit 21 = true → s.radLit r = true →
    s.bit (A.hmacWlanCtl r) F.hmacWlanCtl_enable = true → s.bit (A.hmacWlanProtect r) F.hmacWlanProtect_protect_en = true →
    s.nextWindow r = some (start, stop) → start ≤ s.nowNs + s.protectLead r → (s.wr r).shielded ≠ start →
    let air := 28000 + sigExtNs r .nonHt
    let cts := s.wlanCmd r { a with tx := { a.tx with fmt := .nonHt, mcs := 4, streams := 1 } } 7 14 air none false
    t0 + air + 10000 ≤ start → s.idleBy r (if r.val = 0 then 19000 else 25000) t0 = true → s.ahead t0 (start - air - 10000) →
    (s.rd r).slot = none →
    ∃ t, exec (.protectCts r a (some t0)) s = .next t
      ∧ t.reg (A.hmacWlanProtectCts r) = satInc (s.reg (A.hmacWlanProtectCts r))
      ∧ t.reg (A.hmacWlanProtectLate r) = s.reg (A.hmacWlanProtectLate r)
      ∧ (t.rd r).slot = some (s.slotFor r { cts with earliest := t0 % 2 ^ 32, deadline := (start - air - 10000) % 2 ^ 32 })
      ∧ t.wr r = { s.wr r with shielded := start, ctsDuration := min 32767 ((stop - (t0 + air)) / 1000 + 40) })
  ∧ (∀ (r : Rad) (a : WAir) (start stop : Nat) (cts : Option Nat) (s : State), s.isLit 21 = true → s.radLit r = true →
    s.bit (A.hmacWlanCtl r) F.hmacWlanCtl_enable = true → s.bit (A.hmacWlanProtect r) F.hmacWlanProtect_protect_en = true →
    s.nextWindow r = some (start, stop) → start ≤ s.nowNs + s.protectLead r → (s.wr r).shielded ≠ start →
    cts.all (fun t0 => decide (start < t0 + (28000 + sigExtNs r .nonHt) + 10000)
      || !s.idleBy r (if r.val = 0 then 19000 else 25000) t0) = true →
    ∃ t, exec (.protectCts r a cts) s = .next t ∧ t.reg (A.hmacWlanProtectLate r) = satInc (s.reg (A.hmacWlanProtectLate r))
      ∧ t.wr r = { s.wr r with shielded := start } ∧ RegsKept [A.hmacWlanProtectLate r] s t
      ∧ t = { s with regs := t.regs, hmac := { s.hmac with wrad := t.hmac.wrad } })
  ∧ (∀ (r : Rad) (a : WAir) (cts : Option Nat) (s : State),
    (s.nextWindow r).all (fun w => (s.wr r).shielded == w.1 || decide (s.nowNs + s.protectLead r < w.1)) = true →
    exec (.protectCts r a cts) s = .next s)
  ∧ (∀ (r : Rad) (n : Fin 1536) (a : WAir) (s : State), s.wlanMay r = true → s.suspended = false → entryRadio n = r.val → s.sta n = 3 →
    ((s.lk n).stale = true ∨ (s.fld (A.hmacWlanSound r) F.hmacWlanSound_sound_interval ≠ 0
      ∧ (s.lk n).sounded.all (fun t0 => decide (t0 + s.fld (A.hmacWlanSound r) F.hmacWlanSound_sound_interval * 1000000 ≤ s.elapsed)) = true)) →
    s.wlanFmt r a.tx = true → a.len ≠ 0 → a.airNs + 16000 + a.response ≤ s.wlanRoom r a → s.ahead a.earliest a.deadline →
    ∃ t, exec (.sounding r n a) s = .next t ∧ (t.rd r).slot = some (s.slotFor r (s.wlanCmd r a 7 a.len a.airNs none true))
      ∧ t.hmac = s.hmac ∧ t.keys = s.keys)
  ∧ (∀ (r : Rad) (n : Fin 1536) (a : WAir) (t0 : Nat) (s : State), (s.lk n).stale = false → (s.lk n).sounded = some t0 →
    s.elapsed < t0 + s.fld (A.hmacWlanSound r) F.hmacWlanSound_sound_interval * 1000000 → exec (.sounding r n a) s = .next s)
  ∧ (∀ (r : Rad) (a : WAir) (users : List (Fin 1536)) (s : State), s.wlanMay r = true → s.suspended = false →
    s.bit (A.hmacWlanTrig r) F.hmacWlanTrig_trig_en = true →
    (s.wr r).lastTrig.all (fun t0 => decide (t0 + 1000 * s.fld (A.hmacWlanTrig r) F.hmacWlanTrig_trig_period ≤ s.elapsed)) = true →
    (s.wr r).trigWait = [] → s.wlanFmt r a.tx = true → a.len ≠ 0 → a.airNs + 16000 + a.response ≤ s.wlanRoom r a →
    s.ahead a.earliest a.deadline →
    let ok (n : Fin 1536) : Bool := entryRadio n == r.val && s.sta n == 3 && (s.lk n).buffered && decide ((s.lk n).missed < 8)
      && (s.fld (A.hmacWlanStationW4 n) F.hmacWlanStationW4_twt == 255 || (s.lk n).inSp)
    let most := min (if r.val = 0 then 18 else 74) (max 1 (s.fld (A.hmacWlanTrig r) F.hmacWlanTrig_max_users))
    let us := ((users.filter ok).take most).map (·.val)
    us ≠ [] →
    ∃ t, exec (.triggerTx r a users) s = .next t
      ∧ t.wr r = { s.wr r with lastTrig := some s.elapsed, trigWait := us, tb := some [] }
      ∧ (t.rd r).slot = some (s.slotFor r (s.wlanCmd r a 7 a.len a.airNs none true)) ∧ t.hmac.links = s.hmac.links)
  ∧ (∀ (r : Rad) (a : WAir) (users : List (Fin 1536)) (t0 : Nat) (s : State), (s.wr r).lastTrig = some t0 →
    s.elapsed < t0 + 1000 * s.fld (A.hmacWlanTrig r) F.hmacWlanTrig_trig_period → exec (.triggerTx r a users) s = .next s)
  ∧ (∀ (who : Requester) (r : Rad) (w : Word) (s : State), s.isLit 21 = true → isCudom who = true → F.hmacWlanSteer_go.get w = 1 →
    (s.wr r).steerEnd = none →
    let lim := F.hmacWlanSteer_steer_limit.get w
    ∃ t, exec (.steerGo who r w) s = .next t ∧ t.fld (A.hmacWlanSteer r) F.hmacWlanSteer_steer_limit = lim
      ∧ t.hmac.notices = s.hmac.notices ++ [(r.val, 0, 0)]
      ∧ (lim ≠ 0 → (t.wr r).steerEnd = some (s.elapsed + lim * 1000000) ∧ t.bit (A.hmacWlanSteer r) F.hmacWlanSteer_active = true
          ∧ RegsKept [A.hmacWlanSteer r] s t
          ∧ t = { s with regs := t.regs, bus := ⟨false, 0, []⟩, hmac := { s.hmac with notices := t.hmac.notices, wrad := t.hmac.wrad } })
      ∧ (lim = 0 → (t.wr r).steerEnd = none ∧ t.bit (A.hmacWlanSteer r) F.hmacWlanSteer_active = false
          ∧ (∀ n ∈ entries r, s.bit (A.hmacWlanStationW2 n) F.hmacWlanStationW2_mld = false → t.sta n = 0)))
  ∧ (∀ (who : Requester) (r : Rad) (w : Word) (s : State), s.isLit 21 = true → isCudom who = true → (s.wr r).steerEnd.isSome = true →
    ∃ t, exec (.steerGo who r w) s = .next t ∧ RegsKept [A.hmacWlanSteer r] s t
      ∧ t.fld (A.hmacWlanSteer r) F.hmacWlanSteer_active = s.fld (A.hmacWlanSteer r) F.hmacWlanSteer_active
      ∧ t = { s with regs := t.regs, bus := ⟨false, 0, []⟩ })
  ∧ (∀ (r : Rad) (s : State), (s.wr r).switchAt.all (fun t0 => decide (s.nowNs < t0)) = true → exec (.steerSwitchTime r) s = .next s)
  ∧ (∀ (r : Rad) (t0 : Nat) (s : State), s.isLit 21 = true → (s.wr r).switchAt = some t0 → t0 ≤ s.nowNs →
    exec (.steerSwitchTime r) s = .next (s.setWr r { s.wr r with switchAt := none, withdraw := false, linkOff := !(s.wr r).withdraw }))

/-! ### The classifier -/

/-- Rules and versions. A word of an entry is written, its reserved fields apart, while the entry is free and no seed or commit
runs, else refused with rule_err; a staging edit changes one bit of one live mask; a commit makes the staging version current and
the current one retiring, is refused while a version retires, and waits for the seed, and a second request of its cycle changes
nothing; the seed, not before 8 192 cycles are over, copies each entry's current bit into its staging bit and then lets a waiting commit go on, or
refuses it; a version retires when no frame in flight carries it; a packet's rule is the lowest-numbered live entry that matches. Log entry 103:
the model's reading. -/
def Obligations.RulesChangeByStagedVersions : Prop :=
  (∀ (who : Requester) (n : Fin 8192) (i : Fin 36) (w : Word) (s : State), s.isLit 3 = true → isAnyCore who = true →
    s.ruleBusy = false → s.ruleFree n = true → actionBad i w = false →
    ∃ t, exec (.ruleEntryWrite who n i w) s = .next t ∧ t.reg (A.pktRuleValue0 n + 4 * i.val) = actionWord i w
      ∧ RegsKept [A.pktRuleValue0 n + 4 * i.val] s t ∧ t = { s with regs := t.regs, bus := ⟨false, 0, []⟩ })
  ∧ (∀ (who : Requester) (n : Fin 8192) (i : Fin 36) (w : Word) (s : State), s.isLit 3 = true → isAnyCore who = true →
    (s.ruleBusy = true ∨ s.ruleFree n = false ∨ actionBad i w = true) →
    ∃ t, exec (.ruleEntryWrite who n i w) s = .next t ∧ t.bit A.pktRuleStage F.pktRuleStage_rule_err = true
      ∧ RegsKept [A.pktRuleStage] s t ∧ t = { s with regs := t.regs, bus := ⟨false, 0, []⟩ })
  ∧ (∀ (who : Requester) (n : Fin 8192) (s : State), s.isLit 3 = true → isAnyCore who = true → s.ruleBusy = false →
    (∃ t, exec (.ruleStageAdd who n) s = .next t ∧ t.liveMask n = setBit (s.liveMask n) s.staging
      ∧ t.fld A.pktRuleStage F.pktRuleStage_index = n
      ∧ t.fld A.pktRuleStage F.pktRuleStage_rule_err = s.fld A.pktRuleStage F.pktRuleStage_rule_err
      ∧ RegsKept [A.pktRuleStage, A.pktRuleLive n] s t ∧ t = { s with regs := t.regs, bus := ⟨false, 0, []⟩ })
    ∧ (∃ t, exec (.ruleStageRemove who n) s = .next t ∧ t.liveMask n = clrBit (s.liveMask n) s.staging
      ∧ t.fld A.pktRuleStage F.pktRuleStage_index = n
      ∧ t.fld A.pktRuleStage F.pktRuleStage_rule_err = s.fld A.pktRuleStage F.pktRuleStage_rule_err
      ∧ RegsKept [A.pktRuleStage, A.pktRuleLive n] s t ∧ t = { s with regs := t.regs, bus := ⟨false, 0, []⟩ }))
  ∧ (∀ (who : Requester) (n : Fin 8192) (c : Instr) (s : State), s.isLit 3 = true → isAnyCore who = true → s.ruleBusy = true →
    (c = .ruleStageAdd who n ∨ c = .ruleStageRemove who n) →
    ∃ t, exec c s = .next t ∧ t.bit A.pktRuleStage F.pktRuleStage_rule_err = true ∧ RegsKept [A.pktRuleStage] s t
      ∧ t = { s with regs := t.regs, bus := ⟨false, 0, []⟩ })
  ∧ (∀ (who : Requester) (s : State), s.isLit 3 = true → isAnyCore who = true →
    s.bit A.pktVersionCtl F.pktVersionCtl_busy = false → s.pkt.commitAt ≠ some s.elapsed → s.retiring = none →
    s.bit A.pktVersionCtl F.pktVersionCtl_seed_busy = false →
    ∃ t, exec (.ruleCommit who) s = .next t ∧ t.current = (s.current + 1) % 4 ∧ t.staging = (s.current + 2) % 4
      ∧ t.retiring = some s.current ∧ t.bit A.pktVersionCtl F.pktVersionCtl_seed_busy = true
      ∧ t.bit A.pktVersionCtl F.pktVersionCtl_busy = false ∧ t.fld A.pktCommitRes F.pktCommitRes_status = ST.ok
      ∧ t.fld A.pktCommitRes F.pktCommitRes_commits = (s.fld A.pktCommitRes F.pktCommitRes_commits + 1) % 65536
      ∧ RegsKept [A.pktVersionCtl, A.pktCommitRes] s t
      ∧ t.pkt = { s.pkt with commitWaits := false, commitAt := some s.elapsed, seedAt := s.elapsed }
      ∧ t = { s with regs := t.regs, bus := ⟨false, 0, []⟩, pkt := t.pkt })
  ∧ (∀ (who : Requester) (s : State), s.isLit 3 = true → isAnyCore who = true → s.pkt.commitAt = some s.elapsed →
    exec (.ruleCommit who) s = .next { s with bus := ⟨false, 0, []⟩ })
  ∧ (∀ (who : Requester) (s : State), s.isLit 3 = true → isAnyCore who = true →
    s.bit A.pktVersionCtl F.pktVersionCtl_busy = false → s.pkt.commitAt ≠ some s.elapsed → s.retiring.isSome = true →
    ∃ t, exec (.ruleCommit who) s = .next t ∧ t.fld A.pktCommitRes F.pktCommitRes_status = ST.versionBusy
      ∧ t.fld A.pktCommitRes F.pktCommitRes_commits = s.fld A.pktCommitRes F.pktCommitRes_commits
      ∧ RegsKept [A.pktCommitRes] s t ∧ t = { s with regs := t.regs, bus := ⟨false, 0, []⟩ })
  ∧ (∀ (who : Requester) (s : State), s.isLit 3 = true → isAnyCore who = true →
    s.bit A.pktVersionCtl F.pktVersionCtl_busy = false → s.pkt.commitAt ≠ some s.elapsed → s.retiring = none →
    s.bit A.pktVersionCtl F.pktVersionCtl_seed_busy = true →
    ∃ t, exec (.ruleCommit who) s = .next t ∧ t.bit A.pktVersionCtl F.pktVersionCtl_busy = true ∧ t.current = s.current
      ∧ RegsKept [A.pktVersionCtl] s t
      ∧ t = { s with regs := t.regs, bus := ⟨false, 0, []⟩, pkt := { s.pkt with commitWaits := true } })
  ∧ (∀ (s : State), s.isLit 3 = true → s.bit A.pktVersionCtl F.pktVersionCtl_seed_busy = true →
    s.pkt.seedAt + 8192 ≤ s.elapsed → s.pkt.commitWaits = false →
    ∃ t, exec .seedComplete s = .next t ∧ t.bit A.pktVersionCtl F.pktVersionCtl_seed_busy = false ∧ t.current = s.current
      ∧ (∀ n < 8192, ∀ b < 4, (t.liveMask n).testBit b = (if b = s.staging then (s.liveMask n).testBit s.current
          else (s.liveMask n).testBit b))
      ∧ (∀ a, a ≠ A.pktVersionCtl → (∀ n < 8192, a ≠ A.pktRuleLive n) → t.reg a = s.reg a) ∧ t = { s with regs := t.regs })
  ∧ (∀ (s : State), s.isLit 3 = true → s.bit A.pktVersionCtl F.pktVersionCtl_seed_busy = true →
    s.pkt.seedAt + 8192 ≤ s.elapsed → s.pkt.commitWaits = true →
    s.retiring = none →
    ∃ t, exec .seedComplete s = .next t ∧ t.current = (s.current + 1) % 4 ∧ t.retiring = some s.current
      ∧ t.bit A.pktVersionCtl F.pktVersionCtl_seed_busy = true ∧ t.bit A.pktVersionCtl F.pktVersionCtl_busy = false
      ∧ t.pkt = { s.pkt with commitWaits := false, seedAt := s.elapsed })
  ∧ (∀ (s : State), s.elapsed < s.pkt.seedAt + 8192 → exec .seedComplete s = .next s)
  ∧ (∀ (s : State), s.isLit 3 = true → s.bit A.pktVersionCtl F.pktVersionCtl_seed_busy = true →
    s.pkt.seedAt + 8192 ≤ s.elapsed → s.pkt.commitWaits = true →
    s.retiring.isSome = true →
    ∃ t, exec .seedComplete s = .next t ∧ t.current = s.current ∧ t.retiring = s.retiring
      ∧ t.bit A.pktVersionCtl F.pktVersionCtl_seed_busy = false ∧ t.bit A.pktVersionCtl F.pktVersionCtl_busy = false
      ∧ t.fld A.pktCommitRes F.pktCommitRes_status = ST.versionBusy ∧ t.pkt = { s.pkt with commitWaits := false })
  ∧ (∀ (v : Nat) (s : State), s.isLit 3 = true → s.retiring = some v → (∀ f ∈ s.pkt.flight, f.stamp ≠ some v) →
    ∃ t, exec .versionRetire s = .next t ∧ t.retiring = none ∧ t.bit A.pktVersionCtl F.pktVersionCtl_retired = true
      ∧ t.current = s.current ∧ t.staging = s.staging ∧ RegsKept [A.pktVersionCtl] s t ∧ t = { s with regs := t.regs })
  ∧ (∀ (v : Nat) (f : PktFrame) (s : State), s.retiring = some v → f ∈ s.pkt.flight → f.stamp = some v →
    exec .versionRetire s = .next s)
  ∧ (∀ (v key n : Nat) (s : State), Tbl.wf resetWord s.regs = true → s.findRule v key = some n →
    n < 8192 ∧ (s.liveMask n).testBit v = true ∧ s.ruleMatches n key = true
      ∧ (∀ m < n, (s.liveMask m).testBit v = true → s.ruleMatches m key = false))
  ∧ (∀ (v key : Nat) (s : State), s.findRule v key = none → ∀ n < 8192, (s.liveMask n).testBit v = true → s.ruleMatches n key = false)

/-- Classification. The oldest frame of a source, in its pipeline's round-robin turn, is stamped and parsed; a whole frame's exception
class, the lack of a rule, a rule's queue, spread or drop, and for a later fragment the recorded decision, decide it at once; a later
fragment without its datagram waits where it may; an endpoint read that ends decides by the entry found, by a second bucket or by a miss;
an error or silence is a miss; an invalidation removes results and marks reads under way; entries and held fragments expire at their
time and not before; the symmetric hash is the same in both directions. Log entries 82, 83, 84, 85: the model's reading. -/
def Obligations.FramesAreStampedParsedAndDecided : Prop :=
  (∀ (src : Fin 19) (fr : RxFrame) (rest : List RxFrame) (s : State), s.isLit 3 = true → Tbl.get (fun _ => []) s.rxFifo src = fr :: rest →
    let pipe := s.pipeOf src
    let stamped := if pipe = 0 then A.pktStamped0 else A.pktStamped1
    let w := parseFrame s.parseCfg fr.bytes
    let k := keyOf w (s.bit (A.pktSrcCfg src) F.pktSrcCfg_key_select)
    let f : PktFrame := ⟨src, some s.current, pipe, fr, k.offs, none, Verdict.ofClass 0 s.current, 0, none, none, none⟩
    let pkt := { s.pkt with turns := Tbl.set (fun _ => 18) pipe src.val s.pkt.turns }
    let taken (t : State) : Bool := t.rxFifo == Tbl.set (fun _ => []) src rest s.rxFifo && t.reg stamped == satInc (s.reg stamped)
      && t.pkt.turns == pkt.turns && decide (t = { s with regs := t.regs, rxFifo := t.rxFifo, pkt := t.pkt })
    s.pktTurn pipe = some src.val →
    (∀ c < 8, w.exc = some c → w.frag = none → s.bit (A.pktExcCfg c) F.pktExcCfg_to_sump = false →
        ∃ t, exec (.pktFrameParse src) s = .next t ∧ taken t = true ∧ t.reg (A.pktExcCount c) = satInc (s.reg (A.pktExcCount c))
          ∧ t.pkt = pkt ∧ RegsKept [stamped, A.pktExcCount c] s t)
    ∧ (∀ c < 8, w.exc = some c → w.frag = none → s.bit (A.pktExcCfg c) F.pktExcCfg_to_sump = true → 1000000 ≤ s.tokensNow c →
        ∃ t, exec (.pktFrameParse src) s = .next t ∧ taken t = true ∧ t.reg (A.pktExcCount c) = satInc (s.reg (A.pktExcCount c))
          ∧ t.pkt.flight = s.pkt.flight ++ [{ f with verdict := some { Verdict.ofClass c s.current with
              queue := s.fld A.pktSumpCtl F.pktSumpCtl_queue } }]
          ∧ t.tokensNow c = s.tokensNow c - 1000000 ∧ RegsKept [stamped, A.pktExcCount c] s t)
    ∧ (∀ c < 8, w.exc = some c → w.frag = none → s.bit (A.pktExcCfg c) F.pktExcCfg_to_sump = true → s.tokensNow c < 1000000 →
        ∃ t, exec (.pktFrameParse src) s = .next t ∧ taken t = true ∧ t.reg (A.pktSumpRateDrop c) = satInc (s.reg (A.pktSumpRateDrop c))
          ∧ t.pkt.flight = s.pkt.flight ∧ RegsKept [stamped, A.pktExcCount c, A.pktSumpRateDrop c] s t)
    ∧ (w.exc = none → w.frag = none → s.findRule s.current (k.bits src) = none → s.bit (A.pktExcCfg 0) F.pktExcCfg_to_sump = false →
        ∃ t, exec (.pktFrameParse src) s = .next t ∧ taken t = true ∧ t.reg (A.pktExcCount 0) = satInc (s.reg (A.pktExcCount 0))
          ∧ t.pkt = pkt ∧ RegsKept [stamped, A.pktExcCount 0] s t)
    ∧ (∀ n, w.exc = none → w.frag = none → s.findRule s.current (k.bits src) = some n → bitsAt (s.ruleAct n 2) 31 29 = 0 →
        let a0 := s.ruleAct n 0
        let a1 := s.ruleAct n 1
        let hash := k.hash (bitsAt a1 31 30) (bitsAt a1 29 20) (s.reg A.pktHashSeed).toNat
        (bitsAt a0 31 29 = 0 ∨ bitsAt a0 31 29 = 1 →
          let queue := if bitsAt a0 31 29 = 0 then bitsAt a0 11 0
            else s.fld (A.pktInd ((bitsAt a1 15 8 + hash % 2 ^ bitsAt a1 19 16) % 256)) F.pktInd_queue
          let x : Verdict := ⟨none, false, queue, if a0.toNat.testBit 28 then some (bitsAt a0 25 12) else none, a0.toNat.testBit 27,
            s.current, false, n, hash, (s.ruleAct n 3).toNat⟩
          ∃ t, exec (.pktFrameParse src) s = .next t ∧ taken t = true ∧ t.pkt = { pkt with flight := s.pkt.flight ++ [{ f with verdict := some x }] }
            ∧ RegsKept [stamped] s t)
        ∧ (bitsAt a0 31 29 = 2 →
          ∃ t, exec (.pktFrameParse src) s = .next t ∧ taken t = true ∧ t.reg A.pktRuleDrop = satInc (s.reg A.pktRuleDrop)
            ∧ t.pkt = pkt ∧ RegsKept [stamped, A.pktRuleDrop] s t))
    ∧ (∀ g, w.exc = none → w.frag = some g → g.offset ≠ 0 → (∀ e ∈ s.pkt.frags, e.dgram ≠ g.dgram) →
        s.bit A.pktFragCtl F.pktFragCtl_hold_en = true → s.pkt.held.length < 64 →
        ∃ t, exec (.pktFrameParse src) s = .next t ∧ taken t = true ∧ t.reg A.pktFragHeld = satInc (s.reg A.pktFragHeld)
          ∧ t.pkt = { pkt with held := s.pkt.held ++ [⟨src, pipe, fr, k.offs, g, s.elapsed⟩] }
          ∧ RegsKept [stamped, A.pktFragHeld, A.pktFragStatus] s t)
    ∧ (∀ g e, w.exc = none → w.frag = some g → g.offset ≠ 0 → s.pkt.frags.find? (fun e => e.dgram == g.dgram) = some e →
        e.verdict.exc = none → e.verdict.drop = false →
        ∃ t, exec (.pktFrameParse src) s = .next t ∧ taken t
          ∧ t.pkt.flight = s.pkt.flight ++ [{ f with verdict := some e.verdict }] ∧ RegsKept [stamped, A.pktFragStatus] s t))
  ∧ (∀ (src : Fin 19) (s : State), s.pktTurn (s.pipeOf src) ≠ some src.val → exec (.pktFrameParse src) s = .next s)
  ∧ (∀ (pipe k : Nat) (s : State), s.pktTurn pipe = some k →
    let last := Tbl.get (fun _ => 18) s.pkt.turns pipe
    k < 19 ∧ s.canParse pipe k = true
      ∧ ((last < k ∧ ∀ j < k, last < j → s.canParse pipe j = false)
        ∨ ((∀ j < 19, last < j → s.canParse pipe j = false) ∧ ∀ j < k, s.canParse pipe j = false)))
  ∧ (∀ (k evict : Nat) (f : PktFrame) (l : Lookup) (b : List Byte) (s s1 : State), s.isLit 3 = true →
    (s.pkt.flight.filter (·.look.isSome))[k]? = some f → f.look = some l → f.frag = none →
    s.memRead (.island 3) (s.epBase + 256 * s.epBucket l.key l.second) 256 = (s1, some b) →
    let others := s1.pkt.cache.filter (fun e => e.key != l.key)
    let keep (o : Option (Nat × Nat)) := if l.stale then s1.pkt.cache else
      (if 65536 ≤ others.length then others.eraseIdx (evict % 65536) else others) ++ [⟨l.key, s1.epBucket l.key false, o⟩]
    (∀ r, epSearch b l.key = some r →
        let v := afterLookup (s1.spreadQueue f.base f.spread) f.missKind (some r)
        v.exc = none → v.drop = false →
        ∃ t, exec (.epBucketReadDone k evict) s = .next t ∧ t.reg A.pktEpHit = satInc (s1.reg A.pktEpHit)
          ∧ t.pkt = { s1.pkt with cache := keep (some r),
                                  flight := replaceFirst f { f with look := none, verdict := some v } s1.pkt.flight }
          ∧ RegsKept [A.pktEpHit] s1 t ∧ t = { s1 with regs := t.regs, pkt := t.pkt })
    ∧ (∀ r, epSearch b l.key = some r →
        let v := afterLookup (s1.spreadQueue f.base f.spread) f.missKind (some r)
        v.exc = none → v.drop = true →
        ∃ t, exec (.epBucketReadDone k evict) s = .next t ∧ t.reg A.pktRuleDrop = satInc (s1.reg A.pktRuleDrop)
          ∧ t.pkt = { s1.pkt with cache := keep (some r), flight := s1.pkt.flight.erase f }
          ∧ RegsKept [A.pktEpHit, A.pktRuleDrop] s1 t)
    ∧ (epSearch b l.key = none → l.second = false →
        ∃ t, exec (.epBucketReadDone k evict) s = .next t
          ∧ t = { s1 with pkt := { s1.pkt with flight := replaceFirst f { f with look := some { l with second := true } } s1.pkt.flight } })
    ∧ (epSearch b l.key = none → l.second = true →
        let v := afterLookup (s1.spreadQueue f.base f.spread) f.missKind none
        v.exc = none → v.drop = false →
        ∃ t, exec (.epBucketReadDone k evict) s = .next t ∧ t.reg A.pktEpMiss = satInc (s1.reg A.pktEpMiss)
          ∧ t.pkt = { s1.pkt with cache := keep none,
                                  flight := replaceFirst f { f with look := none, verdict := some v } s1.pkt.flight }
          ∧ RegsKept [A.pktEpMiss] s1 t ∧ t = { s1 with regs := t.regs, pkt := t.pkt }))
  ∧ (∀ (k : Nat) (f : PktFrame) (s : State), s.isLit 3 = true → (s.pkt.flight.filter (·.look.isSome))[k]? = some f → f.frag = none →
    let v := afterLookup (s.spreadQueue f.base f.spread) f.missKind none
    v.exc = none → v.drop = false →
    ∃ t, exec (.epReadTimeout k) s = .next t ∧ t.reg A.pktEpReadErr = satInc (s.reg A.pktEpReadErr)
      ∧ t.reg A.pktEpMiss = satInc (s.reg A.pktEpMiss)
      ∧ t.pkt = { s.pkt with flight := replaceFirst f { f with look := none, verdict := some v } s.pkt.flight }
      ∧ RegsKept [A.pktEpReadErr, A.pktEpMiss] s t ∧ t = { s with regs := t.regs, pkt := t.pkt })
  ∧ (∀ (who : Requester) (w : Word) (s : State), s.isLit 3 = true → isAnyCore who = true → F.pktEpInval_go.get w = 1 →
    let b := F.pktEpInval_bucket.get w
    ∃ t, exec (.epInvalidate who w) s = .next t ∧ t.pkt.cache = s.pkt.cache.filter (fun e => e.bucket != b)
      ∧ (∀ f ∈ t.pkt.flight, ∀ l, f.look = some l → s.epBucket l.key false = b → l.stale = true)
      ∧ t.pkt.flight.length = s.pkt.flight.length ∧ t.fld A.pktEpInval F.pktEpInval_go = s.fld A.pktEpInval F.pktEpInval_go
      ∧ RegsKept [A.pktEpInval] s t ∧ t = { s with regs := t.regs, pkt := t.pkt, bus := ⟨false, 0, []⟩ })
  ∧ (∀ (who : Requester) (second : Bool) (w : Word) (s : State), s.isLit 3 = true → isAnyCore who = true →
    let a := if second then A.pktEpSeed2 else A.pktEpSeed1
    ∃ t, exec (.epSeedWrite who second w) s = .next t ∧ t.reg a = w ∧ t.pkt.cache = []
      ∧ (∀ f ∈ t.pkt.flight, ∀ l, f.look = some l → l.stale = true) ∧ t.pkt.flight.length = s.pkt.flight.length
      ∧ RegsKept [a] s t ∧ t = { s with regs := t.regs, pkt := t.pkt, bus := ⟨false, 0, []⟩ })
  ∧ (∀ (e : FragEntry) (rest : List FragEntry) (s : State), s.isLit 3 = true → s.pkt.frags = e :: rest →
    e.born + 200000000 ≤ s.elapsed →
    ∃ t, exec .fragEntryExpiry s = .next t ∧ t.pkt = { s.pkt with frags := rest }
      ∧ t.reg A.pktFragExpired = satInc (s.reg A.pktFragExpired) ∧ RegsKept [A.pktFragExpired, A.pktFragStatus] s t
      ∧ t = { s with regs := t.regs, pkt := t.pkt })
  ∧ (∀ (h : HeldFrag) (rest : List HeldFrag) (s : State), s.isLit 3 = true → s.pkt.held = h :: rest →
    h.since + s.holdTime ≤ s.elapsed →
    ∃ t, exec .fragHoldExpiry s = .next t ∧ t.pkt.held = rest ∧ t.reg (A.pktExcCount 5) = satInc (s.reg (A.pktExcCount 5))
      ∧ (s.bit (A.pktExcCfg 5) F.pktExcCfg_to_sump = false → t.pkt.flight = s.pkt.flight)
      ∧ RegsKept [A.pktExcCount 5, A.pktSumpRateDrop 5, A.pktFragStatus] s t ∧ t = { s with regs := t.regs, pkt := t.pkt })
  ∧ (∀ (s : State), (s.pkt.frags.head?.all (fun e => decide (s.elapsed < e.born + 200000000)) = true →
      exec .fragEntryExpiry s = .next s)
    ∧ (s.pkt.held.head?.all (fun h => decide (s.elapsed < h.since + s.holdTime)) = true → exec .fragHoldExpiry s = .next s))
  ∧ (∀ (k : RuleKey) (mask seed : Nat), k.l4Src < 65536 → k.l4Dst < 65536 →
    { k with ipSrc := k.ipDst, ipDst := k.ipSrc, l4Src := k.l4Dst, l4Dst := k.l4Src }.hash 1 mask seed = k.hash 1 mask seed)

/-! ### Queues, meters and shaping -/

/-- The scheduler. An arrival is checked in order and joins its queue or is counted where it was dropped; CDM is held back instead of
meeting a full store; a forwarded packet joins as another does; an egress is served from the smallest tier, in order within the queue,
with tags, virtual time, cells and delay bin; a shaped queue wakes at credit 0; a flush empties its queue; a meter submission fills both
buckets, while packets of its cycle still meet the old meter, or is refused; a queue's tier and egress change only by the tables and while it is empty; an empty peak bucket makes every
packet red and an empty committed one none green. Log entries 91, 92: the model's reading. -/
def Obligations.QueuesAdmitServeAndShape : Prop :=
  (∀ (k : Fin 19) (f : PktFrame) (v : Verdict) (s : State), s.schTakes = true → s.isLit 3 = true → s.deliverable k = some (f, v) →
    s.meterFirst f v = none → v.queue < 4096 →
    let q := v.queue
    let need := cellsOf f.frame.bytes.length
    let on := s.bit A.schCtl F.schCtl_enable && s.bit (A.schQW0 q) F.schQW0_enable
    let reserve := if 3 ≤ s.qTier q then s.fld A.schPoolCfg F.schPoolCfg_reserve else 0
    let gone (t : State) : Bool := decide (t = { s with regs := t.regs, sch := t.sch, pkt := { s.pkt with flight := s.pkt.flight.erase f } })
    (q ≤ 18 → ∃ t, exec (.schEnqueue (.pkt k)) s = .next t ∧ gone t = true ∧ t.reg A.schDropMgmtQ = satInc (s.reg A.schDropMgmtQ)
        ∧ t.sch = s.sch ∧ RegsKept [A.schDropMgmtQ] s t)
    ∧ (18 < q → on = false → ∃ t, exec (.schEnqueue (.pkt k)) s = .next t ∧ gone t = true
        ∧ t.reg A.schDropDisabled = satInc (s.reg A.schDropDisabled) ∧ t.sch = s.sch ∧ RegsKept [A.schDropDisabled] s t)
    ∧ (∀ m, 18 < q → on = true → v.meter = some m → m < 16384 → v.aware = false →
        let x := (s.meterMet m).settle s.elapsed
        x.tp < f.frame.bytes.length * 1000000 → F.schMtrW0_red_drop.get x.w0 = 1 →
        ∃ t, exec (.schEnqueue (.pkt k)) s = .next t ∧ gone t = true ∧ t.reg A.schDropMeter = satInc (s.reg A.schDropMeter)
          ∧ t.reg (A.schQcDropRed q) = satInc (s.reg (A.schQcDropRed q)) ∧ t.sch.queues = s.sch.queues
          ∧ RegsKept [A.schDropMeter, A.schQcDropRed q, A.schMtrW4 m, A.schMtrW5 m] s t)
    ∧ (18 < q → on = true → v.meter = none → s.fld (A.schQW2 q) F.schQW2_q_limit < (s.schQ q).cells + need →
        ∃ t, exec (.schEnqueue (.pkt k)) s = .next t ∧ gone t = true ∧ t.reg A.schDropQlimit = satInc (s.reg A.schDropQlimit)
          ∧ t.reg (A.schQcDropGreen q) = satInc (s.reg (A.schQcDropGreen q)) ∧ t.sch = s.sch
          ∧ RegsKept [A.schDropQlimit, A.schQcDropGreen q] s t)
    ∧ (18 < q → on = true → v.meter = none → (s.schQ q).cells + need ≤ s.fld (A.schQW2 q) F.schQW2_q_limit → s.freeCells < need + reserve →
        ∃ t, exec (.schEnqueue (.pkt k)) s = .next t ∧ gone t = true ∧ t.reg A.schDropStore = satInc (s.reg A.schDropStore)
          ∧ t.reg (A.schQcDropGreen q) = satInc (s.reg (A.schQcDropGreen q)) ∧ t.sch = s.sch
          ∧ RegsKept [A.schDropStore, A.schQcDropGreen q] s t)
    ∧ (18 < q → on = true → v.meter = none → (s.schQ q).cells + need ≤ s.fld (A.schQW2 q) F.schQW2_q_limit → need + reserve ≤ s.freeCells →
        ∃ t, exec (.schEnqueue (.pkt k)) s = .next t ∧ gone t = true
          ∧ (t.schQ q).pkts = (s.schQ q).pkts ++ [⟨f.frame.bytes, recordWords k v f.offs, 0, s.count32, f.frame.stamp, f.frame.station⟩]
          ∧ t.freeCells = s.freeCells - need ∧ t.reg (A.schQcEnq q) = satInc (s.reg (A.schQcEnq q))
          ∧ (∀ n, n ≠ q → t.schQ n = s.schQ n) ∧ RegsKept [A.schPoolStatus, A.schQW6 q, A.schQW7 q, A.schQcEnq q] s t))
  ∧ (∀ (m : MgmtFrame) (rest : List MgmtFrame) (s : State), s.schTakes = true → s.cmd.cdmTx = m :: rest → m.queue ≤ 18 →
    s.bit A.schCtl F.schCtl_enable = true → s.bit (A.schQW0 m.queue) F.schQW0_enable = true →
    (s.freeCells < cellsOf m.bytes.length →
      ∃ t, exec (.schEnqueue .cdm) s = .next t ∧ t.cmd = s.cmd ∧ t.sch = { s.sch with cdmHeld := true }
        ∧ t.reg A.schCdmHold = (if s.sch.cdmHeld then s.reg A.schCdmHold else satInc (s.reg A.schCdmHold)) ∧ RegsKept [A.schCdmHold] s t)
    ∧ (cellsOf m.bytes.length ≤ s.freeCells →
      ∃ t, exec (.schEnqueue .cdm) s = .next t ∧ t.cmd = { s.cmd with cdmTx := rest } ∧ t.sch.cdmHeld = false
        ∧ (t.schQ m.queue).pkts = (s.schQ m.queue).pkts ++ [⟨m.bytes, [0, 0, 0, 0], 0, s.count32, 0, m.station⟩]
        ∧ t.freeCells = s.freeCells - cellsOf m.bytes.length
        ∧ RegsKept [A.schPoolStatus, A.schQW6 m.queue, A.schQW7 m.queue, A.schQcEnq m.queue] s t))
  ∧ (∀ (p : SchPkt) (q : Nat) (rest : List (SchPkt × Nat)) (s : State), s.schTakes = true → s.isLit 5 = true →
    s.tsk.fwd = (p, q) :: rest → 18 < q → q < 4096 → s.bit A.schCtl F.schCtl_enable = true → s.bit (A.schQW0 q) F.schQW0_enable = true →
    (s.schQ q).cells + cellsOf p.bytes.length ≤ s.fld (A.schQW2 q) F.schQW2_q_limit →
    cellsOf p.bytes.length + s.fld A.schPoolCfg F.schPoolCfg_reserve ≤ s.freeCells →
    ∃ t, exec (.schEnqueue .tsk) s = .next t ∧ t.tsk = { s.tsk with fwd := rest }
      ∧ (t.schQ q).pkts = (s.schQ q).pkts ++ [{ p with at_ := s.count32, colour := 0 }]
      ∧ t.freeCells = s.freeCells - cellsOf p.bytes.length ∧ t.reg (A.schQcEnq q) = satInc (s.reg (A.schQcEnq q))
      ∧ (∀ n, n ≠ q → t.schQ n = s.schQ n) ∧ RegsKept [A.schPoolStatus, A.schQW6 q, A.schQW7 q, A.schQcEnq q] s t)
  ∧ (∀ (src : EnqSrc) (s : State), s.schTakes = false → exec (.schEnqueue src) s = .next s)
  ∧ (∀ (e : Fin 20) (who : Option (Fin 1025)) (q : Nat) (p : SchPkt) (s : State), s.egressUp e = true →
    let s1 := (s.busyQs e).foldl (fun s q => s.refreshQ q) s
    let bin := A.schHist q (delayBin ((s1.count32 + 2 ^ 32 - p.at_) % 2 ^ 32))
    let served (t : State) : Bool :=
      (t.schQ q).tag == ((s1.schQ q).tag + p.bytes.length * 256 / max 1 (s1.fld (A.schQW0 q) F.schQW0_weight)) % 2 ^ 48
        && t.vt (s1.qDomain q) == tagMax (s1.vt (s1.qDomain q)) (s1.schQ q).tag
        && t.reg (A.schQcDeq q) == satInc (s1.reg (A.schQcDeq q)) && t.reg bin == satInc (s1.reg bin)
    q < 4096 → s1.freeCells + cellsOf p.bytes.length ≤ 131072 →
    (e.val < 16 → s1.nextOf (s1.busyQs e) = some (q, p) → s1.portRoom e p.bytes.length = true →
      ∃ t, exec (.schServe e who) s = .next t ∧ served t = true ∧ (s1.schQ q).pkts = p :: (t.schQ q).pkts
        ∧ t.freeCells = s1.freeCells + cellsOf p.bytes.length
        ∧ (s1.linkUp e = true → (t.port e).txq = (s1.port e).txq ++ [p.bytes])
        ∧ (∀ k ∈ s1.busyQs e, (s1.schQ k).awake = true → s1.bit (A.schQW0 k) F.schQW0_enable = true → s1.qTier q ≤ s1.qTier k)
        ∧ t = { s1 with regs := t.regs, sch := t.sch, ports := t.ports })
    ∧ (e.val = 19 → s1.nextOf (s1.busyQs 19) = some (q, p) → s.tsk.items.length + s.tsk.inbox.length + 256 < 4096 →
      ∃ t, exec (.schServe e who) s = .next t ∧ served t = true ∧ (s1.schQ q).pkts = p :: (t.schQ q).pkts ∧ t.freeCells = s1.freeCells
        ∧ t.tsk = { s1.tsk with inbox := s1.tsk.inbox ++ [(p, q)] } ∧ t = { s1 with regs := t.regs, sch := t.sch, tsk := t.tsk })
    ∧ (∀ (n : Fin 1025) (v : HolEvent), 16 ≤ e.val → e.val < 19 → who = some n → Tbl.find? s.hol.events (e.val - 16) = some v →
      v.peer = n.val → s1.partnerNext e n = some (q, p) →
      ∃ t, exec (.schServe e who) s = .next t ∧ served t = true ∧ (t.schQ q).pkts = (s1.schQ q).pkts.erase p
        ∧ (t.peer n).txq = (s1.peer n).txq ++ [⟨(s1.peer n).nextSn, p.bytes, 0, 0, 0, none⟩]
        ∧ (t.peer n).nextSn = ((s1.peer n).nextSn + 1) % 4096 ∧ t = { s1 with regs := t.regs, sch := t.sch, hmac := t.hmac })
    ∧ (∀ (n : Nat), 16 ≤ e.val → e.val < 19 → who = none → s1.wlanNext e = some (q, p) → 18 < q → s1.qEntry q = some n →
      let sn := Tbl.get (fun _ => 0) (s1.wp n).nextSn (tidOf q)
      ∃ t, exec (.schServe e who) s = .next t ∧ served t = true ∧ (t.schQ q).pkts = (s1.schQ q).pkts.erase p
        ∧ (t.wp n).txq = (s1.wp n).txq ++ [⟨tidOf q, sn, p.bytes, 0, false, 0, 0, 0⟩]
        ∧ t = { s1 with regs := t.regs, sch := t.sch, hmac := t.hmac }))
  ∧ (∀ (e : Fin 20) (who : Option (Fin 1025)) (s : State), (s.isLit 4 = false ∨ s.bit (A.schEgress e) F.schEgress_hold = true) →
    exec (.schServe e who) s = .next s)
  ∧ (∀ (q : Fin 4096) (s : State), s.isLit 4 = true → (s.schQ q).pkts ≠ [] → s.isShaped q = true → s.isWlanQ q = false →
    s.fld (A.schQW4 q) F.schQW4_idle_slope ≠ 0 → 0 ≤ s.creditNow q →
    ∃ t, exec (.shaperCreditZero q) s = .next t
      ∧ t.schQ q = { s.schQ q with credit := s.creditNow q, since := s.elapsed, awake := true,
                                   tag := if (s.schQ q).awake then (s.schQ q).tag else tagMax (s.vt (s.qDomain q)) (s.schQ q).tag }
      ∧ (∀ n, n ≠ q.val → t.schQ n = s.schQ n) ∧ t.qEligible q = true
      ∧ RegsKept [A.schQW6 q, A.schQW7 q] s t ∧ t = { s with regs := t.regs, sch := t.sch })
  ∧ (∀ (who : Requester) (w : Word) (s : State), s.isLit 4 = true → isAnyCore who = true → F.schQFlush_go.get w = 1 →
    let q := F.schQFlush_queue.get w
    let n := (s.schQ q).pkts.length
    s.freeCells + (s.schQ q).cells ≤ 131072 →
    ∃ t, exec (.qFlush who w) s = .next t ∧ (t.schQ q).pkts = [] ∧ (t.schQ q).tag = (s.schQ q).tag
      ∧ t.freeCells = s.freeCells + (s.schQ q).cells
      ∧ (t.reg (A.schQcFlush q)).toNat = min 0xFFFFFFFF ((s.reg (A.schQcFlush q)).toNat + n)
      ∧ (t.reg A.schFlushed).toNat = min 0xFFFFFFFF ((s.reg A.schFlushed).toNat + n)
      ∧ t.fld A.schQFlush F.schQFlush_queue = q ∧ (∀ n, n ≠ q → t.schQ n = s.schQ n)
      ∧ RegsKept [A.schQFlush, A.schQcFlush q, A.schFlushed, A.schPoolStatus, A.schQW6 q, A.schQW7 q] s t
      ∧ t = { s with regs := t.regs, sch := t.sch, bus := ⟨false, 0, []⟩ })
  ∧ (∀ (who : Requester) (m : Fin 16384) (w : Word) (s : State), s.isLit 4 = true → isAnyCore who = true →
    let cbs := F.schMtrW2_cbs.get (s.reg (A.schMtrW2 m))
    let pbs := F.schMtrW3_pbs.get w
    (F.schMtrW0_cir.get (s.reg (A.schMtrW0 m)) ≤ F.schMtrW1_pir.get (s.reg (A.schMtrW1 m)) →
      ∃ t, exec (.meterSubmit who m w) s = .next t ∧ (t.meter m).tc = cbs * 1000000 ∧ (t.meter m).tp = pbs * 1000000
        ∧ (t.meter m).at_ = s.elapsed ∧ (t.meter m).w0 = s.reg (A.schMtrW0 m) ∧ (t.meter m).w1 = s.reg (A.schMtrW1 m)
        ∧ t.fld (A.schMtrW4 m) F.schMtrW4_tc = cbs ∧ t.fld (A.schMtrW5 m) F.schMtrW5_tp = pbs
        ∧ (∀ n, n ≠ m.val → t.meter n = s.meter n) ∧ (∀ n, t.meterMet n = s.meterMet n)
        ∧ RegsKept [A.schMtrW3 m, A.schMtrW4 m, A.schMtrW5 m] s t
        ∧ t = { s with regs := t.regs, sch := t.sch, bus := ⟨false, 0, []⟩ })
    ∧ (F.schMtrW1_pir.get (s.reg (A.schMtrW1 m)) < F.schMtrW0_cir.get (s.reg (A.schMtrW0 m)) →
      ∃ t, exec (.meterSubmit who m w) s = .next t ∧ t.bit A.schCtl F.schCtl_cfg_err = true
        ∧ RegsKept [A.schMtrW3 m, A.schCtl] s t ∧ t = { s with regs := t.regs, bus := ⟨false, 0, []⟩ }))
  ∧ (∀ (who : Requester) (q : Fin 4096) (w : Word) (s : State), s.isLit 4 = true → isAnyCore who = true →
    (18 < q.val ∨ isCudom who = true) →
    let tier := F.schQW0_tier.get w
    let egress := F.schQW0_egress.get w
    let ok := queueOk q tier egress (s.qStation q) && (s.schQ q).pkts.isEmpty
    ((tier ≠ s.qTier q ∨ egress ≠ s.qEgress q) → ok = true →
      ∃ t, exec (.schQWrite who q 0 w) s = .next t ∧ t.qTier q = tier ∧ t.qEgress q = egress
        ∧ t.fld (A.schQW0 q) F.schQW0_enable = F.schQW0_enable.get w ∧ t.fld (A.schQW0 q) F.schQW0_weight = F.schQW0_weight.get w
        ∧ t.fld (A.schQW0 q) F.schQW0_shaper_en = F.schQW0_shaper_en.get w ∧ RegsKept [A.schQW0 q, A.schQW6 q, A.schQW7 q] s t)
    ∧ ((tier ≠ s.qTier q ∨ egress ≠ s.qEgress q) → ok = false →
      ∃ t, exec (.schQWrite who q 0 w) s = .next t ∧ t.qTier q = s.qTier q ∧ t.qEgress q = s.qEgress q
        ∧ t.fld (A.schQW0 q) F.schQW0_enable = F.schQW0_enable.get w ∧ t.bit A.schCtl F.schCtl_cfg_err = true
        ∧ RegsKept [A.schQW0 q, A.schQW6 q, A.schQW7 q, A.schCtl] s t)
    ∧ (∃ t, exec (.schQWrite who q 2 w) s = .next t ∧ t.fld (A.schQW2 q) F.schQW2_q_limit = F.schQW2_q_limit.get w
        ∧ (t.schQ q).pkts = (s.schQ q).pkts ∧ RegsKept [A.schQW2 q, A.schQW6 q, A.schQW7 q] s t
        ∧ t = { s with regs := t.regs, sch := t.sch, bus := ⟨false, 0, []⟩ }))
  ∧ (∀ (who : Requester) (q : Fin 4096) (i : Fin 6) (w : Word) (s : State), s.isLit 4 = true → q.val ≤ 18 → isCudom who = false →
    exec (.schQWrite who q i w) s = .next (s.busOk 0))
  ∧ (∀ (x : Meter) (now b pre : Nat), 0 < b → F.schMtrW3_pbs.get x.w3 = 0 → ((x.settle now).colour b pre).1 = 2)
  ∧ (∀ (x : Meter) (now b pre : Nat), 0 < b → F.schMtrW2_cbs.get x.w2 = 0 → ((x.settle now).colour b pre).1 ≠ 0)

/-! ### Kalhar Link -/

/-- Bring-up and loss. TS1 with flag bit 0 starts TRAIN and sets order, polarity, width, rate and revision; TRAIN, LOCK and EXCHANGE
follow each other, LOCK only with the lanes aligned; each falls back when its time is over; a PARAM is stored; the link comes up
with eight parameters of a good check; loss of signal, a failed lane and lost alignment take it down, to DETECT or to TRAIN at the
width that is left. Log entries 96, 97, 124: the model's reading. -/
def Obligations.KalharLinksTrainAndFall : Prop :=
  (∀ (p : Fin 16) (ts : List (List (Fin 1024))) (i0 w0 : Nat) (t0 : Training) (s : State), s.isKl p = true → s.klState p = 0 →
    (s.port p).tx = none → lanesOf 5 (s.fld (pCfg p) F.lnqPortCfg_width) (p % 4) = some (s.portLanes p) →
    let n := (s.portLanes p).length
    let got := (s.trainings p ts).filter (fun x => !x.2.second)
    let back : Bool := n != 1 && t0.lane + i0 + 1 == n
    let trained (k : Nat) : Bool := (List.range (2 ^ k)).all (fun i => got.any (fun x => x.2.lane == i))
    got.all (fun x => if back then x.2.lane + x.1 + 1 == n else x.2.lane == x.1) = true → (i0, t0) ∈ got → t0.lane = 0 →
    w0 ≤ s.fld (pCfg p) F.lnqPortCfg_width → trained w0 = true →
    (∀ k ≤ s.fld (pCfg p) F.lnqPortCfg_width, w0 < k → trained k = false) →
    let w := min w0 t0.width
    let rev := max 1 (min 2 t0.rev)
    let r := min (min (min 6 (s.fld (A.lnqKlCtl (p / 4) (p % 4)) F.lnqKlCtl_max_rate)) t0.rate) (if rev = 1 then 4 else 6)
    (t0.flags.testBit 0 = true →
      ∃ t, exec (.klTs1Detected p ts) s = .next t ∧ t.klState p = 1 ∧ t.klStep p = (w, r)
        ∧ t.klRev p = rev ∧ t.linkUp p = s.linkUp p ∧ s.pllAt t p r
        ∧ (t.port p).top = (w, r) ∧ (t.port p).pass = .bringUp ∧ (t.port p).params = [] ∧ (t.port p).reversed = back
        ∧ (∀ l ∈ s.portLanes p, t.lane p l F.lnqLaneStatus_bad = false
            ∧ t.lane p l F.lnqLaneStatus_tx_idle_e = false ∧ t.lane p l F.lnqLaneStatus_rx_idle_e = false)
        ∧ (∀ x ∈ s.trainings p ts, x.2.second = false → t.lane p ((s.portLanes p).getD x.1 0) F.lnqLaneStatus_rx_inverted = x.2.inverted)
        ∧ RegsKept (pStat p :: A.lnqPllCtl (p / 4) :: laneRegs p) s t ∧ t = { s with regs := t.regs, ports := t.ports })
    ∧ (t0.flags.testBit 0 = false → exec (.klTs1Detected p ts) s = .next s))
  ∧ (∀ (p : Fin 16) (s : State), s.isKl p = true → s.klState p = 1 →
    ∃ t, exec (.klTrainComplete p) s = .next t ∧ t.klState p = 2 ∧ t.klStep p = s.klStep p ∧ t.linkUp p = s.linkUp p
      ∧ t.port p = { s.port p with stAt := s.elapsed, lockAt := s.elapsed }
      ∧ RegsKept [pStat p] s t ∧ t = { s with regs := t.regs, ports := t.ports })
  ∧ (∀ (p : Fin 16) (s : State), s.isKl p = true → s.klState p = 1 → (s.port p).stAt + 2000000 ≤ s.elapsed → (s.port p).tx = none →
    s.linkUp p = false → (s.port p).pass ≠ .thrift →
    let rt := A.lnqKlRetrain (p / 4) (p % 4)
    (0 < s.klRate p → ∃ t, exec (.klTrainTimeout p) s = .next t ∧ t.reg rt = satInc (s.reg rt) ∧ t.linkUp p = false
      ∧ t.klState p = 1 ∧ t.klStep p = (s.klWidth p, s.klRate p - 1) ∧ s.pllAt t p (s.klRate p - 1)
      ∧ RegsKept (pStat p :: A.lnqPllCtl (p / 4) :: rt :: laneRegs p) s t ∧ t = { s with regs := t.regs, ports := t.ports })
    ∧ (s.klRate p = 0 → ∃ t, exec (.klTrainTimeout p) s = .next t ∧ t.reg rt = satInc (s.reg rt) ∧ t.linkUp p = false
      ∧ t.klState p = 0 ∧ s.pllAt t p 0
      ∧ RegsKept [pStat p, A.lnqPllCtl (p / 4), rt] s t ∧ t = { s with regs := t.regs, ports := t.ports }))
  ∧ (∀ (p : Fin 16) (s : State), s.isKl p = true → s.klState p = 1 → (s.port p).stAt + 2000000 ≤ s.elapsed → (s.port p).tx = none →
    s.linkUp p = true → (s.port p).pass = .thrift → 0 < s.klRate p →
    let rt := A.lnqKlRetrain (p / 4) (p % 4)
    let rf := A.lnqKlRateFail (p / 4) (p % 4)
    ∃ t, exec (.klTrainTimeout p) s = .next t ∧ t.reg rt = satInc (s.reg rt) ∧ t.reg rf = satInc (s.reg rf) ∧ s.linkFell t p false
      ∧ t.klState p = 1 ∧ t.klRate p = s.klRate p - 1 ∧ s.pllAt t p (s.klRate p - 1) ∧ (t.port p).change = none
      ∧ (t.port p).pass = .bringUp
      ∧ RegsKept (pStat p :: A.lnqPllCtl (p / 4) :: rt :: rf :: laneRegs p ++ macRegs p [21, 40, 41]) s t)
  ∧ (∀ (p : Fin 16) (skew : Nat) (s : State), s.isKl p = true → s.klState p = 2 →
    (skew ≤ 16 → ∃ t, exec (.klLockAligned p skew) s = .next t ∧ t.klState p = 3 ∧ t.klStep p = s.klStep p
      ∧ t.port p = { s.port p with stAt := s.elapsed, params := [], lastCtl := some (7, 7, s.ownParam p 7), txAt := s.elapsed }
      ∧ RegsKept (pStat p :: laneRegs p) s t ∧ t = { s with regs := t.regs, ports := t.ports })
    ∧ (16 < skew → exec (.klLockAligned p skew) s = .next s)
    ∧ (8 ≤ s.markers p s.elapsed → (s.port p).tx = none →
      ∃ t, exec (.klLockTimeout p) s = .next t ∧ t.klState p = 1 ∧ t.klStep p = s.klStep p ∧ t.linkUp p = s.linkUp p
      ∧ (t.port p).pass = (s.port p).pass ∧ s.pllAt t p (s.klRate p)
      ∧ RegsKept (pStat p :: A.lnqPllCtl (p / 4) :: laneRegs p) s t ∧ t = { s with regs := t.regs, ports := t.ports })
    ∧ (s.markers p s.elapsed < 8 → exec (.klLockTimeout p) s = .next s))
  ∧ (∀ (p : Fin 16) (blk : List (List (Fin 1024))) (i v : Nat) (s : State), s.isKl p = true → s.klState p = 3 →
    blkOf blk = some (7, i, v) →
    (i < 8 → ∃ t, exec (.param p blk) s = .next t ∧ t.port p = { s.port p with params := (t.port p).params }
      ∧ Tbl.find? (t.port p).params i = some v
      ∧ (∀ j, j ≠ i → Tbl.find? (t.port p).params j = Tbl.find? (s.port p).params j)
      ∧ t = { s with ports := t.ports })
    ∧ (8 ≤ i → exec (.param p blk) s = .next s))
  ∧ (∀ (p : Fin 16) (s : State), s.isKl p = true → s.klState p = 3 →
    let good : Bool := (List.range 8).all (fun i => (Tbl.find? (s.port p).params i).isSome)
      && s.klParam p 7 == (s.klParam p 0 + s.klParam p 1 + s.klParam p 2 + s.klParam p 3 + s.klParam p 4 + s.klParam p 5 + s.klParam p 6) % 256
    let down := A.lnqKlThriftDown (p / 4) (p % 4)
    let up := A.lnqKlThriftUp (p / 4) (p % 4)
    let irq := A.lnqPortIrq (p / 4) (p % 4)
    let rf := A.lnqKlRateFail (p / 4) (p % 4)
    let late : Bool := (s.port p).pass != .bringUp && decide ((s.port p).passAt + 2000000 < s.elapsed)
    (good = false → exec (.klExchangeComplete p) s = .next s)
    ∧ (good = true → late = true → s.linkUp p = true → s.wireSettled p → ∃ t, exec (.klExchangeComplete p) s = .next t
        ∧ t.klState p = 4 ∧ t.linkUp p = true ∧ t.klStep p = s.klStep p ∧ t.reg (macReg p 41) = s.reg (macReg p 41) + 1
        ∧ s.elapsed ∈ (t.port p).flaps ∧ t.reg rf = (if (s.port p).pass = .thrift then satInc (s.reg rf) else s.reg rf)
        ∧ t.reg down = s.reg down ∧ t.reg up = s.reg up ∧ RegsKept (pStat p :: rf :: macRegs p [21, 40, 41]) s t
        ∧ t = { s with regs := t.regs, ports := t.ports, log := t.log })
    ∧ (good = true → late = false → ∃ t, exec (.klExchangeComplete p) s = .next t ∧ t.klState p = 4 ∧ t.linkUp p = true ∧ t.klStep p = s.klStep p
        ∧ (t.port p).pass = .bringUp
        ∧ (s.linkUp p = false → t.bit irq F.lnqPortIrq_link_change = true ∧ s.logs t (portSrc (p / 4) (p % 4)) .linkUp [p])
        ∧ (s.linkUp p = true → t.log = s.log ∧ t.reg irq = s.reg irq)
        ∧ ((s.port p).pass ≠ .thrift → t.reg down = s.reg down ∧ t.reg up = s.reg up)
        ∧ ((s.port p).pass = .thrift → stepCap (s.klStep p) < stepCap (s.port p).passFrom → t.reg down = satInc (s.reg down)
            ∧ t.reg up = s.reg up)
        ∧ ((s.port p).pass = .thrift → ¬ stepCap (s.klStep p) < stepCap (s.port p).passFrom → t.reg up = satInc (s.reg up)
            ∧ t.reg down = s.reg down)
        ∧ RegsKept [pStat p, irq, down, up] s t ∧ t = { s with regs := t.regs, ports := t.ports, log := t.log }))
  ∧ (∀ (p : Fin 16) (s : State), s.isKl p = true → s.klState p = 3 → (s.port p).stAt + 1000000 ≤ s.elapsed → s.linkUp p = false →
    (s.port p).pass ≠ .thrift →
    ∃ t, exec (.klExchangeTimeout p) s = .next t ∧ t.klState p = 0 ∧ t.linkUp p = false ∧ s.pllAt t p 0
      ∧ RegsKept [pStat p, A.lnqPllCtl (p / 4)] s t ∧ t = { s with regs := t.regs, ports := t.ports })
  ∧ (∀ (p : Fin 16) (rx : Bool) (s : State), s.isKl p = true → 1 ≤ s.klState p → s.klState p ≤ 4 → (s.port p).pass ≠ .thrift →
    (s.linkUp p = false →
      ∃ t, exec (.klSignalLoss p rx) s = .next t ∧ t.klState p = 0 ∧ t.linkUp p = false ∧ s.pllAt t p 0
      ∧ (∀ l ∈ (s.portLanes p).take 1, t.lane p l F.lnqLaneStatus_signal = false)
      ∧ RegsKept (pStat p :: A.lnqPllCtl (p / 4) :: laneRegs p) s t ∧ t = { s with regs := t.regs, ports := t.ports })
    ∧ (s.linkUp p = true → s.wireSettled p →
      ∃ t, exec (.klSignalLoss p rx) s = .next t ∧ t.klState p = 0 ∧ s.linkFell t p (rx && s.klState p == 4) ∧ s.pllAt t p 0
      ∧ (∀ l ∈ (s.portLanes p).take 1, t.lane p l F.lnqLaneStatus_signal = false)
      ∧ RegsKept (pStat p :: A.lnqPllCtl (p / 4) :: laneRegs p ++ macRegs p [21, 40, 41]) s t
      ∧ t = { s with regs := t.regs, ports := t.ports, log := t.log }))
  ∧ (∀ (p : Fin 16) (rx : Bool) (s : State), s.isKl p = true → s.klState p = 4 → s.linkUp p = true → s.wireSettled p →
    let rt := A.lnqKlRetrain (p / 4) (p % 4)
    ∃ t, exec (.klMarkerLoss p rx) s = .next t ∧ t.klState p = 1 ∧ t.klStep p = s.klStep p ∧ s.linkFell t p rx
        ∧ t.reg rt = satInc (s.reg rt) ∧ s.pllAt t p (s.klRate p)
        ∧ RegsKept (pStat p :: A.lnqPllCtl (p / 4) :: rt :: laneRegs p ++ macRegs p [21, 40, 41]) s t
        ∧ t = { s with regs := t.regs, ports := t.ports, log := t.log })
  ∧ (∀ (p : Fin 16) (k : Fin 4) (rx : Bool) (l w : Nat) (s : State), s.isKl p = true → s.klState p = 4 → s.linkUp p = true →
    s.wireSettled p → (s.port p).pass ≠ .thrift → lanesOf 5 (s.fld (pCfg p) F.lnqPortCfg_width) (p % 4) = some (s.portLanes p) →
    s.klWidth p ≤ s.fld (pCfg p) F.lnqPortCfg_width → (s.klLanes p (s.klWidth p))[k.val]? = some l →
    let lost (x : Nat) : Bool := x == l || s.lane p x F.lnqLaneStatus_bad
    let whole (v : Nat) : Bool := (s.klLanes p v).all (fun x => !lost x)
    let rt := A.lnqKlRetrain (p / 4) (p % 4)
    let ld := A.lnqKlLaneDrop (p / 4) (p % 4)
    ((∀ v ≤ s.klWidth p, whole v = false) →
        ∃ t, exec (.klLaneFailure p k rx) s = .next t ∧ t.klState p = 0 ∧ s.linkFell t p rx ∧ s.pllAt t p 0
          ∧ t.lane p l F.lnqLaneStatus_bad = true ∧ t.reg ld = satInc (s.reg ld)
          ∧ RegsKept (pStat p :: A.lnqPllCtl (p / 4) :: ld :: laneRegs p ++ macRegs p [21, 40, 41]) s t
          ∧ t = { s with regs := t.regs, ports := t.ports, log := t.log })
    ∧ (w ≤ s.klWidth p → whole w = true → (∀ v ≤ s.klWidth p, w < v → whole v = false) →
        ∃ t, exec (.klLaneFailure p k rx) s = .next t ∧ t.klState p = 1 ∧ t.klWidth p = w ∧ t.klRate p = s.klRate p
          ∧ s.linkFell t p rx ∧ s.pllAt t p (s.klRate p) ∧ t.reg rt = satInc (s.reg rt)
          ∧ t.lane p l F.lnqLaneStatus_bad = true ∧ t.reg ld = satInc (s.reg ld)
          ∧ RegsKept (pStat p :: A.lnqPllCtl (p / 4) :: rt :: ld :: laneRegs p ++ macRegs p [21, 40, 41]) s t
          ∧ t = { s with regs := t.regs, ports := t.ports, log := t.log }))
  ∧ (∀ (p : Fin 16) (s : State), s.isKl p = true → s.klState p ≠ 1 → exec (.klTrainComplete p) s = .next s
      ∧ exec (.klTrainTimeout p) s = .next s)

/-- Low power and thrift. LP_IDLE and IDLE-E mark the lanes, and revision 1 ignores them and thrift; DEEP is entered by agreement,
keeps link_up and is left through TRAIN; a window may request the step below, above or the top; a request of the partner is
acknowledged, refused, ignored or crossed; a width change is hitless and counted; a rate change that fails takes the link down. Log
entry 97: the model's reading. -/
def Obligations.KalharLinksSaveAndRegainPower : Prop :=
  (∀ (p : Fin 16) (blk : List (List (Fin 1024))) (a b : Nat) (s : State), s.idleOk p = true → blkOf blk = some (4, a, b) →
    let ls := s.klLanes p (s.klWidth p)
    ∃ t, exec (.lpIdle p blk) s = .next t ∧ (∀ l ∈ ls, t.lane p l F.lnqLaneStatus_rx_idle_e = true)
      ∧ (∀ l ∈ ls, t.lane p l F.lnqLaneStatus_tx_idle_e = s.lane p l F.lnqLaneStatus_tx_idle_e)
      ∧ t.port p = { s.port p with lpRxAt := s.elapsed }
      ∧ RegsKept (laneRegs p) s t ∧ t = { s with regs := t.regs, ports := t.ports })
  ∧ (∀ (p : Fin 16) (s : State), s.idleOk p = true → (s.port p).tx = none →
    let ls := s.klLanes p (s.klWidth p)
    ((s.port p).txq = [] → (s.port p).txAt + s.lpIdle p ≤ s.elapsed → ∃ t, exec (.idleEEntry p) s = .next t ∧ (∀ l ∈ ls, t.lane p l F.lnqLaneStatus_tx_idle_e = true)
      ∧ (∀ l ∈ ls, t.lane p l F.lnqLaneStatus_rx_idle_e = s.lane p l F.lnqLaneStatus_rx_idle_e)
      ∧ t.port p = { s.port p with lastCtl := some (4, 0, 0), lpTxAt := s.elapsed }
      ∧ RegsKept (laneRegs p) s t ∧ t = { s with regs := t.regs, ports := t.ports })
    ∧ ((s.port p).txq ≠ [] ∨ s.elapsed < (s.port p).txAt + s.lpIdle p → exec (.idleEEntry p) s = .next s)
    ∧ (s.inIdleE p F.lnqLaneStatus_tx_idle_e = true → (s.port p).lpTxAt + 1000000 ≤ s.elapsed →
      ∃ t, exec (.idleERefresh p) s = .next t ∧ t.port p = { s.port p with lastCtl := some (4, 0, 0), lpTxAt := s.elapsed } ∧ t = { s with ports := t.ports })
    ∧ (s.inIdleE p F.lnqLaneStatus_tx_idle_e = false ∨ s.elapsed < (s.port p).lpTxAt + 1000000 → exec (.idleERefresh p) s = .next s))
  ∧ (∀ (p : Fin 16) (s : State), s.isKl p = true → s.klState p = 4 → s.inIdleE p F.lnqLaneStatus_rx_idle_e = true →
    (s.port p).lpRxAt + 2000000 ≤ s.elapsed → s.linkUp p = true → s.wireSettled p →
    let rt := A.lnqKlRetrain (p / 4) (p % 4)
    ∃ t, exec (.idleERxTimeout p) s = .next t ∧ t.klState p = 1 ∧ t.klStep p = s.klStep p ∧ s.linkFell t p false
      ∧ t.reg rt = satInc (s.reg rt)
      ∧ RegsKept (pStat p :: A.lnqPllCtl (p / 4) :: rt :: laneRegs p ++ macRegs p [21, 40, 41]) s t)
  ∧ (∀ (p : Fin 16) (blk : List (List (Fin 1024))) (bits : Nat) (s : State), s.klRev p = 1 → exec (.lpIdle p blk) s = .next s
      ∧ exec (.idleEEntry p) s = .next s ∧ exec (.thriftReq p blk) s = .next s ∧ exec (.thriftAck p blk) s = .next s
      ∧ exec (.thriftWindow p bits) s = .next s)
  ∧ (∀ (p : Fin 16) (blk : List (List (Fin 1024))) (a b : Nat) (s : State), s.isKl p = true → s.klState p = 4 → (s.port p).txq = [] →
    (s.port p).tx = none →
    let wants : Bool := (s.klCtl p F.lnqKlCtl_deep_req == 1 || s.klRev p == 1)
      && decide ((s.port p).txAt + s.deepIdle p ≤ s.elapsed) && decide ((s.port p).rxAt + s.deepIdle p ≤ s.elapsed)
    let deep (t : State) : Bool := t.klState p == 5 && t.linkUp p == s.linkUp p && t.klStep p == s.klStep p
      && t.fld (A.lnqPllCtl (p / 4)) (pllEn (s.klPll p)) == 0 && t.fld (A.lnqPllCtl (p / 4)) (pllLock (s.klPll p)) == 0
    (wants = true → ∃ t, exec (.deepIdleExpiry p) s = .next t ∧ t.port p = { s.port p with lastCtl := some (5, 0, 0), deepSent := true }
        ∧ t.klState p = 4 ∧ RegsKept (laneRegs p) s t ∧ t = { s with regs := t.regs, ports := t.ports })
    ∧ (wants = true → blkOf blk = some (5, a, b) → ∃ t, exec (.deepReq p blk) s = .next t ∧ deep t = true
        ∧ (t.port p).lastCtl = some (6, 0, 0) ∧ RegsKept (pStat p :: A.lnqPllCtl (p / 4) :: laneRegs p) s t
        ∧ t = { s with regs := t.regs, ports := t.ports })
    ∧ (wants = false → exec (.deepIdleExpiry p) s = .next s ∧ exec (.deepReq p blk) s = .next s)
    ∧ (blkOf blk = some (6, a, b) → (s.port p).deepSent = true → ∃ t, exec (.deepAck p blk) s = .next t ∧ deep t = true
        ∧ (t.port p).lastCtl = (s.port p).lastCtl ∧ RegsKept (pStat p :: A.lnqPllCtl (p / 4) :: laneRegs p) s t
        ∧ t = { s with regs := t.regs, ports := t.ports })
    ∧ ((s.port p).deepSent = false → exec (.deepAck p blk) s = .next s))
  ∧ (∀ (p : Fin 16) (s : State), s.isKl p = true → s.klState p = 5 → (s.port p).tx = none →
    ∃ t, exec (.deepExit p) s = .next t ∧ t.klState p = 1 ∧ t.klStep p = s.klStep p ∧ t.linkUp p = s.linkUp p
      ∧ (t.port p).pass = .deep ∧ s.pllAt t p (s.klRate p) ∧ RegsKept (pStat p :: A.lnqPllCtl (p / 4) :: laneRegs p) s t
      ∧ t = { s with regs := t.regs, ports := t.ports })
  ∧ (∀ (fw fr : Nat) (x : Nat × Nat), (0 < x.1 → fw < x.1 → stepBelow fw fr x = some (x.1 - 1, x.2))
      ∧ (0 < x.1 → x.1 ≤ fw → stepBelow fw fr x = none)
      ∧ (∀ y, stepBelow fw fr x = some y → fr ≤ x.2 → fw ≤ x.1 → fw ≤ y.1 ∧ fr ≤ y.2 ∧ (x.2 ≤ 6 → stepCap y < stepCap x))
      ∧ (x.1 = 0 → ∀ y, stepBelow fw fr x = some y → 2 * rateMbaud y.2 = rateMbaud x.2 ∨ (y.2 = 0 ∧ rateMbaud x.2 = 3125)))
  ∧ (∀ (p : Fin 16) (s : State) (x : Nat × Nat), (s.port p).top.2 ≤ 6 → s.klHigher p = some x →
      x ∈ s.klLadder p ∧ stepCap (s.klStep p) < stepCap x
        ∧ ∀ y ∈ s.klLadder p, stepCap (s.klStep p) < stepCap y → stepCap x ≤ stepCap y)
  ∧ (∀ (p : Fin 16) (bits : Nat) (x : Nat × Nat) (s : State), s.thriftOk p = true →
    let cap (y : Nat × Nat) : Nat := stepCap y * 8000
    let low : Bool := (s.klLower p).any (fun y => bits * 100 < s.klThr p F.lnqKlThrift_thrift_lo * cap y)
    let run := if low then (s.port p).lowRun + 1 else 0
    let long : Bool := decide (10 * max 1 (s.klThr p F.lnqKlThrift_dwell) ≤ run)
    let jump : Bool := decide (16 * s.klThr p F.lnqKlThrift_up_cells < s.egressCells p) && s.klStep p != (s.port p).top
    let high : Bool := decide (s.klThr p F.lnqKlThrift_thrift_hi * cap (s.klStep p) < bits * 100)
    let free : Bool := (s.port p).ownReq.isNone && (s.port p).change.isNone
    let next := if jump then some (s.port p).top else if high then s.klHigher p else if long then s.klLower p else none
    (free = true → next = some x → ∃ t, exec (.thriftWindow p bits) s = .next t
      ∧ t.port p = { s.port p with lowRun := run, ownReq := some x, lastCtl := some (1, x.1, x.2), txAt := s.elapsed }
      ∧ RegsKept (laneRegs p) s t ∧ t = { s with regs := t.regs, ports := t.ports })
    ∧ (free = false ∨ next = none → ∃ t, exec (.thriftWindow p bits) s = .next t ∧ t.port p = { s.port p with lowRun := run }
      ∧ t = { s with ports := t.ports }))
  ∧ (∀ (p : Fin 16) (blk : List (List (Fin 1024))) (w r : Nat) (s : State), s.thriftOk p = true → (s.port p).tx = none →
    blkOf blk = some (1, w, r) →
    let x : Nat × Nat := (w, r)
    let known : Bool := decide (w ≤ 2) && decide (r ≤ 6)
    (∀ y, known = true → (s.port p).ownReq = some y → y.2 ≤ 6 →
      ∃ t, exec (.thriftReq p blk) s = .next t
        ∧ s.stepAgreed t p (if stepCap x < stepCap y ∨ (stepCap x = stepCap y ∧ w < y.1) then y else x))
    ∧ (∀ t0, known = true → (s.port p).ownReq = none → (s.port p).lastAnswer = some t0 → s.elapsed < t0 + 100000 →
      ∃ t, exec (.thriftReq p blk) s = .next t ∧ t.port p = { s.port p with rxAt := s.elapsed } ∧ RegsKept (laneRegs p) s t
        ∧ t = { s with regs := t.regs, ports := t.ports })
    ∧ (known = true → (s.port p).ownReq = none → (s.port p).lastAnswer.all (fun t0 => t0 + 100000 ≤ s.elapsed) = true →
      (stepCap (s.klStep p) ≤ stepCap x ∨ s.dwelled p = true → ∃ t, exec (.thriftReq p blk) s = .next t ∧ s.stepAgreed t p x
          ∧ (t.port p).lastCtl = some (2, w, r) ∧ (t.port p).lastAnswer = some s.elapsed)
      ∧ (stepCap x < stepCap (s.klStep p) → s.dwelled p = false → ∃ t, exec (.thriftReq p blk) s = .next t
          ∧ t.port p = { s.port p with lastCtl := some (3, w, r), lastAnswer := some s.elapsed, txAt := s.elapsed, rxAt := s.elapsed }
          ∧ RegsKept (laneRegs p) s t ∧ t = { s with regs := t.regs, ports := t.ports }))
    ∧ (known = false → exec (.thriftReq p blk) s = .next s))
  ∧ (∀ (p : Fin 16) (blk : List (List (Fin 1024))) (a b : Nat) (s : State), s.thriftOk p = true → (s.port p).tx = none →
    (∀ y, blkOf blk = some (2, a, b) → (s.port p).ownReq = some y → y.2 ≤ 6 →
      ∃ t, exec (.thriftAck p blk) s = .next t ∧ s.stepAgreed t p y)
    ∧ (blkOf blk = some (2, a, b) → (s.port p).ownReq = none →
      ∃ t, exec (.thriftAck p blk) s = .next t ∧ t.port p = { s.port p with rxAt := s.elapsed } ∧ RegsKept (laneRegs p) s t
        ∧ t = { s with regs := t.regs, ports := t.ports })
    ∧ (blkOf blk = some (3, a, b) →
      ∃ t, exec (.thriftNak p blk) s = .next t ∧ t.port p = { s.port p with ownReq := none, rxAt := s.elapsed } ∧ RegsKept (laneRegs p) s t
        ∧ t = { s with regs := t.regs, ports := t.ports }))
  ∧ (∀ (p : Fin 16) (w : Nat) (s : State), s.isKl p = true → s.klState p = 4 → (s.port p).change = some (w, s.klRate p) → w ≤ 2 →
    let down := A.lnqKlThriftDown (p / 4) (p % 4)
    let up := A.lnqKlThriftUp (p / 4) (p % 4)
    let second := s.markers p (s.port p).changeAt + 2
    (second ≤ s.markers p s.elapsed →
      ∃ t, exec (.thriftWidthChange p) s = .next t ∧ t.klState p = 4 ∧ t.klStep p = (w, s.klRate p) ∧ t.linkUp p = s.linkUp p
      ∧ t.port p = { s.port p with change := none, lowRun := 0 }
      ∧ (∀ l ∈ s.klLanes p w, t.lane p l F.lnqLaneStatus_tx_idle_e = false ∧ t.lane p l F.lnqLaneStatus_rx_idle_e = false)
      ∧ (∀ l ∈ s.klLanes p (s.klWidth p), l ∉ s.klLanes p w →
          t.lane p l F.lnqLaneStatus_tx_idle_e = true ∧ t.lane p l F.lnqLaneStatus_rx_idle_e = true)
      ∧ (w < s.klWidth p → t.reg down = satInc (s.reg down) ∧ t.reg up = s.reg up)
      ∧ (s.klWidth p ≤ w → t.reg up = satInc (s.reg up) ∧ t.reg down = s.reg down)
      ∧ RegsKept (pStat p :: down :: up :: laneRegs p) s t ∧ t = { s with regs := t.regs, ports := t.ports })
    ∧ (s.markers p s.elapsed < second → exec (.thriftWidthChange p) s = .next s))
  ∧ (∀ (p : Fin 16) (s : State), s.isKl p = true → s.klState p ≠ 4 →
    let rf := A.lnqKlRateFail (p / 4) (p % 4)
    ((s.port p).pass = .thrift → (s.port p).passAt + 2000000 ≤ s.elapsed → s.linkUp p = true → s.wireSettled p →
      ∃ t, exec (.klRateFail p) s = .next t ∧ t.reg rf = satInc (s.reg rf) ∧ s.linkFell t p false ∧ t.klState p = s.klState p
        ∧ (t.port p).pass = .bringUp ∧ (t.port p).change = none ∧ RegsKept (pStat p :: rf :: macRegs p [21, 40, 41]) s t
        ∧ t = { s with regs := t.regs, ports := t.ports, log := t.log })
    ∧ ((s.port p).pass ≠ .thrift → exec (.klRateFail p) s = .next s))

/-! ### Wired ports -/

/-- Ports and links. An enable is refused with its reason or takes the cuff and the lanes; an enabled port keeps its configuration;
a disable lets the link fall and frees the lanes; a lane acquires or loses symbol lock by what it receives; negotiation, SGMII and
fault words set what the status shows; a link rises after 10 ms of a good PCS and falls at once; ten flaps within a second hold the
port down, and bring-up starts afresh a second later. Log entries 93, 95, 96, 98: the model's reading. -/
def Obligations.PortsAreEnabledAndLinksFollowTheirPartners : Prop :=
  (∀ (who : Requester) (p : Fin 16) (w : Word) (ls : List Nat) (s : State), s.portLitAt p = true → isAnyCore who = true →
    s.portOn p = false →
    let mode := F.lnqPortCfg_mode.get w
    let width := F.lnqPortCfg_width.get w
    let q := p.val / 4
    let lanes := lanesOf mode width (p % 4)
    let runs (b : Bool) : Bool := s.fld (A.lnqPllCtl q) (pllEn b) == 1 && s.fld (A.lnqPllCtl q) (pllRate b) == modeRate mode
    let shared : Bool := (s.otherPorts p).any (fun k => (s.portLanes k).any ls.contains)
    let b0 := s.lanePll q (ls.headD 0)
    let pllOk : Bool := if mode = 5 then
        ls.all (fun l => s.lanePll q l == b0) && (s.otherPorts p).all (fun k => (s.portLanes k).all (fun x => s.lanePll q x != b0))
      else ls.all (fun l => runs (s.lanePll q l) && (s.otherPorts p).all (fun k => !s.ownsPll k (s.lanePll q l)))
    let cuff := F.lnqPortCfg_cuff.get w
    let cuffOk : Bool := s.isLit 2
      && (List.range 16).all (fun k => k == p.val || !s.portOn k || s.fld (pCfg k) F.lnqPortCfg_cuff != cuff)
    let refused (t : State) (reason : Nat) : Bool := !t.portOn p && t.bit (A.lnqCtl q) F.lnqCtl_cfg_err
      && t.fld (A.lnqCtl q) F.lnqCtl_cfg_reason == reason
    (mode ≤ 5 → width ≤ 2 → lanes = none → ∃ t, exec (.portEnable who p w) s = .next t ∧ refused t 5 = true
        ∧ RegsKept [pCfg p, A.lnqCtl q] s t ∧ t = { s with regs := t.regs, bus := ⟨false, 0, []⟩ })
    ∧ (lanes = some ls → shared = true → ∃ t, exec (.portEnable who p w) s = .next t ∧ refused t 1 = true
        ∧ RegsKept [pCfg p, A.lnqCtl q] s t ∧ t = { s with regs := t.regs, bus := ⟨false, 0, []⟩ })
    ∧ (lanes = some ls → shared = false → pllOk = false → ∃ t, exec (.portEnable who p w) s = .next t ∧ refused t 3 = true
        ∧ RegsKept [pCfg p, A.lnqCtl q] s t ∧ t = { s with regs := t.regs, bus := ⟨false, 0, []⟩ })
    ∧ (lanes = some ls → shared = false → pllOk = true → cuffOk = false →
        ∃ t, exec (.portEnable who p w) s = .next t ∧ refused t 2 = true
        ∧ RegsKept [pCfg p, A.lnqCtl q] s t ∧ t = { s with regs := t.regs, bus := ⟨false, 0, []⟩ })
    ∧ (lanes = some ls → shared = false → pllOk = true → cuffOk = true →
        ∃ t, exec (.portEnable who p w) s = .next t ∧ t.portOn p = true ∧ t.pMode p = mode ∧ t.portLanes p = ls
          ∧ t.fld (pCfg p) F.lnqPortCfg_cuff = cuff ∧ t.fld (pCfg p) F.lnqPortCfg_max_len = F.lnqPortCfg_max_len.get w
          ∧ t.fld (pCfg p) F.lnqPortCfg_an_en = F.lnqPortCfg_an_en.get w
          ∧ t.cuff cuff = Cuff.empty ∧ (∀ l ∈ ls, t.lane p l F.lnqLaneStatus_in_use = true) ∧ t.linkUp p = false
          ∧ t.fld (A.lnqPortTx q (p % 4)) F.lnqPortTx_start_thresh = 512 ∧ t.port p = PortState.init
          ∧ (mode = 5 → t.klState p = 0 ∧ t.fld (A.lnqPllCtl q) (pllRate (t.klPll p)) = 0
              ∧ t.fld (A.lnqPllCtl q) (pllEn (t.klPll p)) = 1)
          ∧ RegsKept ([pCfg p, pStat p, A.lnqPortTx q (p % 4), A.lnqPllCtl q, A.timeCuffCtl cuff, A.timeCuffHead0 cuff,
              A.timeCuffHead1 cuff, A.timeCuffHead2 cuff] ++ laneRegs p) s t
          ∧ t = { s with regs := t.regs, ports := t.ports, time := { s.time with cuffs := t.time.cuffs }, bus := ⟨false, 0, []⟩ })
    ∧ (5 < mode ∨ 2 < width → ∃ t, exec (.portEnable who p w) s = .next t ∧ t.bit (A.lnqCtl q) F.lnqCtl_cfg_err = true
          ∧ t.pMode p = (if 5 < mode then s.pMode p else mode)
          ∧ t.fld (pCfg p) F.lnqPortCfg_width = (if 2 < width then s.fld (pCfg p) F.lnqPortCfg_width else width)))
  ∧ (∀ (who : Requester) (p : Fin 16) (w : Word) (s : State), s.portLitAt p = true → isAnyCore who = true → s.portOn p = true →
    let same : Bool := F.lnqPortCfg_mode.get w == s.pMode p && F.lnqPortCfg_width.get w == s.fld (pCfg p) F.lnqPortCfg_width
      && F.lnqPortCfg_cuff.get w == s.fld (pCfg p) F.lnqPortCfg_cuff && F.lnqPortCfg_an_en.get w == s.fld (pCfg p) F.lnqPortCfg_an_en
    let keeps (t : State) : Bool := t.portOn p && t.pMode p == s.pMode p
      && t.fld (pCfg p) F.lnqPortCfg_width == s.fld (pCfg p) F.lnqPortCfg_width
      && t.fld (pCfg p) F.lnqPortCfg_cuff == s.fld (pCfg p) F.lnqPortCfg_cuff
      && t.fld (pCfg p) F.lnqPortCfg_an_en == s.fld (pCfg p) F.lnqPortCfg_an_en
      && t.fld (pCfg p) F.lnqPortCfg_max_len == F.lnqPortCfg_max_len.get w
    (same = true → ∃ t, exec (.portEnable who p w) s = .next t ∧ keeps t = true ∧ RegsKept [pCfg p] s t
      ∧ t = { s with regs := t.regs, bus := ⟨false, 0, []⟩ })
    ∧ (same = false → ∃ t, exec (.portEnable who p w) s = .next t ∧ keeps t = true ∧ t.bit (A.lnqCtl (p / 4)) F.lnqCtl_cfg_err = true
      ∧ t.fld (A.lnqCtl (p / 4)) F.lnqCtl_cfg_reason = 4 ∧ RegsKept [pCfg p, A.lnqCtl (p / 4)] s t
      ∧ t = { s with regs := t.regs, bus := ⟨false, 0, []⟩ }))
  ∧ (∀ (who : Requester) (p : Fin 16) (w : Word) (s : State), s.portLitAt p = true → isAnyCore who = true →
    let off (t : State) : Bool := !t.portOn p && !t.linkUp p && (t.port p).txq.isEmpty && (t.port p).tx.isNone
      && (s.portLanes p).all (fun l => t.reg (A.lnqLaneStatus (p / 4) l) == 0)
      && (s.portLanes p).all (fun l => (Tbl.find? t.lanes (4 * (p.val / 4) + l)).isNone)
    (s.portOn p = true → s.linkUp p = true → s.wireSettled p →
      ∃ t, exec (.portDisable who p w) s = .next t ∧ off t = true
      ∧ t.reg (macReg p 41) = s.reg (macReg p 41) + 1 ∧ s.logs t (portSrc (p / 4) (p % 4)) .linkDown [p]
      ∧ RegsKept ([pCfg p, pStat p, A.lnqCtl (p / 4)] ++ laneRegs p ++ macRegs p [21, 40, 41]) s t
      ∧ t = { s with regs := t.regs, ports := t.ports, lanes := t.lanes, log := t.log, bus := ⟨false, 0, []⟩ })
    ∧ (s.portOn p = true → s.linkUp p = false → ∃ t, exec (.portDisable who p w) s = .next t ∧ off t = true
      ∧ RegsKept ([pCfg p, pStat p, A.lnqCtl (p / 4)] ++ laneRegs p) s t
      ∧ t = { s with regs := t.regs, ports := t.ports, lanes := t.lanes, bus := ⟨false, 0, []⟩ })
    ∧ (s.portOn p = false → F.lnqPortCfg_mode.get w ≤ 5 → F.lnqPortCfg_width.get w ≤ 2 →
      ∃ t, exec (.portDisable who p w) s = .next t ∧ t.portOn p = false ∧ t.pMode p = F.lnqPortCfg_mode.get w
      ∧ t.fld (pCfg p) F.lnqPortCfg_width = F.lnqPortCfg_width.get w ∧ t.fld (pCfg p) F.lnqPortCfg_cuff = F.lnqPortCfg_cuff.get w
      ∧ RegsKept [pCfg p] s t ∧ t = { s with regs := t.regs, bus := ⟨false, 0, []⟩ }))
  ∧ (∀ (who : Requester) (p : Fin 16) (w : Word) (s : State), s.portLitAt p = true → isAnyCore who = false →
    exec (.portEnable who p w) s = .next (s.busOk 0) ∧ exec (.portDisable who p w) s = .next (s.busOk 0))
  ∧ (∀ (q : Fin 4) (b : Bool) (s : State), s.isLit (lnqId q) = true →
    (s.fld (A.lnqPllCtl q) (pllEn b) = 1 → ∃ t, exec (.lanePllLock q b) s = .next t ∧ t.fld (A.lnqPllCtl q) (pllLock b) = 1
      ∧ t.fld (A.lnqPllCtl q) (pllLock !b) = s.fld (A.lnqPllCtl q) (pllLock !b)
      ∧ t.fld (A.lnqPllCtl q) (pllRate b) = s.fld (A.lnqPllCtl q) (pllRate b) ∧ RegsKept [A.lnqPllCtl q] s t ∧ t = { s with regs := t.regs })
    ∧ (s.fld (A.lnqPllCtl q) (pllEn b) = 0 → exec (.lanePllLock q b) s = .next s))
  ∧ (∀ (q l : Fin 4) (signal : Bool) (bits : List Bool) (s : State), s.isLit (lnqId q) = true →
    let a := A.lnqLaneStatus q l
    let k := 4 * q.val + l.val
    let rx (t : State) : LaneRx := Tbl.get (fun _ => LaneRx.init) t.lanes k
    let ran := (rx s).run (bits.map (fun b => b != s.laneInverted q l))
    s.bit a F.lnqLaneStatus_in_use = true →
    (signal = true → ∃ t, exec (.symbolLockChange q l signal bits) s = .next t ∧ rx t = ran.1
      ∧ t.bit a F.lnqLaneStatus_sym_lock = ran.1.locked ∧ t.bit a F.lnqLaneStatus_cdr_lock = true ∧ t.bit a F.lnqLaneStatus_signal = true
      ∧ (t.reg (A.lnqLaneCodeErr q l)).toNat = min 0xFFFFFFFF ((s.reg (A.lnqLaneCodeErr q l)).toNat + ran.2.1)
      ∧ (t.reg (A.lnqLaneDispErr q l)).toNat = min 0xFFFFFFFF ((s.reg (A.lnqLaneDispErr q l)).toNat + ran.2.2)
      ∧ RegsKept [a, A.lnqLaneCodeErr q l, A.lnqLaneDispErr q l] s t ∧ t = { s with regs := t.regs, lanes := t.lanes, ports := t.ports })
    ∧ (signal = false → ∃ t, exec (.symbolLockChange q l signal bits) s = .next t ∧ rx t = LaneRx.init
      ∧ t.bit a F.lnqLaneStatus_sym_lock = false ∧ t.bit a F.lnqLaneStatus_cdr_lock = false ∧ t.bit a F.lnqLaneStatus_signal = false
      ∧ RegsKept [a] s t ∧ t = { s with regs := t.regs, lanes := t.lanes, ports := t.ports }))
  ∧ (∀ (p : Fin 16) (psym pasym rf : Bool) (s : State), s.portLive p = true → s.runsAn p = true →
    let a := pStat p
    let pr := A.lnqPortPause (p / 4) (p % 4)
    let words (t : State) : Bool := t.bit a F.lnqPortStatus_an_done && t.bit a F.lnqPortStatus_remote_fault == rf
      && t.fld a F.lnqPortStatus_partner_pause == (if psym then 2 else 0) + (if pasym then 1 else 0)
    let rx := s.bit pr F.lnqPortPause_rx_en
    let tx := s.bit pr F.lnqPortPause_tx_en
    let n := A.lnqAnRestart (p / 4) (p % 4)
    (∃ t, exec (.autonegComplete p true psym pasym rf) s = .next t ∧ words t = true ∧ t.bit a F.lnqPortStatus_duplex_err = false
      ∧ t.linkUp p = s.linkUp p
      ∧ (t.port p).pauseRes = some (if rx && psym then (true, true) else if rx && !tx && pasym then (true, false)
           else if !rx && tx && psym && pasym then (false, true) else (false, false))
      ∧ RegsKept [a] s t ∧ t = { s with regs := t.regs, ports := t.ports })
    ∧ (∃ t, exec (.autonegRestart p) s = .next t ∧ t.reg n = satInc (s.reg n) ∧ t.bit a F.lnqPortStatus_an_done = false
        ∧ (t.port p).pauseRes = none ∧ (t.port p).flaps = (s.port p).flaps.filter (fun x => s.elapsed < x + nsPerSec) ++ [s.elapsed]
        ∧ RegsKept [n, a] s t ∧ t = { s with regs := t.regs, ports := t.ports }))
  ∧ (∀ (p : Fin 16) (psym pasym rf : Bool) (s : State), s.portLive p = true → s.runsAn p = true → s.linkUp p = true → s.wireSettled p →
    let a := pStat p
    ∃ t, exec (.autonegComplete p false psym pasym rf) s = .next t ∧ t.bit a F.lnqPortStatus_an_done = true
      ∧ t.bit a F.lnqPortStatus_duplex_err = true ∧ s.linkFell t p false ∧ RegsKept (a :: macRegs p [21, 40, 41]) s t
      ∧ t = { s with regs := t.regs, ports := t.ports, log := t.log })
  ∧ (∀ (p : Fin 16) (link : Bool) (speed : Fin 3) (full : Bool) (s : State), s.portLive p = true → s.pMode p = 2 →
    ((link && full) = true ∨ s.linkUp p = false →
      ∃ t, exec (.sgmiiConfigWord p link speed full) s = .next t ∧ t.bit (pStat p) F.lnqPortStatus_duplex_err = !full
      ∧ (t.port p).sgmiiLink = (link && full) ∧ t.linkUp p = s.linkUp p
      ∧ t.fld (pStat p) F.lnqPortStatus_speed = (if (s.port p).tx.isNone then speed.val else s.fld (pStat p) F.lnqPortStatus_speed)
      ∧ (t.port p).speedNext = (if (s.port p).tx.isNone then none else some speed.val)
      ∧ RegsKept [pStat p] s t ∧ t = { s with regs := t.regs, ports := t.ports })
    ∧ ((link && full) = false → s.linkUp p = true → s.wireSettled p →
      ∃ t, exec (.sgmiiConfigWord p link speed full) s = .next t ∧ t.bit (pStat p) F.lnqPortStatus_duplex_err = !full
      ∧ (t.port p).sgmiiLink = false ∧ s.linkFell t p false ∧ t.fld (pStat p) F.lnqPortStatus_speed = speed
      ∧ RegsKept (pStat p :: macRegs p [21, 40, 41]) s t ∧ t = { s with regs := t.regs, ports := t.ports, log := t.log }))
  ∧ (∀ (p : Fin 16) (rx : Bool) (s : State), s.portLive p = true → s.pMode p ≠ 5 →
    let irq := A.lnqPortIrq (p / 4) (p % 4)
    let good : Bool := !s.bit (pStat p) F.lnqPortStatus_duplex_err && (s.portLanes p).all (fun l => s.lane p l F.lnqLaneStatus_sym_lock)
      && (!s.runsAn p || s.bit (pStat p) F.lnqPortStatus_an_done) && (s.pMode p != 2 || (s.port p).sgmiiLink)
      && (s.pMode p != 4 || !s.bit (pStat p) F.lnqPortStatus_local_fault)
    let long : Bool := (s.port p).goodAt.any (fun g => g + 10000000 ≤ s.elapsed)
    (good = true → long = true → s.linkUp p = false →
      ∃ t, exec (.linkUp p) s = .next t ∧ t.linkUp p = true ∧ t.bit irq F.lnqPortIrq_link_change = true
        ∧ s.logs t (portSrc (p / 4) (p % 4)) .linkUp [p] ∧ RegsKept [pStat p, irq] s t ∧ t = { s with regs := t.regs, log := t.log })
    ∧ (good = false ∨ long = false → exec (.linkUp p) s = .next s)
    ∧ (s.linkUp p = true → s.wireSettled p → ∃ t, exec (.linkDown p rx) s = .next t ∧ s.linkFell t p rx
        ∧ RegsKept (pStat p :: macRegs p [21, 40, 41]) s t ∧ t = { s with regs := t.regs, ports := t.ports, log := t.log })
    ∧ (s.linkUp p = false → exec (.linkDown p rx) s = .next s))
  ∧ (∀ (p : Fin 16) (loc rem : Bool) (skew : Nat) (s : State), s.portLive p = true → s.pMode p = 4 →
    let fault := loc || decide (16 < skew)
    ∃ t, exec (.linkFaultSignal p loc rem skew) s = .next t ∧ t.bit (pStat p) F.lnqPortStatus_local_fault = fault
      ∧ t.bit (pStat p) F.lnqPortStatus_remote_fault = rem ∧ t.linkUp p = s.linkUp p
      ∧ t.port p = { s.port p with sendsFault := fault, goodAt := (t.port p).goodAt } ∧ (fault = true → (t.port p).goodAt = none)
      ∧ RegsKept [pStat p] s t ∧ t = { s with regs := t.regs, ports := t.ports })
  ∧ (∀ (p : Fin 16) (s : State), s.portLive p = true →
    let n := A.lnqPortHoldoff (p / 4) (p % 4)
    let flaps := ((s.port p).flaps.filter (fun t => s.elapsed < t + nsPerSec)).length
    let down (t : State) : Bool := t.pHold p && !t.portLive p && !t.linkUp p && t.reg n == satInc (s.reg n) && (t.port p).flaps.isEmpty
      && (t.port p).holdEnd == s.elapsed + nsPerSec
    (10 ≤ flaps → s.linkUp p = false →
      ∃ t, exec (.portHoldoff p) s = .next t ∧ down t = true ∧ s.logs t (portSrc (p / 4) (p % 4)) .linkFlap [p]
        ∧ RegsKept [pStat p, n, A.lnqPllCtl (p / 4)] s t ∧ t = { s with regs := t.regs, ports := t.ports, log := t.log })
    ∧ (10 ≤ flaps → s.linkUp p = true → s.wireSettled p →
      ∃ t, exec (.portHoldoff p) s = .next t ∧ down t = true ∧ t.reg (macReg p 41) = s.reg (macReg p 41) + 1
        ∧ RegsKept (pStat p :: n :: A.lnqPllCtl (p / 4) :: macRegs p [21, 40, 41]) s t
        ∧ t = { s with regs := t.regs, ports := t.ports, log := t.log })
    ∧ (flaps < 10 → exec (.portHoldoff p) s = .next s))
  ∧ (∀ (p : Fin 16) (s : State), s.portOn p = true → s.pHold p = true →
    ((s.port p).holdEnd ≤ s.elapsed → ∃ t, exec (.portHoldoffEnd p) s = .next t ∧ t.portLive p = true ∧ t.linkUp p = false
      ∧ (s.pMode p = 5 → t.klState p = 0)
      ∧ (t.port p).txq = [] ∧ RegsKept [pStat p, A.lnqPllCtl (p / 4)] s t ∧ t = { s with regs := t.regs, ports := t.ports })
    ∧ (s.elapsed < (s.port p).holdEnd → exec (.portHoldoffEnd p) s = .next s))

/-- Frames and time. A received frame is counted by length, check and kind, and delivered, consumed or dropped; PAUSE is honoured within
pause_max and budget and sent by the fill; a frame starts at the threshold, an underrun raises it; a lane test and an octet counter read;
stamps wait in cuffs; offsets steer or step the clock, holdover holds it, and a read latches one instant.
Log entries 94, 99, 101, 124: the model's reading. -/
def Obligations.FramesAreCountedPausedAndStamped : Prop :=
  (∀ (p : Fin 16) (f : List Byte) (raw var : Nat) (bad : List (Fin 4 × Bool)) (es : Bool) (s : State), s.portLive p = true →
    s.linkUp p = true → (s.pMode p ≠ 5 ∨ s.klState p = 4) →
    let n := f.length
    let ok := fcsOk f
    let irq := A.lnqPortIrq (p / 4) (p % 4)
    let up (t : State) (k : Nat) : Bool := t.reg (macReg p k) == s.reg (macReg p k) + 1 && (s.reg (macReg p k) != 0x7FFFFFFF
      || (t.bit irq F.lnqPortIrq_half && (t.reg (A.lnqCntHalfLo (p / 4) (p % 4))).getLsbD k))
    let laneErr := (List.range 4).flatMap (fun l => [A.lnqLaneCodeErr (p / 4) l, A.lnqLaneDispErr (p / 4) l])
    let cast := if (f.take 6).all (· == 0xFF) then 5 else if (f.getD 0 0).getLsbD 0 then 4 else 3
    let clean : Bool := bad.isEmpty && !es
    let fits : Bool := clean && decide (64 ≤ n) && decide (n ≤ s.maxLen p) && ok
    let good (t : State) : Bool := t.reg (macReg p cast) == s.reg (macReg p cast) + 1
      && t.reg (macReg p (8 + sizeBin n)) == s.reg (macReg p (8 + sizeBin n)) + 1
    let fifo (t : State) := Tbl.get (fun _ => []) t.rxFifo p
    let fill := (fifo s).foldl (fun a f => a + f.bytes.length) 0
    let stamp : Int := (raw : Int) - (s.portCorr p).2 - var - s.boardRx p
    let ctrl : Bool := beAt f 12 2 == 0x8808
    let pause : Bool := beAt f 14 2 == 1 && (f.take 6 == [0x01, 0x80, 0xC2, 0x00, 0x00, 0x01] || !(f.getD 0 0).getLsbD 0)
    let heard (t : State) : Bool := t.port p == { s.port p with rxAt := s.elapsed }
    (es = true ∨ bad.any (·.2) = true → ∃ t, exec (.macFrameRx p f raw var bad es) s = .next t ∧ up t 20 = true
        ∧ RegsKept (laneRegs p ++ laneErr ++ macRegs p [20]) s t ∧ heard t = true
          ∧ t = { s with regs := t.regs, ports := t.ports })
    ∧ (∀ l b, bad = [(l, b)] → ∃ t, exec (.macFrameRx p f raw var bad es) s = .next t
        ∧ t.reg (A.lnqLaneCodeErr (p / 4) l) = (if b then satInc (s.reg (A.lnqLaneCodeErr (p / 4) l)) else s.reg (A.lnqLaneCodeErr (p / 4) l))
        ∧ t.reg (A.lnqLaneDispErr (p / 4) l) = (if b then s.reg (A.lnqLaneDispErr (p / 4) l) else satInc (s.reg (A.lnqLaneDispErr (p / 4) l))))
    ∧ (clean = true → 16384 ≤ n → ∃ t, exec (.macFrameRx p f raw var bad es) s = .next t ∧ up t 19 = true
        ∧ RegsKept (laneRegs p ++ macRegs p [19]) s t ∧ heard t = true
          ∧ t = { s with regs := t.regs, ports := t.ports })
    ∧ (clean = true → n < 64 → ∃ t, exec (.macFrameRx p f raw var bad es) s = .next t ∧ up t (if ok then 16 else 17) = true
        ∧ RegsKept (laneRegs p ++ macRegs p [if ok then 16 else 17]) s t ∧ heard t = true
          ∧ t = { s with regs := t.regs, ports := t.ports })
    ∧ (clean = true → s.maxLen p < n → n < 16384 → 64 ≤ n → ∃ t, exec (.macFrameRx p f raw var bad es) s = .next t
        ∧ up t (if ok then 18 else 19) = true
        ∧ RegsKept (laneRegs p ++ macRegs p [if ok then 18 else 19]) s t ∧ heard t = true
          ∧ t = { s with regs := t.regs, ports := t.ports })
    ∧ (clean = true → 64 ≤ n → n ≤ s.maxLen p → ok = false → ∃ t, exec (.macFrameRx p f raw var bad es) s = .next t ∧ up t 15 = true
        ∧ RegsKept (laneRegs p ++ macRegs p [15]) s t ∧ heard t = true
          ∧ t = { s with regs := t.regs, ports := t.ports })
    ∧ (fits = true → ctrl = false → s.secured p false = false → fill + (n - 4) ≤ 262144 →
        ∃ t, exec (.macFrameRx p f raw var bad es) s = .next t ∧ good t = true ∧ t.reg (macReg p 2) = s.reg (macReg p 2) + 1
          ∧ fifo t = fifo s ++ [⟨f.take (n - 4), 0, false, stamp⟩]
          ∧ RegsKept (laneRegs p ++ macRegs p [0, 1, 2, cast, 8 + sizeBin n]) s t ∧ heard t = true
          ∧ t = { s with regs := t.regs, ports := t.ports, rxFifo := t.rxFifo })
    ∧ (fits = true → ctrl = false → s.secured p false = false → 262144 < fill + (n - 4) →
        ∃ t, exec (.macFrameRx p f raw var bad es) s = .next t ∧ good t = true
          ∧ t.reg (macReg p 22) = s.reg (macReg p 22) + 1 ∧ RegsKept (laneRegs p ++ macRegs p [cast, 8 + sizeBin n, 22]) s t
          ∧ heard t = true
          ∧ t = { s with regs := t.regs, ports := t.ports })
    ∧ (fits = true → ctrl = false → s.secured p false = true → s.isLit 10 = true →
        ∃ t, exec (.macFrameRx p f raw var bad es) s = .next t ∧ good t = true
          ∧ RegsKept (laneRegs p ++ macRegs p [cast, 8 + sizeBin n]) s t
          ∧ heard t = true
          ∧ t = { s with regs := t.regs, ports := t.ports, cip := { s.cip with rx := s.cip.rx ++ [(p.val, f.take (n - 4), stamp)] } })
    ∧ (fits = true → ctrl = false → s.secured p false = true → s.isLit 10 = false →
        ∃ t, exec (.macFrameRx p f raw var bad es) s = .next t ∧ good t = true
          ∧ t.reg (A.aonDarkLoss 10) = satInc (s.reg (A.aonDarkLoss 10))
          ∧ RegsKept (A.aonDarkLoss 10 :: laneRegs p ++ macRegs p [cast, 8 + sizeBin n]) s t ∧ heard t = true
          ∧ t = { s with regs := t.regs, ports := t.ports })
    ∧ (fits = true → ctrl = true → pause = true →
        ∃ t, exec (.macFrameRx p f raw var bad es) s = .next t ∧ good t = true ∧ t.reg (macReg p 2) = s.reg (macReg p 2) + 1
          ∧ t.reg (macReg p 6) = s.reg (macReg p 6) + 1 ∧ (t.port p).pauseIn = (s.port p).pauseIn ++ [beAt f 16 2]
          ∧ RegsKept (laneRegs p ++ macRegs p [2, 6, cast, 8 + sizeBin n]) s t ∧ t = { s with regs := t.regs, ports := t.ports })
    ∧ (fits = true → ctrl = true → pause = false →
        ∃ t, exec (.macFrameRx p f raw var bad es) s = .next t ∧ good t = true ∧ t.reg (macReg p 7) = s.reg (macReg p 7) + 1
          ∧ RegsKept (laneRegs p ++ macRegs p [7, cast, 8 + sizeBin n]) s t ∧ heard t = true
          ∧ t = { s with regs := t.regs, ports := t.ports }))
  ∧ (∀ (p : Fin 16) (f : List Byte) (raw var : Nat) (bad : List (Fin 4 × Bool)) (es : Bool) (s : State),
    (s.portLive p = false ∨ s.linkUp p = false) → exec (.macFrameRx p f raw var bad es) s = .next s)
  ∧ (∀ (p : Fin 16) (q : Nat) (rest : List Nat) (s : State), s.portLitAt p = true → (s.port p).pauseIn = q :: rest →
    let r := A.lnqPortPause (p / 4) (p % 4)
    let spent : Bool := !s.pauseRx p || decide (min 100 (s.fld r F.lnqPortPause_budget) * 1000000 ≤ s.pausedTime p)
    let stop := min (q * 512 * 1000 / max 1 (s.portMbps p)) (max 1 (s.fld r F.lnqPortPause_pause_max) * 1000000)
    (spent = true → ∃ t, exec (.pauseRx p) s = .next t ∧ t.reg (macReg p 23) = s.reg (macReg p 23) + 1
        ∧ t.port p = { s.port p with pauseIn := rest, ignLogged := some s.nowSec }
        ∧ ((s.port p).ignLogged = some s.nowSec → t.log = s.log)
        ∧ ((s.port p).ignLogged ≠ some s.nowSec → s.logs t (portSrc (p / 4) (p % 4)) .pauseIgnored [p])
        ∧ RegsKept (macRegs p [23]) s t ∧ t = { s with regs := t.regs, ports := t.ports, log := t.log })
    ∧ (spent = false → ∃ t, exec (.pauseRx p) s = .next t ∧ (t.port p).pauseIn = rest
        ∧ (t.port p).pauseEnd = (if q = 0 then none else some (s.elapsed + stop))
        ∧ t.port p = { s.port p with pauseIn := rest, pauseEnd := (t.port p).pauseEnd, pauses := (t.port p).pauses }
        ∧ t = { s with ports := t.ports }))
  ∧ (∀ (p : Fin 16) (e : Nat) (s : State), s.portLitAt p = true → (s.port p).pauseEnd = some e →
    (e ≤ s.elapsed → ∃ t, exec (.pauseExpiry p) s = .next t ∧ t.port p = { s.port p with pauseEnd := none } ∧ t = { s with ports := t.ports })
    ∧ (s.elapsed < e → exec (.pauseExpiry p) s = .next s))
  ∧ (∀ (p : Fin 16) (s : State), s.portLive p = true → s.linkUp p = true → s.pauseTx p = true → (s.port p).tx = none →
    let a := A.lnqPortFlow (p / 4) (p % 4)
    let xoff := 1024 * s.fld a F.lnqPortFlow_xoff
    let xon := 1024 * s.fld a F.lnqPortFlow_xon
    let half := 0xFFFF * 256 * 1000 / max 1 (s.portMbps p)
    let sent (t : State) (quanta : Nat) : Bool := decide (t.port p = { s.port p with pauseSent := some quanta, xoffSent := quanta != 0, pauseAt := s.elapsed })
      && t.reg (macReg p 30) == s.reg (macReg p 30) + 1 && t.reg (macReg p 26) == s.reg (macReg p 26) + 1
    ((s.port p).xoffSent = false → xoff < s.rxFill p → ∃ t, exec (.pauseTx p) s = .next t ∧ sent t 0xFFFF = true
        ∧ RegsKept (macRegs p [24, 25, 26, 28, 30, 31]) s t ∧ t = { s with regs := t.regs, ports := t.ports })
    ∧ ((s.port p).xoffSent = false → s.rxFill p ≤ xoff → exec (.pauseTx p) s = .next s)
    ∧ ((s.port p).xoffSent = true → s.rxFill p < xon → ∃ t, exec (.pauseTx p) s = .next t ∧ sent t 0 = true
        ∧ RegsKept (macRegs p [24, 25, 26, 28, 30, 31]) s t ∧ t = { s with regs := t.regs, ports := t.ports })
    ∧ ((s.port p).xoffSent = true → xon < s.rxFill p → (s.port p).pauseAt + half ≤ s.elapsed →
        ∃ t, exec (.pauseTxRepeat p) s = .next t ∧ sent t 0xFFFF = true
        ∧ RegsKept (macRegs p [24, 25, 26, 28, 30, 31]) s t ∧ t = { s with regs := t.regs, ports := t.ports })
    ∧ (s.rxFill p ≤ xon ∨ s.elapsed < (s.port p).pauseAt + half → exec (.pauseTxRepeat p) s = .next s))
  ∧ (∀ (p : Fin 16) (buffered : Nat) (f : List Byte) (rest : List (List Byte)) (s : State), (s.port p).txq = f :: rest →
    let th := s.fld (A.lnqPortTx (p / 4) (p % 4)) F.lnqPortTx_start_thresh
    let may : Bool := s.portLive p && s.linkUp p && !s.onWire p && !s.paused p && (s.pMode p != 5 || s.klState p == 4)
      && !s.bit (pStat p) F.lnqPortStatus_local_fault && (s.pMode p != 4 || !s.bit (pStat p) F.lnqPortStatus_remote_fault)
      && (decide (th ≤ buffered) || decide (f.length ≤ buffered)) && (!s.secured p true || s.isLit 10)
    let plain : Bool := may && !s.secured p true && (s.pMode p != 5 || decide (f.length + 4 ≤ s.maxLen p))
    (may = false → exec (.macTxFrame p buffered) s = .next s)
    ∧ (plain = true → (s.port p).tx = none → ∃ t, exec (.macTxFrame p buffered) s = .next t
        ∧ t.port p = { s.port p with txq := rest, tx := some ⟨f, none, false, s.elapsed + s.frameNs p f.length⟩ }
        ∧ (∀ l ∈ s.activeLanes p, t.lane p l F.lnqLaneStatus_tx_idle_e = false)
        ∧ RegsKept (laneRegs p) s t ∧ t = { s with regs := t.regs, ports := t.ports })
    ∧ (∀ g, plain = true → (s.port p).tx = some g → g.erased = false →
        let k := if (g.bytes.take 6).all (· == 0xFF) then 29 else if (g.bytes.getD 0 0).getLsbD 0 then 28 else 27
        let bin := 31 + sizeBin (g.bytes.length + 4)
        ∃ t, exec (.macTxFrame p buffered) s = .next t
          ∧ (t.port p).tx = some ⟨f, none, false, s.elapsed + t.frameNs p f.length⟩ ∧ (t.port p).txq = rest
          ∧ (t.port p).lastTx = some (g.bytes, true) ∧ (∀ l ∈ s.activeLanes p, t.lane p l F.lnqLaneStatus_tx_idle_e = false)
          ∧ t.reg (macReg p 26) = s.reg (macReg p 26) + 1 ∧ t.reg (macReg p k) = s.reg (macReg p k) + 1
          ∧ t.reg (macReg p bin) = s.reg (macReg p bin) + 1
          ∧ t.fld (pStat p) F.lnqPortStatus_speed = (s.port p).speedNext.getD (s.fld (pStat p) F.lnqPortStatus_speed)
          ∧ RegsKept (pStat p :: laneRegs p ++ macRegs p [24, 25, 26, k, bin]) s t ∧ t = { s with regs := t.regs, ports := t.ports })
    ∧ (may = true → s.pMode p = 5 → s.maxLen p < f.length + 4 → (s.port p).tx = none →
        ∃ t, exec (.macTxFrame p buffered) s = .next t ∧ t.port p = { s.port p with txq := rest } ∧ RegsKept (laneRegs p) s t
        ∧ t = { s with regs := t.regs, ports := t.ports })
    ∧ (may = true → s.secured p true = true → s.txSa p = none → s.pMode p ≠ 5 → (s.port p).tx = none →
        ∃ t, exec (.macTxFrame p buffered) s = .next t ∧ t.port p = { s.port p with txq := rest }
        ∧ t.reg (A.cipMsecTxRefused p) = satInc (s.reg (A.cipMsecTxRefused p))
        ∧ RegsKept (A.cipMsecTxRefused p :: laneRegs p) s t ∧ t = { s with regs := t.regs, ports := t.ports }))
  ∧ (∀ (p : Fin 16) (g : WireFrame) (s : State), s.portLitAt p = true → (s.port p).tx = some g →
    let a := A.lnqPortTx (p / 4) (p % 4)
    let th := s.fld a F.lnqPortTx_start_thresh
    (s.elapsed < g.ends → ∃ t, exec (.txUnderrun p) s = .next t
      ∧ t.port p = { s.port p with tx := none, lastTx := some (g.bytes, false), speedNext := none, txAt := s.elapsed }
      ∧ t.reg (macReg p 38) = s.reg (macReg p 38) + 1
      ∧ t.reg (macReg p 39) = (if g.erased then s.reg (macReg p 39) else s.reg (macReg p 39) + 1)
      ∧ t.fld a F.lnqPortTx_start_thresh = (if th < s.maxLen p then th + 256 else th)
      ∧ t.fld (pStat p) F.lnqPortStatus_speed = (s.port p).speedNext.getD (s.fld (pStat p) F.lnqPortStatus_speed)
      ∧ RegsKept (a :: pStat p :: macRegs p [38, 39]) s t ∧ t = { s with regs := t.regs, ports := t.ports })
    ∧ (g.ends ≤ s.elapsed → exec (.txUnderrun p) s = .next s))
  ∧ (∀ (who : Requester) (p : Fin 16) (s : State), s.portLitAt p = true →
    let a := A.lnqPortTx (p / 4) (p % 4)
    (isAnyCore who = true → ∃ t, exec (.threshReset who p) s = .next t ∧ t.fld a F.lnqPortTx_start_thresh = 512
      ∧ RegsKept [a] s t ∧ t = { s with regs := t.regs, bus := ⟨false, 0, []⟩ })
    ∧ (isAnyCore who = false → exec (.threshReset who p) s = .next (s.busOk 0)))
  ∧ (∀ (who : Requester) (q l : Fin 4) (w : Word) (s : State), s.isLit (lnqId q) = true →
    let a := A.lnqLaneTest q l
    let used := s.bit (A.lnqLaneStatus q l) F.lnqLaneStatus_in_use
    let gen := F.lnqLaneTest_prbs_gen.get w
    let chk := F.lnqLaneTest_prbs_chk.get w
    (isCudom who = true → (s.mode.mode = .test ∨ used = false) → ∃ t, exec (.laneTestWrite who q l w) s = .next t
        ∧ t.fld a F.lnqLaneTest_loop = F.lnqLaneTest_loop.get w ∧ t.fld a F.lnqLaneTest_prbs_gen = gen
        ∧ t.fld a F.lnqLaneTest_prbs_chk = chk ∧ t.fld a F.lnqLaneTest_chk_err = 0
        ∧ t.bit a F.lnqLaneTest_chk_lock = (F.lnqLaneTest_loop.get w == 1 && gen != 0 && gen == chk)
        ∧ RegsKept [a] s t ∧ t = { s with regs := t.regs, bus := ⟨false, 0, []⟩ })
    ∧ (isCudom who = true → s.mode.mode ≠ .test → used = true → ∃ t, exec (.laneTestWrite who q l w) s = .next t
        ∧ t.bit (A.lnqCtl q) F.lnqCtl_cfg_err = true ∧ t.fld (A.lnqCtl q) F.lnqCtl_cfg_reason = 6 ∧ RegsKept [A.lnqCtl q] s t)
    ∧ (isCudom who = false → exec (.laneTestWrite who q l w) s = .next (s.busOk 0)))
  ∧ (∀ (who : Requester) (p : Fin 16) (tx : Bool) (s : State), s.portLitAt p = true →
    let k := if tx then 24 else 0
    ∃ t, exec (.octetCounterRead who p tx) s = .next t ∧ t.bus = ⟨false, s.reg (macReg p k), []⟩
      ∧ (if tx then (t.port p).txHigh else (t.port p).rxHigh) = some (s.reg (macReg p (k + 1))).toNat
      ∧ t = { s with ports := t.ports, bus := t.bus })
  ∧ (∀ (c : Fin 11) (k : Fin 19) (width : Fin 6) (id : Fin 65536) (b : Nat) (ab err : Bool) (s : State),
    let wired : Bool := decide (k.val < 16)
    let last := (s.rd (k - 16)).last
    let mine : Bool := last.any (fun d => d.frameId == id.val)
    let cut : Bool := !wired && (if mine then last.any (fun d => d.aborted) else ab)
    let never : Bool := mine && last.any (fun d => d.status != ST.ok && !d.aborted)
    let stamps : Bool := if wired then s.portOn k && s.fld (pCfg k) F.lnqPortCfg_cuff == c.val else c.val + 8 == k.val && !never
    let at_ : Int := (b : Int) + (if wired then (s.portCorr k).1 else (radioCorr width).1) + s.boardTx k
    let e : CuffEntry := ⟨id, (at_ / 65536 % 2 ^ 32).toNat, (at_ % 65536).toNat, (s.cuff c).gapDue, cut, wired && err⟩
    let full : Bool := !s.isLit 2 || decide (16 ≤ (s.cuff c).entries.length)
    let wire := if wired && (s.port k).tx.isSome then pStat k :: macRegs k [24, 25, 26, 27, 28, 29, 31, 32, 33, 34, 35, 36, 37] else []
    (stamps = true → full = true → ∃ t, exec (.cuffStore c k width id b ab err) s = .next t
        ∧ t.cuff c = { s.cuff c with gapDue := true }
        ∧ t.reg (A.timeCuffOverflow c) = satInc (s.reg (A.timeCuffOverflow c)) ∧ RegsKept (A.timeCuffOverflow c :: wire) s t
        ∧ t = { s with regs := t.regs, ports := t.ports, time := { s.time with cuffs := t.time.cuffs } })
    ∧ (stamps = true → full = false → ∃ t, exec (.cuffStore c k width id b ab err) s = .next t
        ∧ t.cuff c = ⟨(s.cuff c).entries ++ [e], false⟩
        ∧ t.fld (A.timeCuffCtl c) F.timeCuffCtl_level = (s.cuff c).entries.length + 1
        ∧ ((s.cuff c).entries = [] → t.fld (A.timeCuffHead0 c) F.timeCuffHead0_frame_id = id
            ∧ t.bit (A.timeCuffHead0 c) F.timeCuffHead0_valid = true ∧ t.reg (A.timeCuffHead1 c) = BitVec.ofNat 32 e.count
            ∧ t.bit (A.timeCuffHead0 c) F.timeCuffHead0_gap = e.gap)
        ∧ RegsKept (A.timeCuffCtl c :: A.timeCuffHead0 c :: A.timeCuffHead1 c :: A.timeCuffHead2 c :: wire) s t
        ∧ t = { s with regs := t.regs, ports := t.ports, time := { s.time with cuffs := t.time.cuffs } })
    ∧ (stamps = false → exec (.cuffStore c k width id b ab err) s = .next s))
  ∧ (∀ (who : Requester) (c : Fin 11) (s : State), s.isLit 2 = true →
    (isAnyCore who = true → (s.cuff c).entries.length ≤ 16 →
      ∃ t, exec (.cuffPop who c) s = .next t ∧ t.cuff c = { s.cuff c with entries := (s.cuff c).entries.drop 1 }
        ∧ t.fld (A.timeCuffCtl c) F.timeCuffCtl_level = (s.cuff c).entries.length - 1
        ∧ (∀ d, d ≠ c.val → t.cuff d = s.cuff d)
        ∧ RegsKept [A.timeCuffCtl c, A.timeCuffHead0 c, A.timeCuffHead1 c, A.timeCuffHead2 c] s t
        ∧ t = { s with regs := t.regs, time := { s.time with cuffs := t.time.cuffs }, bus := ⟨false, 0, []⟩ })
    ∧ (isAnyCore who = false → exec (.cuffPop who c) s = .next (s.busOk 0)))
  ∧ (∀ (who : Requester) (s : State), s.isLit 2 = true →
    ∃ t, exec (.timeNowRead who) s = .next t ∧ t.bus = ⟨false, BitVec.ofNat 32 s.nowSub, []⟩
      ∧ t.reg A.timeNowSecLo = BitVec.ofNat 32 (s.nowSec % 2 ^ 32) ∧ t.reg A.timeCount = BitVec.ofNat 32 s.count32
      ∧ t.fld A.timeNowHi F.timeNowHi_frac = s.nowFrac ∧ t.fld A.timeNowHi F.timeNowHi_sec_hi = s.nowSec / 2 ^ 32
      ∧ RegsKept [A.timeNowNs, A.timeNowSecLo, A.timeNowHi, A.timeCount] s t ∧ t = { s with regs := t.regs, bus := t.bus })
  ∧ (∀ y : Int, -(65536 * 1000000000) ≤ y →
    2 * 65536 * 1000000000 * (incrementOf y : Int) ≤ 2 * 0x20000000 * (65536 * 1000000000 + y) + 65536 * 1000000000
    ∧ 2 * 0x20000000 * (65536 * 1000000000 + y) + 65536 * 1000000000 < 2 * 65536 * 1000000000 * ((incrementOf y : Int) + 1))
  ∧ (∀ (who : Requester) (w : Word) (s : State), s.isLit 2 = true → isAnyCore who = true →
    let th : Int := signed 32 (s.reg A.timeOffsetNs).toNat * 65536 + ((w.toNat / 65536 : Nat) : Int)
    let a : Int := if th < 0 then -th else th
    let mine : Bool := s.fld A.timeCtl F.timeCtl_servo_mode == 1 && !s.bit A.timeCtl F.timeCtl_src
    let steps : Bool := s.bit A.timeCtl F.timeCtl_step_en && decide (s.stepThresh < a)
    let dt : Int := (s.time.lastSample.map (fun e => ((max 1000000 (s.elapsed - e) : Nat) : Int))).getD 1000000000
    let r := th * 1000000000 / dt
    let i := s.time.integral + r / 2 ^ s.fld A.timeServoCfg F.timeServoCfg_ki_shift
    let y := clampI (-s.maxAdj) s.maxAdj (-(r / 2 ^ s.fld A.timeServoCfg F.timeServoCfg_kp_shift + i))
    let regs := [A.timeOffsetFrac, A.timeCtl, A.timeIncr, A.timeServoStatus, A.timeQuality, A.timeStep]
    let ns := unsigned 64 (-th / 65536)
    let near : Bool := decide (a < s.lockThresh)
    (mine = false → ∃ t, exec (.timeOffsetSubmit who w) s = .next t ∧ t.reg A.timeOffsetDiscard = satInc (s.reg A.timeOffsetDiscard)
        ∧ t.reg A.timeOffsetFrac = w &&& 0xFFFF0000 ∧ RegsKept [A.timeOffsetFrac, A.timeOffsetDiscard] s t
        ∧ t = { s with regs := t.regs, bus := ⟨false, 0, []⟩ })
    ∧ (mine = true → steps = true → ∃ t, exec (.timeOffsetSubmit who w) s = .next t
        ∧ t.time = { s.time with clock := ((s.time.clock : Int) - th * 4096).toNat, lastSample := some s.elapsed, quietFrom := s.elapsed,
                                 sampled := true, goodRun := 0 }
        ∧ t.reg A.timeStep = satInc (s.reg A.timeStep) ∧ t.reg A.timeIncr = s.reg A.timeIncr
        ∧ t.bit A.timeCtl F.timeCtl_locked = false ∧ t.bit A.timeCtl F.timeCtl_holdover = false
        ∧ s.logs t 2 .timeStep [ns % 2 ^ 32, ns / 2 ^ 32]
        ∧ RegsKept regs s t ∧ t = { s with regs := t.regs, time := t.time, log := t.log, bus := ⟨false, 0, []⟩ })
    ∧ (mine = true → steps = false → ∃ t, exec (.timeOffsetSubmit who w) s = .next t ∧ t.fld A.timeIncr F.timeIncr_increment = incrementOf y
        ∧ t.time = { s.time with integral := i, lastSample := some s.elapsed, quietFrom := s.elapsed, sampled := true,
                                 goodRun := if near then s.time.goodRun + 1 else 0 }
        ∧ t.bit A.timeCtl F.timeCtl_holdover = false
        ∧ t.bit A.timeCtl F.timeCtl_locked = (if 4 * s.lockThresh ≤ a then false else if near ∧ 7 ≤ s.time.goodRun then true
            else s.bit A.timeCtl F.timeCtl_locked)
        ∧ RegsKept regs s t ∧ t = { s with regs := t.regs, time := t.time, bus := ⟨false, 0, []⟩ }))
  ∧ (∀ (s : State), s.isLit 2 = true → s.fld A.timeCtl F.timeCtl_servo_mode = 1 →
    let y := clampI (-s.maxAdj) s.maxAdj (-s.time.integral)
    let due : Bool := !s.bit A.timeCtl F.timeCtl_holdover && decide (s.time.quietFrom + s.holdoverAfter ≤ s.elapsed)
    (due = true → ∃ t, exec .holdoverEntry s = .next t ∧ t.bit A.timeCtl F.timeCtl_holdover = true
        ∧ t.fld A.timeIncr F.timeIncr_increment = incrementOf y ∧ s.logs t 2 .timeHoldover [] ∧ t.time = s.time
        ∧ RegsKept [A.timeCtl, A.timeIncr, A.timeServoStatus, A.timeQuality] s t ∧ t = { s with regs := t.regs, log := t.log })
    ∧ (due = false → exec .holdoverEntry s = .next s))

/-! ### DMA -/

/-- DMA. An enable is checked and starts at the base; a disable stops at once and leaves what the descriptor in progress was writing
undefined; a kick wakes an idle channel; a fetch idles, follows links up to 64, halts on malformed descriptors, ends a frame that another
starts in, or takes the data; bursts stay within their bounds and go by priority; a moved descriptor is written back and its frame leaves;
received frames fill descriptors or are cut; a fault halts with code, phase and address. Log entries 3, 102: the model's reading. -/
def Obligations.DmaWalksDescriptorsAndMovesTheirBytes : Prop :=
  (∀ (who : Requester) (c : Fin 64) (w : Word) (s : State), s.isLit 9 = true → dmaMay who c = true →
    let ctl := A.dmaChCtl c
    let size := F.dmaChCtl_size.get w
    let periph := if 48 ≤ c.val ∧ c.val < 57 then c.val - 47 else F.dmaChCtl_periph.get w
    let good : Bool := decide (1 ≤ size) && decide (size ≤ 4096) && s.dmaBase c % 32 == 0 && periphOk c periph
    let fields (t : State) : Bool := t.dmaSize c == size && t.dmaPeriph c == periph && t.dmaPrio c == F.dmaChCtl_prio.get w
      && !t.bit ctl F.dmaChCtl_kick
    let on := s.bit ctl F.dmaChCtl_enable
    (on = false → good = true → ∃ t, exec (.dmaChEnable who c w) s = .next t ∧ fields t = true
        ∧ t.bit ctl F.dmaChCtl_enable = true ∧ t.dmaCur c = s.dmaBase c ∧ t.dmaFlag c F.dmaChStatus_hops = 0
        ∧ t.dmaFlag c F.dmaChStatus_err_code = 0 ∧ t.dmaCh c = DmaChan.init ∧ RegsKept (ctl :: dmaWalkRegs c) s t
        ∧ t = { s with regs := t.regs, dma := t.dma, bus := ⟨false, 0, []⟩ })
    ∧ (on = false → good = false → ∃ t, exec (.dmaChEnable who c w) s = .next t ∧ fields t = true
        ∧ t.bit ctl F.dmaChCtl_enable = false ∧ t.dmaFlag c F.dmaChStatus_err_code = 1 ∧ RegsKept [ctl, A.dmaChStatus c] s t
        ∧ t = { s with regs := t.regs, bus := ⟨false, 0, []⟩ })
    ∧ (on = true → ∃ t, exec (.dmaChEnable who c w) s = .next t ∧ fields t = true ∧ t.bit ctl F.dmaChCtl_enable = true
        ∧ t.dmaFlag c F.dmaChStatus_idle = (if F.dmaChCtl_kick.get w = 1 then 0 else s.dmaFlag c F.dmaChStatus_idle)
        ∧ RegsKept [ctl, A.dmaChStatus c] s t ∧ t = { s with regs := t.regs, bus := ⟨false, 0, []⟩ })
    ∧ (on = true → (s.dmaCh c).desc = none → ∃ t, exec (.dmaChDisable who c w) s = .next t
        ∧ t.bit ctl F.dmaChCtl_enable = false ∧ t.dmaFlag c F.dmaChStatus_halted = 0 ∧ t.dmaFlag c F.dmaChStatus_idle = 0
        ∧ t.dmaFlag c F.dmaChStatus_active = 0 ∧ t.dmaCh c = DmaChan.init ∧ RegsKept [ctl, A.dmaChStatus c] s t
        ∧ t = { s with regs := t.regs, dma := t.dma, bus := ⟨false, 0, []⟩ })
    ∧ (∀ d, on = true → (s.dmaCh c).desc = some d →
        let len := if s.isTxChan c then 0 else if dDstFixed d then min (dCount d) 8 else dCount d
        let open_ (x : Nat) : Bool := (decide (s.dmaCur c ≤ x) && decide (x < s.dmaCur c + 7) && x != s.dmaCur c + 3)
            || (decide (dDst d ≤ x) && decide (x < dDst d + len))
        ∃ t, exec (.dmaChDisable who c w) s = .next t
        ∧ t.bit ctl F.dmaChCtl_enable = false ∧ t.dmaFlag c F.dmaChStatus_halted = 0 ∧ t.dmaFlag c F.dmaChStatus_idle = 0
        ∧ t.dmaFlag c F.dmaChStatus_active = 0 ∧ t.dmaCh c = DmaChan.init ∧ RegsKept [ctl, A.dmaChStatus c] s t
        ∧ t = { s with regs := t.regs, dma := t.dma, bus := ⟨false, 0, []⟩, pst := t.pst, free := t.free,
                       dram := { s.dram with bytes := t.dram.bytes } }
        ∧ (∀ x, open_ (0x80000000 + x) = false → t.pstByte x = s.pstByte x)
        ∧ (∀ x, open_ (dramBase + x) = false → t.dramByte x = s.dramByte x))
    ∧ (on = false → ∃ t, exec (.dmaChDisable who c w) s = .next t ∧ fields t = true ∧ t.bit ctl F.dmaChCtl_enable = false
        ∧ RegsKept [ctl] s t ∧ t = { s with regs := t.regs, bus := ⟨false, 0, []⟩ })
    ∧ (on = true → ∃ t, exec (.dmaKick who c) s = .next t ∧ t.dmaFlag c F.dmaChStatus_idle = 0
        ∧ t.dmaFlag c F.dmaChStatus_halted = s.dmaFlag c F.dmaChStatus_halted ∧ t.dmaCur c = s.dmaCur c
        ∧ RegsKept [ctl, A.dmaChStatus c] s t ∧ t = { s with regs := t.regs, bus := ⟨false, 0, []⟩ })
    ∧ (on = false → ∃ t, exec (.dmaKick who c) s = .next t ∧ t.bit ctl F.dmaChCtl_enable = false ∧ RegsKept [ctl] s t
        ∧ t = { s with regs := t.regs, bus := ⟨false, 0, []⟩ }))
  ∧ (∀ (who : Requester) (c : Fin 64) (w : Word) (s : State), s.isLit 9 = true → dmaMay who c = false →
    exec (.dmaChEnable who c w) s = .next (s.busOk 0) ∧ exec (.dmaChDisable who c w) s = .next (s.busOk 0)
    ∧ exec (.dmaKick who c) s = .next (s.busOk 0))
  ∧ (∀ (c : Fin 64) (s : State), s.dmaRuns c = true → (s.dmaCh c).desc = none → s.renStep 9 ≠ 2 → s.answers (.dma c) 4 = true →
    inStore (s.dmaCur c) 32 →
    let d := s.storeDesc (s.dmaCur c)
    let x := s.dmaCh c
    let st := A.dmaChStatus c
    let halts (t : State) (code : Nat) : Bool := t.dmaFlag c F.dmaChStatus_halted == 1 && t.dmaFlag c F.dmaChStatus_err_code == code
      && decide (t.dmaCh c = DmaChan.init)
    let hops := s.dmaFlag c F.dmaChStatus_hops
    let data : Bool := dKind d == 0 && dOwn d
    let link : Bool := dKind d == 1 && dOwn d
    let broken : Bool := s.isTxChan c && dSop d && x.inFrame
    let w1 := ofLE ((List.range 4).map (fun i => s.store (x.lastAt + 4 + i)))
    (2 ≤ dKind d → ∃ t, exec (.dmaDescFetch c) s = .next t ∧ halts t 5 = true ∧ RegsKept [st] s t
        ∧ t = { s with regs := t.regs, dma := t.dma })
    ∧ (dKind d < 2 → dOwn d = false → ∃ t, exec (.dmaDescFetch c) s = .next t ∧ t.dmaFlag c F.dmaChStatus_idle = 1
        ∧ t.dmaCur c = s.dmaCur c ∧ RegsKept [st] s t ∧ t = { s with regs := t.regs })
    ∧ (link = true → dSrc d % 32 ≠ 0 → ∃ t, exec (.dmaDescFetch c) s = .next t ∧ halts t 5 = true ∧ RegsKept [st] s t
        ∧ t = { s with regs := t.regs, dma := t.dma })
    ∧ (link = true → dSrc d % 32 = 0 → hops < 63 → ∃ t, exec (.dmaDescFetch c) s = .next t
        ∧ t.dmaCur c = dSrc d ∧ t.dmaFlag c F.dmaChStatus_hops = hops + 1 ∧ t.dmaFlag c F.dmaChStatus_halted = 0
        ∧ RegsKept [st, A.dmaChCurLo c, A.dmaChCurHi c] s t ∧ t = { s with regs := t.regs })
    ∧ (link = true → dSrc d % 32 = 0 → hops = 63 → ∃ t, exec (.dmaDescFetch c) s = .next t ∧ halts t 4 = true
        ∧ RegsKept [st, A.dmaChCurLo c, A.dmaChCurHi c] s t ∧ t = { s with regs := t.regs, dma := t.dma })
    ∧ (data = true → s.fixedOk c d = false → ∃ t, exec (.dmaDescFetch c) s = .next t ∧ halts t 5 = true ∧ RegsKept [st] s t
        ∧ t = { s with regs := t.regs, dma := t.dma })
    ∧ (data = true → s.fixedOk c d = true → broken = false → ∃ t, exec (.dmaDescFetch c) s = .next t
        ∧ t.dmaCh c = { x with desc := some d, moved := 0, inFrame := s.isTxChan c, frame := if x.inFrame then x.frame else [],
                               queue := if x.inFrame then x.queue else dDst d % 4096 }
        ∧ t = { s with dma := t.dma })
    ∧ (data = true → s.fixedOk c d = true → broken = true → inStore x.lastAt 8 → ∃ t, exec (.dmaDescFetch c) s = .next t
        ∧ s.stored t (x.lastAt + 4) (toLE 4 (w1 ||| 2 ^ 31))
        ∧ t.dmaCh c = { x with desc := some d, moved := 0, inFrame := true, frame := [], queue := dDst d % 4096 }
        ∧ t = { s with pst := t.pst, dma := t.dma }))
  ∧ (∀ (c : Fin 64) (s : State), s.dmaRuns c = false → exec (.dmaDescFetch c) s = .next s ∧ exec (.dmaWriteback c) s = .next s)
  ∧ (∀ (c : Nat) (s : State), s.dmaPick = some c → s.dmaWants c = true
      ∧ ∀ k < 64, s.dmaWants k = true → s.dmaPrio k ≤ s.dmaPrio c
          ∨ max 1 (s.fld A.dmaCtl F.dmaCtl_age_limit) ≤ s.dmaWaited (s.dmaPrio c))
  ∧ (∀ (c : Fin 64) (d : List Byte) (s : State), s.dmaPick = some c.val → (s.dmaCh c).desc = some d →
    dSrcFixed d = false → dDstFixed d = false → s.answers (.dma c) 4 = true → inStore (dSrc d) (dCount d) →
    let m := (s.dmaCh c).moved
    let most := min (64 * 2 ^ s.fld (A.dmaChCtl c) F.dmaChCtl_max_burst) (dCount d - m)
    let k := min most (512 - (dSrc d + m) % 512)
    let n := if s.isTxChan c then min k 512 else min k (512 - (dDst d + m) % 512)
    let bs := (List.range n).map (fun i => s.store (dSrc d + m + i))
    (s.isTxChan c = false → inStore (dDst d) (dCount d) →
      ∃ t, exec .dmaBurst s = .next t ∧ 0 < n
      ∧ s.stored t (dDst d + m) bs
      ∧ t.dmaCh c = { s.dmaCh c with moved := m + n } ∧ (∀ k, k ≠ c.val → t.dmaCh k = s.dmaCh k)
      ∧ t.dmaFlag c F.dmaChStatus_hops = 0 ∧ RegsKept [A.dmaChStatus c] s t
      ∧ t = { s with regs := t.regs, pst := t.pst, dma := t.dma })
    ∧ (s.isTxChan c = true →
      ∃ t, exec .dmaBurst s = .next t ∧ 0 < n ∧ t.dmaCh c = { s.dmaCh c with moved := m + n, frame := (s.dmaCh c).frame ++ bs }
      ∧ (∀ k, k ≠ c.val → t.dmaCh k = s.dmaCh k)
      ∧ t.dmaFlag c F.dmaChStatus_hops = 0 ∧ RegsKept [A.dmaChStatus c] s t ∧ t = { s with regs := t.regs, dma := t.dma }))
  ∧ (∀ (c : Fin 64) (d : List Byte) (s : State), s.dmaRuns c = true → isRxChan c = false → (s.dmaCh c).desc = some d →
    (s.dmaCh c).moved = dCount d → s.answers (.dma c) 4 = true → inStore (s.dmaCur c) 32 → s.dmaCur c + 32 < 2 ^ 40 →
    let cur := s.dmaCur c
    let next := if cur + 32 = s.dmaBase c + 32 * s.dmaSize c then s.dmaBase c else cur + 32
    let x := s.dmaCh c
    let words (err : Bool) := backWords d (dSop d) (dEop d) err false false (dCount d)
    let done (t : State) : Bool := t.dmaCur c == next && t.reg (A.dmaChDescDone c) == satInc (s.reg (A.dmaChDescDone c))
      && decide (t.dmaCh c = { x with desc := none, moved := 0, lastAt := cur, inFrame := s.isTxChan c && !dEop d,
                                      frame := if s.isTxChan c && dEop d then [] else x.frame })
      && t.dmaFlag c F.dmaChStatus_done == (if dIrq d then 1 else s.dmaFlag c F.dmaChStatus_done)
    let sends : Bool := s.isTxChan c && dEop d
    let inject : Bool := sends && decide (c.val < 48) && s.isLit 4 && s.renStep 4 == 0
    let sized : Bool := !x.frame.isEmpty && decide (x.frame.length ≤ 16383)
    let adm := s.schAdmit x.queue ⟨x.frame, [0, 0, 0, 0], 0, 0, 0, 0⟩ none false
    (sends = false → ∃ t, exec (.dmaWriteback c) s = .next t ∧ s.stored t cur (words false) ∧ done t = true ∧ RegsKept (dmaWalkRegs c) s t
        ∧ t = { s with regs := t.regs, pst := t.pst, dma := t.dma })
    ∧ (inject = true → sized = false →
        ∃ t, exec (.dmaWriteback c) s = .next t ∧ s.stored t cur (words true) ∧ done t = true ∧ RegsKept (dmaWalkRegs c) s t
        ∧ t = { s with regs := t.regs, pst := t.pst, dma := t.dma })
    ∧ (inject = true → sized = true →
        ∃ t, exec (.dmaWriteback c) s = .next t ∧ s.stored t cur (words (!adm.2)) ∧ done t = true
        ∧ t.sch = adm.1.sch ∧ RegsKept (dmaWalkRegs c) adm.1 t ∧ t = { s with regs := t.regs, pst := t.pst, dma := t.dma, sch := t.sch })
    ∧ (inject = true → sized = true → 18 < x.queue → x.queue < 4096 →
        s.bit A.schCtl F.schCtl_enable = true → s.bit (A.schQW0 x.queue) F.schQW0_enable = true →
        let need := cellsOf x.frame.length
        (s.schQ x.queue).cells + need ≤ s.fld (A.schQW2 x.queue) F.schQW2_q_limit →
        need + (if 3 ≤ s.qTier x.queue then s.fld A.schPoolCfg F.schPoolCfg_reserve else 0) ≤ s.freeCells →
        ∃ t, exec (.dmaWriteback c) s = .next t ∧ s.stored t cur (words false) ∧ done t = true ∧ t.freeCells = s.freeCells - need
          ∧ (t.schQ x.queue).pkts = (s.schQ x.queue).pkts ++ [⟨x.frame, [0, 0, 0, 0], 0, s.count32, 0, 0⟩])
    ∧ (inject = true → sized = true → x.queue ≤ 18 →
        ∃ t, exec (.dmaWriteback c) s = .next t ∧ s.stored t cur (words true) ∧ done t = true
          ∧ t.reg A.schDropMgmtQ = satInc (s.reg A.schDropMgmtQ) ∧ t.sch = s.sch)
    ∧ (sends = true → c.val < 48 → s.renStep 4 ≠ 0 → exec (.dmaWriteback c) s = .next s)
    ∧ (∀ r : Rad, c.val = 48 + 3 * r.val → sends = true → x.frame ≠ [] → s.isLit 21 = true →
        ∃ t, exec (.dmaWriteback c) s = .next t ∧ s.stored t cur (words false) ∧ done t = true ∧ RegsKept (dmaWalkRegs c) s t
          ∧ (t.wr r).mgmtTx.dropLast = (s.wr r).mgmtTx
          ∧ (t.wr r).mgmtTx.getLast?.map (fun e => (e.bytes, e.robust)) = some (x.frame, isRobust x.frame) ∧ t.free = s.free + 1
          ∧ t = { s with regs := t.regs, pst := t.pst, dma := t.dma, hmac := t.hmac, free := t.free })
    ∧ (∀ r : Rad, c.val = 48 + 3 * r.val → sends = true → x.frame = [] → s.isLit 21 = true → s.mgmtRoom r 16 = true →
        ∃ t, exec (.dmaWriteback c) s = .next t ∧ s.stored t cur (words true) ∧ done t = true ∧ RegsKept (dmaWalkRegs c) s t
          ∧ (t.wr r).status.dropLast = (s.wr r).status ∧ (t.wr r).status.getLast?.map (·.status) = some 0x0011
          ∧ (t.wr r).mgmtTx = (s.wr r).mgmtTx
          ∧ t = { s with regs := t.regs, pst := t.pst, dma := t.dma, hmac := t.hmac, free := t.free }))
  ∧ (∀ (c : Fin 64) (phase : Fin 4) (a : Nat) (s : State), a < 2 ^ 40 →
    (s.dmaRuns c = true → ∃ t, exec (.dmaAccessFault c phase a) s = .next t ∧ t.dmaFlag c F.dmaChStatus_halted = 1
        ∧ t.dmaFlag c F.dmaChStatus_err_phase = phase ∧ t.reg (A.dmaChErrLo c) = BitVec.ofNat 32 (a % 2 ^ 32)
        ∧ t.fld (A.dmaChErrHi c) F.dmaChErrHi_err_hi = a / 2 ^ 32
        ∧ t.dmaFlag c F.dmaChStatus_err_code = (if s.dmaDark c a = true ∨ phase.val = 1 ∨ phase.val = 2 then 3 else 2)
        ∧ t.dmaCh c = DmaChan.init ∧ RegsKept [A.dmaChStatus c, A.dmaChErrLo c, A.dmaChErrHi c] s t
        ∧ t = { s with regs := t.regs, dma := t.dma })
    ∧ (s.dmaRuns c = false → exec (.dmaAccessFault c phase a) s = .next s))
  ∧ (∀ (c : Fin 64) (bs : List Byte) (stamp : Option Int) (s : State), s.rxReady c = true → s.rxHead c = some (bs, stamp) → bs ≠ [] →
    s.answers (.dma c) 4 = true → inStore (s.dmaCur c) 32 → s.dmaCur c + 32 < 2 ^ 40 →
    let cur := s.dmaCur c
    let d := s.storeDesc cur
    let k := dCount d
    let next := if cur + 32 = s.dmaBase c + 32 * s.dmaSize c then s.dmaBase c else cur + 32
    let is (t : State) (a : Nat) (b : List Byte) : Bool := (List.range b.length).all (fun i => t.store (a + i) == b.getD i 0)
    let words (t : State) (eop err short : Bool) (n : Nat) : Bool := is t cur (backWords d true eop err err short n)
      && is t (cur + 8) ((d.drop 8).take 16) && is t (cur + 30) (d.drop 30)
      && stamp.all (fun v => is t (cur + 24) (toLE 4 (stampOf v).1 ++ toLE 2 (stampOf v).2))
    let apart (n : Nat) : Bool := decide (cur + 32 ≤ dDst d) || decide (dDst d + n ≤ cur)
    let owned : Bool := dKind d == 0 && dOwn d && !dDstFixed d && decide (0x80000000 ≤ dDst d) && decide (dDst d + k ≤ 0x82000000) && apart k
    let counted (t : State) : Bool := t.reg (A.dmaChDescDone c) == satInc (s.reg (A.dmaChDescDone c)) && t.dmaCur c == next
      && t.rxHead c == (s.rxDrop c).rxHead c
    (owned = true → bs.length ≤ k → ∃ t, exec (.dmaRxFrame c) s = .next t ∧ is t (dDst d) bs = true
        ∧ words t true false false bs.length = true ∧ counted t = true
        ∧ t.dmaRuns c = true ∧ RegsKept (dmaWalkRegs c) s t ∧ t = { s with regs := t.regs, pst := t.pst, hmac := t.hmac })
    ∧ (dKind d = 0 → dOwn d = false → ∃ t, exec (.dmaRxFrame c) s = .next t ∧ t.dmaFlag c F.dmaChStatus_idle = 1
        ∧ RegsKept [A.dmaChStatus c] s t ∧ t = { s with regs := t.regs })
    ∧ (owned = true → 0 < k → k < bs.length → inStore next 32 → next ≠ cur → (next + 32 ≤ dDst d ∨ dDst d + k ≤ next) →
        dKind (s.storeDesc next) < 2 → dOwn (s.storeDesc next) = false →
        ∃ t, exec (.dmaRxFrame c) s = .next t ∧ is t (dDst d) (bs.take k) = true ∧ words t false true false k = true ∧ counted t = true
          ∧ t.reg (A.dmaChRxNoBuffer c) = satInc (s.reg (A.dmaChRxNoBuffer c)) ∧ t.dmaFlag c F.dmaChStatus_idle = 1
          ∧ t.dmaFlag c F.dmaChStatus_halted = 0 ∧ RegsKept (A.dmaChRxNoBuffer c :: dmaWalkRegs c) s t)
    ∧ (∀ n, owned = true → n < k → n < bs.length →
        ∃ t, exec (.dmaShort c n) s = .next t ∧ is t (dDst d) (bs.take n) = true ∧ words t true false true n = true ∧ counted t = true
        ∧ t.reg (A.dmaChShort c) = satInc (s.reg (A.dmaChShort c)) ∧ RegsKept (A.dmaChShort c :: dmaWalkRegs c) s t
        ∧ ∃ stop < k + 1, n < stop ∧ stop ≤ n + 512 ∧ is t (dDst d + n) (List.replicate (stop - n) 0) = true))
  ∧ (∀ (c : Fin 64) (n : Nat) (s : State), s.rxReady c = false → exec (.dmaRxFrame c) s = .next s ∧ exec (.dmaShort c n) s = .next s)

/-! ### Work items, clusters and interrupt lines -/

/-- Work items. A packet of egress 19 and a core's submission become items with their fields, or the submission waits; a core is
given the best item it may take under priority, order and affinity; a done item frees or forwards its packet and lets a waiting
submission in; ready and cancel have their outcomes, a cancel also beside what another core does in its cycle; long runs are logged;
software lines, performance counters and parking do as written; a claim names the lowest pending line. Log entries 92, 103, 104: the
model's reading. -/
def Obligations.WorkItemsAreCreatedDispatchedAndEnded : Prop :=
  (∀ (p : SchPkt) (q slot c : Nat) (rest : List (SchPkt × Nat)) (s : State), s.tsk.inbox = (p, q) :: rest → s.isLit 5 = true →
    s.isLit 4 = true → s.slotFree = some slot → s.freeRun (cellsOf p.bytes.length) = some c → s.tsk.items.length < 4096 →
    p.bytes.length < 16384 → q < 4096 →
    let t3 : Bool := s.qTier q == 3
    let n := cellsOf p.bytes.length
    let gen := Tbl.get (fun _ => 0) s.tsk.gens slot
    let prio := s.fld A.tskSchCfg (if t3 then F.tskSchCfg_prio_t3 else F.tskSchCfg_prio_t4)
    let aff := s.fld A.tskSchCfg (if t3 then F.tskSchCfg_aff_t3 else F.tskSchCfg_aff_t4)
    ∃ t, exec .tskSchItem s = .next t ∧ t.tsk.items.dropLast = s.tsk.items ∧ t.tsk.inbox = rest
      ∧ t.tsk.items.getLast?.map Item.key
          = some ((slot, gen, .ready, prio, aff), (p.record.getD 1 0).toNat % 4096, none, some (c, n), s.elapsed)
      ∧ t.tsk.items.getLast?.map (fun i => (i.words.drop 1).take 8) = some [p.record.getD 1 0, p.record.getD 0 0, p.record.getD 1 0,
          p.record.getD 2 0, p.record.getD 3 0, BitVec.ofNat 32 (0x80000000 + 256 * c), 0, BitVec.ofNat 32 (p.bytes.length + 65536 * q)]
      ∧ (∀ j ∈ s.tsk.items, j.slot ≠ slot)
      ∧ (∀ j ∈ s.tsk.items, j.pkt.all (fun h => decide (c + n ≤ h.1) || decide (h.1 + h.2 ≤ c)) = true)
      ∧ s.stored t (0x80000000 + 256 * c) p.bytes ∧ t.fld A.tskStatus F.tskStatus_in_flight = s.tsk.items.length + 1
      ∧ RegsKept [A.tskStatus] s t ∧ t = { s with regs := t.regs, tsk := t.tsk, pst := t.pst })
  ∧ (∀ (s : State), s.tsk.inbox = [] → exec .tskSchItem s = .next s)
  ∧ (∀ (k : Fin 24) (w : Word) (s : State), s.isLit 5 = true →
    let b2 := (s.reg (A.tskSubmit k 0)).toNat / 2 ^ 16 % 256
    let waits : Bool := s.tsk.waiting.any (fun x => x.1 == k.val)
    (∀ slot, waits = false → s.slotFree = some slot → s.tsk.items.length < 4096 →
      let gen := Tbl.get (fun _ => 0) s.tsk.gens slot
      gen < 16 → ∃ t, exec (.tskSubmit k w) s = .next t ∧ t.tsk.items.dropLast = s.tsk.items
        ∧ t.tsk.items.getLast?.map Item.key = some ((slot, gen, if b2 / 4 % 2 = 1 then .parked else .ready, b2 / 32, b2 / 8 % 4),
            (s.reg (A.tskSubmit k 1)).toNat % 4096, some k.val, none, s.elapsed)
        ∧ t.tsk.items.getLast?.map (fun i => i.words.drop 1) = some ((List.range 14).map (fun n => s.reg (A.tskSubmit k (n + 1))) ++ [w])
        ∧ t.fld (A.tskSubmitRes k) F.tskSubmitRes_id = gen * 4096 + slot ∧ t.fld (A.tskSubmitRes k) F.tskSubmitRes_status = 0
        ∧ RegsKept [A.tskSubmit k 15, A.tskSubmitRes k, A.tskStatus] s t
        ∧ t = { s with regs := t.regs, tsk := t.tsk, bus := ⟨false, 0, []⟩ })
    ∧ (waits = false → s.slotFree = none →
        ∃ t, exec (.tskSubmit k w) s = .next t ∧ t.tsk = { s.tsk with waiting := s.tsk.waiting ++ [(k.val, s.elapsed)] }
        ∧ t.bus = s.bus ∧ RegsKept [A.tskSubmit k 15] s t ∧ t = { s with regs := t.regs, tsk := t.tsk })
    ∧ (waits = true → exec (.tskSubmit k w) s = .next s))
  ∧ (∀ (k : Fin 24) (s : State), s.isLit 5 = true →
    let late : Bool := s.tsk.waiting.any (fun x => x.1 == k.val && decide (x.2 + 20000 ≤ s.elapsed))
    (late = true → ∃ t, exec (.tskSubmitTimeout k) s = .next t
        ∧ t.tsk = { s.tsk with waiting := s.tsk.waiting.filter (fun x => x.1 != k.val) } ∧ t.reg A.tskSubmitBusy = satInc (s.reg A.tskSubmitBusy)
        ∧ t.reg (A.tskSubmitRes k) = 0x0021 ∧ RegsKept [A.tskSubmitBusy, A.tskSubmitRes k] s t
        ∧ t = { s with regs := t.regs, tsk := t.tsk, bus := ⟨false, 0, []⟩ })
    ∧ (late = false → exec (.tskSubmitTimeout k) s = .next s))
  ∧ (∀ (i : Item) (k : Nat) (s : State),
    let prefers : Bool := (s.recorded i.entry).all (fun c => c == k || i.waited || !s.mayTake c
      || decide (i.readyAt + 1000 * s.fld A.tskSchCfg F.tskSchCfg_affinity_wait ≤ s.elapsed))
    let alone : Bool := s.tsk.items.all (fun j => j.entry != i.entry || j.slot == i.slot || j.st == .parked || (j.st == .ready && i.before j))
    (i.aff = 0 → s.admits i k = true) ∧ (i.aff = 1 → s.admits i k = prefers) ∧ (2 ≤ i.aff → s.admits i k = (alone && prefers)))
  ∧ (∀ (i j : Item), (i.readyAt < j.readyAt → i.before j = true)
    ∧ (i.readyAt = j.readyAt → i.fromCore = none → j.fromCore ≠ none → i.before j = true)
    ∧ (∀ m n, i.readyAt = j.readyAt → i.fromCore = some m → j.fromCore = some n → m < n → i.before j = true)
    ∧ (i.before j = true → j.before i = false))
  ∧ (∀ (k : Fin 24) (s : State), s.isLit 5 = true →
    let get := A.tskGet k
    (∀ i, s.heldBy k = some i → ∃ t, exec (.tskGet k) s = .next t ∧ t.bus = ⟨false, 0x40000000, []⟩ ∧ t.reg get = 0x40000000
        ∧ RegsKept [get] s t ∧ t = { s with regs := t.regs, bus := t.bus })
    ∧ (s.heldBy k = none → (s.mayTake k = false ∨ s.tsk.items.all (fun x => x.st != .ready || !s.admits x k) = true) →
        ∃ t, exec (.tskGet k) s = .next t ∧ t.bus = ⟨false, 0, []⟩ ∧ t.reg get = 0 ∧ RegsKept [get] s t
          ∧ t = { s with regs := t.regs, bus := t.bus })
    ∧ (∀ i, i ∈ s.tsk.items → s.heldBy k = none → s.mayTake k = true → i.st = .ready → s.admits i k = true →
        s.tsk.items.all (fun x => x.st != .ready || !s.admits x k || x == i || decide (x.prio < i.prio)
          || (x.prio == i.prio && i.before x)) = true →
        let j := { i with st := .dispatched k, started := s.elapsed }
        ∃ t, exec (.tskGet k) s = .next t ∧ t.tsk.items = s.tsk.items.map (fun x => if x = i then j else x)
          ∧ t.recorded i.entry = some k.val ∧ (∀ e, e ≠ i.entry → t.recorded e = s.recorded e)
          ∧ (∀ n < 16, t.reg (A.tskItem k n) = i.words.getD n 0) ∧ t.reg get = BitVec.ofNat 32 (2 ^ 31 + i.id)
          ∧ t.bus = ⟨false, BitVec.ofNat 32 (2 ^ 31 + i.id), []⟩
          ∧ RegsKept (get :: A.tskStatus :: (List.range 16).map (A.tskItem k)) s t
          ∧ t = { s with regs := t.regs, tsk := t.tsk, bus := t.bus }))
  ∧ (∀ (slot : Fin 4096) (i : Item) (s : State), s.isLit 5 = true →
    s.tsk.items.find? (fun i => i.slot == slot.val && i.st == .ready) = some i →
    let ends := i.readyAt + 1000 * s.fld A.tskSchCfg F.tskSchCfg_affinity_wait
    (ends ≤ s.elapsed → ∃ t, exec (.affinityWaitExpiry slot) s = .next t
      ∧ t.tsk = { s.tsk with items := s.tsk.items.map (fun x => if x = i then { i with waited := true } else x) }
      ∧ RegsKept [A.tskStatus] s t ∧ t = { s with regs := t.regs, tsk := t.tsk })
    ∧ (s.elapsed < ends → exec (.affinityWaitExpiry slot) s = .next s))
  ∧ (∀ (k : Fin 24) (w : Word) (s : State), s.isLit 5 = true →
    let lo := A.clPerfLo (k / 8) (k % 8) 15
    let hi := A.clPerfHi (k / 8) (k % 8) 15
    let window := (List.range 16).map (A.tskItem k)
    let counted (t : State) : Bool := t.perfVal k 15 == (s.perfVal k 15 + 1) % 2 ^ 48
    let freed (t : State) (i : Item) : Bool := decide (t.tsk.items = s.tsk.items.erase i) && window.all (fun a => t.reg a == 0) && counted t
    let len (i : Item) := if F.tskDone_length.get w = 0 then (i.words.getD 8 0).toNat % 2 ^ 14 else F.tskDone_length.get w
    let q := F.tskDone_queue.get w
    let fwd : Bool := F.tskDone_action.get w == 1
    (s.heldBy k = none → ∃ t, exec (.tskDone k w) s = .next t ∧ counted t = true ∧ RegsKept [lo, hi] s t
        ∧ t = { s with regs := t.regs, bus := ⟨false, 0, []⟩ })
    ∧ (∀ i, s.heldBy k = some i → i.pkt = none → s.tsk.waiting = [] → ∃ t, exec (.tskDone k w) s = .next t ∧ freed t i = true
        ∧ RegsKept (lo :: hi :: A.tskStatus :: window) s t
        ∧ t = { s with regs := t.regs, tsk := { s.tsk with items := t.tsk.items }, bus := ⟨false, 0, []⟩ })
    ∧ (∀ i h, s.heldBy k = some i → i.pkt = some h → s.tsk.waiting = [] → s.freeCells + h.2 ≤ 131072 → fwd = false →
        ∃ t, exec (.tskDone k w) s = .next t ∧ freed t i = true ∧ t.freeCells = s.freeCells + h.2
            ∧ RegsKept (lo :: hi :: A.tskStatus :: A.schPoolStatus :: window) s t
            ∧ t = { s with regs := t.regs, tsk := { s.tsk with items := t.tsk.items }, bus := ⟨false, 0, []⟩ })
    ∧ (∀ i h, s.heldBy k = some i → i.pkt = some h → s.tsk.waiting = [] → s.freeCells + h.2 ≤ 131072 → fwd = true →
        h.2 < cellsOf (len i) → ∃ t, exec (.tskDone k w) s = .next t ∧ freed t i = true
            ∧ t.freeCells = s.freeCells + h.2 ∧ t.reg A.tskFwdBad = satInc (s.reg A.tskFwdBad)
            ∧ RegsKept (lo :: hi :: A.tskStatus :: A.schPoolStatus :: A.tskFwdBad :: window) s t
            ∧ t = { s with regs := t.regs, tsk := { s.tsk with items := t.tsk.items }, bus := ⟨false, 0, []⟩ })
    ∧ (∀ i h, s.heldBy k = some i → i.pkt = some h → s.tsk.waiting = [] → s.freeCells + h.2 ≤ 131072 → fwd = true →
            cellsOf (len i) ≤ h.2 → s.schTakes = true → 18 < q → s.bit A.schCtl F.schCtl_enable = true →
            s.bit (A.schQW0 q) F.schQW0_enable = true → (s.schQ q).cells + cellsOf (len i) ≤ s.fld (A.schQW2 q) F.schQW2_q_limit →
            cellsOf (len i) + (if 3 ≤ s.qTier q then s.fld A.schPoolCfg F.schPoolCfg_reserve else 0) ≤ s.freeCells + h.2 →
            ∃ t, exec (.tskDone k w) s = .next t ∧ freed t i = true ∧ t.freeCells = s.freeCells + h.2 - cellsOf (len i)
              ∧ (t.schQ q).pkts.dropLast = (s.schQ q).pkts
              ∧ (t.schQ q).pkts.getLast?.map (fun e => (e.bytes, e.record, e.colour))
                  = some ((List.range (len i)).map (fun x => s.pstByte (256 * h.1 + x)), (i.words.drop 2).take 4, 0))
    ∧ (∀ i h, s.heldBy k = some i → i.pkt = some h → s.tsk.waiting = [] → fwd = true → cellsOf (len i) ≤ h.2 →
            s.isLit 4 = false → s.renStep 4 = 0 → ∃ t, exec (.tskDone k w) s = .next t ∧ freed t i = true
              ∧ t.reg (A.aonDarkLoss 4) = satInc (s.reg (A.aonDarkLoss 4)) ∧ t.tsk.fwd = s.tsk.fwd ∧ t.sch = s.sch)
    ∧ (∀ i h, s.heldBy k = some i → i.pkt = some h → s.tsk.waiting = [] → fwd = true → cellsOf (len i) ≤ h.2 →
            s.renStep 4 ≠ 0 → ∃ t, exec (.tskDone k w) s = .next t ∧ freed t i = true
              ∧ t.tsk.fwd.dropLast = s.tsk.fwd ∧ t.tsk.fwd.getLast?.map (fun e => (e.1.bytes, e.2))
                  = some ((List.range (len i)).map (fun x => s.pstByte (256 * h.1 + x)), q) ∧ t.sch = s.sch)
    ∧ (∀ i x ws slot, s.heldBy k = some i → i.pkt = none → s.tsk.waiting = x :: ws → x.1 < 24 → slot < 4096 →
        { s with tsk := { s.tsk with items := s.tsk.items.erase i } }.slotFree = some slot →
        ∃ t, exec (.tskDone k w) s = .next t ∧ counted t = true ∧ t.tsk.waiting = ws ∧ t.tsk.items.dropLast = s.tsk.items.erase i
          ∧ t.tsk.items.getLast?.map (fun j => (j.slot, j.fromCore, j.gen)) = some (slot, some x.1, Tbl.get (fun _ => 0) s.tsk.gens slot)
          ∧ t.fld (A.tskSubmitRes x.1) F.tskSubmitRes_status = 0))
  ∧ (∀ (k : Fin 24) (id : Fin 65536) (s : State), s.isLit 5 = true →
    let res := A.tskCmdRes k
    let answered (t : State) (st : Word) : Bool := t.reg res == st && t.bus == ⟨false, 0, []⟩
    (s.itemOf id = none → ∃ t, exec (.tskReady k id) s = .next t ∧ answered t 0x0012 = true ∧ RegsKept [res] s t
      ∧ t = { s with regs := t.regs, bus := t.bus })
    ∧ (s.itemOf id = none → ∃ t, exec (.tskCancel k id .nothing) s = .next t ∧ answered t 0x0012 = true ∧ RegsKept [res] s t
      ∧ t = { s with regs := t.regs, bus := t.bus })
    ∧ (∀ i, s.itemOf id = some i → i.st = .parked →
        let j := { i with st := .ready, readyAt := s.elapsed, order := s.tsk.order }
        ∃ t, exec (.tskReady k id) s = .next t ∧ answered t 0 = true
          ∧ t.tsk = { s.tsk with items := s.tsk.items.map (fun x => if x = i then j else x), order := s.tsk.order + 1 }
          ∧ RegsKept [res, A.tskStatus] s t ∧ t = { s with regs := t.regs, tsk := t.tsk, bus := t.bus })
    ∧ (∀ i, s.itemOf id = some i → i.st ≠ .parked → ∃ t, exec (.tskReady k id) s = .next t ∧ answered t 0x0012 = true ∧ RegsKept [res] s t
      ∧ t = { s with regs := t.regs, bus := t.bus })
    ∧ (∀ i c, s.itemOf id = some i → i.st = .dispatched c → ∃ t, exec (.tskCancel k id .nothing) s = .next t ∧ answered t 0x0070 = true
          ∧ t.reg A.tskTooLate = satInc (s.reg A.tskTooLate) ∧ RegsKept [res, A.tskTooLate] s t
          ∧ t = { s with regs := t.regs, bus := t.bus })
    ∧ (∀ i, s.itemOf id = some i → (i.st = .parked ∨ i.st = .ready) → s.tsk.waiting = [] →
        let cells := (i.pkt.map (·.2)).getD 0
        s.freeCells + cells ≤ 131072 → ∃ t, exec (.tskCancel k id .nothing) s = .next t ∧ answered t 0x0071 = true
          ∧ t.tsk = { s.tsk with items := s.tsk.items.erase i } ∧ t.reg A.tskCancelled = satInc (s.reg A.tskCancelled)
          ∧ t.freeCells = s.freeCells + cells
          ∧ t.reg A.tskCancelPkt = (if i.pkt.isSome then satInc (s.reg A.tskCancelPkt) else s.reg A.tskCancelPkt)
          ∧ RegsKept [res, A.tskCancelled, A.tskCancelPkt, A.tskStatus, A.schPoolStatus] s t
          ∧ t = { s with regs := t.regs, tsk := t.tsk, bus := t.bus }))
  ∧ (∀ (k j : Fin 24) (id : Fin 65536) (i : Item) (s : State), s.isLit 5 = true → s.tsk.items = [i] → i.id = id.val →
    (i.st = .parked ∨ i.st = .ready) → s.tsk.waiting = [] → j ≠ k →
    (∃ t, exec (.tskCancel k id (.ready j)) s = .next t ∧ t.tsk.items = [] ∧ t.reg (A.tskCmdRes k) = 0x0071 ∧ t.reg (A.tskCmdRes j) = 0x0071)
    ∧ (∃ t, exec (.tskCancel k id (.cancel j)) s = .next t ∧ t.tsk.items = []
        ∧ t.reg (A.tskCmdRes (min k.val j.val)) = 0x0071 ∧ t.reg (A.tskCmdRes (max k.val j.val)) = 0x0012)
    ∧ (∃ t, exec (.tskCancel k id (.get j)) s = .next t ∧ t.tsk.items = [] ∧ t.reg (A.tskCmdRes k) = 0x0071 ∧ t.reg (A.tskGet j) = 0))
  ∧ (∀ (slot : Fin 4096) (i : Item) (k : Nat) (s : State), s.isLit 5 = true →
    s.tsk.items.find? (fun i => i.slot == slot.val) = some i → i.st = .dispatched k →
    let limit := s.fld A.tskSchCfg F.tskSchCfg_run_limit
    let due : Bool := !i.long && limit != 0 && decide (i.started + 100000 * limit ≤ s.elapsed)
    (due = true → ∃ t, exec (.tskLongRun slot) s = .next t ∧ t.reg A.tskLongRun = satInc (s.reg A.tskLongRun)
        ∧ s.logs t 5 .tskLongRun [i.id, k]
        ∧ t.tsk = { s.tsk with items := s.tsk.items.map (fun x => if x = i then { i with long := true } else x) }
        ∧ RegsKept [A.tskLongRun, A.tskStatus] s t ∧ t = { s with regs := t.regs, tsk := t.tsk, log := t.log })
    ∧ (due = false → exec (.tskLongRun slot) s = .next s))
  ∧ (∀ (who : Requester) (w : Word) (s : State), s.isLit 5 = true →
    (isAnyCore who = true → ∃ t, exec (.tskIrqSoft who w) s = .next t
        ∧ (∀ b < 16, (t.fld A.tskIrqSoft F.tskIrqSoft_clear).testBit b
            = (w.getLsbD b || ((s.fld A.tskIrqSoft F.tskIrqSoft_clear).testBit b && !w.getLsbD (16 + b))))
        ∧ RegsKept [A.tskIrqSoft] s t ∧ t = { s with regs := t.regs, bus := ⟨false, 0, []⟩ })
    ∧ (isAnyCore who = false → exec (.tskIrqSoft who w) s = .next (s.busOk 0)))
  ∧ (∀ (k n : Nat) (s : State), n < 256 →
    let asks (n : Nat) : Bool := s.bit (A.tskIrqRoute n) F.tskIrqRoute_en && s.lineTarget n == k && s.linePending n
    (asks n = true → (∀ m < n, asks m = false) → s.irqClaim k = n) ∧ ((∀ n < 256, asks n = false) → s.irqClaim k = 0xFFFF))
  ∧ (∀ (who : Requester) (k : Fin 24) (n : Fin 16) (s : State), s.isLit (6 + k / 8) = true →
    let x := Tbl.get (fun _ => CoreClk.init) s.coreClk k
    let on := s.isUp (6 + k / 8) && !s.bit (A.clClk (k / 8)) F.clClk_parked
    let cycles := (x.fifths + (if on then 2 * (s.fld (A.clClk (k / 8)) F.clClk_freq + 1) * (s.elapsed - x.since) else 0)) / 5
    let slots (t : State) := t.perfVal k 2 + t.perfVal k 3 + t.perfVal k 4 + t.perfVal k 5
    ∃ t, exec (.perfCounterRead who k n) s = .next t ∧ t.bus = ⟨false, t.reg (A.clPerfLo (k / 8) (k % 8) n), []⟩
      ∧ Tbl.get (fun _ => 0) t.perf (srcId who) = (t.reg (A.clPerfHi (k / 8) (k % 8) n)).toNat
      ∧ t.perfVal k 0 = (s.perfVal k 0 + cycles) % 2 ^ 48 ∧ slots t % 2 ^ 48 = (slots s + 2 * cycles) % 2 ^ 48
      ∧ RegsKept (perfRegs k) s t ∧ t = { s with regs := t.regs, perf := t.perf, coreClk := t.coreClk, free := t.free, bus := t.bus })
  ∧ (∀ (who : Requester) (cl : Fin 3) (parked : Bool) (s : State), s.isLit (6 + cl) = true →
    (isCudom who = true → ∃ t, exec (.clusterPark who cl parked) s = .next t ∧ t.bit (A.clClk cl) F.clClk_parked = parked
        ∧ t.fld (A.clClk cl) F.clClk_freq = s.fld (A.clClk cl) F.clClk_freq
        ∧ t.pw (6 + cl) = { s.pw (6 + cl) with st := if parked then .reduced else .lit } ∧ (∀ i, i ≠ 6 + cl.val → t.pw i = s.pw i)
        ∧ RegsKept (A.clClk cl :: (List.range 8).flatMap (fun c => perfRegs (8 * cl + c))) s t
        ∧ t = { s with regs := t.regs, pwr := t.pwr, coreClk := t.coreClk, free := t.free, bus := ⟨false, 0, []⟩ })
    ∧ (isCudom who = false → exec (.clusterPark who cl parked) s = .next (s.busOk 0)))

/-! ### DRAM -/

/-- DRAM. Chamber entries and the lock are checked, and the lock computes what self-refresh keeps; an access that the chambers allow
joins its queues or waits for room, and stores or reads its bytes and keeps all others; one they do not is counted and answered with
a bus error; check bytes correct, repair or report; the scheduler prefers reads, drains writes and counts activates per bank;
promotion, refresh, MR4, the oscillator, scrub, training and resync do their part. Log entries 111, 112, 125: the model's reading.
-/
def Obligations.ChambersGuardDramAndKeepItsBytes : Prop :=
  (∀ (who : Requester) (n : Fin 2) (c : Fin 32) (w : Word) (s : State), s.isLit (memId n) = true →
    let a := A.memChamberW0 n c
    let base := 0x200000 * s.fld (A.memChamberW1 n c) F.memChamberW1_base
    let size := 0x200000 * s.fld (A.memChamberW2 n c) F.memChamberW2_size
    let mir : Bool := F.memChamberW0_mirrored.get w == 1
    let ecc : Bool := F.memChamberW0_ecc.get w == 1
    let reserve := s.bit (A.memCfg n) F.memCfg_ecc_reserve
    let unit := if mir then 0x400000 else 0x200000
    let span := if mir then 2 * size else size
    let top := if reserve then s.flash.dramBytes / 8 * 7 else s.flash.dramBytes
    let others := ((List.range 32).filter (fun k => k != c.val && s.bit (A.memChamberW0 n k) F.memChamberW0_valid)).map (s.chamber n)
    let mirrored := others.foldl (fun x d => if d.mirrored then x + d.size else x) (if mir then size else 0)
    let good : Bool := size != 0 && base % unit == 0 && span % unit == 0 && decide (base + span ≤ top) && (!ecc || reserve)
      && others.all (fun d => decide (base + span ≤ d.base) || decide (d.base + d.span ≤ base)) && (!mir || decide (mirrored ≤ 0x80000000))
    let mine : Bool := isCudom who && !s.memLocked n && !s.bit a F.memChamberW0_valid
    let fields (t : State) : Bool := t.bit a F.memChamberW0_mirrored == mir && t.bit a F.memChamberW0_ecc == ecc
      && t.fld a F.memChamberW0_owner == F.memChamberW0_owner.get w && t.fld a F.memChamberW0_retained == F.memChamberW0_retained.get w
    (mine = true → F.memChamberW0_valid.get w = 0 → ∃ t, exec (.chamberSubmit who n c w) s = .next t
        ∧ t.bit a F.memChamberW0_valid = false ∧ fields t = true ∧ RegsKept [a] s t ∧ t = { s with regs := t.regs, bus := ⟨false, 0, []⟩ })
    ∧ (mine = true → F.memChamberW0_valid.get w = 1 → good = true → ∃ t, exec (.chamberSubmit who n c w) s = .next t
        ∧ t.bit a F.memChamberW0_valid = true ∧ fields t = true ∧ RegsKept [a] s t
        ∧ t = { s with regs := t.regs, bus := ⟨false, 0, []⟩ })
    ∧ (mine = true → F.memChamberW0_valid.get w = 1 → good = false → ∃ t, exec (.chamberSubmit who n c w) s = .next t
        ∧ t.bit a F.memChamberW0_valid = false ∧ t.bit (A.memCfg n) F.memCfg_cfg_err = true ∧ RegsKept [a, A.memCfg n] s t
        ∧ t = { s with regs := t.regs, bus := ⟨false, 0, []⟩ })
    ∧ (mine = false → exec (.chamberSubmit who n c w) s = .next (s.busOk 0)))
  ∧ (∀ (who : Requester) (n : Fin 2) (w : Word) (s : State), s.isLit (memId n) = true → isCudom who = true →
    let a := A.memCfg n
    let same : Bool := s.isLit (memId (1 - n)) && s.tableWords n == s.tableWords (1 - n)
    let locks : Bool := F.memCfg_lock.get w == 1
    let fields (t : State) : Bool := t.fld a F.memCfg_ecc_reserve == F.memCfg_ecc_reserve.get w
      && t.fld a F.memCfg_rate == (if F.memCfg_rate.get w ≤ 5 then F.memCfg_rate.get w else s.fld a F.memCfg_rate)
      && t.fld a F.memCfg_density == (if F.memCfg_density.get w ≤ 2 then F.memCfg_density.get w else s.fld a F.memCfg_density)
      && t.fld a F.memCfg_ranks == (if F.memCfg_ranks.get w ≤ 1 then F.memCfg_ranks.get w else s.fld a F.memCfg_ranks)
    (s.memLocked n = false → locks = false → ∃ t, exec (.chamberLock who n w) s = .next t ∧ fields t = true ∧ t.memLocked n = false
        ∧ RegsKept [a] s t ∧ t = { s with regs := t.regs, bus := ⟨false, 0, []⟩ })
    ∧ (s.memLocked n = false → locks = true → same = false → ∃ t, exec (.chamberLock who n w) s = .next t ∧ fields t = true
        ∧ t.memLocked n = false
        ∧ t.bit a F.memCfg_cfg_err = true ∧ RegsKept [a] s t ∧ t = { s with regs := t.regs, bus := ⟨false, 0, []⟩ })
    ∧ (s.memLocked n = false → locks = true → same = true → ∃ t, exec (.chamberLock who n w) s = .next t ∧ fields t = true
        ∧ t.memLocked n = true
        ∧ t.fld (A.memPasr n) F.memPasr_keep = t.pasrMask n ∧ t.dram.logged.testBit n = false
        ∧ t.mirror = (if s.memLocked (1 - n) && s.mirror != 2 && !s.held 0 && !s.held 1 then 0 else s.mirror)
        ∧ RegsKept [a, A.memPasr n, A.memMirror 0, A.memMirror 1] s t
        ∧ t = { s with regs := t.regs, dram := { s.dram with logged := t.dram.logged }, bus := ⟨false, 0, []⟩ })
    ∧ (s.memLocked n = true → ∃ t, exec (.chamberLock who n w) s = .next t ∧ t.memLocked n = true
        ∧ t.fld a F.memCfg_ecc_reserve = s.fld a F.memCfg_ecc_reserve
        ∧ RegsKept [a] s t ∧ t = { s with regs := t.regs, bus := ⟨false, 0, []⟩ }))
  ∧ (∀ (who : Requester) (n : Fin 2) (w : Word) (s : State), s.isLit (memId n) = true → isCudom who = false →
    exec (.chamberLock who n w) s = .next (s.busOk 0))
  ∧ (∀ (n k : Nat) (s : State), k < 8 →
    let e := s.flash.dramBytes / 8
    (s.pasrMask n).testBit k
      = ((s.chambers n).any (fun c => c.retained && decide (c.base < (k + 1) * e) && decide (k * e < c.base + c.span))
      || (k == 7 && s.bit (A.memCfg n) F.memCfg_ecc_reserve && (s.chambers n).any (fun c => c.retained && c.ecc))))
  ∧ (∀ (who : Requester) (x : Fin 0x400000000) (len : Fin 65) (bs : List Byte) (e : EccFind) (bank : Fin 64) (row : Nat) (c : Chamber)
      (s : State), s.isLit 11 = true → s.isLit 12 = true → s.answers who 11 = true → s.answers who 12 = true → s.held 0 = false →
    s.held 1 = false →
    x < s.flash.dramBytes → (s.eccReserve = true → x < s.flash.dramBytes / 8 * 7) → s.chamberAt x = some c → x < c.base + c.size →
    bs.length + x % 64 ≤ 64 → len.val + x.val % 64 ≤ 64 → s.dram.waiting = [] →
    let n := s.servedBy who c x
    let hi := A.memEccAddrHi n
    let line := x.val / 64
    let poisoned : Bool := s.dram.poison.contains line
    let may : Bool := isCudom who || c.owner.testBit (issuer who)
    let inSync : Bool := c.mirrored && s.mirror == 0
    let full : Bool := x.val % 64 == 0 && bs.length == 64
    let partEcc : Bool := c.ecc && !poisoned && !full
    let r : DramReq := ⟨who, x / 64 * 64, bank, row, s.elapsed, false⟩
    let ns := if c.mirrored && s.mirror != 1 then [0, 1] else [n]
    let room : Bool := ns.all (fun k => (s.chan k).writes.length < 64)
    let dirty := if c.mirrored && s.mirror == 1 && !s.dram.dirty.contains (x.val / 4096) then s.dram.dirty ++ [x.val / 4096] else s.dram.dirty
    let wrote (t : State) (poison : List Nat) : Bool := t.dram == { s.dram with bytes := t.dram.bytes, dirty := dirty, poison := poison, chans := t.dram.chans }
    let data := (List.range len).map (fun i => s.dramByte (x + i))
    let recorded (t : State) : Bool := t.bit hi F.memEccAddrHi_valid && (if s.bit hi F.memEccAddrHi_valid && s.fld hi F.memEccAddrHi_kind == 1
      then t.reg hi == s.reg hi else t.fld hi F.memEccAddrHi_kind == 0 && t.reg (A.memEccAddrLo n) == BitVec.ofNat 32 ((dramBase + x / 64 * 64) % 2 ^ 32))
    let reported (t : State) : Prop := t.reg (A.memEccUe n) = satInc (s.reg (A.memEccUe n)) ∧ t.bit hi F.memEccAddrHi_valid = true
      ∧ t.fld hi F.memEccAddrHi_kind = 1 ∧ s.logs t (memId n) .memEccUe [(dramBase + x) % 2 ^ 32, (dramBase + x) / 2 ^ 32]
      ∧ RegsKept [A.memEccUe n, hi, A.memEccAddrLo n] s t
    (may = true → room = true → (c.ecc = false ∨ (e = .clean ∧ poisoned = false) ∨ full = true) →
      ∃ t, exec (.dramAccess who x len (some bs) e bank row) s = .next t ∧ s.dramStored t x bs ∧ s.queued t ns true r
        ∧ wrote t (if c.ecc && full then s.dram.poison.filter (fun l => l != line) else s.dram.poison) = true
        ∧ t = { s with dram := t.dram, bus := ⟨false, 0, []⟩ })
    ∧ (may = true → room = true → c.ecc = true → poisoned = true → full = false →
      ∃ t, exec (.dramAccess who x len (some bs) e bank row) s = .next t ∧ s.dramStored t x bs ∧ s.queued t ns true r
        ∧ wrote t s.dram.poison = true ∧ reported t ∧ t = { s with regs := t.regs, log := t.log, dram := t.dram, bus := ⟨true, 0, []⟩ })
    ∧ (∀ both, may = true → room = true → partEcc = true → e = .double both → (both = true ∨ inSync = false) →
      ∃ t, exec (.dramAccess who x len (some bs) e bank row) s = .next t ∧ s.dramStored t x bs ∧ s.queued t ns true r
        ∧ wrote t (s.dram.poison ++ [line]) = true ∧ reported t
        ∧ t = { s with regs := t.regs, log := t.log, dram := t.dram, bus := ⟨true, 0, []⟩ })
    ∧ (may = true → room = true → partEcc = true → e = .double false → inSync = true →
      ∃ t, exec (.dramAccess who x len (some bs) e bank row) s = .next t ∧ s.dramStored t x bs ∧ s.queued t ns true r
        ∧ wrote t s.dram.poison = true ∧ t.reg (A.memMirrorRepair n) = satInc (s.reg (A.memMirrorRepair n))
        ∧ RegsKept [A.memMirrorRepair n] s t ∧ t = { s with regs := t.regs, dram := t.dram, bus := ⟨false, 0, []⟩ })
    ∧ (may = true → room = true → partEcc = true → e = .single →
      ∃ t, exec (.dramAccess who x len (some bs) e bank row) s = .next t ∧ s.dramStored t x bs ∧ s.queued t ns true r
        ∧ wrote t s.dram.poison = true ∧ t.reg (A.memEccCe n) = satInc (s.reg (A.memEccCe n)) ∧ recorded t = true
        ∧ RegsKept [A.memEccCe n, hi, A.memEccAddrLo n] s t ∧ t = { s with regs := t.regs, dram := t.dram, bus := ⟨false, 0, []⟩ })
    ∧ (may = false → ∃ t, exec (.dramAccess who x len (some bs) e bank row) s = .next t
        ∧ t.reg (A.memOwnerDeny (chanOf x)) = satInc (s.reg (A.memOwnerDeny (chanOf x))) ∧ RegsKept [A.memOwnerDeny (chanOf x)] s t
        ∧ t = { s with regs := t.regs, bus := ⟨true, 0, []⟩ })
    ∧ (may = true → room = false → ∃ t, exec (.dramAccess who x len (some bs) e bank row) s = .next t
        ∧ t = { s with dram := { s.dram with waiting := [⟨who, x, len, some bs, e, bank, row, s.elapsed⟩] } })
    ∧ (64 ≤ (s.chan n).reads.length → ∃ t, exec (.dramAccess who x len none e bank row) s = .next t
        ∧ t = { s with dram := { s.dram with waiting := [⟨who, x, len, none, e, bank, row, s.elapsed⟩] } })
    ∧ ((s.chan n).reads.length < 64 → (c.ecc = false ∨ (poisoned = false ∧ e = .clean)) →
      ∃ t, exec (.dramAccess who x len none e bank row) s = .next t ∧ s.queued t [n] false r
        ∧ t = { s with dram := { s.dram with chans := t.dram.chans }, bus := ⟨false, 0, data⟩ })
    ∧ ((s.chan n).reads.length < 64 → c.ecc = true → poisoned = false → e = .single →
      ∃ t, exec (.dramAccess who x len none e bank row) s = .next t ∧ s.queued t [n] false r
        ∧ t.reg (A.memEccCe n) = satInc (s.reg (A.memEccCe n)) ∧ recorded t = true
        ∧ RegsKept [A.memEccCe n, hi, A.memEccAddrLo n] s t
        ∧ t = { s with regs := t.regs, dram := { s.dram with chans := t.dram.chans }, bus := ⟨false, 0, data⟩ })
    ∧ (∀ both, (s.chan n).reads.length < 64 → c.ecc = true → (poisoned = true ∨ (e = .double both ∧ (both = true ∨ inSync = false))) →
        ∃ t, exec (.dramAccess who x len none e bank row) s = .next t ∧ s.queued t [n] false r
          ∧ reported t
          ∧ t = { s with regs := t.regs, log := t.log, dram := { s.dram with chans := t.dram.chans }, bus := ⟨true, 0, List.replicate len 0⟩ })
    ∧ ((s.chan n).reads.length < 64 → c.ecc = true → poisoned = false → inSync = true → e = .double false →
      ∃ t, exec (.dramAccess who x len none e bank row) s = .next t ∧ s.queued t [n] false r
        ∧ t.reg (A.memMirrorRepair n) = satInc (s.reg (A.memMirrorRepair n)) ∧ RegsKept [A.memMirrorRepair n] s t
        ∧ t = { s with regs := t.regs, dram := { s.dram with chans := t.dram.chans }, bus := ⟨false, 0, data⟩ }))
  ∧ (∀ (who : Requester) (x : Fin 0x400000000) (len : Fin 65) (data : Option (List Byte)) (e : EccFind) (bank : Fin 64) (row : Nat) (s : State),
    let n := chanOf x
    let failed (t : State) : Bool := t.bus.err && decide (t.dram = { s.dram with logged := t.dram.logged })
    (s.flash.dramBytes ≤ x → ∃ t, exec (.dramAccess who x len data e bank row) s = .next t ∧ failed t = true ∧ t = { s with bus := t.bus })
    ∧ (∀ c, s.isLit 11 = true → x < s.flash.dramBytes → s.chamberAt x = some c → c.base + c.size ≤ x → s.eccReserve = false →
        ∃ t, exec (.dramAccess who x len data e bank row) s = .next t ∧ failed t = true ∧ t = { s with bus := t.bus })
    ∧ (s.isLit 11 = true → x < s.flash.dramBytes → s.eccReserve = true → s.flash.dramBytes / 8 * 7 ≤ x →
        ∃ t, exec (.dramAccess who x len data e bank row) s = .next t ∧ failed t = true ∧ t = { s with bus := t.bus })
    ∧ (s.isLit 11 = true → x < s.flash.dramBytes → s.eccReserve = false → s.chamberAt x = none → s.answers who (memId n) = true →
        ∃ t, exec (.dramAccess who x len data e bank row) s = .next t ∧ failed t = true
          ∧ t.reg (A.memUnmapped n) = satInc (s.reg (A.memUnmapped n))
          ∧ t.dram.logged.testBit n = (s.dram.logged.testBit n || s.memLocked n)
          ∧ ((s.dram.logged.testBit n || !s.memLocked n) = true → t.log = s.log)
          ∧ ((s.dram.logged.testBit n || !s.memLocked n) = false →
              s.logs t (memId n) .memUnmapped [x % 2 ^ 32, x / 2 ^ 32, srcId who])
          ∧ RegsKept [A.memUnmapped n] s t)
    ∧ (∀ c, s.isLit 11 = true → x < s.flash.dramBytes → s.eccReserve = false → s.chamberAt x = some c → x < c.base + c.size →
        c.mirrored = false → isCudom who = true → s.answers who (memId n) = true → s.held n = true →
        ∃ t, exec (.dramAccess who x len data e bank row) s = .next t ∧ failed t = true
          ∧ t.reg (A.memHeldAccess n) = satInc (s.reg (A.memHeldAccess n)) ∧ RegsKept [A.memHeldAccess n] s t
          ∧ (s.dram.logged.testBit (2 + n) = true → t.log = s.log)
          ∧ (s.dram.logged.testBit (2 + n) = false → s.logs t (memId n) .memHeldAccess [x % 2 ^ 32, x / 2 ^ 32, srcId who])))
  ∧ (∀ (thresh row : Nat) (t : List (Nat × Nat)),
    let u := (activate thresh row t).1
    let hit := (activate thresh row t).2
    (∀ k, t.find? (·.1 == row) = some (row, k) → k + 1 < thresh → (row, k + 1) ∈ u ∧ u.length = t.length)
    ∧ (∀ k, t.find? (·.1 == row) = some (row, k) → thresh ≤ k + 1 → (row, 0) ∈ u ∧ hit = true ∧ u.length = t.length)
    ∧ (t.find? (·.1 == row) = none → t.length < 16 → 1 < thresh → u = t ++ [(row, 1)] ∧ hit = false)
    ∧ (∀ low, t.find? (·.1 == row) = none → 16 ≤ t.length → (∃ e ∈ t, e.2 = low) → (∀ e ∈ t, low ≤ e.2) → low + 1 < thresh →
        (row, low + 1) ∈ u ∧ hit = false ∧ u.length = t.length))
  ∧ (∀ (n : Nat) (r : DramReq) (s : State), n < 2 →
    let open_ := Tbl.get (fun _ => none) (s.chan n).opens r.bank
    let bank := 1024 * n + r.bank
    let a := activate (max 1 (s.fld (A.memRhCfg n) F.memRhCfg_rh_thresh)) r.row (Tbl.get (fun _ => []) s.dram.rows bank)
    let t := s.moveLine n r
    let opened : Bool := open_.any (fun o => o.1 == r.row)
    (∀ run, open_ = some (r.row, run) → Tbl.get (fun _ => none) (t.chan n).opens r.bank = some (r.row, run + 1) ∧ t.dram.rows = s.dram.rows
        ∧ t.regs = s.regs)
    ∧ (opened = false → Tbl.get (fun _ => none) (t.chan n).opens r.bank = some (r.row, 0)
        ∧ Tbl.get (fun _ => []) t.dram.rows bank = a.1
        ∧ t.reg (A.memRowRefresh n) = (if a.2 then satInc (s.reg (A.memRowRefresh n)) else s.reg (A.memRowRefresh n))
        ∧ (∀ k, k ≠ bank → Tbl.get (fun _ => []) t.dram.rows k = Tbl.get (fun _ => []) s.dram.rows k)
        ∧ RegsKept [A.memRowRefresh n] s t))
  ∧ (∀ (c : DramChan) (now : Nat), c.writes ≠ [] → (c.reads = [] → c.writeNext now = true)
    ∧ (c.reads ≠ [] → c.draining = true → c.writeNext now = decide (c.sinceRead < 3))
    ∧ (c.reads ≠ [] → c.draining = false → c.writeNext now = c.writes.any (fun w => decide (w.since + 10000 ≤ now))))
  ∧ (∀ (c : DramChan) (i : Nat), c.nextRead = some i → i < c.reads.length
    ∧ (c.reads.any (·.promoted) = true → (c.reads.map (·.promoted))[i]? = some true))
  ∧ (∀ (n : Fin 2) (s : State),
    let waits (r : DramReq) : Bool := !r.promoted && decide (r.since + 2000 ≤ s.elapsed)
    (∀ i r, (s.chan n).reads.findIdx? waits = some i → (s.chan n).reads[i]? = some r →
      ∃ t, exec (.readPromote n) s = .next t ∧ t.reg (A.memRdPromote n) = satInc (s.reg (A.memRdPromote n))
      ∧ t.chan n = { s.chan n with reads := (s.chan n).reads.set i { r with promoted := true } } ∧ t.chan (1 - n) = s.chan (1 - n)
      ∧ RegsKept [A.memRdPromote n] s t ∧ t = { s with regs := t.regs, dram := { s.dram with chans := t.dram.chans } })
    ∧ ((s.chan n).reads.any waits = false → exec (.readPromote n) s = .next s))
  ∧ (∀ (n : Fin 2) (s : State), s.isUp (memId n) = true →
    let due : Bool := decide (s.dram.winAt.getD n 0 + s.refreshWindow n ≤ s.elapsed)
    (due = true → ∃ t, exec (.dramRefresh n) s = .next t
      ∧ (∀ k, Tbl.get (fun _ => []) t.dram.rows k = (if k / 1024 = n then [] else Tbl.get (fun _ => []) s.dram.rows k))
      ∧ t = { s with dram := { s.dram with rows := t.dram.rows, winAt := s.dram.winAt.set n s.elapsed } })
    ∧ (due = false → exec (.dramRefresh n) s = .next s))
  ∧ (∀ (n : Fin 2) (v : Nat) (code : Fin 256) (temp : Int) (s : State), s.isUp (memId n) = true →
    let rises : Bool := decide (105 ≤ temp) && !s.bit (A.memCfg n) F.memCfg_hot
    (∃ t, exec (.wckOscRead n v) s = .next t ∧ t = { s with dram := { s.dram with wck := s.dram.wck.set n v } })
    ∧ (∃ t, exec (.mr4Read n code temp) s = .next t
      ∧ t.bit (A.memCfg n) F.memCfg_hot = decide (105 ≤ temp) ∧ t.dram.temp = s.dram.temp.set n temp
      ∧ t.cdm.dramTemp = s.cdm.dramTemp.set n temp ∧ t.cdm.dramCode = s.cdm.dramCode.set n code.val
      ∧ (rises = true → s.logs t (memId n) .dramHot [unsigned 32 temp])
      ∧ (rises = false → t.log = s.log) ∧ RegsKept [A.memCfg n] s t))
  ∧ (∀ (n : Fin 2) (e : EccFind) (x : Nat) (c : Chamber) (s : State), s.isUp (memId n) = true → s.held n = false →
    let pos := s.dram.scrubPos.getD n 0 % max 1 (s.scrubLines n)
    scrubLine n (s.eccChambers n) pos = some (c, x) →
    let due : Bool := s.bit (A.memEccCtl n) F.memEccCtl_scrub_en && decide (s.dram.scrubAt.getD n 0 + s.scrubGap n ≤ s.elapsed)
    let poisoned : Bool := s.dram.poison.contains (x / 64)
    let inSync : Bool := c.mirrored && s.mirror == 0
    let next := { s.dram with scrubPos := s.dram.scrubPos.set n (pos + 1), scrubAt := s.dram.scrubAt.set n s.elapsed }
    (due = true → poisoned = false → e = .clean → exec (.scrubRead n e) s = .next { s with dram := next })
    ∧ (due = true → poisoned = false → e = .single →
        ∃ t, exec (.scrubRead n e) s = .next t ∧ t.reg (A.memScrubCe n) = satInc (s.reg (A.memScrubCe n))
        ∧ RegsKept [A.memScrubCe n] s t ∧ t = { s with regs := t.regs, dram := next })
    ∧ (due = true → poisoned = false → e = .double false → inSync = true → ∃ t, exec (.scrubRead n e) s = .next t
        ∧ t.reg (A.memMirrorRepair n) = satInc (s.reg (A.memMirrorRepair n)) ∧ RegsKept [A.memMirrorRepair n] s t
        ∧ t = { s with regs := t.regs, dram := next })
    ∧ (∀ both, due = true → (poisoned = true ∨ (e = .double both ∧ (both = true ∨ inSync = false))) → ∃ t, exec (.scrubRead n e) s = .next t
        ∧ t.reg (A.memEccUe n) = satInc (s.reg (A.memEccUe n)) ∧ t.fld (A.memEccAddrHi n) F.memEccAddrHi_kind = 1
        ∧ s.logs t (memId n) .memEccUe [(dramBase + x) % 2 ^ 32, (dramBase + x) / 2 ^ 32]
        ∧ RegsKept [A.memEccUe n, A.memEccAddrHi n, A.memEccAddrLo n] s t ∧ t = { s with regs := t.regs, log := t.log, dram := next })
    ∧ (due = false → exec (.scrubRead n e) s = .next s))
  ∧ (∀ (n : Fin 2) (light : Nat) (s : State), s.isUp (memId n) = true → s.held n = true →
    let once := s.dram.failedOnce.testBit n
    (∃ t, exec (.trainingComplete n true light) s = .next t ∧ t.held n = false ∧ t.dram.failedOnce.testBit n = false
        ∧ t.mirror = (if s.mirror = 1 ∧ s.held (1 - n) = false then 2 else s.mirror)
        ∧ RegsKept [A.memMirror 0, A.memMirror 1] s t
        ∧ t = { s with regs := t.regs, dram := { s.dram with failedOnce := t.dram.failedOnce, returning := n, resyncAt := s.elapsed } })
    ∧ (once = false → ∃ t, exec (.trainingComplete n false light) s = .next t ∧ t.dram.failedOnce.testBit n = true
        ∧ t.held n = true ∧ t = { s with dram := { s.dram with failedOnce := t.dram.failedOnce } })
    ∧ (once = true → Tbl.get (fun _ => []) s.cdm.jobs.retrain n = [] → s.mode.mode = .degraded →
        s.mode.toLight = [] → s.mode.toDark = [] →
        ∃ t, exec (.trainingComplete n false light) s = .next t ∧ t.isFailed (memId n) = true ∧ t.dram.failedOnce.testBit n = false))
  ∧ (∀ (n : Fin 2) (ok : Bool) (light : Nat) (s : State), s.held n = false → exec (.trainingComplete n ok light) s = .next s)
  ∧ (∀ (s : State), s.isLit 11 = true → s.isLit 12 = true → s.dram.returning < 2 →
    let live := A.memResyncBlock (1 - s.dram.returning)
    let due : Bool := s.mirror == 2 && decide (s.dram.resyncAt + s.resyncTime ≤ s.elapsed)
    (due = true → Tbl.get (fun _ => []) s.cdm.jobs.retrain s.dram.returning = [] → ∃ t, exec .resyncComplete s = .next t ∧ t.mirror = 0
        ∧ t.dram = { s.dram with dirty := [] } ∧ (t.reg live).toNat = min 0xFFFFFFFF ((s.reg live).toNat + s.dram.dirty.length)
        ∧ RegsKept [live, A.memMirror 0, A.memMirror 1] s t)
    ∧ (due = false → exec .resyncComplete s = .next s))
end

