-- ==== Sys2Proof/Laws/Table.lean ====
section
/-!
SUPPORT. Laws of the sparse tables: a read after a write to the same key gives the value written, a write leaves every
other key alone, and every operation keeps the canonical form.
-/

namespace Sys2Proof.Machine

variable {α : Type}

theorem Tbl.find?_insert_same (k : Nat) (v : α) (t : Tbl α) : (Tbl.insert k v t).find? k = some v := by
  induction t with
  | nil => simp [Tbl.insert, Tbl.find?]
  | cons e t ih =>
    obtain ⟨k', v'⟩ := e
    by_cases h1 : k < k'
    · simp [Tbl.insert, Tbl.find?, h1]
    · by_cases h2 : k' = k
      · simp [Tbl.insert, Tbl.find?, h2]
      · simp [Tbl.insert, Tbl.find?, h1, h2, ih]

theorem Tbl.find?_insert_ne {j k : Nat} (h : j ≠ k) (v : α) (t : Tbl α) :
    (Tbl.insert k v t).find? j = t.find? j := by
  have h' : k ≠ j := fun e => h e.symm
  induction t with
  | nil => simp [Tbl.insert, Tbl.find?, h']
  | cons e t ih =>
    obtain ⟨k', v'⟩ := e
    by_cases h1 : k < k'
    · simp [Tbl.insert, Tbl.find?, h1, h']
    · by_cases h2 : k' = k
      · subst h2; simp [Tbl.insert, Tbl.find?, h']
      · simp only [Tbl.insert, h1, h2, if_false, Tbl.find?, ih]

theorem Tbl.find?_erase_same (k : Nat) (t : Tbl α) : (Tbl.erase k t).find? k = none := by
  induction t with
  | nil => rfl
  | cons e t ih =>
    obtain ⟨k', v'⟩ := e
    by_cases h : k' = k <;> simp [Tbl.erase, Tbl.find?, h, ih]

theorem Tbl.find?_erase_ne {j k : Nat} (h : j ≠ k) (t : Tbl α) : (Tbl.erase k t).find? j = t.find? j := by
  induction t with
  | nil => rfl
  | cons e t ih =>
    obtain ⟨k', v'⟩ := e
    by_cases h1 : k' = k
    · have h2 : ¬ k = j := fun e => h e.symm
      simp [Tbl.erase, Tbl.find?, h1, ih, h2]
    · simp only [Tbl.erase, h1, if_false, Tbl.find?, ih]

/-- A read of the key just written gives the value written. -/
@[simp] theorem Tbl.get_set_same [DecidableEq α] (d : Nat → α) (k : Nat) (v : α) (t : Tbl α) :
    (Tbl.set d k v t).get d k = v := by
  unfold Tbl.set Tbl.get
  split
  · next h => simp [Tbl.find?_erase_same, h]
  · simp [Tbl.find?_insert_same]

/-- A write leaves every other key alone. -/
theorem Tbl.get_set_ne [DecidableEq α] (d : Nat → α) {j k : Nat} (h : j ≠ k) (v : α) (t : Tbl α) :
    (Tbl.set d k v t).get d j = t.get d j := by
  unfold Tbl.set Tbl.get
  split
  · rw [Tbl.find?_erase_ne h]
  · rw [Tbl.find?_insert_ne h]

@[simp] theorem Tbl.get_nil (d : Nat → α) (k : Nat) : Tbl.get d [] k = d k := rfl

theorem Tbl.find?_drop (p : Nat → Bool) (t : Tbl α) (k : Nat) :
    (Tbl.drop p t).find? k = if p k then none else t.find? k := by
  induction t with
  | nil => simp [Tbl.drop, Tbl.find?]
  | cons e t ih =>
    obtain ⟨k', v'⟩ := e
    by_cases hp : p k'
    · by_cases hk : k' = k
      · subst hk; simp [Tbl.drop, hp, ih]
      · simp [Tbl.drop, Tbl.find?, hp, hk, ih]
    · by_cases hk : k' = k
      · subst hk; simp [Tbl.drop, Tbl.find?, hp]
      · simp [Tbl.drop, Tbl.find?, hp, hk, ih]

theorem Tbl.sortedAbove_weaken {i j : Nat} (h : i ≤ j) {t : Tbl α} (hs : Tbl.sortedAbove (some j) t = true) :
    Tbl.sortedAbove (some i) t = true := by
  cases t with
  | nil => rfl
  | cons e t =>
    simp [Tbl.sortedAbove] at *
    exact ⟨by omega, hs.2⟩

theorem Tbl.sortedAbove_none {o : Option Nat} {t : Tbl α} (hs : Tbl.sortedAbove o t = true) :
    Tbl.sortedAbove none t = true := by
  cases o with
  | none => exact hs
  | some j => cases t with
    | nil => rfl
    | cons e t => simp [Tbl.sortedAbove] at *; exact hs.2

theorem Tbl.sorted_insert {j : Nat} {k : Nat} (hj : j < k) (v : α) {t : Tbl α}
    (hs : Tbl.sortedAbove (some j) t = true) : Tbl.sortedAbove (some j) (Tbl.insert k v t) = true := by
  induction t generalizing j with
  | nil => simp [Tbl.insert, Tbl.sortedAbove, hj]
  | cons e t ih =>
    obtain ⟨k', v'⟩ := e
    simp [Tbl.sortedAbove] at hs
    by_cases h1 : k < k'
    · simp [Tbl.insert, h1, Tbl.sortedAbove, hj, hs.2]
    · by_cases h2 : k' = k
      · subst h2; simp [Tbl.insert, Tbl.sortedAbove, hs.1, hs.2]
      · have h3 : k' < k := by omega
        simp [Tbl.insert, h1, h2, Tbl.sortedAbove, hs.1, ih h3 hs.2]

theorem Tbl.sorted_insert_none (k : Nat) (v : α) {t : Tbl α} (hs : Tbl.sortedAbove none t = true) :
    Tbl.sortedAbove none (Tbl.insert k v t) = true := by
  cases t with
  | nil => rfl
  | cons e t =>
    obtain ⟨k', v'⟩ := e
    simp only [Tbl.sortedAbove] at hs
    by_cases h1 : k < k'
    · simp [Tbl.insert, h1, Tbl.sortedAbove, hs]
    · by_cases h2 : k' = k
      · subst h2; simp [Tbl.insert, Tbl.sortedAbove, hs]
      · have h3 : k' < k := by omega
        simp only [Tbl.insert, h1, h2, if_false, Tbl.sortedAbove]
        exact Tbl.sorted_insert h3 v hs

theorem Tbl.sorted_erase {o : Option Nat} (k : Nat) {t : Tbl α} (hs : Tbl.sortedAbove o t = true) :
    Tbl.sortedAbove o (Tbl.erase k t) = true := by
  induction t generalizing o with
  | nil => exact hs
  | cons e t ih =>
    obtain ⟨k', v'⟩ := e
    by_cases h : k' = k
    · simp only [Tbl.erase, h, if_true]
      cases o with
      | none => exact ih (Tbl.sortedAbove_none (by simpa [Tbl.sortedAbove] using hs))
      | some j =>
        simp [Tbl.sortedAbove] at hs
        exact ih (Tbl.sortedAbove_weaken (Nat.le_of_lt hs.1) hs.2)
    · simp only [Tbl.erase, h, if_false]
      cases o with
      | none => exact ih (o := some k') (by simpa [Tbl.sortedAbove] using hs)
      | some j =>
        simp [Tbl.sortedAbove] at hs ⊢
        exact ⟨hs.1, ih hs.2⟩

theorem Tbl.sorted_drop {o : Option Nat} (p : Nat → Bool) {t : Tbl α} (hs : Tbl.sortedAbove o t = true) :
    Tbl.sortedAbove o (Tbl.drop p t) = true := by
  induction t generalizing o with
  | nil => exact hs
  | cons e t ih =>
    obtain ⟨k', v'⟩ := e
    by_cases h : p k'
    · simp only [Tbl.drop, h, if_true]
      cases o with
      | none => exact ih (Tbl.sortedAbove_none (by simpa [Tbl.sortedAbove] using hs))
      | some j =>
        simp [Tbl.sortedAbove] at hs
        exact ih (Tbl.sortedAbove_weaken (Nat.le_of_lt hs.1) hs.2)
    · simp only [Tbl.drop, h]
      cases o with
      | none => exact ih (o := some k') (by simpa [Tbl.sortedAbove] using hs)
      | some j =>
        simp [Tbl.sortedAbove] at hs ⊢
        exact ⟨hs.1, ih hs.2⟩

theorem Tbl.noDefault_insert [DecidableEq α] (d : Nat → α) {k : Nat} {v : α} (hv : v ≠ d k) {t : Tbl α}
    (h : Tbl.noDefault d t = true) : Tbl.noDefault d (Tbl.insert k v t) = true := by
  induction t with
  | nil => simp [Tbl.insert, Tbl.noDefault, hv]
  | cons e t ih =>
    obtain ⟨k', v'⟩ := e
    simp [Tbl.noDefault] at h
    have ht : Tbl.noDefault d t = true := by simpa [Tbl.noDefault] using h.2
    by_cases h1 : k < k'
    · simp [Tbl.insert, h1, Tbl.noDefault, hv, h.1]; exact h.2
    · by_cases h2 : k' = k
      · subst h2; simp [Tbl.insert, Tbl.noDefault, hv]; exact h.2
      · have := ih ht
        simp only [Tbl.noDefault] at this
        simp [Tbl.insert, h1, h2, Tbl.noDefault, h.1]
        simpa using this

theorem Tbl.noDefault_erase [DecidableEq α] (d : Nat → α) (k : Nat) {t : Tbl α}
    (h : Tbl.noDefault d t = true) : Tbl.noDefault d (Tbl.erase k t) = true := by
  induction t with
  | nil => exact h
  | cons e t ih =>
    obtain ⟨k', v'⟩ := e
    simp [Tbl.noDefault] at h ih
    by_cases h1 : k' = k
    · simp [Tbl.erase, h1, Tbl.noDefault]; exact ih h.2
    · simp [Tbl.erase, h1, Tbl.noDefault, h.1]; exact ih h.2

theorem Tbl.noDefault_drop [DecidableEq α] (d : Nat → α) (p : Nat → Bool) {t : Tbl α}
    (h : Tbl.noDefault d t = true) : Tbl.noDefault d (Tbl.drop p t) = true := by
  induction t with
  | nil => exact h
  | cons e t ih =>
    obtain ⟨k', v'⟩ := e
    simp [Tbl.noDefault] at h ih
    by_cases h1 : p k'
    · simp [Tbl.drop, h1, Tbl.noDefault]; exact ih h.2
    · simp [Tbl.drop, h1, Tbl.noDefault, h.1]; exact ih h.2

/-- A write keeps the canonical form. -/
theorem Tbl.wf_set [DecidableEq α] (d : Nat → α) (k : Nat) (v : α) {t : Tbl α} (h : Tbl.wf d t = true) :
    Tbl.wf d (Tbl.set d k v t) = true := by
  simp only [Tbl.wf, Bool.and_eq_true] at *
  unfold Tbl.set
  split
  · exact ⟨Tbl.sorted_erase k h.1, Tbl.noDefault_erase d k h.2⟩
  · next hv => exact ⟨Tbl.sorted_insert_none k v h.1, Tbl.noDefault_insert d hv h.2⟩

/-- Dropping entries keeps the canonical form. -/
theorem Tbl.wf_drop [DecidableEq α] (d : Nat → α) (p : Nat → Bool) {t : Tbl α} (h : Tbl.wf d t = true) :
    Tbl.wf d (Tbl.drop p t) = true := by
  simp only [Tbl.wf, Bool.and_eq_true] at *
  exact ⟨Tbl.sorted_drop p h.1, Tbl.noDefault_drop d p h.2⟩

@[simp] theorem Tbl.wf_nil [DecidableEq α] (d : Nat → α) : Tbl.wf d ([] : Tbl α) = true := rfl

end Sys2Proof.Machine
end

