-- ==== Sys2Proof/Laws/Regs.lean ====
section
/-!
SUPPORT. Laws of registers and fields: a read after a write to the same place gives what was written, and a write leaves every
other place alone.
-/

namespace Sys2Proof.Machine

/-! ### Fields of a word -/

/-- A bit of the field's mask. -/
theorem Fld.mask_bit (f : Fld) (k : Nat) :
    f.mask.getLsbD k = (decide (k < 32) && (decide (f.lo ≤ k) && decide (k - f.lo < f.width))) := by
  rw [Fld.mask, BitVec.getLsbD_ofNat, Nat.testBit_mul_two_pow, Nat.testBit_two_pow_sub_one]

/-- A bit of a word after a field is put. -/
theorem Fld.put_bit (f : Fld) (v : Nat) (w : Word) (k : Nat) (hk : k < 32) :
    (f.put v w).getLsbD k = if f.lo ≤ k ∧ k - f.lo < f.width then v.testBit (k - f.lo) else w.getLsbD k := by
  rw [Fld.put, BitVec.getLsbD_or, BitVec.getLsbD_and, BitVec.getLsbD_not, Fld.mask_bit, BitVec.getLsbD_ofNat,
    Nat.testBit_mul_two_pow, Nat.testBit_mod_two_pow]
  by_cases h1 : f.lo ≤ k <;> by_cases h2 : k - f.lo < f.width <;> simp [h1, h2, hk]

/-- A bit of a field's value. -/
theorem Fld.get_bit (f : Fld) (w : Word) (i : Nat) :
    (f.get w).testBit i = (decide (i < f.width) && w.getLsbD (i + f.lo)) := by
  rw [Fld.get, Nat.testBit_mod_two_pow, Nat.testBit_div_two_pow]
  simp [BitVec.getLsbD]

/-- A field holds what is put into it. -/
theorem Fld.get_put_same (f : Fld) (h : f.hi < 32) (v : Nat) (w : Word) : f.get (f.put v w) = v % 2 ^ f.width := by
  apply Nat.eq_of_testBit_eq
  intro i
  rw [Fld.get_bit, Nat.testBit_mod_two_pow]
  by_cases hi : i < f.width
  · have : i + f.lo < 32 := by unfold Fld.width at hi; omega
    rw [Fld.put_bit f v w _ this]
    simp [hi]
  · simp [hi]

/-- A field above or below the one that is put keeps its value. -/
theorem Fld.get_put_other (f g : Fld) (hg : g.hi < 32) (h : g.hi < f.lo ∨ f.hi < g.lo) (v : Nat) (w : Word) :
    g.get (f.put v w) = g.get w := by
  apply Nat.eq_of_testBit_eq
  intro i
  rw [Fld.get_bit, Fld.get_bit]
  by_cases hi : i < g.width
  · unfold Fld.width at hi
    rw [Fld.put_bit f v w _ (by omega)]
    have : ¬ (f.lo ≤ i + g.lo ∧ i + g.lo - f.lo < f.width) := by unfold Fld.width; omega
    simp [this]
  · simp [hi]

/-- A field's value is below two to its width. -/
theorem Fld.get_lt (f : Fld) (w : Word) : f.get w < 2 ^ f.width := Nat.mod_lt _ (Nat.two_pow_pos _)

/-! ### Registers -/

@[simp] theorem State.reg_setReg_same (s : State) (a : Nat) (w : Word) : (s.setReg a w).reg a = w :=
  Tbl.get_set_same _ _ _ _

theorem State.reg_setReg_ne (s : State) {a b : Nat} (h : b ≠ a) (w : Word) : (s.setReg a w).reg b = s.reg b :=
  Tbl.get_set_ne _ h _ _

theorem State.reg_setReg (s : State) (a b : Nat) (w : Word) : (s.setReg a w).reg b = if b = a then w else s.reg b := by
  by_cases h : b = a
  · subst h; simp
  · simp [h, State.reg_setReg_ne s h]

/-- A state with no register listed shows every register at its reset word. -/
theorem State.reg_of_nil (s : State) (h : s.regs = []) (a : Nat) : s.reg a = resetWord a := by
  simp [State.reg, h]

@[simp] theorem State.reg_setFld_same (s : State) (a : Nat) (f : Fld) (v : Nat) :
    (s.setFld a f v).reg a = f.put v (s.reg a) := State.reg_setReg_same _ _ _

theorem State.reg_setFld_ne (s : State) {a b : Nat} (h : b ≠ a) (f : Fld) (v : Nat) :
    (s.setFld a f v).reg b = s.reg b := State.reg_setReg_ne s h _

/-- The field just set. -/
theorem State.fld_setFld_same (s : State) (a : Nat) (f : Fld) (h : f.hi < 32) (v : Nat) :
    (s.setFld a f v).fld a f = v % 2 ^ f.width := by
  simp [State.fld, Fld.get_put_same f h]

/-- Another field of the same register. -/
theorem State.fld_setFld_other (s : State) (a : Nat) (f g : Fld) (hg : g.hi < 32) (h : g.hi < f.lo ∨ f.hi < g.lo) (v : Nat) :
    (s.setFld a f v).fld a g = s.fld a g := by
  simp [State.fld, Fld.get_put_other f g hg h]

/-- A field of another register. -/
theorem State.fld_setFld_ne (s : State) {a b : Nat} (h : b ≠ a) (f g : Fld) (v : Nat) :
    (s.setFld a f v).fld b g = s.fld b g := by
  simp [State.fld, State.reg_setFld_ne s h]

@[simp] theorem State.reg_count_same (s : State) (a : Nat) : (s.count a).reg a = satInc (s.reg a) :=
  State.reg_setReg_same _ _ _

theorem State.reg_count_ne (s : State) {a b : Nat} (h : b ≠ a) : (s.count a).reg b = s.reg b := State.reg_setReg_ne s h _

theorem State.reg_countN_ne (s : State) {a b : Nat} (h : b ≠ a) (n : Nat) : (s.countN a n).reg b = s.reg b :=
  State.reg_setReg_ne s h _

/-- A counter never falls, and stops at its highest value. -/
theorem satInc_toNat (w : Word) : (satInc w).toNat = min 0xFFFFFFFF (w.toNat + 1) := by
  unfold satInc
  have := w.isLt
  split
  · next h => subst h; rfl
  · next h =>
    have h2 : w.toNat ≠ 0xFFFFFFFF := fun e => h (BitVec.eq_of_toNat_eq e)
    rw [BitVec.toNat_add]
    simp <;> omega

/-- The registers of an island whose window is reset. -/
theorem State.reg_resetRegs (s : State) (id a : Nat) :
    (s.resetRegs id).reg a = if inWindows a && islandOf a == id then resetWord a else s.reg a := by
  simp only [State.reg, State.resetRegs, Tbl.get, Tbl.find?_drop]
  split <;> rfl

/-! ### Sparse state beside the registers -/

@[simp] theorem State.pw_setPw_same (s : State) (i : Nat) (p : IslandPwr) : (s.setPw i p).pw i = p := Tbl.get_set_same _ _ _ _

theorem State.pw_setPw_ne (s : State) {i k : Nat} (h : k ≠ i) (p : IslandPwr) : (s.setPw i p).pw k = s.pw k :=
  Tbl.get_set_ne _ h _ _

@[simp] theorem State.nextSeq_setSeq_same (s : State) (src v : Nat) : (s.setSeq src v).nextSeq src = v :=
  Tbl.get_set_same _ _ _ _

theorem State.nextSeq_setSeq_ne (s : State) {src k : Nat} (h : k ≠ src) (v : Nat) : (s.setSeq src v).nextSeq k = s.nextSeq k :=
  Tbl.get_set_ne _ h _ _

/-- All that raising an event does: its source's sequence advances, and while CDM is lit one event with that source, name and
sequence joins those that wait for the log (R34, R35, R575). -/
theorem State.raise_spec (s : State) (src : Nat) (ev : Ev) (status sev : Nat) (detail : List Nat) :
    let t := s.raise src ev status sev detail
    t.nextSeq src = (s.nextSeq src + 1) % 0x10000 ∧ t = { s with log := t.log }
      ∧ t.log = { s.log with evSeq := t.log.evSeq, events := t.log.events }
      ∧ ∃ e : Event, e.src = src ∧ e.name = ev ∧ e.seq = s.nextSeq src ∧ e.status = status ∧ e.sev = sev
          ∧ e.detail = detail.map (· % 2 ^ 32) ∧ t.log.events = s.log.events ++ (if s.isLit 1 then [e] else []) := by
  unfold State.raise
  by_cases h : s.isLit 1
  · simp only [h, if_true]
    refine ⟨?_, rfl, rfl, _, rfl, rfl, rfl, rfl, rfl, rfl, rfl⟩
    exact State.nextSeq_setSeq_same s src _
  · simp only [h]
    refine ⟨State.nextSeq_setSeq_same s src _, rfl, rfl,
      ⟨0, 0, 0, src, s.nextSeq src, status, sev, 0, ev, detail.map (· % 2 ^ 32)⟩, rfl, rfl, rfl, rfl, rfl, rfl, ?_⟩
    simp [State.setSeq]

end Sys2Proof.Machine
end

