-- ==== Sys2Proof/Laws/Memory.lean ====
section
/-!
SUPPORT. Laws of the memories: what a byte reads after a store, and that every operation keeps the canonical form.
-/

namespace Sys2Proof.Machine

/-! ### Tables of bytes -/

theorem putBytes_cons (t : Tbl (Option Byte)) (x : Nat) (b : Byte) (bs : List Byte) :
    putBytes t x (b :: bs) = putBytes (Tbl.set (fun _ => none) x (some b) t) (x + 1) bs := rfl

/-- What an address reads as after bytes are stored. -/
theorem putBytes_get (t : Tbl (Option Byte)) (x : Nat) (bs : List Byte) (k : Nat) :
    Tbl.get (fun _ => none) (putBytes t x bs) k
      = if x ≤ k ∧ k < x + bs.length then bs[k - x]? else Tbl.get (fun _ => none) t k := by
  induction bs generalizing t x with
  | nil => simp [putBytes] <;> omega
  | cons b bs ih =>
    rw [putBytes_cons, ih]
    by_cases h0 : k = x
    · subst h0
      rw [if_neg (by omega), if_pos (by simp), Tbl.get_set_same]
      simp
    · rw [Tbl.get_set_ne _ h0]
      by_cases h1 : x + 1 ≤ k ∧ k < x + 1 + bs.length
      · have h3 : k - x = (k - (x + 1)) + 1 := by omega
        rw [if_pos h1, if_pos (by simp <;> omega), h3]
        simp
      · rw [if_neg h1, if_neg (by simp <;> omega)]

/-- Outside the bytes stored nothing changes. -/
theorem putBytes_get_outside (t : Tbl (Option Byte)) (x : Nat) (bs : List Byte) {k : Nat}
    (h : k < x ∨ x + bs.length ≤ k) : Tbl.get (fun _ => none) (putBytes t x bs) k = Tbl.get (fun _ => none) t k := by
  rw [putBytes_get, if_neg (by omega)]

theorem wf_putBytes {t : Tbl (Option Byte)} (x : Nat) (bs : List Byte) (h : Memory.wf t = true) :
    Memory.wf (putBytes t x bs) = true := by
  induction bs generalizing t x with
  | nil => exact h
  | cons b bs ih => rw [putBytes_cons]; exact ih _ (Tbl.wf_set _ _ _ h)

theorem wf_writeBytes {t : Tbl Byte} (x : Nat) (bs : List Byte) (h : Tbl.wf (fun _ => 0) t = true) :
    Tbl.wf (fun _ => 0) (writeBytes t x bs) = true := by
  unfold writeBytes
  suffices ∀ (p : Tbl Byte × Nat), Tbl.wf (fun _ => 0) p.1 = true →
      Tbl.wf (fun _ => 0) (bs.foldl (fun (p : Tbl Byte × Nat) b => (Tbl.set (fun _ => 0) p.2 b p.1, p.2 + 1)) p).1 = true by
    exact this (t, x) h
  intro p hp
  induction bs generalizing p with
  | nil => exact hp
  | cons b bs ih => exact ih _ (Tbl.wf_set _ _ _ hp)

/-! ### The canonical form of the state's stores -/

theorem State.canonical_iff (s : State) : s.canonical = true ↔
    Tbl.wf resetWord s.regs = true ∧ Memory.wf s.dram.bytes = true ∧ Memory.wf s.pst = true
      ∧ Tbl.wf (fun _ => 0) s.cmd.mbx = true := by
  simp [State.canonical, and_assoc]

/-- A step that leaves the four stores alone keeps their form. -/
theorem State.canonical_of_eq {s t : State} (hr : t.regs = s.regs) (hd : t.dram.bytes = s.dram.bytes) (hp : t.pst = s.pst)
    (hm : t.cmd.mbx = s.cmd.mbx) (h : s.canonical = true) : t.canonical = true := by
  rw [State.canonical_iff] at *
  rw [hr, hd, hp, hm]; exact h

theorem State.canonical_setReg {s : State} (a : Nat) (w : Word) (h : s.canonical = true) : (s.setReg a w).canonical = true := by
  rw [State.canonical_iff] at *
  exact ⟨Tbl.wf_set _ _ _ h.1, h.2⟩

theorem State.canonical_setFld {s : State} (a : Nat) (f : Fld) (v : Nat) (h : s.canonical = true) :
    (s.setFld a f v).canonical = true := State.canonical_setReg a _ h

theorem State.canonical_count {s : State} (a : Nat) (h : s.canonical = true) : (s.count a).canonical = true :=
  State.canonical_setReg a _ h

theorem State.canonical_resetRegs {s : State} (id : Nat) (h : s.canonical = true) : (s.resetRegs id).canonical = true := by
  rw [State.canonical_iff] at *
  exact ⟨Tbl.wf_drop _ _ h.1, h.2⟩

theorem State.canonical_raise {s : State} (src : Nat) (ev : Ev) (status sev : Nat) (d : List Nat) (h : s.canonical = true) :
    (s.raise src ev status sev d).canonical = true := by
  have e := (State.raise_spec s src ev status sev d).2.1
  exact State.canonical_of_eq (by rw [e]) (by rw [e]) (by rw [e]) (by rw [e]) h

theorem State.canonical_busOk {s : State} (w : Word) (h : s.canonical = true) : (s.busOk w).canonical = true :=
  State.canonical_of_eq rfl rfl rfl rfl h

theorem State.canonical_busErr {s : State} (h : s.canonical = true) : s.busErr.canonical = true :=
  State.canonical_of_eq rfl rfl rfl rfl h

/-- Undefined contents are bytes like others to the form. -/
theorem State.canonical_spoil {s : State} (a n : Nat) (h : s.canonical = true) : (s.spoil a n).canonical = true := by
  rw [State.canonical_iff] at *
  exact ⟨h.1, wf_putBytes _ _ h.2.1, wf_putBytes _ _ h.2.2.1, h.2.2.2⟩

theorem State.canonical_darkRecord {s : State} (who : Requester) (i off : Nat) (write : Bool) (h : s.canonical = true) :
    (s.darkRecord who i off write).canonical = true := by
  unfold State.darkRecord
  have h1 : (if 1 ≤ i ∧ i ≤ 21 then s.count (A.aonDarkLoss i) else s).canonical = true := by
    split
    · exact State.canonical_count _ h
    · exact h
  generalize (if 1 ≤ i ∧ i ≤ 21 then s.count (A.aonDarkLoss i) else s) = s1 at h1 ⊢
  simp only
  split
  · exact h1
  · apply State.canonical_raise
    apply State.canonical_setFld
    apply State.canonical_setFld
    apply State.canonical_setFld
    apply State.canonical_setFld
    apply State.canonical_setFld
    exact State.canonical_of_eq rfl rfl rfl rfl h1

/-! ### DRAM -/

theorem State.canonical_chanRefuse {s : State} (who : Requester) (n x : Nat) (w : Bool) (h : s.canonical = true) :
    (s.chanRefuse who n x w).canonical = true := by
  unfold State.chanRefuse
  split
  · exact State.canonical_darkRecord _ _ _ _ h
  · have h1 := State.canonical_count (A.memHeldAccess n) h
    generalize s.count (A.memHeldAccess n) = s1 at h1 ⊢
    simp only
    split
    · exact h1
    · exact State.canonical_raise _ _ _ _ _ (State.canonical_of_eq (s := s1) rfl rfl rfl rfl h1)

theorem State.canonical_dramCheck {s : State} (who : Requester) (x : Nat) (w : Bool) (h : s.canonical = true) :
    (s.dramCheck who x w).1.canonical = true := by
  unfold State.dramCheck
  simp only
  split
  · exact h
  split
  · exact State.canonical_darkRecord _ _ _ _ h
  split
  · exact h
  split
  · split
    · exact State.canonical_darkRecord _ _ _ _ h
    · have h1 := State.canonical_count (A.memUnmapped (chanOf x)) h
      generalize s.count (A.memUnmapped (chanOf x)) = s1 at h1 ⊢
      split
      · exact h1
      · exact State.canonical_raise _ _ _ _ _ (State.canonical_of_eq (s := s1) rfl rfl rfl rfl h1)
  · split
    · exact h
    split
    · exact State.canonical_count _ h
    split
    · split
      · exact State.canonical_chanRefuse _ _ _ _ h
      · exact h
    · split
      · exact h
      · exact State.canonical_chanRefuse _ _ _ _ h

theorem State.canonical_eccRecord {s : State} (n x k : Nat) (h : s.canonical = true) : (s.eccRecord n x k).canonical = true := by
  unfold State.eccRecord
  simp only
  split
  · exact h
  · exact State.canonical_setReg _ _ (State.canonical_setFld _ _ _ (State.canonical_setFld _ _ _ (State.canonical_setFld _ _ _ h)))

theorem State.canonical_eccCe {s : State} (n x : Nat) (h : s.canonical = true) : (s.eccCe n x).canonical = true :=
  State.canonical_eccRecord _ _ _ (State.canonical_count _ h)

theorem State.canonical_eccUe {s : State} (n x : Nat) (h : s.canonical = true) : (s.eccUe n x).canonical = true :=
  State.canonical_raise _ _ _ _ _ (State.canonical_eccRecord _ _ _ (State.canonical_count _ h))

theorem State.canonical_dramRead {s : State} (who : Requester) (x n : Nat) (e : EccFind) (h : s.canonical = true) :
    (s.dramRead who x n e).1.canonical = true := by
  have hc := State.canonical_dramCheck who x false h
  unfold State.dramRead
  rcases hx : s.dramCheck who x false with ⟨s1, _ | c⟩
  · rw [hx] at hc; exact hc
  · rw [hx] at hc
    simp only
    split
    · exact hc
    split
    · exact State.canonical_eccUe _ _ hc
    split
    · exact hc
    · exact State.canonical_eccCe _ _ hc
    · split
      · exact State.canonical_count _ hc
      · exact State.canonical_eccUe _ _ hc

theorem State.canonical_dramWrite {s : State} (who : Requester) (x : Nat) (bs : List Byte) (e : EccFind) (h : s.canonical = true) :
    (s.dramWrite who x bs e).1.canonical = true := by
  have hc := State.canonical_dramCheck who x true h
  unfold State.dramWrite
  rcases hx : s.dramCheck who x true with ⟨s1, _ | c⟩
  · rw [hx] at hc; exact hc
  · rw [hx] at hc
    rw [State.canonical_iff] at hc
    have hb := wf_putBytes x bs hc.2.1
    have hd : ∀ d : DramState, d.bytes = putBytes s1.dram.bytes x bs → ({ s1 with dram := d } : State).canonical = true := by
      intro d e
      rw [State.canonical_iff]
      exact ⟨hc.1, by rw [e]; exact hb, hc.2.2.1, hc.2.2.2⟩
    cases e <;> simp only <;> split <;> try split
    all_goals try split
    all_goals try split
    all_goals first
      | with_reducible exact hd _ rfl
      | with_reducible exact State.canonical_eccCe _ _ (hd _ rfl)
      | with_reducible exact State.canonical_eccUe _ _ (hd _ rfl)
      | with_reducible exact State.canonical_count _ (hd _ rfl)

/-! ### Ranges -/

/-- A byte of the packet store after bytes are stored in it. -/
theorem State.pstByte_put (s : State) (x : Nat) (bs : List Byte) (k : Nat) :
    State.pstByte { s with pst := putBytes s.pst x bs } k
      = if x ≤ k ∧ k < x + bs.length then bs.getD (k - x) 0 else s.pstByte k := by
  unfold State.pstByte
  simp only [putBytes_get]
  by_cases h : x ≤ k ∧ k < x + bs.length
  · have hl : k - x < bs.length := by omega
    simp [h, List.getElem?_eq_getElem hl, List.getD]
  · simp [h]

/-- A byte of DRAM after bytes are stored in it, in the same epoch. -/
theorem State.dramByte_putBytes (s : State) (d : DramState) (x : Nat) (bs : List Byte) (k : Nat) (he : d.epoch = s.dram.epoch)
    (hb : d.bytes = putBytes s.dram.bytes x bs) : State.dramByte { s with dram := d } k
      = if x ≤ k ∧ k < x + bs.length then bs.getD (k - x) 0 else s.dramByte k := by
  unfold State.dramByte
  simp only [he, hb, putBytes_get]
  by_cases h : x ≤ k ∧ k < x + bs.length
  · have hl : k - x < bs.length := by omega
    simp [h, List.getElem?_eq_getElem hl, List.getD]
  · simp [h]

/-- An engine's write to the packet store of an island that answers. -/
theorem State.memWrite_store (s : State) (who : Requester) (a : Nat) (bs : List Byte) (h : inStore a bs.length)
    (ha : s.answers who 4 = true) :
    s.memWrite who a bs = ({ s with pst := putBytes s.pst (a - 0x80000000) bs }, true) := by
  unfold State.memWrite
  unfold inStore at h
  simp [h, ha]

/-- An engine's read from it. -/
theorem State.memRead_store (s : State) (who : Requester) (a n : Nat) (h : inStore a n) (ha : s.answers who 4 = true) :
    s.memRead who a n = (s, some ((List.range n).map (fun i => s.pstByte (a - 0x80000000 + i)))) := by
  unfold State.memRead
  unfold inStore at h
  simp [h, ha]

theorem State.canonical_memRead {s : State} (who : Requester) (a n : Nat) (h : s.canonical = true) :
    (s.memRead who a n).1.canonical = true := by
  unfold State.memRead
  split
  · split
    · exact h
    · exact State.canonical_darkRecord _ _ _ _ h
  split
  · suffices ∀ (l : List (Nat × Nat)) (r : State × Option (List Byte)), r.1.canonical = true →
        (l.foldl (fun (r : State × Option (List Byte)) l => match r.2 with
          | none => r
          | some acc => match r.1.dramRead who l.1 l.2 .clean with
            | (s, some b) => (s, some (acc ++ b))
            | (s, none) => (s, none)) r).1.canonical = true by
      exact this _ (s, some []) h
    intro l
    induction l with
    | nil => intro r hr; exact hr
    | cons p l ih =>
      intro r hr
      apply ih
      obtain ⟨s1, _ | acc⟩ := r
      · exact hr
      · have hd := State.canonical_dramRead who p.1 p.2 .clean hr
        simp only
        rcases hx : s1.dramRead who p.1 p.2 .clean with ⟨s2, _ | b⟩ <;> rw [hx] at hd <;> exact hd
  · exact h

theorem State.canonical_memWrite {s : State} (who : Requester) (a : Nat) (bs : List Byte) (h : s.canonical = true) :
    (s.memWrite who a bs).1.canonical = true := by
  unfold State.memWrite
  simp only
  split
  · split
    · rw [State.canonical_iff] at *
      exact ⟨h.1, h.2.1, wf_putBytes _ _ h.2.2.1, h.2.2.2⟩
    · exact State.canonical_darkRecord _ _ _ _ h
  split
  · suffices ∀ (l : List (Nat × Nat)) (r : State × Bool), r.1.canonical = true →
        (l.foldl (fun (r : State × Bool) l =>
          if r.2 then r.1.dramWrite who l.1 ((bs.drop (l.1 - (a - dramBase))).take l.2) .clean else r) r).1.canonical = true by
      exact this _ (s, true) h
    intro l
    induction l with
    | nil => intro r hr; exact hr
    | cons p l ih =>
      intro r hr
      apply ih
      simp only
      split
      · exact State.canonical_dramWrite _ _ _ _ hr
      · exact hr
  · exact h

end Sys2Proof.Machine
end

