-- ==== Sys2Proof/Laws/State.lean ====
section
/-!
SUPPORT. What each update of the state leaves alone: one lemma per field per update, so that no proof unfolds a record.
-/

namespace Sys2Proof.Machine

variable (s : State)

/-! ### setReg -/

@[simp] theorem State.setReg_mode (a : Nat) (w : Word) : (s.setReg a w).mode = s.mode := rfl
@[simp] theorem State.setReg_cmd (a : Nat) (w : Word) : (s.setReg a w).cmd = s.cmd := rfl
@[simp] theorem State.setReg_pwr (a : Nat) (w : Word) : (s.setReg a w).pwr = s.pwr := rfl
@[simp] theorem State.setReg_renew (a : Nat) (w : Word) : (s.setReg a w).renew = s.renew := rfl
@[simp] theorem State.setReg_calRecs (a : Nat) (w : Word) : (s.setReg a w).calRecs = s.calRecs := rfl
@[simp] theorem State.setReg_aon (a : Nat) (w : Word) : (s.setReg a w).aon = s.aon := rfl
@[simp] theorem State.setReg_log (a : Nat) (w : Word) : (s.setReg a w).log = s.log := rfl
@[simp] theorem State.setReg_cdm (a : Nat) (w : Word) : (s.setReg a w).cdm = s.cdm := rfl
@[simp] theorem State.setReg_flash (a : Nat) (w : Word) : (s.setReg a w).flash = s.flash := rfl
@[simp] theorem State.setReg_time (a : Nat) (w : Word) : (s.setReg a w).time = s.time := rfl
@[simp] theorem State.setReg_keys (a : Nat) (w : Word) : (s.setReg a w).keys = s.keys := rfl
@[simp] theorem State.setReg_cip (a : Nat) (w : Word) : (s.setReg a w).cip = s.cip := rfl
@[simp] theorem State.setReg_rad (a : Nat) (w : Word) : (s.setReg a w).rad = s.rad := rfl
@[simp] theorem State.setReg_dec (a : Nat) (w : Word) : (s.setReg a w).dec = s.dec := rfl
@[simp] theorem State.setReg_rxFifo (a : Nat) (w : Word) : (s.setReg a w).rxFifo = s.rxFifo := rfl
@[simp] theorem State.setReg_hmac (a : Nat) (w : Word) : (s.setReg a w).hmac = s.hmac := rfl
@[simp] theorem State.setReg_pkt (a : Nat) (w : Word) : (s.setReg a w).pkt = s.pkt := rfl
@[simp] theorem State.setReg_sch (a : Nat) (w : Word) : (s.setReg a w).sch = s.sch := rfl
@[simp] theorem State.setReg_tsk (a : Nat) (w : Word) : (s.setReg a w).tsk = s.tsk := rfl
@[simp] theorem State.setReg_ports (a : Nat) (w : Word) : (s.setReg a w).ports = s.ports := rfl
@[simp] theorem State.setReg_lanes (a : Nat) (w : Word) : (s.setReg a w).lanes = s.lanes := rfl
@[simp] theorem State.setReg_dma (a : Nat) (w : Word) : (s.setReg a w).dma = s.dma := rfl
@[simp] theorem State.setReg_perf (a : Nat) (w : Word) : (s.setReg a w).perf = s.perf := rfl
@[simp] theorem State.setReg_coreClk (a : Nat) (w : Word) : (s.setReg a w).coreClk = s.coreClk := rfl
@[simp] theorem State.setReg_dram (a : Nat) (w : Word) : (s.setReg a w).dram = s.dram := rfl
@[simp] theorem State.setReg_pst (a : Nat) (w : Word) : (s.setReg a w).pst = s.pst := rfl
@[simp] theorem State.setReg_elapsed (a : Nat) (w : Word) : (s.setReg a w).elapsed = s.elapsed := rfl
@[simp] theorem State.setReg_free (a : Nat) (w : Word) : (s.setReg a w).free = s.free := rfl
@[simp] theorem State.setReg_bus (a : Nat) (w : Word) : (s.setReg a w).bus = s.bus := rfl
@[simp] theorem State.setReg_miso (a : Nat) (w : Word) : (s.setReg a w).miso = s.miso := rfl
@[simp] theorem State.setReg_pending (a : Nat) (w : Word) : (s.setReg a w).pending = s.pending := rfl

/-! ### setFld -/

@[simp] theorem State.setFld_mode (a : Nat) (f : Fld) (v : Nat) : (s.setFld a f v).mode = s.mode := rfl
@[simp] theorem State.setFld_cmd (a : Nat) (f : Fld) (v : Nat) : (s.setFld a f v).cmd = s.cmd := rfl
@[simp] theorem State.setFld_pwr (a : Nat) (f : Fld) (v : Nat) : (s.setFld a f v).pwr = s.pwr := rfl
@[simp] theorem State.setFld_renew (a : Nat) (f : Fld) (v : Nat) : (s.setFld a f v).renew = s.renew := rfl
@[simp] theorem State.setFld_calRecs (a : Nat) (f : Fld) (v : Nat) : (s.setFld a f v).calRecs = s.calRecs := rfl
@[simp] theorem State.setFld_aon (a : Nat) (f : Fld) (v : Nat) : (s.setFld a f v).aon = s.aon := rfl
@[simp] theorem State.setFld_log (a : Nat) (f : Fld) (v : Nat) : (s.setFld a f v).log = s.log := rfl
@[simp] theorem State.setFld_cdm (a : Nat) (f : Fld) (v : Nat) : (s.setFld a f v).cdm = s.cdm := rfl
@[simp] theorem State.setFld_flash (a : Nat) (f : Fld) (v : Nat) : (s.setFld a f v).flash = s.flash := rfl
@[simp] theorem State.setFld_time (a : Nat) (f : Fld) (v : Nat) : (s.setFld a f v).time = s.time := rfl
@[simp] theorem State.setFld_keys (a : Nat) (f : Fld) (v : Nat) : (s.setFld a f v).keys = s.keys := rfl
@[simp] theorem State.setFld_cip (a : Nat) (f : Fld) (v : Nat) : (s.setFld a f v).cip = s.cip := rfl
@[simp] theorem State.setFld_rad (a : Nat) (f : Fld) (v : Nat) : (s.setFld a f v).rad = s.rad := rfl
@[simp] theorem State.setFld_dec (a : Nat) (f : Fld) (v : Nat) : (s.setFld a f v).dec = s.dec := rfl
@[simp] theorem State.setFld_rxFifo (a : Nat) (f : Fld) (v : Nat) : (s.setFld a f v).rxFifo = s.rxFifo := rfl
@[simp] theorem State.setFld_hmac (a : Nat) (f : Fld) (v : Nat) : (s.setFld a f v).hmac = s.hmac := rfl
@[simp] theorem State.setFld_pkt (a : Nat) (f : Fld) (v : Nat) : (s.setFld a f v).pkt = s.pkt := rfl
@[simp] theorem State.setFld_sch (a : Nat) (f : Fld) (v : Nat) : (s.setFld a f v).sch = s.sch := rfl
@[simp] theorem State.setFld_tsk (a : Nat) (f : Fld) (v : Nat) : (s.setFld a f v).tsk = s.tsk := rfl
@[simp] theorem State.setFld_ports (a : Nat) (f : Fld) (v : Nat) : (s.setFld a f v).ports = s.ports := rfl
@[simp] theorem State.setFld_lanes (a : Nat) (f : Fld) (v : Nat) : (s.setFld a f v).lanes = s.lanes := rfl
@[simp] theorem State.setFld_dma (a : Nat) (f : Fld) (v : Nat) : (s.setFld a f v).dma = s.dma := rfl
@[simp] theorem State.setFld_perf (a : Nat) (f : Fld) (v : Nat) : (s.setFld a f v).perf = s.perf := rfl
@[simp] theorem State.setFld_coreClk (a : Nat) (f : Fld) (v : Nat) : (s.setFld a f v).coreClk = s.coreClk := rfl
@[simp] theorem State.setFld_dram (a : Nat) (f : Fld) (v : Nat) : (s.setFld a f v).dram = s.dram := rfl
@[simp] theorem State.setFld_pst (a : Nat) (f : Fld) (v : Nat) : (s.setFld a f v).pst = s.pst := rfl
@[simp] theorem State.setFld_elapsed (a : Nat) (f : Fld) (v : Nat) : (s.setFld a f v).elapsed = s.elapsed := rfl
@[simp] theorem State.setFld_free (a : Nat) (f : Fld) (v : Nat) : (s.setFld a f v).free = s.free := rfl
@[simp] theorem State.setFld_bus (a : Nat) (f : Fld) (v : Nat) : (s.setFld a f v).bus = s.bus := rfl
@[simp] theorem State.setFld_miso (a : Nat) (f : Fld) (v : Nat) : (s.setFld a f v).miso = s.miso := rfl
@[simp] theorem State.setFld_pending (a : Nat) (f : Fld) (v : Nat) : (s.setFld a f v).pending = s.pending := rfl

/-! ### count -/

@[simp] theorem State.count_mode (a : Nat) : (s.count a).mode = s.mode := rfl
@[simp] theorem State.count_cmd (a : Nat) : (s.count a).cmd = s.cmd := rfl
@[simp] theorem State.count_pwr (a : Nat) : (s.count a).pwr = s.pwr := rfl
@[simp] theorem State.count_renew (a : Nat) : (s.count a).renew = s.renew := rfl
@[simp] theorem State.count_calRecs (a : Nat) : (s.count a).calRecs = s.calRecs := rfl
@[simp] theorem State.count_aon (a : Nat) : (s.count a).aon = s.aon := rfl
@[simp] theorem State.count_log (a : Nat) : (s.count a).log = s.log := rfl
@[simp] theorem State.count_cdm (a : Nat) : (s.count a).cdm = s.cdm := rfl
@[simp] theorem State.count_flash (a : Nat) : (s.count a).flash = s.flash := rfl
@[simp] theorem State.count_time (a : Nat) : (s.count a).time = s.time := rfl
@[simp] theorem State.count_keys (a : Nat) : (s.count a).keys = s.keys := rfl
@[simp] theorem State.count_cip (a : Nat) : (s.count a).cip = s.cip := rfl
@[simp] theorem State.count_rad (a : Nat) : (s.count a).rad = s.rad := rfl
@[simp] theorem State.count_dec (a : Nat) : (s.count a).dec = s.dec := rfl
@[simp] theorem State.count_rxFifo (a : Nat) : (s.count a).rxFifo = s.rxFifo := rfl
@[simp] theorem State.count_hmac (a : Nat) : (s.count a).hmac = s.hmac := rfl
@[simp] theorem State.count_pkt (a : Nat) : (s.count a).pkt = s.pkt := rfl
@[simp] theorem State.count_sch (a : Nat) : (s.count a).sch = s.sch := rfl
@[simp] theorem State.count_tsk (a : Nat) : (s.count a).tsk = s.tsk := rfl
@[simp] theorem State.count_ports (a : Nat) : (s.count a).ports = s.ports := rfl
@[simp] theorem State.count_lanes (a : Nat) : (s.count a).lanes = s.lanes := rfl
@[simp] theorem State.count_dma (a : Nat) : (s.count a).dma = s.dma := rfl
@[simp] theorem State.count_perf (a : Nat) : (s.count a).perf = s.perf := rfl
@[simp] theorem State.count_coreClk (a : Nat) : (s.count a).coreClk = s.coreClk := rfl
@[simp] theorem State.count_dram (a : Nat) : (s.count a).dram = s.dram := rfl
@[simp] theorem State.count_pst (a : Nat) : (s.count a).pst = s.pst := rfl
@[simp] theorem State.count_elapsed (a : Nat) : (s.count a).elapsed = s.elapsed := rfl
@[simp] theorem State.count_free (a : Nat) : (s.count a).free = s.free := rfl
@[simp] theorem State.count_bus (a : Nat) : (s.count a).bus = s.bus := rfl
@[simp] theorem State.count_miso (a : Nat) : (s.count a).miso = s.miso := rfl
@[simp] theorem State.count_pending (a : Nat) : (s.count a).pending = s.pending := rfl

/-! ### countN -/

@[simp] theorem State.countN_mode (a n : Nat) : (s.countN a n).mode = s.mode := rfl
@[simp] theorem State.countN_cmd (a n : Nat) : (s.countN a n).cmd = s.cmd := rfl
@[simp] theorem State.countN_pwr (a n : Nat) : (s.countN a n).pwr = s.pwr := rfl
@[simp] theorem State.countN_renew (a n : Nat) : (s.countN a n).renew = s.renew := rfl
@[simp] theorem State.countN_calRecs (a n : Nat) : (s.countN a n).calRecs = s.calRecs := rfl
@[simp] theorem State.countN_aon (a n : Nat) : (s.countN a n).aon = s.aon := rfl
@[simp] theorem State.countN_log (a n : Nat) : (s.countN a n).log = s.log := rfl
@[simp] theorem State.countN_cdm (a n : Nat) : (s.countN a n).cdm = s.cdm := rfl
@[simp] theorem State.countN_flash (a n : Nat) : (s.countN a n).flash = s.flash := rfl
@[simp] theorem State.countN_time (a n : Nat) : (s.countN a n).time = s.time := rfl
@[simp] theorem State.countN_keys (a n : Nat) : (s.countN a n).keys = s.keys := rfl
@[simp] theorem State.countN_cip (a n : Nat) : (s.countN a n).cip = s.cip := rfl
@[simp] theorem State.countN_rad (a n : Nat) : (s.countN a n).rad = s.rad := rfl
@[simp] theorem State.countN_dec (a n : Nat) : (s.countN a n).dec = s.dec := rfl
@[simp] theorem State.countN_rxFifo (a n : Nat) : (s.countN a n).rxFifo = s.rxFifo := rfl
@[simp] theorem State.countN_hmac (a n : Nat) : (s.countN a n).hmac = s.hmac := rfl
@[simp] theorem State.countN_pkt (a n : Nat) : (s.countN a n).pkt = s.pkt := rfl
@[simp] theorem State.countN_sch (a n : Nat) : (s.countN a n).sch = s.sch := rfl
@[simp] theorem State.countN_tsk (a n : Nat) : (s.countN a n).tsk = s.tsk := rfl
@[simp] theorem State.countN_ports (a n : Nat) : (s.countN a n).ports = s.ports := rfl
@[simp] theorem State.countN_lanes (a n : Nat) : (s.countN a n).lanes = s.lanes := rfl
@[simp] theorem State.countN_dma (a n : Nat) : (s.countN a n).dma = s.dma := rfl
@[simp] theorem State.countN_perf (a n : Nat) : (s.countN a n).perf = s.perf := rfl
@[simp] theorem State.countN_coreClk (a n : Nat) : (s.countN a n).coreClk = s.coreClk := rfl
@[simp] theorem State.countN_dram (a n : Nat) : (s.countN a n).dram = s.dram := rfl
@[simp] theorem State.countN_pst (a n : Nat) : (s.countN a n).pst = s.pst := rfl
@[simp] theorem State.countN_elapsed (a n : Nat) : (s.countN a n).elapsed = s.elapsed := rfl
@[simp] theorem State.countN_free (a n : Nat) : (s.countN a n).free = s.free := rfl
@[simp] theorem State.countN_bus (a n : Nat) : (s.countN a n).bus = s.bus := rfl
@[simp] theorem State.countN_miso (a n : Nat) : (s.countN a n).miso = s.miso := rfl
@[simp] theorem State.countN_pending (a n : Nat) : (s.countN a n).pending = s.pending := rfl

/-! ### resetRegs -/

@[simp] theorem State.resetRegs_mode (id : Nat) : (s.resetRegs id).mode = s.mode := rfl
@[simp] theorem State.resetRegs_cmd (id : Nat) : (s.resetRegs id).cmd = s.cmd := rfl
@[simp] theorem State.resetRegs_pwr (id : Nat) : (s.resetRegs id).pwr = s.pwr := rfl
@[simp] theorem State.resetRegs_renew (id : Nat) : (s.resetRegs id).renew = s.renew := rfl
@[simp] theorem State.resetRegs_calRecs (id : Nat) : (s.resetRegs id).calRecs = s.calRecs := rfl
@[simp] theorem State.resetRegs_aon (id : Nat) : (s.resetRegs id).aon = s.aon := rfl
@[simp] theorem State.resetRegs_log (id : Nat) : (s.resetRegs id).log = s.log := rfl
@[simp] theorem State.resetRegs_cdm (id : Nat) : (s.resetRegs id).cdm = s.cdm := rfl
@[simp] theorem State.resetRegs_flash (id : Nat) : (s.resetRegs id).flash = s.flash := rfl
@[simp] theorem State.resetRegs_time (id : Nat) : (s.resetRegs id).time = s.time := rfl
@[simp] theorem State.resetRegs_keys (id : Nat) : (s.resetRegs id).keys = s.keys := rfl
@[simp] theorem State.resetRegs_cip (id : Nat) : (s.resetRegs id).cip = s.cip := rfl
@[simp] theorem State.resetRegs_rad (id : Nat) : (s.resetRegs id).rad = s.rad := rfl
@[simp] theorem State.resetRegs_dec (id : Nat) : (s.resetRegs id).dec = s.dec := rfl
@[simp] theorem State.resetRegs_rxFifo (id : Nat) : (s.resetRegs id).rxFifo = s.rxFifo := rfl
@[simp] theorem State.resetRegs_hmac (id : Nat) : (s.resetRegs id).hmac = s.hmac := rfl
@[simp] theorem State.resetRegs_pkt (id : Nat) : (s.resetRegs id).pkt = s.pkt := rfl
@[simp] theorem State.resetRegs_sch (id : Nat) : (s.resetRegs id).sch = s.sch := rfl
@[simp] theorem State.resetRegs_tsk (id : Nat) : (s.resetRegs id).tsk = s.tsk := rfl
@[simp] theorem State.resetRegs_ports (id : Nat) : (s.resetRegs id).ports = s.ports := rfl
@[simp] theorem State.resetRegs_lanes (id : Nat) : (s.resetRegs id).lanes = s.lanes := rfl
@[simp] theorem State.resetRegs_dma (id : Nat) : (s.resetRegs id).dma = s.dma := rfl
@[simp] theorem State.resetRegs_perf (id : Nat) : (s.resetRegs id).perf = s.perf := rfl
@[simp] theorem State.resetRegs_coreClk (id : Nat) : (s.resetRegs id).coreClk = s.coreClk := rfl
@[simp] theorem State.resetRegs_dram (id : Nat) : (s.resetRegs id).dram = s.dram := rfl
@[simp] theorem State.resetRegs_pst (id : Nat) : (s.resetRegs id).pst = s.pst := rfl
@[simp] theorem State.resetRegs_elapsed (id : Nat) : (s.resetRegs id).elapsed = s.elapsed := rfl
@[simp] theorem State.resetRegs_free (id : Nat) : (s.resetRegs id).free = s.free := rfl
@[simp] theorem State.resetRegs_bus (id : Nat) : (s.resetRegs id).bus = s.bus := rfl
@[simp] theorem State.resetRegs_miso (id : Nat) : (s.resetRegs id).miso = s.miso := rfl
@[simp] theorem State.resetRegs_pending (id : Nat) : (s.resetRegs id).pending = s.pending := rfl

/-! ### setPw -/

@[simp] theorem State.setPw_regs (i : Nat) (p : IslandPwr) : (s.setPw i p).regs = s.regs := rfl
@[simp] theorem State.setPw_mode (i : Nat) (p : IslandPwr) : (s.setPw i p).mode = s.mode := rfl
@[simp] theorem State.setPw_cmd (i : Nat) (p : IslandPwr) : (s.setPw i p).cmd = s.cmd := rfl
@[simp] theorem State.setPw_renew (i : Nat) (p : IslandPwr) : (s.setPw i p).renew = s.renew := rfl
@[simp] theorem State.setPw_calRecs (i : Nat) (p : IslandPwr) : (s.setPw i p).calRecs = s.calRecs := rfl
@[simp] theorem State.setPw_aon (i : Nat) (p : IslandPwr) : (s.setPw i p).aon = s.aon := rfl
@[simp] theorem State.setPw_log (i : Nat) (p : IslandPwr) : (s.setPw i p).log = s.log := rfl
@[simp] theorem State.setPw_cdm (i : Nat) (p : IslandPwr) : (s.setPw i p).cdm = s.cdm := rfl
@[simp] theorem State.setPw_flash (i : Nat) (p : IslandPwr) : (s.setPw i p).flash = s.flash := rfl
@[simp] theorem State.setPw_time (i : Nat) (p : IslandPwr) : (s.setPw i p).time = s.time := rfl
@[simp] theorem State.setPw_keys (i : Nat) (p : IslandPwr) : (s.setPw i p).keys = s.keys := rfl
@[simp] theorem State.setPw_cip (i : Nat) (p : IslandPwr) : (s.setPw i p).cip = s.cip := rfl
@[simp] theorem State.setPw_rad (i : Nat) (p : IslandPwr) : (s.setPw i p).rad = s.rad := rfl
@[simp] theorem State.setPw_dec (i : Nat) (p : IslandPwr) : (s.setPw i p).dec = s.dec := rfl
@[simp] theorem State.setPw_rxFifo (i : Nat) (p : IslandPwr) : (s.setPw i p).rxFifo = s.rxFifo := rfl
@[simp] theorem State.setPw_hmac (i : Nat) (p : IslandPwr) : (s.setPw i p).hmac = s.hmac := rfl
@[simp] theorem State.setPw_pkt (i : Nat) (p : IslandPwr) : (s.setPw i p).pkt = s.pkt := rfl
@[simp] theorem State.setPw_sch (i : Nat) (p : IslandPwr) : (s.setPw i p).sch = s.sch := rfl
@[simp] theorem State.setPw_tsk (i : Nat) (p : IslandPwr) : (s.setPw i p).tsk = s.tsk := rfl
@[simp] theorem State.setPw_ports (i : Nat) (p : IslandPwr) : (s.setPw i p).ports = s.ports := rfl
@[simp] theorem State.setPw_lanes (i : Nat) (p : IslandPwr) : (s.setPw i p).lanes = s.lanes := rfl
@[simp] theorem State.setPw_dma (i : Nat) (p : IslandPwr) : (s.setPw i p).dma = s.dma := rfl
@[simp] theorem State.setPw_perf (i : Nat) (p : IslandPwr) : (s.setPw i p).perf = s.perf := rfl
@[simp] theorem State.setPw_coreClk (i : Nat) (p : IslandPwr) : (s.setPw i p).coreClk = s.coreClk := rfl
@[simp] theorem State.setPw_dram (i : Nat) (p : IslandPwr) : (s.setPw i p).dram = s.dram := rfl
@[simp] theorem State.setPw_pst (i : Nat) (p : IslandPwr) : (s.setPw i p).pst = s.pst := rfl
@[simp] theorem State.setPw_elapsed (i : Nat) (p : IslandPwr) : (s.setPw i p).elapsed = s.elapsed := rfl
@[simp] theorem State.setPw_free (i : Nat) (p : IslandPwr) : (s.setPw i p).free = s.free := rfl
@[simp] theorem State.setPw_bus (i : Nat) (p : IslandPwr) : (s.setPw i p).bus = s.bus := rfl
@[simp] theorem State.setPw_miso (i : Nat) (p : IslandPwr) : (s.setPw i p).miso = s.miso := rfl
@[simp] theorem State.setPw_pending (i : Nat) (p : IslandPwr) : (s.setPw i p).pending = s.pending := rfl

/-! ### setSeq -/

@[simp] theorem State.setSeq_regs (src v : Nat) : (s.setSeq src v).regs = s.regs := rfl
@[simp] theorem State.setSeq_mode (src v : Nat) : (s.setSeq src v).mode = s.mode := rfl
@[simp] theorem State.setSeq_cmd (src v : Nat) : (s.setSeq src v).cmd = s.cmd := rfl
@[simp] theorem State.setSeq_pwr (src v : Nat) : (s.setSeq src v).pwr = s.pwr := rfl
@[simp] theorem State.setSeq_renew (src v : Nat) : (s.setSeq src v).renew = s.renew := rfl
@[simp] theorem State.setSeq_calRecs (src v : Nat) : (s.setSeq src v).calRecs = s.calRecs := rfl
@[simp] theorem State.setSeq_aon (src v : Nat) : (s.setSeq src v).aon = s.aon := rfl
@[simp] theorem State.setSeq_cdm (src v : Nat) : (s.setSeq src v).cdm = s.cdm := rfl
@[simp] theorem State.setSeq_flash (src v : Nat) : (s.setSeq src v).flash = s.flash := rfl
@[simp] theorem State.setSeq_time (src v : Nat) : (s.setSeq src v).time = s.time := rfl
@[simp] theorem State.setSeq_keys (src v : Nat) : (s.setSeq src v).keys = s.keys := rfl
@[simp] theorem State.setSeq_cip (src v : Nat) : (s.setSeq src v).cip = s.cip := rfl
@[simp] theorem State.setSeq_rad (src v : Nat) : (s.setSeq src v).rad = s.rad := rfl
@[simp] theorem State.setSeq_dec (src v : Nat) : (s.setSeq src v).dec = s.dec := rfl
@[simp] theorem State.setSeq_rxFifo (src v : Nat) : (s.setSeq src v).rxFifo = s.rxFifo := rfl
@[simp] theorem State.setSeq_hmac (src v : Nat) : (s.setSeq src v).hmac = s.hmac := rfl
@[simp] theorem State.setSeq_pkt (src v : Nat) : (s.setSeq src v).pkt = s.pkt := rfl
@[simp] theorem State.setSeq_sch (src v : Nat) : (s.setSeq src v).sch = s.sch := rfl
@[simp] theorem State.setSeq_tsk (src v : Nat) : (s.setSeq src v).tsk = s.tsk := rfl
@[simp] theorem State.setSeq_ports (src v : Nat) : (s.setSeq src v).ports = s.ports := rfl
@[simp] theorem State.setSeq_lanes (src v : Nat) : (s.setSeq src v).lanes = s.lanes := rfl
@[simp] theorem State.setSeq_dma (src v : Nat) : (s.setSeq src v).dma = s.dma := rfl
@[simp] theorem State.setSeq_perf (src v : Nat) : (s.setSeq src v).perf = s.perf := rfl
@[simp] theorem State.setSeq_coreClk (src v : Nat) : (s.setSeq src v).coreClk = s.coreClk := rfl
@[simp] theorem State.setSeq_dram (src v : Nat) : (s.setSeq src v).dram = s.dram := rfl
@[simp] theorem State.setSeq_pst (src v : Nat) : (s.setSeq src v).pst = s.pst := rfl
@[simp] theorem State.setSeq_elapsed (src v : Nat) : (s.setSeq src v).elapsed = s.elapsed := rfl
@[simp] theorem State.setSeq_free (src v : Nat) : (s.setSeq src v).free = s.free := rfl
@[simp] theorem State.setSeq_bus (src v : Nat) : (s.setSeq src v).bus = s.bus := rfl
@[simp] theorem State.setSeq_miso (src v : Nat) : (s.setSeq src v).miso = s.miso := rfl
@[simp] theorem State.setSeq_pending (src v : Nat) : (s.setSeq src v).pending = s.pending := rfl

/-! ### busOk -/

@[simp] theorem State.busOk_regs (w : Word) : (s.busOk w).regs = s.regs := rfl
@[simp] theorem State.busOk_mode (w : Word) : (s.busOk w).mode = s.mode := rfl
@[simp] theorem State.busOk_cmd (w : Word) : (s.busOk w).cmd = s.cmd := rfl
@[simp] theorem State.busOk_pwr (w : Word) : (s.busOk w).pwr = s.pwr := rfl
@[simp] theorem State.busOk_renew (w : Word) : (s.busOk w).renew = s.renew := rfl
@[simp] theorem State.busOk_calRecs (w : Word) : (s.busOk w).calRecs = s.calRecs := rfl
@[simp] theorem State.busOk_aon (w : Word) : (s.busOk w).aon = s.aon := rfl
@[simp] theorem State.busOk_log (w : Word) : (s.busOk w).log = s.log := rfl
@[simp] theorem State.busOk_cdm (w : Word) : (s.busOk w).cdm = s.cdm := rfl
@[simp] theorem State.busOk_flash (w : Word) : (s.busOk w).flash = s.flash := rfl
@[simp] theorem State.busOk_time (w : Word) : (s.busOk w).time = s.time := rfl
@[simp] theorem State.busOk_keys (w : Word) : (s.busOk w).keys = s.keys := rfl
@[simp] theorem State.busOk_cip (w : Word) : (s.busOk w).cip = s.cip := rfl
@[simp] theorem State.busOk_rad (w : Word) : (s.busOk w).rad = s.rad := rfl
@[simp] theorem State.busOk_dec (w : Word) : (s.busOk w).dec = s.dec := rfl
@[simp] theorem State.busOk_rxFifo (w : Word) : (s.busOk w).rxFifo = s.rxFifo := rfl
@[simp] theorem State.busOk_hmac (w : Word) : (s.busOk w).hmac = s.hmac := rfl
@[simp] theorem State.busOk_pkt (w : Word) : (s.busOk w).pkt = s.pkt := rfl
@[simp] theorem State.busOk_sch (w : Word) : (s.busOk w).sch = s.sch := rfl
@[simp] theorem State.busOk_tsk (w : Word) : (s.busOk w).tsk = s.tsk := rfl
@[simp] theorem State.busOk_ports (w : Word) : (s.busOk w).ports = s.ports := rfl
@[simp] theorem State.busOk_lanes (w : Word) : (s.busOk w).lanes = s.lanes := rfl
@[simp] theorem State.busOk_dma (w : Word) : (s.busOk w).dma = s.dma := rfl
@[simp] theorem State.busOk_perf (w : Word) : (s.busOk w).perf = s.perf := rfl
@[simp] theorem State.busOk_coreClk (w : Word) : (s.busOk w).coreClk = s.coreClk := rfl
@[simp] theorem State.busOk_dram (w : Word) : (s.busOk w).dram = s.dram := rfl
@[simp] theorem State.busOk_pst (w : Word) : (s.busOk w).pst = s.pst := rfl
@[simp] theorem State.busOk_elapsed (w : Word) : (s.busOk w).elapsed = s.elapsed := rfl
@[simp] theorem State.busOk_free (w : Word) : (s.busOk w).free = s.free := rfl
@[simp] theorem State.busOk_miso (w : Word) : (s.busOk w).miso = s.miso := rfl
@[simp] theorem State.busOk_pending (w : Word) : (s.busOk w).pending = s.pending := rfl

/-! ### busErr -/

@[simp] theorem State.busErr_regs : (s.busErr).regs = s.regs := rfl
@[simp] theorem State.busErr_mode : (s.busErr).mode = s.mode := rfl
@[simp] theorem State.busErr_cmd : (s.busErr).cmd = s.cmd := rfl
@[simp] theorem State.busErr_pwr : (s.busErr).pwr = s.pwr := rfl
@[simp] theorem State.busErr_renew : (s.busErr).renew = s.renew := rfl
@[simp] theorem State.busErr_calRecs : (s.busErr).calRecs = s.calRecs := rfl
@[simp] theorem State.busErr_aon : (s.busErr).aon = s.aon := rfl
@[simp] theorem State.busErr_log : (s.busErr).log = s.log := rfl
@[simp] theorem State.busErr_cdm : (s.busErr).cdm = s.cdm := rfl
@[simp] theorem State.busErr_flash : (s.busErr).flash = s.flash := rfl
@[simp] theorem State.busErr_time : (s.busErr).time = s.time := rfl
@[simp] theorem State.busErr_keys : (s.busErr).keys = s.keys := rfl
@[simp] theorem State.busErr_cip : (s.busErr).cip = s.cip := rfl
@[simp] theorem State.busErr_rad : (s.busErr).rad = s.rad := rfl
@[simp] theorem State.busErr_dec : (s.busErr).dec = s.dec := rfl
@[simp] theorem State.busErr_rxFifo : (s.busErr).rxFifo = s.rxFifo := rfl
@[simp] theorem State.busErr_hmac : (s.busErr).hmac = s.hmac := rfl
@[simp] theorem State.busErr_pkt : (s.busErr).pkt = s.pkt := rfl
@[simp] theorem State.busErr_sch : (s.busErr).sch = s.sch := rfl
@[simp] theorem State.busErr_tsk : (s.busErr).tsk = s.tsk := rfl
@[simp] theorem State.busErr_ports : (s.busErr).ports = s.ports := rfl
@[simp] theorem State.busErr_lanes : (s.busErr).lanes = s.lanes := rfl
@[simp] theorem State.busErr_dma : (s.busErr).dma = s.dma := rfl
@[simp] theorem State.busErr_perf : (s.busErr).perf = s.perf := rfl
@[simp] theorem State.busErr_coreClk : (s.busErr).coreClk = s.coreClk := rfl
@[simp] theorem State.busErr_dram : (s.busErr).dram = s.dram := rfl
@[simp] theorem State.busErr_pst : (s.busErr).pst = s.pst := rfl
@[simp] theorem State.busErr_elapsed : (s.busErr).elapsed = s.elapsed := rfl
@[simp] theorem State.busErr_free : (s.busErr).free = s.free := rfl
@[simp] theorem State.busErr_miso : (s.busErr).miso = s.miso := rfl
@[simp] theorem State.busErr_pending : (s.busErr).pending = s.pending := rfl

/-! ### setKey -/

@[simp] theorem State.setKey_regs (n : Nat) (k : KeySlot) : (s.setKey n k).regs = s.regs := rfl
@[simp] theorem State.setKey_mode (n : Nat) (k : KeySlot) : (s.setKey n k).mode = s.mode := rfl
@[simp] theorem State.setKey_cmd (n : Nat) (k : KeySlot) : (s.setKey n k).cmd = s.cmd := rfl
@[simp] theorem State.setKey_pwr (n : Nat) (k : KeySlot) : (s.setKey n k).pwr = s.pwr := rfl
@[simp] theorem State.setKey_renew (n : Nat) (k : KeySlot) : (s.setKey n k).renew = s.renew := rfl
@[simp] theorem State.setKey_calRecs (n : Nat) (k : KeySlot) : (s.setKey n k).calRecs = s.calRecs := rfl
@[simp] theorem State.setKey_aon (n : Nat) (k : KeySlot) : (s.setKey n k).aon = s.aon := rfl
@[simp] theorem State.setKey_log (n : Nat) (k : KeySlot) : (s.setKey n k).log = s.log := rfl
@[simp] theorem State.setKey_cdm (n : Nat) (k : KeySlot) : (s.setKey n k).cdm = s.cdm := rfl
@[simp] theorem State.setKey_flash (n : Nat) (k : KeySlot) : (s.setKey n k).flash = s.flash := rfl
@[simp] theorem State.setKey_time (n : Nat) (k : KeySlot) : (s.setKey n k).time = s.time := rfl
@[simp] theorem State.setKey_cip (n : Nat) (k : KeySlot) : (s.setKey n k).cip = s.cip := rfl
@[simp] theorem State.setKey_rad (n : Nat) (k : KeySlot) : (s.setKey n k).rad = s.rad := rfl
@[simp] theorem State.setKey_dec (n : Nat) (k : KeySlot) : (s.setKey n k).dec = s.dec := rfl
@[simp] theorem State.setKey_rxFifo (n : Nat) (k : KeySlot) : (s.setKey n k).rxFifo = s.rxFifo := rfl
@[simp] theorem State.setKey_hmac (n : Nat) (k : KeySlot) : (s.setKey n k).hmac = s.hmac := rfl
@[simp] theorem State.setKey_pkt (n : Nat) (k : KeySlot) : (s.setKey n k).pkt = s.pkt := rfl
@[simp] theorem State.setKey_sch (n : Nat) (k : KeySlot) : (s.setKey n k).sch = s.sch := rfl
@[simp] theorem State.setKey_tsk (n : Nat) (k : KeySlot) : (s.setKey n k).tsk = s.tsk := rfl
@[simp] theorem State.setKey_ports (n : Nat) (k : KeySlot) : (s.setKey n k).ports = s.ports := rfl
@[simp] theorem State.setKey_lanes (n : Nat) (k : KeySlot) : (s.setKey n k).lanes = s.lanes := rfl
@[simp] theorem State.setKey_dma (n : Nat) (k : KeySlot) : (s.setKey n k).dma = s.dma := rfl
@[simp] theorem State.setKey_perf (n : Nat) (k : KeySlot) : (s.setKey n k).perf = s.perf := rfl
@[simp] theorem State.setKey_coreClk (n : Nat) (k : KeySlot) : (s.setKey n k).coreClk = s.coreClk := rfl
@[simp] theorem State.setKey_dram (n : Nat) (k : KeySlot) : (s.setKey n k).dram = s.dram := rfl
@[simp] theorem State.setKey_pst (n : Nat) (k : KeySlot) : (s.setKey n k).pst = s.pst := rfl
@[simp] theorem State.setKey_elapsed (n : Nat) (k : KeySlot) : (s.setKey n k).elapsed = s.elapsed := rfl
@[simp] theorem State.setKey_free (n : Nat) (k : KeySlot) : (s.setKey n k).free = s.free := rfl
@[simp] theorem State.setKey_bus (n : Nat) (k : KeySlot) : (s.setKey n k).bus = s.bus := rfl
@[simp] theorem State.setKey_miso (n : Nat) (k : KeySlot) : (s.setKey n k).miso = s.miso := rfl
@[simp] theorem State.setKey_pending (n : Nat) (k : KeySlot) : (s.setKey n k).pending = s.pending := rfl

/-! ### setRd -/

@[simp] theorem State.setRd_regs (r : Nat) (x : RadState) : (s.setRd r x).regs = s.regs := rfl
@[simp] theorem State.setRd_mode (r : Nat) (x : RadState) : (s.setRd r x).mode = s.mode := rfl
@[simp] theorem State.setRd_cmd (r : Nat) (x : RadState) : (s.setRd r x).cmd = s.cmd := rfl
@[simp] theorem State.setRd_pwr (r : Nat) (x : RadState) : (s.setRd r x).pwr = s.pwr := rfl
@[simp] theorem State.setRd_renew (r : Nat) (x : RadState) : (s.setRd r x).renew = s.renew := rfl
@[simp] theorem State.setRd_calRecs (r : Nat) (x : RadState) : (s.setRd r x).calRecs = s.calRecs := rfl
@[simp] theorem State.setRd_aon (r : Nat) (x : RadState) : (s.setRd r x).aon = s.aon := rfl
@[simp] theorem State.setRd_log (r : Nat) (x : RadState) : (s.setRd r x).log = s.log := rfl
@[simp] theorem State.setRd_cdm (r : Nat) (x : RadState) : (s.setRd r x).cdm = s.cdm := rfl
@[simp] theorem State.setRd_flash (r : Nat) (x : RadState) : (s.setRd r x).flash = s.flash := rfl
@[simp] theorem State.setRd_time (r : Nat) (x : RadState) : (s.setRd r x).time = s.time := rfl
@[simp] theorem State.setRd_keys (r : Nat) (x : RadState) : (s.setRd r x).keys = s.keys := rfl
@[simp] theorem State.setRd_cip (r : Nat) (x : RadState) : (s.setRd r x).cip = s.cip := rfl
@[simp] theorem State.setRd_dec (r : Nat) (x : RadState) : (s.setRd r x).dec = s.dec := rfl
@[simp] theorem State.setRd_rxFifo (r : Nat) (x : RadState) : (s.setRd r x).rxFifo = s.rxFifo := rfl
@[simp] theorem State.setRd_hmac (r : Nat) (x : RadState) : (s.setRd r x).hmac = s.hmac := rfl
@[simp] theorem State.setRd_pkt (r : Nat) (x : RadState) : (s.setRd r x).pkt = s.pkt := rfl
@[simp] theorem State.setRd_sch (r : Nat) (x : RadState) : (s.setRd r x).sch = s.sch := rfl
@[simp] theorem State.setRd_tsk (r : Nat) (x : RadState) : (s.setRd r x).tsk = s.tsk := rfl
@[simp] theorem State.setRd_ports (r : Nat) (x : RadState) : (s.setRd r x).ports = s.ports := rfl
@[simp] theorem State.setRd_lanes (r : Nat) (x : RadState) : (s.setRd r x).lanes = s.lanes := rfl
@[simp] theorem State.setRd_dma (r : Nat) (x : RadState) : (s.setRd r x).dma = s.dma := rfl
@[simp] theorem State.setRd_perf (r : Nat) (x : RadState) : (s.setRd r x).perf = s.perf := rfl
@[simp] theorem State.setRd_coreClk (r : Nat) (x : RadState) : (s.setRd r x).coreClk = s.coreClk := rfl
@[simp] theorem State.setRd_dram (r : Nat) (x : RadState) : (s.setRd r x).dram = s.dram := rfl
@[simp] theorem State.setRd_pst (r : Nat) (x : RadState) : (s.setRd r x).pst = s.pst := rfl
@[simp] theorem State.setRd_elapsed (r : Nat) (x : RadState) : (s.setRd r x).elapsed = s.elapsed := rfl
@[simp] theorem State.setRd_free (r : Nat) (x : RadState) : (s.setRd r x).free = s.free := rfl
@[simp] theorem State.setRd_bus (r : Nat) (x : RadState) : (s.setRd r x).bus = s.bus := rfl
@[simp] theorem State.setRd_miso (r : Nat) (x : RadState) : (s.setRd r x).miso = s.miso := rfl
@[simp] theorem State.setRd_pending (r : Nat) (x : RadState) : (s.setRd r x).pending = s.pending := rfl

/-! ### setHol -/

@[simp] theorem State.setHol_regs (h : HolState) : (s.setHol h).regs = s.regs := rfl
@[simp] theorem State.setHol_mode (h : HolState) : (s.setHol h).mode = s.mode := rfl
@[simp] theorem State.setHol_cmd (h : HolState) : (s.setHol h).cmd = s.cmd := rfl
@[simp] theorem State.setHol_pwr (h : HolState) : (s.setHol h).pwr = s.pwr := rfl
@[simp] theorem State.setHol_renew (h : HolState) : (s.setHol h).renew = s.renew := rfl
@[simp] theorem State.setHol_calRecs (h : HolState) : (s.setHol h).calRecs = s.calRecs := rfl
@[simp] theorem State.setHol_aon (h : HolState) : (s.setHol h).aon = s.aon := rfl
@[simp] theorem State.setHol_log (h : HolState) : (s.setHol h).log = s.log := rfl
@[simp] theorem State.setHol_cdm (h : HolState) : (s.setHol h).cdm = s.cdm := rfl
@[simp] theorem State.setHol_flash (h : HolState) : (s.setHol h).flash = s.flash := rfl
@[simp] theorem State.setHol_time (h : HolState) : (s.setHol h).time = s.time := rfl
@[simp] theorem State.setHol_keys (h : HolState) : (s.setHol h).keys = s.keys := rfl
@[simp] theorem State.setHol_cip (h : HolState) : (s.setHol h).cip = s.cip := rfl
@[simp] theorem State.setHol_rad (h : HolState) : (s.setHol h).rad = s.rad := rfl
@[simp] theorem State.setHol_dec (h : HolState) : (s.setHol h).dec = s.dec := rfl
@[simp] theorem State.setHol_rxFifo (h : HolState) : (s.setHol h).rxFifo = s.rxFifo := rfl
@[simp] theorem State.setHol_pkt (h : HolState) : (s.setHol h).pkt = s.pkt := rfl
@[simp] theorem State.setHol_sch (h : HolState) : (s.setHol h).sch = s.sch := rfl
@[simp] theorem State.setHol_tsk (h : HolState) : (s.setHol h).tsk = s.tsk := rfl
@[simp] theorem State.setHol_ports (h : HolState) : (s.setHol h).ports = s.ports := rfl
@[simp] theorem State.setHol_lanes (h : HolState) : (s.setHol h).lanes = s.lanes := rfl
@[simp] theorem State.setHol_dma (h : HolState) : (s.setHol h).dma = s.dma := rfl
@[simp] theorem State.setHol_perf (h : HolState) : (s.setHol h).perf = s.perf := rfl
@[simp] theorem State.setHol_coreClk (h : HolState) : (s.setHol h).coreClk = s.coreClk := rfl
@[simp] theorem State.setHol_dram (h : HolState) : (s.setHol h).dram = s.dram := rfl
@[simp] theorem State.setHol_pst (h : HolState) : (s.setHol h).pst = s.pst := rfl
@[simp] theorem State.setHol_elapsed (h : HolState) : (s.setHol h).elapsed = s.elapsed := rfl
@[simp] theorem State.setHol_free (h : HolState) : (s.setHol h).free = s.free := rfl
@[simp] theorem State.setHol_bus (h : HolState) : (s.setHol h).bus = s.bus := rfl
@[simp] theorem State.setHol_miso (h : HolState) : (s.setHol h).miso = s.miso := rfl
@[simp] theorem State.setHol_pending (h : HolState) : (s.setHol h).pending = s.pending := rfl

/-! ### setLog -/

@[simp] theorem State.setLog_regs (l : LogState) : (s.setLog l).regs = s.regs := rfl
@[simp] theorem State.setLog_mode (l : LogState) : (s.setLog l).mode = s.mode := rfl
@[simp] theorem State.setLog_cmd (l : LogState) : (s.setLog l).cmd = s.cmd := rfl
@[simp] theorem State.setLog_pwr (l : LogState) : (s.setLog l).pwr = s.pwr := rfl
@[simp] theorem State.setLog_renew (l : LogState) : (s.setLog l).renew = s.renew := rfl
@[simp] theorem State.setLog_calRecs (l : LogState) : (s.setLog l).calRecs = s.calRecs := rfl
@[simp] theorem State.setLog_aon (l : LogState) : (s.setLog l).aon = s.aon := rfl
@[simp] theorem State.setLog_cdm (l : LogState) : (s.setLog l).cdm = s.cdm := rfl
@[simp] theorem State.setLog_flash (l : LogState) : (s.setLog l).flash = s.flash := rfl
@[simp] theorem State.setLog_time (l : LogState) : (s.setLog l).time = s.time := rfl
@[simp] theorem State.setLog_keys (l : LogState) : (s.setLog l).keys = s.keys := rfl
@[simp] theorem State.setLog_cip (l : LogState) : (s.setLog l).cip = s.cip := rfl
@[simp] theorem State.setLog_rad (l : LogState) : (s.setLog l).rad = s.rad := rfl
@[simp] theorem State.setLog_dec (l : LogState) : (s.setLog l).dec = s.dec := rfl
@[simp] theorem State.setLog_rxFifo (l : LogState) : (s.setLog l).rxFifo = s.rxFifo := rfl
@[simp] theorem State.setLog_hmac (l : LogState) : (s.setLog l).hmac = s.hmac := rfl
@[simp] theorem State.setLog_pkt (l : LogState) : (s.setLog l).pkt = s.pkt := rfl
@[simp] theorem State.setLog_sch (l : LogState) : (s.setLog l).sch = s.sch := rfl
@[simp] theorem State.setLog_tsk (l : LogState) : (s.setLog l).tsk = s.tsk := rfl
@[simp] theorem State.setLog_ports (l : LogState) : (s.setLog l).ports = s.ports := rfl
@[simp] theorem State.setLog_lanes (l : LogState) : (s.setLog l).lanes = s.lanes := rfl
@[simp] theorem State.setLog_dma (l : LogState) : (s.setLog l).dma = s.dma := rfl
@[simp] theorem State.setLog_perf (l : LogState) : (s.setLog l).perf = s.perf := rfl
@[simp] theorem State.setLog_coreClk (l : LogState) : (s.setLog l).coreClk = s.coreClk := rfl
@[simp] theorem State.setLog_dram (l : LogState) : (s.setLog l).dram = s.dram := rfl
@[simp] theorem State.setLog_pst (l : LogState) : (s.setLog l).pst = s.pst := rfl
@[simp] theorem State.setLog_elapsed (l : LogState) : (s.setLog l).elapsed = s.elapsed := rfl
@[simp] theorem State.setLog_free (l : LogState) : (s.setLog l).free = s.free := rfl
@[simp] theorem State.setLog_bus (l : LogState) : (s.setLog l).bus = s.bus := rfl
@[simp] theorem State.setLog_miso (l : LogState) : (s.setLog l).miso = s.miso := rfl
@[simp] theorem State.setLog_pending (l : LogState) : (s.setLog l).pending = s.pending := rfl

/-! ### setPort -/

@[simp] theorem State.setPort_regs (p : Nat) (x : PortState) : (s.setPort p x).regs = s.regs := rfl
@[simp] theorem State.setPort_mode (p : Nat) (x : PortState) : (s.setPort p x).mode = s.mode := rfl
@[simp] theorem State.setPort_cmd (p : Nat) (x : PortState) : (s.setPort p x).cmd = s.cmd := rfl
@[simp] theorem State.setPort_pwr (p : Nat) (x : PortState) : (s.setPort p x).pwr = s.pwr := rfl
@[simp] theorem State.setPort_renew (p : Nat) (x : PortState) : (s.setPort p x).renew = s.renew := rfl
@[simp] theorem State.setPort_calRecs (p : Nat) (x : PortState) : (s.setPort p x).calRecs = s.calRecs := rfl
@[simp] theorem State.setPort_aon (p : Nat) (x : PortState) : (s.setPort p x).aon = s.aon := rfl
@[simp] theorem State.setPort_log (p : Nat) (x : PortState) : (s.setPort p x).log = s.log := rfl
@[simp] theorem State.setPort_cdm (p : Nat) (x : PortState) : (s.setPort p x).cdm = s.cdm := rfl
@[simp] theorem State.setPort_flash (p : Nat) (x : PortState) : (s.setPort p x).flash = s.flash := rfl
@[simp] theorem State.setPort_time (p : Nat) (x : PortState) : (s.setPort p x).time = s.time := rfl
@[simp] theorem State.setPort_keys (p : Nat) (x : PortState) : (s.setPort p x).keys = s.keys := rfl
@[simp] theorem State.setPort_cip (p : Nat) (x : PortState) : (s.setPort p x).cip = s.cip := rfl
@[simp] theorem State.setPort_rad (p : Nat) (x : PortState) : (s.setPort p x).rad = s.rad := rfl
@[simp] theorem State.setPort_dec (p : Nat) (x : PortState) : (s.setPort p x).dec = s.dec := rfl
@[simp] theorem State.setPort_rxFifo (p : Nat) (x : PortState) : (s.setPort p x).rxFifo = s.rxFifo := rfl
@[simp] theorem State.setPort_hmac (p : Nat) (x : PortState) : (s.setPort p x).hmac = s.hmac := rfl
@[simp] theorem State.setPort_pkt (p : Nat) (x : PortState) : (s.setPort p x).pkt = s.pkt := rfl
@[simp] theorem State.setPort_sch (p : Nat) (x : PortState) : (s.setPort p x).sch = s.sch := rfl
@[simp] theorem State.setPort_tsk (p : Nat) (x : PortState) : (s.setPort p x).tsk = s.tsk := rfl
@[simp] theorem State.setPort_lanes (p : Nat) (x : PortState) : (s.setPort p x).lanes = s.lanes := rfl
@[simp] theorem State.setPort_dma (p : Nat) (x : PortState) : (s.setPort p x).dma = s.dma := rfl
@[simp] theorem State.setPort_perf (p : Nat) (x : PortState) : (s.setPort p x).perf = s.perf := rfl
@[simp] theorem State.setPort_coreClk (p : Nat) (x : PortState) : (s.setPort p x).coreClk = s.coreClk := rfl
@[simp] theorem State.setPort_dram (p : Nat) (x : PortState) : (s.setPort p x).dram = s.dram := rfl
@[simp] theorem State.setPort_pst (p : Nat) (x : PortState) : (s.setPort p x).pst = s.pst := rfl
@[simp] theorem State.setPort_elapsed (p : Nat) (x : PortState) : (s.setPort p x).elapsed = s.elapsed := rfl
@[simp] theorem State.setPort_free (p : Nat) (x : PortState) : (s.setPort p x).free = s.free := rfl
@[simp] theorem State.setPort_bus (p : Nat) (x : PortState) : (s.setPort p x).bus = s.bus := rfl
@[simp] theorem State.setPort_miso (p : Nat) (x : PortState) : (s.setPort p x).miso = s.miso := rfl
@[simp] theorem State.setPort_pending (p : Nat) (x : PortState) : (s.setPort p x).pending = s.pending := rfl

/-! ### setRen -/

@[simp] theorem State.setRen_regs (i : Nat) (r : Option Renewal) : (s.setRen i r).regs = s.regs := rfl
@[simp] theorem State.setRen_mode (i : Nat) (r : Option Renewal) : (s.setRen i r).mode = s.mode := rfl
@[simp] theorem State.setRen_cmd (i : Nat) (r : Option Renewal) : (s.setRen i r).cmd = s.cmd := rfl
@[simp] theorem State.setRen_pwr (i : Nat) (r : Option Renewal) : (s.setRen i r).pwr = s.pwr := rfl
@[simp] theorem State.setRen_calRecs (i : Nat) (r : Option Renewal) : (s.setRen i r).calRecs = s.calRecs := rfl
@[simp] theorem State.setRen_aon (i : Nat) (r : Option Renewal) : (s.setRen i r).aon = s.aon := rfl
@[simp] theorem State.setRen_log (i : Nat) (r : Option Renewal) : (s.setRen i r).log = s.log := rfl
@[simp] theorem State.setRen_cdm (i : Nat) (r : Option Renewal) : (s.setRen i r).cdm = s.cdm := rfl
@[simp] theorem State.setRen_flash (i : Nat) (r : Option Renewal) : (s.setRen i r).flash = s.flash := rfl
@[simp] theorem State.setRen_time (i : Nat) (r : Option Renewal) : (s.setRen i r).time = s.time := rfl
@[simp] theorem State.setRen_keys (i : Nat) (r : Option Renewal) : (s.setRen i r).keys = s.keys := rfl
@[simp] theorem State.setRen_cip (i : Nat) (r : Option Renewal) : (s.setRen i r).cip = s.cip := rfl
@[simp] theorem State.setRen_rad (i : Nat) (r : Option Renewal) : (s.setRen i r).rad = s.rad := rfl
@[simp] theorem State.setRen_dec (i : Nat) (r : Option Renewal) : (s.setRen i r).dec = s.dec := rfl
@[simp] theorem State.setRen_rxFifo (i : Nat) (r : Option Renewal) : (s.setRen i r).rxFifo = s.rxFifo := rfl
@[simp] theorem State.setRen_hmac (i : Nat) (r : Option Renewal) : (s.setRen i r).hmac = s.hmac := rfl
@[simp] theorem State.setRen_pkt (i : Nat) (r : Option Renewal) : (s.setRen i r).pkt = s.pkt := rfl
@[simp] theorem State.setRen_sch (i : Nat) (r : Option Renewal) : (s.setRen i r).sch = s.sch := rfl
@[simp] theorem State.setRen_tsk (i : Nat) (r : Option Renewal) : (s.setRen i r).tsk = s.tsk := rfl
@[simp] theorem State.setRen_ports (i : Nat) (r : Option Renewal) : (s.setRen i r).ports = s.ports := rfl
@[simp] theorem State.setRen_lanes (i : Nat) (r : Option Renewal) : (s.setRen i r).lanes = s.lanes := rfl
@[simp] theorem State.setRen_dma (i : Nat) (r : Option Renewal) : (s.setRen i r).dma = s.dma := rfl
@[simp] theorem State.setRen_perf (i : Nat) (r : Option Renewal) : (s.setRen i r).perf = s.perf := rfl
@[simp] theorem State.setRen_coreClk (i : Nat) (r : Option Renewal) : (s.setRen i r).coreClk = s.coreClk := rfl
@[simp] theorem State.setRen_dram (i : Nat) (r : Option Renewal) : (s.setRen i r).dram = s.dram := rfl
@[simp] theorem State.setRen_pst (i : Nat) (r : Option Renewal) : (s.setRen i r).pst = s.pst := rfl
@[simp] theorem State.setRen_elapsed (i : Nat) (r : Option Renewal) : (s.setRen i r).elapsed = s.elapsed := rfl
@[simp] theorem State.setRen_free (i : Nat) (r : Option Renewal) : (s.setRen i r).free = s.free := rfl
@[simp] theorem State.setRen_bus (i : Nat) (r : Option Renewal) : (s.setRen i r).bus = s.bus := rfl
@[simp] theorem State.setRen_miso (i : Nat) (r : Option Renewal) : (s.setRen i r).miso = s.miso := rfl
@[simp] theorem State.setRen_pending (i : Nat) (r : Option Renewal) : (s.setRen i r).pending = s.pending := rfl

/-! ### setSch -/

@[simp] theorem State.setSch_regs (x : SchState) : (s.setSch x).regs = s.regs := rfl
@[simp] theorem State.setSch_mode (x : SchState) : (s.setSch x).mode = s.mode := rfl
@[simp] theorem State.setSch_cmd (x : SchState) : (s.setSch x).cmd = s.cmd := rfl
@[simp] theorem State.setSch_pwr (x : SchState) : (s.setSch x).pwr = s.pwr := rfl
@[simp] theorem State.setSch_renew (x : SchState) : (s.setSch x).renew = s.renew := rfl
@[simp] theorem State.setSch_calRecs (x : SchState) : (s.setSch x).calRecs = s.calRecs := rfl
@[simp] theorem State.setSch_aon (x : SchState) : (s.setSch x).aon = s.aon := rfl
@[simp] theorem State.setSch_log (x : SchState) : (s.setSch x).log = s.log := rfl
@[simp] theorem State.setSch_cdm (x : SchState) : (s.setSch x).cdm = s.cdm := rfl
@[simp] theorem State.setSch_flash (x : SchState) : (s.setSch x).flash = s.flash := rfl
@[simp] theorem State.setSch_time (x : SchState) : (s.setSch x).time = s.time := rfl
@[simp] theorem State.setSch_keys (x : SchState) : (s.setSch x).keys = s.keys := rfl
@[simp] theorem State.setSch_cip (x : SchState) : (s.setSch x).cip = s.cip := rfl
@[simp] theorem State.setSch_rad (x : SchState) : (s.setSch x).rad = s.rad := rfl
@[simp] theorem State.setSch_dec (x : SchState) : (s.setSch x).dec = s.dec := rfl
@[simp] theorem State.setSch_rxFifo (x : SchState) : (s.setSch x).rxFifo = s.rxFifo := rfl
@[simp] theorem State.setSch_hmac (x : SchState) : (s.setSch x).hmac = s.hmac := rfl
@[simp] theorem State.setSch_pkt (x : SchState) : (s.setSch x).pkt = s.pkt := rfl
@[simp] theorem State.setSch_tsk (x : SchState) : (s.setSch x).tsk = s.tsk := rfl
@[simp] theorem State.setSch_ports (x : SchState) : (s.setSch x).ports = s.ports := rfl
@[simp] theorem State.setSch_lanes (x : SchState) : (s.setSch x).lanes = s.lanes := rfl
@[simp] theorem State.setSch_dma (x : SchState) : (s.setSch x).dma = s.dma := rfl
@[simp] theorem State.setSch_perf (x : SchState) : (s.setSch x).perf = s.perf := rfl
@[simp] theorem State.setSch_coreClk (x : SchState) : (s.setSch x).coreClk = s.coreClk := rfl
@[simp] theorem State.setSch_dram (x : SchState) : (s.setSch x).dram = s.dram := rfl
@[simp] theorem State.setSch_pst (x : SchState) : (s.setSch x).pst = s.pst := rfl
@[simp] theorem State.setSch_elapsed (x : SchState) : (s.setSch x).elapsed = s.elapsed := rfl
@[simp] theorem State.setSch_free (x : SchState) : (s.setSch x).free = s.free := rfl
@[simp] theorem State.setSch_bus (x : SchState) : (s.setSch x).bus = s.bus := rfl
@[simp] theorem State.setSch_miso (x : SchState) : (s.setSch x).miso = s.miso := rfl
@[simp] theorem State.setSch_pending (x : SchState) : (s.setSch x).pending = s.pending := rfl

/-! ### setTsk -/

@[simp] theorem State.setTsk_regs (x : TskState) : (s.setTsk x).regs = s.regs := rfl
@[simp] theorem State.setTsk_mode (x : TskState) : (s.setTsk x).mode = s.mode := rfl
@[simp] theorem State.setTsk_cmd (x : TskState) : (s.setTsk x).cmd = s.cmd := rfl
@[simp] theorem State.setTsk_pwr (x : TskState) : (s.setTsk x).pwr = s.pwr := rfl
@[simp] theorem State.setTsk_renew (x : TskState) : (s.setTsk x).renew = s.renew := rfl
@[simp] theorem State.setTsk_calRecs (x : TskState) : (s.setTsk x).calRecs = s.calRecs := rfl
@[simp] theorem State.setTsk_aon (x : TskState) : (s.setTsk x).aon = s.aon := rfl
@[simp] theorem State.setTsk_log (x : TskState) : (s.setTsk x).log = s.log := rfl
@[simp] theorem State.setTsk_cdm (x : TskState) : (s.setTsk x).cdm = s.cdm := rfl
@[simp] theorem State.setTsk_flash (x : TskState) : (s.setTsk x).flash = s.flash := rfl
@[simp] theorem State.setTsk_time (x : TskState) : (s.setTsk x).time = s.time := rfl
@[simp] theorem State.setTsk_keys (x : TskState) : (s.setTsk x).keys = s.keys := rfl
@[simp] theorem State.setTsk_cip (x : TskState) : (s.setTsk x).cip = s.cip := rfl
@[simp] theorem State.setTsk_rad (x : TskState) : (s.setTsk x).rad = s.rad := rfl
@[simp] theorem State.setTsk_dec (x : TskState) : (s.setTsk x).dec = s.dec := rfl
@[simp] theorem State.setTsk_rxFifo (x : TskState) : (s.setTsk x).rxFifo = s.rxFifo := rfl
@[simp] theorem State.setTsk_hmac (x : TskState) : (s.setTsk x).hmac = s.hmac := rfl
@[simp] theorem State.setTsk_pkt (x : TskState) : (s.setTsk x).pkt = s.pkt := rfl
@[simp] theorem State.setTsk_sch (x : TskState) : (s.setTsk x).sch = s.sch := rfl
@[simp] theorem State.setTsk_ports (x : TskState) : (s.setTsk x).ports = s.ports := rfl
@[simp] theorem State.setTsk_lanes (x : TskState) : (s.setTsk x).lanes = s.lanes := rfl
@[simp] theorem State.setTsk_dma (x : TskState) : (s.setTsk x).dma = s.dma := rfl
@[simp] theorem State.setTsk_perf (x : TskState) : (s.setTsk x).perf = s.perf := rfl
@[simp] theorem State.setTsk_coreClk (x : TskState) : (s.setTsk x).coreClk = s.coreClk := rfl
@[simp] theorem State.setTsk_dram (x : TskState) : (s.setTsk x).dram = s.dram := rfl
@[simp] theorem State.setTsk_pst (x : TskState) : (s.setTsk x).pst = s.pst := rfl
@[simp] theorem State.setTsk_elapsed (x : TskState) : (s.setTsk x).elapsed = s.elapsed := rfl
@[simp] theorem State.setTsk_free (x : TskState) : (s.setTsk x).free = s.free := rfl
@[simp] theorem State.setTsk_bus (x : TskState) : (s.setTsk x).bus = s.bus := rfl
@[simp] theorem State.setTsk_miso (x : TskState) : (s.setTsk x).miso = s.miso := rfl
@[simp] theorem State.setTsk_pending (x : TskState) : (s.setTsk x).pending = s.pending := rfl

/-! ### setPkt -/

@[simp] theorem State.setPkt_regs (x : PktState) : (s.setPkt x).regs = s.regs := rfl
@[simp] theorem State.setPkt_mode (x : PktState) : (s.setPkt x).mode = s.mode := rfl
@[simp] theorem State.setPkt_cmd (x : PktState) : (s.setPkt x).cmd = s.cmd := rfl
@[simp] theorem State.setPkt_pwr (x : PktState) : (s.setPkt x).pwr = s.pwr := rfl
@[simp] theorem State.setPkt_renew (x : PktState) : (s.setPkt x).renew = s.renew := rfl
@[simp] theorem State.setPkt_calRecs (x : PktState) : (s.setPkt x).calRecs = s.calRecs := rfl
@[simp] theorem State.setPkt_aon (x : PktState) : (s.setPkt x).aon = s.aon := rfl
@[simp] theorem State.setPkt_log (x : PktState) : (s.setPkt x).log = s.log := rfl
@[simp] theorem State.setPkt_cdm (x : PktState) : (s.setPkt x).cdm = s.cdm := rfl
@[simp] theorem State.setPkt_flash (x : PktState) : (s.setPkt x).flash = s.flash := rfl
@[simp] theorem State.setPkt_time (x : PktState) : (s.setPkt x).time = s.time := rfl
@[simp] theorem State.setPkt_keys (x : PktState) : (s.setPkt x).keys = s.keys := rfl
@[simp] theorem State.setPkt_cip (x : PktState) : (s.setPkt x).cip = s.cip := rfl
@[simp] theorem State.setPkt_rad (x : PktState) : (s.setPkt x).rad = s.rad := rfl
@[simp] theorem State.setPkt_dec (x : PktState) : (s.setPkt x).dec = s.dec := rfl
@[simp] theorem State.setPkt_rxFifo (x : PktState) : (s.setPkt x).rxFifo = s.rxFifo := rfl
@[simp] theorem State.setPkt_hmac (x : PktState) : (s.setPkt x).hmac = s.hmac := rfl
@[simp] theorem State.setPkt_sch (x : PktState) : (s.setPkt x).sch = s.sch := rfl
@[simp] theorem State.setPkt_tsk (x : PktState) : (s.setPkt x).tsk = s.tsk := rfl
@[simp] theorem State.setPkt_ports (x : PktState) : (s.setPkt x).ports = s.ports := rfl
@[simp] theorem State.setPkt_lanes (x : PktState) : (s.setPkt x).lanes = s.lanes := rfl
@[simp] theorem State.setPkt_dma (x : PktState) : (s.setPkt x).dma = s.dma := rfl
@[simp] theorem State.setPkt_perf (x : PktState) : (s.setPkt x).perf = s.perf := rfl
@[simp] theorem State.setPkt_coreClk (x : PktState) : (s.setPkt x).coreClk = s.coreClk := rfl
@[simp] theorem State.setPkt_dram (x : PktState) : (s.setPkt x).dram = s.dram := rfl
@[simp] theorem State.setPkt_pst (x : PktState) : (s.setPkt x).pst = s.pst := rfl
@[simp] theorem State.setPkt_elapsed (x : PktState) : (s.setPkt x).elapsed = s.elapsed := rfl
@[simp] theorem State.setPkt_free (x : PktState) : (s.setPkt x).free = s.free := rfl
@[simp] theorem State.setPkt_bus (x : PktState) : (s.setPkt x).bus = s.bus := rfl
@[simp] theorem State.setPkt_miso (x : PktState) : (s.setPkt x).miso = s.miso := rfl
@[simp] theorem State.setPkt_pending (x : PktState) : (s.setPkt x).pending = s.pending := rfl

/-! ### setDmaCh -/

@[simp] theorem State.setDmaCh_regs (c : Nat) (x : DmaChan) : (s.setDmaCh c x).regs = s.regs := rfl
@[simp] theorem State.setDmaCh_mode (c : Nat) (x : DmaChan) : (s.setDmaCh c x).mode = s.mode := rfl
@[simp] theorem State.setDmaCh_cmd (c : Nat) (x : DmaChan) : (s.setDmaCh c x).cmd = s.cmd := rfl
@[simp] theorem State.setDmaCh_pwr (c : Nat) (x : DmaChan) : (s.setDmaCh c x).pwr = s.pwr := rfl
@[simp] theorem State.setDmaCh_renew (c : Nat) (x : DmaChan) : (s.setDmaCh c x).renew = s.renew := rfl
@[simp] theorem State.setDmaCh_calRecs (c : Nat) (x : DmaChan) : (s.setDmaCh c x).calRecs = s.calRecs := rfl
@[simp] theorem State.setDmaCh_aon (c : Nat) (x : DmaChan) : (s.setDmaCh c x).aon = s.aon := rfl
@[simp] theorem State.setDmaCh_log (c : Nat) (x : DmaChan) : (s.setDmaCh c x).log = s.log := rfl
@[simp] theorem State.setDmaCh_cdm (c : Nat) (x : DmaChan) : (s.setDmaCh c x).cdm = s.cdm := rfl
@[simp] theorem State.setDmaCh_flash (c : Nat) (x : DmaChan) : (s.setDmaCh c x).flash = s.flash := rfl
@[simp] theorem State.setDmaCh_time (c : Nat) (x : DmaChan) : (s.setDmaCh c x).time = s.time := rfl
@[simp] theorem State.setDmaCh_keys (c : Nat) (x : DmaChan) : (s.setDmaCh c x).keys = s.keys := rfl
@[simp] theorem State.setDmaCh_cip (c : Nat) (x : DmaChan) : (s.setDmaCh c x).cip = s.cip := rfl
@[simp] theorem State.setDmaCh_rad (c : Nat) (x : DmaChan) : (s.setDmaCh c x).rad = s.rad := rfl
@[simp] theorem State.setDmaCh_dec (c : Nat) (x : DmaChan) : (s.setDmaCh c x).dec = s.dec := rfl
@[simp] theorem State.setDmaCh_rxFifo (c : Nat) (x : DmaChan) : (s.setDmaCh c x).rxFifo = s.rxFifo := rfl
@[simp] theorem State.setDmaCh_hmac (c : Nat) (x : DmaChan) : (s.setDmaCh c x).hmac = s.hmac := rfl
@[simp] theorem State.setDmaCh_pkt (c : Nat) (x : DmaChan) : (s.setDmaCh c x).pkt = s.pkt := rfl
@[simp] theorem State.setDmaCh_sch (c : Nat) (x : DmaChan) : (s.setDmaCh c x).sch = s.sch := rfl
@[simp] theorem State.setDmaCh_tsk (c : Nat) (x : DmaChan) : (s.setDmaCh c x).tsk = s.tsk := rfl
@[simp] theorem State.setDmaCh_ports (c : Nat) (x : DmaChan) : (s.setDmaCh c x).ports = s.ports := rfl
@[simp] theorem State.setDmaCh_lanes (c : Nat) (x : DmaChan) : (s.setDmaCh c x).lanes = s.lanes := rfl
@[simp] theorem State.setDmaCh_perf (c : Nat) (x : DmaChan) : (s.setDmaCh c x).perf = s.perf := rfl
@[simp] theorem State.setDmaCh_coreClk (c : Nat) (x : DmaChan) : (s.setDmaCh c x).coreClk = s.coreClk := rfl
@[simp] theorem State.setDmaCh_dram (c : Nat) (x : DmaChan) : (s.setDmaCh c x).dram = s.dram := rfl
@[simp] theorem State.setDmaCh_pst (c : Nat) (x : DmaChan) : (s.setDmaCh c x).pst = s.pst := rfl
@[simp] theorem State.setDmaCh_elapsed (c : Nat) (x : DmaChan) : (s.setDmaCh c x).elapsed = s.elapsed := rfl
@[simp] theorem State.setDmaCh_free (c : Nat) (x : DmaChan) : (s.setDmaCh c x).free = s.free := rfl
@[simp] theorem State.setDmaCh_bus (c : Nat) (x : DmaChan) : (s.setDmaCh c x).bus = s.bus := rfl
@[simp] theorem State.setDmaCh_miso (c : Nat) (x : DmaChan) : (s.setDmaCh c x).miso = s.miso := rfl
@[simp] theorem State.setDmaCh_pending (c : Nat) (x : DmaChan) : (s.setDmaCh c x).pending = s.pending := rfl

/-! ### setWr -/

@[simp] theorem State.setWr_regs (r : Nat) (x : WlanRadio) : (s.setWr r x).regs = s.regs := rfl
@[simp] theorem State.setWr_mode (r : Nat) (x : WlanRadio) : (s.setWr r x).mode = s.mode := rfl
@[simp] theorem State.setWr_cmd (r : Nat) (x : WlanRadio) : (s.setWr r x).cmd = s.cmd := rfl
@[simp] theorem State.setWr_pwr (r : Nat) (x : WlanRadio) : (s.setWr r x).pwr = s.pwr := rfl
@[simp] theorem State.setWr_renew (r : Nat) (x : WlanRadio) : (s.setWr r x).renew = s.renew := rfl
@[simp] theorem State.setWr_calRecs (r : Nat) (x : WlanRadio) : (s.setWr r x).calRecs = s.calRecs := rfl
@[simp] theorem State.setWr_aon (r : Nat) (x : WlanRadio) : (s.setWr r x).aon = s.aon := rfl
@[simp] theorem State.setWr_log (r : Nat) (x : WlanRadio) : (s.setWr r x).log = s.log := rfl
@[simp] theorem State.setWr_cdm (r : Nat) (x : WlanRadio) : (s.setWr r x).cdm = s.cdm := rfl
@[simp] theorem State.setWr_flash (r : Nat) (x : WlanRadio) : (s.setWr r x).flash = s.flash := rfl
@[simp] theorem State.setWr_time (r : Nat) (x : WlanRadio) : (s.setWr r x).time = s.time := rfl
@[simp] theorem State.setWr_keys (r : Nat) (x : WlanRadio) : (s.setWr r x).keys = s.keys := rfl
@[simp] theorem State.setWr_cip (r : Nat) (x : WlanRadio) : (s.setWr r x).cip = s.cip := rfl
@[simp] theorem State.setWr_rad (r : Nat) (x : WlanRadio) : (s.setWr r x).rad = s.rad := rfl
@[simp] theorem State.setWr_dec (r : Nat) (x : WlanRadio) : (s.setWr r x).dec = s.dec := rfl
@[simp] theorem State.setWr_rxFifo (r : Nat) (x : WlanRadio) : (s.setWr r x).rxFifo = s.rxFifo := rfl
@[simp] theorem State.setWr_pkt (r : Nat) (x : WlanRadio) : (s.setWr r x).pkt = s.pkt := rfl
@[simp] theorem State.setWr_sch (r : Nat) (x : WlanRadio) : (s.setWr r x).sch = s.sch := rfl
@[simp] theorem State.setWr_tsk (r : Nat) (x : WlanRadio) : (s.setWr r x).tsk = s.tsk := rfl
@[simp] theorem State.setWr_ports (r : Nat) (x : WlanRadio) : (s.setWr r x).ports = s.ports := rfl
@[simp] theorem State.setWr_lanes (r : Nat) (x : WlanRadio) : (s.setWr r x).lanes = s.lanes := rfl
@[simp] theorem State.setWr_dma (r : Nat) (x : WlanRadio) : (s.setWr r x).dma = s.dma := rfl
@[simp] theorem State.setWr_perf (r : Nat) (x : WlanRadio) : (s.setWr r x).perf = s.perf := rfl
@[simp] theorem State.setWr_coreClk (r : Nat) (x : WlanRadio) : (s.setWr r x).coreClk = s.coreClk := rfl
@[simp] theorem State.setWr_dram (r : Nat) (x : WlanRadio) : (s.setWr r x).dram = s.dram := rfl
@[simp] theorem State.setWr_pst (r : Nat) (x : WlanRadio) : (s.setWr r x).pst = s.pst := rfl
@[simp] theorem State.setWr_elapsed (r : Nat) (x : WlanRadio) : (s.setWr r x).elapsed = s.elapsed := rfl
@[simp] theorem State.setWr_free (r : Nat) (x : WlanRadio) : (s.setWr r x).free = s.free := rfl
@[simp] theorem State.setWr_bus (r : Nat) (x : WlanRadio) : (s.setWr r x).bus = s.bus := rfl
@[simp] theorem State.setWr_miso (r : Nat) (x : WlanRadio) : (s.setWr r x).miso = s.miso := rfl
@[simp] theorem State.setWr_pending (r : Nat) (x : WlanRadio) : (s.setWr r x).pending = s.pending := rfl

/-! ### spoil -/

@[simp] theorem State.spoil_regs (a n : Nat) : (s.spoil a n).regs = s.regs := rfl
@[simp] theorem State.spoil_mode (a n : Nat) : (s.spoil a n).mode = s.mode := rfl
@[simp] theorem State.spoil_cmd (a n : Nat) : (s.spoil a n).cmd = s.cmd := rfl
@[simp] theorem State.spoil_pwr (a n : Nat) : (s.spoil a n).pwr = s.pwr := rfl
@[simp] theorem State.spoil_renew (a n : Nat) : (s.spoil a n).renew = s.renew := rfl
@[simp] theorem State.spoil_calRecs (a n : Nat) : (s.spoil a n).calRecs = s.calRecs := rfl
@[simp] theorem State.spoil_aon (a n : Nat) : (s.spoil a n).aon = s.aon := rfl
@[simp] theorem State.spoil_log (a n : Nat) : (s.spoil a n).log = s.log := rfl
@[simp] theorem State.spoil_cdm (a n : Nat) : (s.spoil a n).cdm = s.cdm := rfl
@[simp] theorem State.spoil_flash (a n : Nat) : (s.spoil a n).flash = s.flash := rfl
@[simp] theorem State.spoil_time (a n : Nat) : (s.spoil a n).time = s.time := rfl
@[simp] theorem State.spoil_keys (a n : Nat) : (s.spoil a n).keys = s.keys := rfl
@[simp] theorem State.spoil_cip (a n : Nat) : (s.spoil a n).cip = s.cip := rfl
@[simp] theorem State.spoil_rad (a n : Nat) : (s.spoil a n).rad = s.rad := rfl
@[simp] theorem State.spoil_dec (a n : Nat) : (s.spoil a n).dec = s.dec := rfl
@[simp] theorem State.spoil_rxFifo (a n : Nat) : (s.spoil a n).rxFifo = s.rxFifo := rfl
@[simp] theorem State.spoil_hmac (a n : Nat) : (s.spoil a n).hmac = s.hmac := rfl
@[simp] theorem State.spoil_pkt (a n : Nat) : (s.spoil a n).pkt = s.pkt := rfl
@[simp] theorem State.spoil_sch (a n : Nat) : (s.spoil a n).sch = s.sch := rfl
@[simp] theorem State.spoil_tsk (a n : Nat) : (s.spoil a n).tsk = s.tsk := rfl
@[simp] theorem State.spoil_ports (a n : Nat) : (s.spoil a n).ports = s.ports := rfl
@[simp] theorem State.spoil_lanes (a n : Nat) : (s.spoil a n).lanes = s.lanes := rfl
@[simp] theorem State.spoil_dma (a n : Nat) : (s.spoil a n).dma = s.dma := rfl
@[simp] theorem State.spoil_perf (a n : Nat) : (s.spoil a n).perf = s.perf := rfl
@[simp] theorem State.spoil_coreClk (a n : Nat) : (s.spoil a n).coreClk = s.coreClk := rfl
@[simp] theorem State.spoil_elapsed (a n : Nat) : (s.spoil a n).elapsed = s.elapsed := rfl
@[simp] theorem State.spoil_bus (a n : Nat) : (s.spoil a n).bus = s.bus := rfl
@[simp] theorem State.spoil_miso (a n : Nat) : (s.spoil a n).miso = s.miso := rfl
@[simp] theorem State.spoil_pending (a n : Nat) : (s.spoil a n).pending = s.pending := rfl

/-! ### raise -/

@[simp] theorem State.raise_regs (src : Nat) (ev : Ev) (st sev : Nat) (d : List Nat) : (s.raise src ev st sev d).regs = s.regs := by
  unfold State.raise; split <;> rfl
@[simp] theorem State.raise_mode (src : Nat) (ev : Ev) (st sev : Nat) (d : List Nat) : (s.raise src ev st sev d).mode = s.mode := by
  unfold State.raise; split <;> rfl
@[simp] theorem State.raise_cmd (src : Nat) (ev : Ev) (st sev : Nat) (d : List Nat) : (s.raise src ev st sev d).cmd = s.cmd := by
  unfold State.raise; split <;> rfl
@[simp] theorem State.raise_pwr (src : Nat) (ev : Ev) (st sev : Nat) (d : List Nat) : (s.raise src ev st sev d).pwr = s.pwr := by
  unfold State.raise; split <;> rfl
@[simp] theorem State.raise_renew (src : Nat) (ev : Ev) (st sev : Nat) (d : List Nat) : (s.raise src ev st sev d).renew = s.renew := by
  unfold State.raise; split <;> rfl
@[simp] theorem State.raise_calRecs (src : Nat) (ev : Ev) (st sev : Nat) (d : List Nat) : (s.raise src ev st sev d).calRecs = s.calRecs := by
  unfold State.raise; split <;> rfl
@[simp] theorem State.raise_aon (src : Nat) (ev : Ev) (st sev : Nat) (d : List Nat) : (s.raise src ev st sev d).aon = s.aon := by
  unfold State.raise; split <;> rfl
@[simp] theorem State.raise_cdm (src : Nat) (ev : Ev) (st sev : Nat) (d : List Nat) : (s.raise src ev st sev d).cdm = s.cdm := by
  unfold State.raise; split <;> rfl
@[simp] theorem State.raise_flash (src : Nat) (ev : Ev) (st sev : Nat) (d : List Nat) : (s.raise src ev st sev d).flash = s.flash := by
  unfold State.raise; split <;> rfl
@[simp] theorem State.raise_time (src : Nat) (ev : Ev) (st sev : Nat) (d : List Nat) : (s.raise src ev st sev d).time = s.time := by
  unfold State.raise; split <;> rfl
@[simp] theorem State.raise_keys (src : Nat) (ev : Ev) (st sev : Nat) (d : List Nat) : (s.raise src ev st sev d).keys = s.keys := by
  unfold State.raise; split <;> rfl
@[simp] theorem State.raise_cip (src : Nat) (ev : Ev) (st sev : Nat) (d : List Nat) : (s.raise src ev st sev d).cip = s.cip := by
  unfold State.raise; split <;> rfl
@[simp] theorem State.raise_rad (src : Nat) (ev : Ev) (st sev : Nat) (d : List Nat) : (s.raise src ev st sev d).rad = s.rad := by
  unfold State.raise; split <;> rfl
@[simp] theorem State.raise_dec (src : Nat) (ev : Ev) (st sev : Nat) (d : List Nat) : (s.raise src ev st sev d).dec = s.dec := by
  unfold State.raise; split <;> rfl
@[simp] theorem State.raise_rxFifo (src : Nat) (ev : Ev) (st sev : Nat) (d : List Nat) : (s.raise src ev st sev d).rxFifo = s.rxFifo := by
  unfold State.raise; split <;> rfl
@[simp] theorem State.raise_hmac (src : Nat) (ev : Ev) (st sev : Nat) (d : List Nat) : (s.raise src ev st sev d).hmac = s.hmac := by
  unfold State.raise; split <;> rfl
@[simp] theorem State.raise_pkt (src : Nat) (ev : Ev) (st sev : Nat) (d : List Nat) : (s.raise src ev st sev d).pkt = s.pkt := by
  unfold State.raise; split <;> rfl
@[simp] theorem State.raise_sch (src : Nat) (ev : Ev) (st sev : Nat) (d : List Nat) : (s.raise src ev st sev d).sch = s.sch := by
  unfold State.raise; split <;> rfl
@[simp] theorem State.raise_tsk (src : Nat) (ev : Ev) (st sev : Nat) (d : List Nat) : (s.raise src ev st sev d).tsk = s.tsk := by
  unfold State.raise; split <;> rfl
@[simp] theorem State.raise_ports (src : Nat) (ev : Ev) (st sev : Nat) (d : List Nat) : (s.raise src ev st sev d).ports = s.ports := by
  unfold State.raise; split <;> rfl
@[simp] theorem State.raise_lanes (src : Nat) (ev : Ev) (st sev : Nat) (d : List Nat) : (s.raise src ev st sev d).lanes = s.lanes := by
  unfold State.raise; split <;> rfl
@[simp] theorem State.raise_dma (src : Nat) (ev : Ev) (st sev : Nat) (d : List Nat) : (s.raise src ev st sev d).dma = s.dma := by
  unfold State.raise; split <;> rfl
@[simp] theorem State.raise_perf (src : Nat) (ev : Ev) (st sev : Nat) (d : List Nat) : (s.raise src ev st sev d).perf = s.perf := by
  unfold State.raise; split <;> rfl
@[simp] theorem State.raise_coreClk (src : Nat) (ev : Ev) (st sev : Nat) (d : List Nat) : (s.raise src ev st sev d).coreClk = s.coreClk := by
  unfold State.raise; split <;> rfl
@[simp] theorem State.raise_dram (src : Nat) (ev : Ev) (st sev : Nat) (d : List Nat) : (s.raise src ev st sev d).dram = s.dram := by
  unfold State.raise; split <;> rfl
@[simp] theorem State.raise_pst (src : Nat) (ev : Ev) (st sev : Nat) (d : List Nat) : (s.raise src ev st sev d).pst = s.pst := by
  unfold State.raise; split <;> rfl
@[simp] theorem State.raise_elapsed (src : Nat) (ev : Ev) (st sev : Nat) (d : List Nat) : (s.raise src ev st sev d).elapsed = s.elapsed := by
  unfold State.raise; split <;> rfl
@[simp] theorem State.raise_free (src : Nat) (ev : Ev) (st sev : Nat) (d : List Nat) : (s.raise src ev st sev d).free = s.free := by
  unfold State.raise; split <;> rfl
@[simp] theorem State.raise_bus (src : Nat) (ev : Ev) (st sev : Nat) (d : List Nat) : (s.raise src ev st sev d).bus = s.bus := by
  unfold State.raise; split <;> rfl
@[simp] theorem State.raise_miso (src : Nat) (ev : Ev) (st sev : Nat) (d : List Nat) : (s.raise src ev st sev d).miso = s.miso := by
  unfold State.raise; split <;> rfl
@[simp] theorem State.raise_pending (src : Nat) (ev : Ev) (st sev : Nat) (d : List Nat) : (s.raise src ev st sev d).pending = s.pending := by
  unfold State.raise; split <;> rfl

end Sys2Proof.Machine
end

