-- ==== Sys2Proof/Laws/Packets.lean ====
section
/-!
SUPPORT. Laws of replies: all that sending one changes (R57, R58, R60, R67, R70, R76, R78).
-/

namespace Sys2Proof.Machine

/-- Between s and t replies were placed and nothing else happened. -/
structure RepliesOnly (s t : State) : Prop where
  eq : t = { s with regs := t.regs, cmd := t.cmd, keys := t.keys, flash := { s.flash with netRecord := t.flash.netRecord } }
  regs : RegsKept replyRegs s t
  sent : s.cmd.cdmTx.length ≤ t.cmd.cdmTx.length
  keys : t.cmd.cdmTx.length = s.cmd.cdmTx.length → t.keys = s.keys
  use : s.keysButUse t
  out : t.cmd.out = s.cmd.out
  canonical : s.canonical = true → t.canonical = true

theorem RepliesOnly.refl (s : State) : RepliesOnly s s :=
  ⟨rfl, fun _ _ => rfl, Nat.le_refl _, fun _ => rfl, fun _ => .inl rfl, rfl, id⟩

theorem RepliesOnly.trans {s t u : State} (h1 : RepliesOnly s t) (h2 : RepliesOnly t u) : RepliesOnly s u where
  eq := by
    have e2 := h2.eq
    rw [h1.eq] at e2
    exact e2
  regs := fun a ha => (h2.regs a ha).trans (h1.regs a ha)
  sent := Nat.le_trans h1.sent h2.sent
  keys := fun e => by
    have a := h1.sent
    have b := h2.sent
    rw [h2.keys (by omega), h1.keys (by omega)]
  use := fun k => by
    rcases h1.use k with a | a <;> rcases h2.use k with b | b <;> rw [a] at b <;> simp [b]
  out := h2.out.trans h1.out
  canonical := fun h => h2.canonical (h1.canonical h)

/-- A change of the transports that leaves the core mailbox, the outstanding list and the frames for the scheduler alone. -/
theorem RepliesOnly.ofCmd (s : State) (c : CmdState) (ho : c.out = s.cmd.out) (hm : c.mbx = s.cmd.mbx) (ht : c.cdmTx = s.cmd.cdmTx) :
    RepliesOnly s { s with cmd := c } :=
  ⟨rfl, fun _ _ => rfl, by simp [ht], fun _ => rfl, fun _ => .inl rfl, ho, State.canonical_of_eq rfl rfl rfl hm⟩

theorem State.fillSlot_only (s : State) (n : Nat) (f : List Byte) : RepliesOnly s (s.fillSlot n f) where
  eq := rfl
  regs := fun a ha => State.reg_setFld_ne _ (fun e => ha (by simp [replyRegs, e])) _ _
  sent := Nat.le_refl _
  keys := fun _ => rfl
  use := fun _ => .inl rfl
  out := rfl
  canonical := fun h => State.canonical_setFld _ _ _ (by
    rw [State.canonical_iff] at *
    exact ⟨h.1, h.2.1, h.2.2.1, wf_writeBytes _ _ h.2.2.2⟩)

/-- The use of a slot is set to a supplied IV. -/
theorem State.drawPn_one_use (s : State) (slot : Nat) : s.keysButUse (s.drawPn slot 1) := fun k => by
  by_cases h : k = slot
  · subst h
    exact .inr (Tbl.get_set_same _ _ _ _)
  · exact .inl (Tbl.get_set_ne _ h _ _)

theorem State.bumpReplySeq_only (s : State) (who : CmdReq) : RepliesOnly s (s.bumpReplySeq who) := by
  unfold State.bumpReplySeq
  split
  · exact .ofCmd s _ rfl rfl rfl
  · exact .ofCmd s _ rfl rfl rfl
  · exact .ofCmd s _ rfl rfl rfl
  · split
    · exact .refl s
    · exact ⟨rfl, fun _ _ => rfl, Nat.le_refl _, fun _ => rfl, fun _ => .inl rfl, rfl, State.canonical_of_eq rfl rfl rfl rfl⟩

/-- A network reply: sealed under its slot, or dropped. -/
theorem State.placeNet_only (s : State) (r : Request) (mac slot : Nat) (f : List Byte) : RepliesOnly s (s.placeNet r mac slot f) := by
  unfold State.placeNet
  split
  · refine .trans (t := { s with cmd := { s.cmd with cdmTx := s.cmd.cdmTx ++ [_] } }.drawPn slot 1) ?_ (State.bumpReplySeq_only _ _)
    exact ⟨rfl, fun _ _ => rfl, by simp [State.drawPn, State.setKey], fun e => by simp [State.drawPn, State.setKey] at e,
      State.drawPn_one_use { s with cmd := _ } slot, rfl, State.canonical_of_eq rfl rfl rfl rfl⟩
  · exact ⟨rfl, fun a ha => State.reg_count_ne s (fun e => ha (by simp [replyRegs, e])), Nat.le_refl _, fun _ => rfl, fun _ => .inl rfl,
      rfl, State.canonical_count _⟩

theorem State.place_only (s : State) (r : Request) (f : List Byte) : RepliesOnly s (s.place r f) := by
  unfold State.place
  split
  · refine .trans ?_ (State.bumpReplySeq_only _ _)
    unfold State.placeMbx
    split
    · exact s.fillSlot_only _ _
    · exact .ofCmd s _ rfl rfl rfl
  · refine .trans ?_ (State.bumpReplySeq_only _ _)
    unfold State.placeHost
    split
    · exact .ofCmd s _ rfl rfl rfl
    · exact .ofCmd s _ rfl rfl rfl
  · refine .trans ?_ (State.bumpReplySeq_only _ _)
    exact .ofCmd s _ rfl rfl rfl
  · exact s.placeNet_only r _ _ f

theorem State.sendFrags_only (s : State) (r : Request) (st : Nat) (l : List (List Byte)) : RepliesOnly s (s.sendFrags r st l) := by
  induction l generalizing s with
  | nil => exact .refl s
  | cons p l ih =>
    cases l with
    | nil => exact s.place_only r _
    | cons q l => exact (s.place_only r _).trans (ih _)

/-- All that sending a reply changes: the transports, with the requests outstanding as they were; the registers of the reply
slots and of dropped replies; the network sequence record; and the use of a network reply's key slot. -/
theorem State.sendReply_only (s : State) (r : Request) (st : Nat) (e : Option Nat) (ps : List Byte) :
    RepliesOnly s (s.sendReply r st e ps) := s.sendFrags_only r st _

/-- A final reply also takes its request from the outstanding ones. -/
theorem State.finish_spec (s : State) (r : Request) (st : Nat) (e : Option Nat) (ps : List Byte) :
    let t := s.finish r st e ps
    t = { s with regs := t.regs, cmd := t.cmd, keys := t.keys, flash := { s.flash with netRecord := t.flash.netRecord } }
      ∧ RegsKept replyRegs s t ∧ (t.cmd.cdmTx.length = s.cmd.cdmTx.length → t.keys = s.keys) ∧ s.keysButUse t
      ∧ t.cmd.out = dropOut s.cmd.out r ∧ (s.canonical = true → t.canonical = true) := by
  have h := s.sendReply_only r st e ps
  refine ⟨?_, h.regs, h.keys, h.use, ?_,
    fun hc => State.canonical_of_eq (s := s.sendReply r st e ps) rfl rfl rfl rfl (h.canonical hc)⟩
  · have e2 := h.eq
    unfold State.finish
    simp only
    generalize s.sendReply r st e ps = u at e2 ⊢
    rw [e2]
  · unfold State.finish
    simp only [h.out]

/-- A command whose request is dispatched runs its body on it. -/
theorem State.withRequest_some {s s1 : State} {r : Request} {src : CmdSource} {o : Opc} (h : s.begin src o = (s1, some r))
    (body : State → Request → State) : s.withRequest src o body = (body s1 r).doze := by
  simp [State.withRequest, h]

/-- A command without a request to dispatch does nothing of its own. -/
theorem State.withRequest_none {s s1 : State} {src : CmdSource} {o : Opc} (h : s.begin src o = (s1, none))
    (body : State → Request → State) : s.withRequest src o body = s1.doze := by
  simp [State.withRequest, h]

end Sys2Proof.Machine
end

