-- ==== Sys2Proof/Machine/Pins.lean ====
section
/-!
DEFINITION. The pins: levels of the digital outputs as the state gives them, supply ranges, and the ball map (R71, R91, R498,
R543, R544, R546–R550, R552, R553, R556).
-/

namespace Sys2Proof.Machine

/-! ### Output levels -/

/-- Digital outputs that follow the state. -/
inductive OutPin where
  | faultN | hostIrqN
  /-- DALI_TX_b, where it does not carry a frame -/
  | daliTx (b : Nat)
  | paEn (r c : Nat) | lnaEn (r c : Nat) | trsw (r c : Nat)
  | obsSel (r k : Nat) | detSel (r k : Nat)
  | coexReq (r : Nat) | coexPri (r : Nat)
  /-- the tuner bus, where it carries no transfer -/
  | tunSclk (r : Nat) | tunSdata (r : Nat)
  deriving DecidableEq, Repr

/-- A pin of a radio: low while the mittens are on (R498), else as the radio drives it. -/
def State.radPin (s : State) (r : Nat) (v : RadState → Bool) : Bool :=
  !s.mittened (radId r) && v (Tbl.get (fun _ => RadState.init) s.rad r)

/-- The level of an output: FAULT_N low while a cause stands (R544); HOST_IRQ_N low while a reply waits or overflow is 1, high while
CDM is dark (R71, R498); DALI_TX low in the interface-failure state, high in RECOVERY while the golden image runs (R543, R551). -/
def State.level (s : State) : OutPin → Bool
  | .faultN => !s.bit A.aonFaultCause F.aonFaultCause_asserted
  | .hostIrqN => !(s.isLit 1 && (!s.cmd.hostWaiting.isEmpty || s.cmd.hostOverflow))
  | .daliTx b => !s.daliFails b || (s.mode.mode == .recovery && s.isLit 1 && !s.cdm.held && !(s.dali b).failed)
  | .paEn r c => s.radPin r (fun x => x.paEn.testBit c)
  | .lnaEn r c => s.radPin r (fun x => x.lnaEn.testBit c)
  | .trsw r c => s.radPin r (fun x => x.trsw.testBit c)
  | .obsSel r k => s.radPin r (fun x => x.obsSel.testBit k)
  | .detSel r k => s.radPin r (fun x => x.detSel.testBit k)
  | .coexReq r => s.radPin r (fun x => x.coexReq)
  | .coexPri r => s.radPin r (fun x => x.coexPri)
  | .tunSclk _ | .tunSdata _ => false

/-- Does a radio's tuner bus carry a transfer: not in the safe state, which holds both lines low (R91, R116)? -/
def State.tunBusy (s : State) (r : Nat) : Bool :=
  let x := Tbl.get (fun _ => RadState.init) s.rad r
  !s.mittened (radId r) && !s.tunOff r && (x.tunGo || !x.syn0.writes.isEmpty || !x.syn1.writes.isEmpty)

/-! ### Ball groups (R550) -/

/-- What a ball group shows, or does, in its reset state. -/
inductive BallState where
  | low | high | highZ | released | noSignal | idle | ignored | receiverOn | receiverOff | oscillating | sensed
  deriving DecidableEq, Repr

/-- The ball groups of the table of R550. -/
inductive BallGroup where
  | tx | rx | frontEnd | tuner | detector | coexIn | lnTx | lnRx | lnRefclk | rcal | ddrCa | ddrDq | ddrWck | ddrResetN | ddrZq
  | sysResetN | supplyWarnN | strapTest | faultN | tcxoIn | xtal32 | hostCsN | hostIn | hostMiso | hostIrqN | flashCsN | flashSck
  | flashIo | daliTx | daliRx | aonGpio | lightIn | jtagIn | jtagTdo
  deriving DecidableEq, Repr

/-- The reset state of a ball group: while SYS_RESET_N is low, and in OFF while VDD_AON and VDD_IO18 hold. -/
def BallGroup.resetState : BallGroup → BallState
  | .tx => .noSignal
  | .rx | .lnRx => .receiverOff
  | .frontEnd | .tuner | .ddrCa | .ddrWck | .ddrResetN | .flashSck | .daliTx => .low
  | .detector | .ddrDq | .hostMiso | .flashIo | .lightIn | .jtagTdo => .highZ
  | .coexIn | .hostIn | .daliRx => .ignored
  | .lnTx => .idle
  | .lnRefclk | .tcxoIn => .receiverOn
  | .rcal | .ddrZq | .sysResetN | .supplyWarnN | .strapTest | .hostCsN | .aonGpio | .jtagIn => .sensed
  | .faultN => .released
  | .xtal32 => .oscillating
  | .hostIrqN | .flashCsN => .high

/-- The JTAG port answers only in TEST (R552). -/
def State.jtagAnswers (s : State) : Bool := s.mode.mode == .test

/-- The transmit amplitude of a lane, mV peak to peak differential (R564). -/
def laneAmplitude (txAmp : Nat) : Nat := 400 + 60 * txAmp

/-! ### Supplies (R553, R556) -/

/-- The supply rails, in the order of R553. -/
inductive Rail where
  | aon | cdm | soc | clu | dec | mac | rfl | rfm | rfh | lnq | lnqa | ddrq | ddrphy | io18
  deriving DecidableEq, Repr

/-- Nominal voltage, and the operating range, in mV. -/
def Rail.range : Rail → Nat × Nat × Nat
  | .aon | .clu => (800, 776, 824)
  | .cdm | .soc | .dec | .mac | .lnq | .ddrphy => (750, 728, 773)
  | .rfl | .rfm | .rfh | .lnqa => (900, 873, 927)
  | .ddrq => (500, 485, 515)
  | .io18 => (1800, 1746, 1854)

/-- The group in which a rail rises (R554). -/
def Rail.group : Rail → Nat
  | .aon | .io18 => 1
  | .cdm | .soc | .clu | .dec | .mac | .lnq | .ddrphy => 2
  | .lnqa | .rfl | .rfm | .rfh | .ddrq => 3

/-- A rail at so many mV takes the device to OFF: VDD_AON at once below 0.72 V, VDD_IO18 below 1.62 V, any other after 10 µs more than
10 % below nominal (R556). -/
def Rail.lost (r : Rail) (mv : Nat) : Bool :=
  match r with
  | .aon => mv < 720
  | .io18 => mv < 1620
  | r => 10 * mv < 9 * r.range.1

/-! ### The ball map (R20, R546–R549) -/

/-- Signal groups. -/
inductive PinGroup where
  | radH | radM | radL | lanes | system | mem0 | mem1
  deriving DecidableEq, Repr

/-- What a ball carries: VSS, a rail, or the k-th signal of a group's list, from 1. -/
inductive Ball where
  | vss
  | rail (r : Rail)
  | signal (g : PinGroup) (k : Nat)
  deriving DecidableEq, Repr

/-- Names of the rows, in order (R20). -/
def rowNames : List String :=
  ["A", "B", "C", "D", "E", "F", "G", "H", "J", "K", "L", "M", "N", "P", "T", "U", "V", "W", "Y"]
    ++ ["AA", "AB", "AC", "AD", "AE", "AF", "AG", "AH", "AJ", "AK", "AL", "AM", "AN", "AP", "AT", "AU", "AV", "AW", "AY"]
    ++ ["BA", "BB", "BC", "BD", "BE"]

/-- Chains of a radio. -/
def chainCount (r : PinGroup) : Nat := if r = .radL then 4 else 8

/-- Signals in a group's list (R549). -/
def PinGroup.signals : PinGroup → Nat
  | .radH | .radM => 71
  | .radL => 43
  | .lanes => 67
  | .system => 34
  | .mem0 | .mem1 => 76

/-- The region of a signal group: first row, first column, last column, and whether odd columns alone carry signals (R547). -/
def PinGroup.region : PinGroup → Nat × Nat × Nat × Bool
  | .radH => (1, 1, 16, true)
  | .radM => (1, 17, 32, true)
  | .radL => (1, 33, 43, true)
  | .lanes => (10, 1, 6, true)
  | .system => (33, 1, 6, false)
  | .mem0 => (10, 38, 43, false)
  | .mem1 => (23, 38, 43, false)

/-- The group whose region holds a ball. -/
def groupAt (row col : Nat) : Option PinGroup :=
  if row ≤ 9 then some (if col ≤ 16 then .radH else if col ≤ 32 then .radM else .radL)
  else if col ≤ 6 then some (if row ≤ 32 then .lanes else .system)
  else if 38 ≤ col ∧ row ≤ 35 then some (if row ≤ 22 then .mem0 else .mem1)
  else none

/-- The rail of a supply region (R547). -/
def railAt (row col : Nat) : Rail :=
  if 38 ≤ col then (if row ≤ 39 then .ddrq else .ddrphy)
  else if row ≤ 15 then (if col ≤ 16 then .rfh else if col ≤ 30 then .rfm else .rfl)
  else if row ≤ 21 then (if col ≤ 22 then .dec else if col ≤ 30 then .mac else if col ≤ 34 then .cdm else .aon)
  else if row ≤ 31 then (if col ≤ 10 then .lnq else if col ≤ 14 then .lnqa else .clu)
  else if col ≤ 34 then .soc else .io18

/-- The place of a ball among the balls of its region that carry signals, from 1; 0 for none. -/
def PinGroup.place (g : PinGroup) (row col : Nat) : Nat :=
  let (r0, c0, c1, odd) := g.region
  let first := if c0 % 2 = 1 ∨ !odd then c0 else c0 + 1
  let per := if odd then (c1 - first) / 2 + 1 else c1 - c0 + 1
  if odd ∧ col % 2 = 0 then 0
  else (row - r0) * per + (if odd then (col - first) / 2 else col - c0) + 1

/-- What the ball at a row index and a column carries, 1 to 43 each (R547, R548). -/
def ballAt (row col : Nat) : Ball :=
  match groupAt row col with
  | some g =>
    let k := g.place row col
    if 1 ≤ k ∧ k ≤ g.signals then .signal g k else .vss
  | none => if (row + col) % 2 = 0 then .vss else .rail (railAt row col)

/-- The signals of one chain of a radio: transmit and receive pairs, and the front-end controls. -/
def chainSignals (x c : String) : List String :=
  ["TX_" ++ x ++ c ++ "_P", "TX_" ++ x ++ c ++ "_N", "RX_" ++ x ++ c ++ "_P", "RX_" ++ x ++ c ++ "_N", "PA_EN_" ++ x ++ c,
    "LNA_EN_" ++ x ++ c, "TRSW_" ++ x ++ c]

/-- A radio's list. -/
def radioSignals (x : String) (n : Nat) : List String :=
  (List.range n).flatMap (fun c => chainSignals x (toString c))
    ++ ["OBS_IN_" ++ x ++ "_P", "OBS_IN_" ++ x ++ "_N", "OBS_SEL_" ++ x ++ "[0]", "OBS_SEL_" ++ x ++ "[1]", "OBS_SEL_" ++ x ++ "[2]"]
    ++ ["DET_FWD_" ++ x, "DET_REV_" ++ x, "DET_SEL_" ++ x ++ "[0]", "DET_SEL_" ++ x ++ "[1]", "DET_SEL_" ++ x ++ "[2]"]
    ++ ["TUN_SCLK_" ++ x, "TUN_SDATA_" ++ x, "COEX_REQ_" ++ x, "COEX_PRI_" ++ x, "COEX_GNT_" ++ x]

/-- The lanes' list. -/
def laneSignals : List String :=
  (List.range 16).flatMap (fun i =>
    let n := toString (i / 4) ++ "_" ++ toString (i % 4)
    ["LN_TX_" ++ n ++ "_P", "LN_TX_" ++ n ++ "_N", "LN_RX_" ++ n ++ "_P", "LN_RX_" ++ n ++ "_N"])
    ++ ["LN_REFCLK_P", "LN_REFCLK_N", "LN_RCAL"]

/-- The list of a sub-channel of a DRAM channel. -/
def subSignals (p : String) : List String :=
  (["CK_T", "CK_C", "CS0", "CS1"] ++ (List.range 7).map (fun i => "CA" ++ toString i)
    ++ (List.range 16).map (fun i => "DQ" ++ toString i)
    ++ ["DMI0", "DMI1", "WCK0_T", "WCK0_C", "WCK1_T", "WCK1_C", "RDQS0_T", "RDQS0_C", "RDQS1_T", "RDQS1_C"]).map (p ++ "_" ++ ·)

/-- The list of a DRAM channel. -/
def memSignals (m : String) : List String :=
  subSignals ("DDR" ++ m ++ "A") ++ subSignals ("DDR" ++ m ++ "B") ++ ["DDR" ++ m ++ "_RESET_N", "DDR" ++ m ++ "_ZQ"]

/-- The system list. -/
def systemSignals : List String :=
  ["SYS_RESET_N", "STRAP_TEST", "FAULT_N", "SUPPLY_WARN_N", "TCXO_IN", "XTAL32_IN", "XTAL32_OUT", "COEX_SYNC"]
    ++ ["HOST_CS_N", "HOST_SCK", "HOST_MOSI", "HOST_MISO", "HOST_IRQ_N", "FLASH_CS_N", "FLASH_SCK"]
    ++ ["FLASH_IO0", "FLASH_IO1", "FLASH_IO2", "FLASH_IO3", "DALI_TX_0", "DALI_RX_0", "DALI_TX_1", "DALI_RX_1"]
    ++ ["AON_GPIO0", "AON_GPIO1", "AON_GPIO2", "AON_GPIO3", "LIGHT_IN0", "LIGHT_IN1"]
    ++ ["JTAG_TCK", "JTAG_TMS", "JTAG_TDI", "JTAG_TDO", "JTAG_TRST_N"]

/-- The signals of a group in ball order (R549). -/
def PinGroup.names : PinGroup → List String
  | .radH => radioSignals "H" (chainCount .radH)
  | .radM => radioSignals "M" (chainCount .radM)
  | .radL => radioSignals "L" (chainCount .radL)
  | .lanes => laneSignals
  | .system => systemSignals
  | .mem0 => memSignals "0"
  | .mem1 => memSignals "1"

end Sys2Proof.Machine
end

