-- ==== Sys2Proof/Machine/Limits.lean ====
section
/-!
DEFINITION. The limits that a board, and the device, keep: grades, rails, reference clocks, the levels and the timing of the pins, the
RF balls and lanes, power by mode, heat and the package (R7, R553, R554, R558–R568).
-/

namespace Sys2Proof.Machine

/-- A limit on a quantity: its least and its greatest value, where the table gives one. -/
structure Limit where
  least : Option Int
  most : Option Int
  deriving DecidableEq, Repr

/-- Does a value keep a limit? -/
def Limit.holds (l : Limit) (x : Int) : Bool := l.least.all (· ≤ x) && l.most.all (x ≤ ·)

def atLeast (a : Int) : Limit := ⟨some a, none⟩
def atMost (b : Int) : Limit := ⟨none, some b⟩
def within (a b : Int) : Limit := ⟨some a, some b⟩

/-! ### Grades and heat (R7, R567) -/

/-- The junction temperature of a grade code, °C; a grade that is not issued has none (R7). -/
def junctionRange : Nat → Option Limit
  | 0x1 | 0xF => some (within (-40) 105)
  | 0x2 => some (within (-40) 115)
  | _ => none

/-- The warning and the alarm to which CDM_TEMP_LIMIT resets, °C: 5 below the limit of the grade, and at it (R567). -/
def tempLimits (grade : Nat) : Option (Int × Int) := (junctionRange grade).bind (fun l => l.most.map (fun t => (t - 5, t)))

/-- Thermal resistances in m°C/W: junction to case, junction to board, and in still air without a heatsink (R567). -/
def thetaJC : Int := 80
def thetaJB : Int := 1800
def thetaJA : Int := 9000

/-- The junction temperature in m°C at an air temperature in m°C, a power in mW and the resistances in m°C/W of an interface and of a
heatsink to air, through the top of the lid (R567). -/
def junctionAt (air mw interface sink : Int) : Int := air + mw * (thetaJC + interface + sink) / 1000

/-! ### Rails (R553, R554) -/

/-- The greatest current of a rail, mA. -/
def Rail.current : Rail → Nat
  | .aon => 100
  | .cdm => 1000
  | .soc => 8000
  | .clu => 7500
  | .dec => 5000
  | .mac => 2000
  | .rfl => 3000
  | .rfm => 6500
  | .rfh => 7500
  | .lnq => 1600
  | .lnqa => 1500
  | .ddrq | .ddrphy => 1200
  | .io18 => 350

/-- The islands that a rail supplies; the rails of the lanes' analogue parts, the DRAM balls and the 1.8 V balls supply none. -/
def Rail.islands : Rail → List Nat
  | .aon => [0]
  | .cdm => [1]
  | .soc => [2, 3, 4, 5, 9, 10]
  | .clu => [6, 7, 8]
  | .dec => [20]
  | .mac => [21]
  | .rfl => [17]
  | .rfm => [18]
  | .rfh => [19]
  | .lnq => [13, 14, 15, 16]
  | .ddrphy => [11, 12]
  | .lnqa | .ddrq | .io18 => []

/-- Is a rail, in mV with its ripple, within its operating range? -/
def Rail.ok (r : Rail) (mv : Nat) : Bool := decide (r.range.2.1 ≤ mv) && decide (mv ≤ r.range.2.2)

/-- The rails whose ripple from 100 kHz to 50 MHz stays below 5 mV peak to peak. -/
def Rail.quiet : Rail → Bool
  | .rfl | .rfm | .rfh | .lnqa => true
  | _ => false

/-- The absolute maximum of a rail, mV. -/
def Rail.absolute : Rail → Limit
  | .rfl | .rfm | .rfh | .lnqa => within (-300) 1050
  | .ddrq => within (-300) 650
  | .io18 => within (-300) 2100
  | _ => within (-300) 950

/-- The other absolute maximum ratings: inputs in mV at VDD_IO18 in mV, RF inputs in dBm, storage in °C, and ESD in V, human body and
charged device. -/
def inputAbsolute (io18 : Int) : Limit := within (-300) (io18 + 300)
def resetPinAbsolute : Limit := within (-300) 3900
def rfInputAbsolute : Limit := atMost 10
def storageTemp : Limit := within (-55) 150
def esdHuman : Limit := atMost 2000
def esdDevice : Limit := atMost 250

/-- All rails. -/
def Rail.all : List Rail :=
  [.aon, .cdm, .soc, .clu, .dec, .mac, .rfl, .rfm, .rfh, .lnq, .lnqa, .ddrq, .ddrphy, .io18]

/-- May the rails of a group start, the rails of the groups before it being at these voltages in mV (R554)? -/
def groupMayStart (g : Nat) (mv : Rail → Nat) : Bool := Rail.all.all (fun r => decide (g ≤ r.group) || r.ok (mv r))

/-- The time in µs that a rail takes to rise (R554). -/
def riseTime : Limit := within 100 10000

/-! ### Reference clocks (R558) -/

inductive RefClock where
  | tcxo | laneRef | xtal32
  deriving DecidableEq, Repr

/-- What a reference input must meet: frequency in Hz, tolerance over 15 years in ppm, level in mV peak to peak. -/
def RefClock.hz : RefClock → Nat
  | .tcxo => 40000000
  | .laneRef => 156250000
  | .xtal32 => 32768
def RefClock.ppm : RefClock → Nat
  | .tcxo => 20
  | .laneRef | .xtal32 => 100
def RefClock.level : RefClock → Option Limit
  | .tcxo => some (within 800 1200)
  | .laneRef => some (within 300 1000)
  | .xtal32 => none

/-- The further limits: phase noise of the TCXO in dBc/Hz at 10 and 100 kHz, jitter of the lane reference in fs RMS from 12 kHz to 20 MHz,
load in pF and series resistance in Ω of the crystal. -/
def tcxoNoise10k : Limit := atMost (-135)
def tcxoNoise100k : Limit := atMost (-145)
def laneRefJitter : Limit := atMost 300
def xtalLoad : Nat := 9
def xtalEsr : Limit := atMost 70000

/-- Is a measured frequency within the tolerance of its reference? -/
def RefClock.ok (c : RefClock) (hz : Nat) : Bool :=
  absI ((hz : Int) - c.hz) * 1000000 ≤ (c.hz * c.ppm : Nat)

/-! ### 1.8 V levels and the host port (R559, R560) -/

/-- Input levels in 0.01 mV at VDD_IO18 in mV; outputs in mV at 8 mA, FAULT_N at 12 mA; leakage in µA, pull resistors in kΩ. -/
def inputLow (io18 : Int) : Limit := atMost (35 * io18)
def inputHigh (io18 : Int) : Limit := atLeast (65 * io18)
def schmittHysteresis : Limit := atLeast 150
def outputLow : Limit := atMost 450
def outputHigh (io18 : Int) : Limit := atLeast (io18 - 450)
def faultNLow : Limit := atMost 400
def inputLeakage : Limit := within (-10) 10
def pullResistor : Limit := within 35 70

/-- Timing of the host port, ns. -/
inductive HostTime where
  | sckPeriod | sckHighLow | csToSck | sckToCs | csHigh | mosiSetup | mosiHold | misoValid | misoDriven | misoReleased
  deriving DecidableEq, Repr

def HostTime.limit : HostTime → Limit
  | .sckPeriod => atLeast 20
  | .sckHighLow => atLeast 8
  | .csToSck | .sckToCs => atLeast 10
  | .csHigh => atLeast 100
  | .mosiSetup => atLeast 4
  | .mosiHold => atLeast 3
  | .misoValid => atMost 8
  | .misoDriven | .misoReleased => atMost 10

/-! ### Flash and converters (R561, R562) -/

/-- The greatest clock of the flash interface, MHz. -/
def flashClock : Limit := atMost 100

/-- The 12-bit code of an analogue input in µV: 4 095 stands for 1.2 V or more (R562); a code is rounded down (log entry 127). -/
def adcCode (uv : Nat) : Nat := min 4095 (uv * 4095 / 1200000)

/-! ### RF balls, lanes and DRAM balls (R563–R565) -/

/-- The RF balls of radios L, M and H: greatest commanded output in dBm, output EVM in dB with predistortion off at 10 dB below it, noise
figure in 0.1 dB at maximum gain. -/
def rfMaxOut (r : Nat) : Int := if r = 0 then 6 else 4
def rfEvm (r : Nat) : Int := if r = 2 then -38 else -40
def rfNoiseFigure (r : Nat) : Int := 35 + 5 * r

/-- Full scale of the receive input at 0 dB of gain, and of OBS_IN, dBm. -/
def rxFullScale : Int := -5
def obsFullScale : Int := 0

/-- De-emphasis of a lane by tx_pre or tx_post, 0.1 dB: half a dB a step, at most 7.5 dB. -/
def deemphasis (code : Nat) : Nat := min 75 (5 * code)

/-- The least differential input of a lane's receiver, mV peak to peak, and its coupling capacitor in nF. -/
def laneSensitivity : Limit := atLeast 85
def laneCoupling : Limit := within 75 200

/-- Length differences on the board in µm: of DQ, DMI and RDQS in a byte, and of CA and CS against CK. -/
def byteSkew : Limit := atMost 1000
def commandSkew : Limit := atMost 2000

/-! ### Power (R51, R566) -/

/-- Power in a mode, mW: typical and greatest, where the table gives it. -/
def modePower : Mode → Option Nat × Option Nat
  | .off => (some 20, some 50)
  | .boot => (some 2500, some 4000)
  | .provision => (some 6000, some 12000)
  | .calibrate => (some 14000, some 22000)
  | .service | .renew | .degraded => (some 24000, some 38000)
  | .thrift => (some 11000, some 16000)
  | .vigil => (some 350, none)
  | .hibernate => (some 90, none)
  | .recovery => (some 4000, some 8000)
  | .test => (none, some 38000)

/-- The greatest power of a part of grade FE at 115 °C under the load of R51, mW. -/
def fePower : Nat := 39500

/-! ### Package (R568) -/

/-- Dimensions in µm: body, pitch, centre of ball A1 from the two nearest edges, ball diameter, seated height, coplanarity. -/
def bodySize : Limit := within 34900 35100
def ballPitch : Nat := 800
def a1Edge : Nat := 700
def ballDiameter : Limit := within 400 500
def seatedHeight : Limit := atMost 3200
def coplanarity : Limit := atMost 200

/-- Balls on a side of the full array, and the mass in mg. -/
def ballsAside : Nat := 43
def packageMass : Nat := 9500

/-- Where the centre of a ball lies from the two edges at A1, µm: its row index and column, from 1 (R546, R568). -/
def ballCentre (row col : Nat) : Nat × Nat := (a1Edge + (row - 1) * ballPitch, a1Edge + (col - 1) * ballPitch)

end Sys2Proof.Machine
end

