-- ==== Sys2Proof/Machine/Radiate.lean ====
section
/-!
DEFINITION. What a radio radiates of a Holael PPDU: a view of the PPDU in the air, as R125–R136 build it.
-/

namespace Sys2Proof.Machine

/-- A Holael PPDU as radiated (R125): LENGTH of L-SIG; the BPSK symbols of L-SIG and H-SIG on the 48 legacy subcarriers, and the rotation
of each 20 MHz subchannel that they are duplicated on; what each stream sends on each tone in each H-LTF symbol; the points of each
data symbol by stream, with their places among the data subcarriers; the pilot values of each data symbol; and the parts that the
commanded power is divided into on each stream. -/
structure HolPpdu where
  lsig : Nat
  lsigSym : List Int
  hsigSyms : List (List Int)
  turns : List Nat
  ltf : List (List (List Cx))
  data : List (List (List (Nat × Point)))
  pilots : List (List Int)
  parts : List Nat

/-- The loading of a command: rate, coded bits per symbol, and entries per stream (R132). -/
def loading (width : Nat) (m : Option HolMap) : Nat × Nat × List (List Nat) :=
  match m with
  | some m => (m.rate, m.codedBits, m.entries)
  | none => (0, baseBits width, [List.replicate (toneGroups width) 2])

/-- The PPDU of a Holael command under the map that it names. -/
def State.holPpdu (s : State) (r : Nat) (c : TxCmd) (w : Nat) : HolPpdu :=
  let width := c.tx.width
  let n := hsigStreams w
  let (rate, b, entries) := loading width (s.cmdMap r c)
  let sym := nSym c.psdu.length rate b
  let len := lsigLength c.airNs
  { lsig := len, lsigSym := lsigSymbol len, hsigSyms := hsigSymbols w, turns := legacyTurns width
    ltf := (List.range n).map (fun st => (List.range n).map (fun t => (tones width).map (ltfValue width n st t)))
    data := fillSymbols width b entries sym (filledBits (codedBits (hsigPartner w) rate c.psdu) sym b)
    pilots := (List.range sym).map (fun t => (pilots width).map (Config.pilot width t))
    parts := entries.map (powerParts width) }

/-- The Holael PPDU that a radio radiates now. -/
def State.radiated (s : State) (r : Nat) : Option HolPpdu :=
  match (s.rd r).air with
  | some a => a.cmd.hsig.map (s.holPpdu r a.cmd)
  | none => none

end Sys2Proof.Machine
end

