-- ==== Sys2Proof/WellFormed.lean ====
section
/-!
DEFINITION. Well-formed commands: every operand that is a plain number or a list lies in the range that the spec gives it.
-/

namespace Sys2Proof

/-- Chains of a radio: Radio L has four. -/
def chainCount (r : Rad) : Nat := if r.val = 0 then 4 else 8

/-- A mask over island IDs. -/
def lightOk (n : Nat) : Bool := n < 2 ^ 22

/-- A requester of command packets: a 48-bit MAC address and a 12-bit slot. -/
def CmdReq.wf : CmdReq → Bool
  | .network mac slot => mac < 2 ^ 48 && slot < 4096
  | _ => true

/-- A command's source: an existing island, a 16-bit tag, a 32-bit sequence, a request of at most 65 280 bytes (R62). -/
def CmdSource.wf : CmdSource → Bool
  | .waiting who => who.wf
  | .internal island tag seq params => island ≤ 0x15 && tag < 65536 && seq < 2 ^ 32 && params.length ≤ 65280

/-- What a PPDU is: a width code up to 4, a rate index of four bits (HT: five), up to 8 streams, 16 subchannels. -/
def Tx.wf (x : Tx) : Bool := x.width ≤ 4 && x.mcs < 32 && 1 ≤ x.streams && x.streams ≤ 8 && x.punct < 65536

/-- A transmit command: 17-bit centre, chains of the radio, 32-bit instants, an H-SIG of 48 bits with a Holael PPDU alone. -/
def TxCmd.wf (r : Rad) (c : TxCmd) : Bool :=
  c.frameId < 65536 && c.centre < 2 ^ 17 && c.chains < 2 ^ chainCount r && c.earliest < 2 ^ 32 && c.deadline < 2 ^ 32
    && c.tx.wf && c.hsig.all (· < 2 ^ 48) && c.isHolael == c.hsig.isSome && c.cls < 8 && c.gs.length ≤ 8
    && c.keySlot.all (· < 4096) && c.cal.all (· < 2 ^ 48)

/-- A received preamble: a colour of six bits. -/
def RxPreamble.wf (p : RxPreamble) : Bool := p.tx.wf && p.colour.all (· < 64)

/-- A codeword's kind. -/
def CwKind.wf : CwKind → Bool
  | .holael => true
  | .wlan _ pre => pre.wf

/-- A calibration step on chains of the radio. -/
def CalStep.wf (r : Rad) : CalStep → Bool
  | .loopback tx rx _ => tx.val < chainCount r && rx.val < chainCount r
  | .probe _ => true

/-- What a CAL_RUN computed: sets of six loops, gains by 32 · chain + gain step. -/
def CalRunOut.wf (r : Rad) (o : CalRunOut) : Bool :=
  o.meas.all (fun m => m.chain.val < chainCount r) && o.sets.all (fun x => x.key < 384) && o.gains.all (fun g => g.1 < 32 * chainCount r)

/-- A frame of a CAL_RUN: centre, and chains of the radio. -/
def CalProbe.wf (r : Rad) (p : CalProbe) : Bool := p.centre < 2 ^ 17 && p.chains.val < 2 ^ chainCount r

/-- A received WLAN MPDU: 48-bit address and packet number, 32-bit PPDU end, six-bit colour. -/
def WlanRx.wf (f : WlanRx) : Bool :=
  f.ta < 2 ^ 48 && f.pn < 2 ^ 48 && f.ppduEnd < 2 ^ 32 && f.colour.all (· < 64) && f.bytes.length ≤ 16384
    && f.response.all (·.1.wf)

/-- A WLAN PPDU to be sent. -/
def WAir.wf (a : WAir) : Bool := a.centre < 2 ^ 17 && a.earliest < 2 ^ 32 && a.deadline < 2 ^ 32 && a.tx.wf && a.gs.length ≤ 8

/-- What a WLAN opportunity serves: at least one MPDU of data. -/
def WServe.wf : WServe → Bool
  | .data _ _ airs _ _ _ => !airs.isEmpty
  | .multi users => users.length ≤ 74 && users.all (fun u => !u.airs.isEmpty)
  | _ => true

/-- The join frame of a window: at most 776 bytes of body (R216). -/
def joinOk (j : Option (Fin 4096 × Fin 3 × Fin 4 × Fin 1024 × List Byte)) : Bool := j.all (fun x => x.2.2.2.2.length ≤ 776)

/-- Is a command well-formed? -/
def Instr.wf (c : Instr) : Bool :=
  match c with
  | .registerWrite _ _ data => data.length ≤ 64
  | .handshakeTimeout _ _ _ => true
  | .supplyLoss _ => true
  | .sysReset => true
  | .resetRelease _ light => lightOk light
  | .bootRomStart _ light => lightOk light
  | .xtal32Start => true
  | .modeTransitionComplete light => lightOk light
  | .modeTransitionTimeout light => lightOk light
  | .modeSetOffReset _ light => lightOk light
  | .mbxDoorbell _ _ => true
  | .mbxRspFree _ _ => true
  | .hostWrite bytes => bytes.length ≤ 4112
  | .hostStatus _ => true
  | .hostRead clocked => clocked ≤ 4112
  | .networkCommandFrame _ => true
  | .fragmentTimeout who => who.wf
  | .commandLimitTimeout who _ => who.wf
  | .districtSecondBoundary => true
  | .query src => src.wf
  | .countersRead src => src.wf
  | .renew src light => src.wf && lightOk light
  | .wakeConfig src => src.wf
  | .vigilProgram src => src.wf
  | .faultClear src => src.wf
  | .modeSet src light rival => src.wf && lightOk light && rival.all (·.wf)
  | .modeGet src => src.wf
  | .abort src light => src.wf && lightOk light
  | .testChallenge src => src.wf
  | .testHoldExpiry => true
  | .testEnter src light => src.wf && lightOk light
  | .imageStage src => src.wf
  | .imageVerify src => src.wf
  | .imageActivate src => src.wf
  | .logRead src => src.wf
  | .sensorRead src => src.wf
  | .provisionCommit src => src.wf
  | .daliSend src => src.wf
  | .daliSendDone _ _ => true
  | .servoMode src => src.wf
  | .timeSet src => src.wf
  | .timeGet src => src.wf
  | .keyWrite src => src.wf
  | .keyWritePendingTimeout => true
  | .keyErase src => src.wf
  | .keyState src => src.wf
  | .retrain src => src.wf
  | .calRun src => src.wf
  | .calRunDone r o light => lightOk light && o.wf r
  | .calInvalidate src => src.wf
  | .calStatus src => src.wf
  | .radioDisable _ _ _ => true
  | .retuneRequest _ target _ => target < 2 ^ 17
  | .retuneRequestReg _ _ _ _ => true
  | .synLock _ _ band margin => band < 256 && margin < 256
  | .synLockTimeout _ _ light => lightOk light
  | .synLockLoss _ _ => true
  | .synSwitchComplete _ _ => true
  | .txCommand r c => c.wf r
  | .txCommit _ => true
  | .txCommitDeadline _ => true
  | .frontEndEdge _ _ => true
  | .txRfStart _ => true
  | .txRfEnd _ => true
  | .feSeqSubmit _ _ _ => true
  | .feSeqApply _ => true
  | .mismatchAverage r c _ _ _ _ => c.val < chainCount r
  | .detCfgWrite _ _ _ => true
  | .muteClear _ _ _ => true
  | .muteSet _ _ _ => true
  | .tunerCommand _ _ _ => true
  | .tunerCommandDone _ _ _ => true
  | .coexSyncEdge => true
  | .coexBlankStart _ => true
  | .coexBlankEnd _ => true
  | .coexGntRise _ => true
  | .coexGntFall _ => true
  | .holaelRxWindow _ win => win.all (fun w => w.1.all (· ≤ 1024))
  | .agcStfDetect _ _ _ _ _ => true
  | .agcDetectTimeout _ => true
  | .agcLltfFound _ settle => settle.length ≤ 8
  | .agcRestart _ _ _ => true
  | .rxPpduEnd _ _ => true
  | .hsigDecoded _ soft lsig => soft.length == 96 && lsig < 4096
  | .codewordSubmit _ k _ _ => k.wf
  | .galleryDispatch _ => true
  | .codewordDecodeDone _ _ => true
  | .codewordDeadline _ _ => true
  | .decCtlWrite _ _ => true
  | .nfWindow _ vals => vals.length ≤ 8
  | .captureComplete _ _ _ _ => true
  | .calApply _ => true
  | .refreshHoldoffExpiry _ _ => true
  | .calStepStart r k => k.wf r
  | .calStepEnd _ _ sub margin => sub < 512 && margin < 256
  | .calStepAbort _ => true
  | .rxGainTrigger _ => true
  | .rxGainUpdateTimeout _ => true
  | .thinChainEval _ => true
  | .calFrame r frameId earliest deadline run =>
    frameId < 65536 && earliest < 2 ^ 32 && deadline < 2 ^ 32 && run.all (·.wf r)
  | .lanternTx _ => true
  | .holaelEventStart _ _ => true
  | .holaelFrameRx _ psdu _ _ => psdu.length ≤ 65535
  | .holaelFrameTx _ _ => true
  | .replyWindowClose _ => true
  | .lanternListenEnd => true
  | .chmapChangeReq _ _ => true
  | .chmapSwitch _ => true
  | .chdefWrite _ _ _ => true
  | .holRoundWrite _ _ => true
  | .parentJoin _ _ => true
  | .joinReqTx _ _ body => body.length ≤ 776
  | .joinRetry => true
  | .joinSupervisionTimeout => true
  | .memberSupervisionTimeout => true
  | .searchTimeout => true
  | .partnerSupervisionTimeout _ => true
  | .absenceLimitExpiry _ => true
  | .parentLeave _ _ => true
  | .holAdmit _ _ => true
  | .holRelease _ _ => true
  | .holAbsenceGo _ _ => true
  | .absenceStart _ => true
  | .absenceEnd _ => true
  | .mapOffer _ _ => true
  | .reorderTimeout _ _ => true
  | .beaconTx _ a => a.wf
  | .wlanFrameRx _ f => f.wf
  | .wlanTxOpportunity _ a v => a.wf && v.wf
  | .wlanReorderTimeout _ _ => true
  | .stationStateWrite _ _ _ => true
  | .protectCts _ a _ => a.wf
  | .sounding _ _ a => a.wf
  | .triggerTx _ a users => a.wf && users.length ≤ 74
  | .twtServicePeriod _ _ => true
  | .steerGo _ _ _ => true
  | .steerSwitchTime _ => true
  | .steerLimitEnd _ => true
  | .cipOperationStart _ id _ _ _ _ => id < 2 ^ 32
  | .cipOperationDone _ => true
  | .cipJobFetch _ => true
  | .cipJobWriteback _ => true
  | .cipRingFault _ => true
  | .cipJobCtlWrite _ _ _ => true
  | .macsecRxFrame _ => true
  | .pktFrameParse _ => true
  | .epBucketReadDone _ _ => true
  | .epReadTimeout _ => true
  | .ruleEntryWrite _ _ _ _ => true
  | .ruleStageAdd _ _ => true
  | .ruleStageRemove _ _ => true
  | .ruleCommit _ => true
  | .seedComplete => true
  | .versionRetire => true
  | .epInvalidate _ _ => true
  | .epSeedWrite _ _ _ => true
  | .fragEntryExpiry => true
  | .fragHoldExpiry => true
  | .schEnqueue _ => true
  | .schServe _ _ => true
  | .shaperCreditZero _ => true
  | .qFlush _ _ => true
  | .meterSubmit _ _ _ => true
  | .schQWrite _ _ _ _ => true
  | .portEnable _ _ _ => true
  | .portDisable _ _ _ => true
  | .symbolLockChange _ _ _ _ => true
  | .autonegComplete _ _ _ _ _ => true
  | .sgmiiConfigWord _ _ _ _ => true
  | .linkUp _ => true
  | .linkDown _ _ => true
  | .klTs1Detected _ ts => ts.length ≤ 4
  | .klTrainComplete _ => true
  | .klTrainTimeout _ => true
  | .klLockAligned _ _ => true
  | .klLockTimeout _ => true
  | .klExchangeComplete _ => true
  | .klExchangeTimeout _ => true
  | .klSignalLoss _ _ => true
  | .klLaneFailure _ _ _ => true
  | .klMarkerLoss _ _ => true
  | .param _ blk => blk.length ≤ 4
  | .thriftReq _ blk => blk.length ≤ 4
  | .thriftAck _ blk => blk.length ≤ 4
  | .thriftNak _ blk => blk.length ≤ 4
  | .lpIdle _ blk => blk.length ≤ 4
  | .deepReq _ blk => blk.length ≤ 4
  | .deepAck _ blk => blk.length ≤ 4
  | .idleEEntry _ => true
  | .idleERefresh _ => true
  | .idleERxTimeout _ => true
  | .deepIdleExpiry _ => true
  | .deepExit _ => true
  | .thriftWindow _ _ => true
  | .thriftWidthChange _ => true
  | .klRateFail _ => true
  | .macFrameRx _ f _ _ _ _ => f.length ≤ 16384
  | .pauseRx _ => true
  | .pauseExpiry _ => true
  | .pauseTx _ => true
  | .macTxFrame _ _ => true
  | .txUnderrun _ => true
  | .threshReset _ _ => true
  | .portHoldoff _ => true
  | .portHoldoffEnd _ => true
  | .laneTestWrite _ _ _ _ => true
  | .octetCounterRead _ _ _ => true
  | .timeNowRead _ => true
  | .timeOffsetSubmit _ _ => true
  | .holdoverEntry => true
  | .cuffStore _ _ _ _ _ _ _ => true
  | .cuffPop _ _ => true
  | .dmaChEnable _ _ _ => true
  | .dmaChDisable _ _ _ => true
  | .dmaKick _ _ => true
  | .dmaDescFetch _ => true
  | .dmaBurst => true
  | .dmaWriteback _ => true
  | .dmaShort _ n => n < 2 ^ 24
  | .dmaAccessFault _ _ a => a < 2 ^ 40
  | .dmaRxFrame _ => true
  | .tskSchItem => true
  | .tskSubmit _ _ => true
  | .tskSubmitTimeout _ => true
  | .tskGet _ => true
  | .tskDone _ _ => true
  | .tskReady _ _ => true
  | .tskCancel _ _ _ => true
  | .tskLongRun _ => true
  | .affinityWaitExpiry _ => true
  | .tskIrqSoft _ _ => true
  | .perfCounterRead _ _ _ => true
  | .clusterPark _ _ _ => true
  | .chamberSubmit _ _ _ _ => true
  | .chamberLock _ _ _ => true
  | .dramAccess _ x len data _ _ row => 0 < len.val && x.val % 64 + len.val ≤ 64 && data.all (fun d => d.length == len.val) && row < 2 ^ 18
  | .readPromote _ => true
  | .dramRefresh _ => true
  | .mr4Read _ _ _ => true
  | .wckOscRead _ value => value < 65536
  | .scrubRead _ _ => true
  | .trainingComplete _ _ light => lightOk light
  | .resyncComplete => true
  | .wakePhaseReady _ _ => true
  | .wakePhaseTimeout _ light => lightOk light
  | .islandDark _ => true
  | .entryWindowEnd _ _ light => lightOk light
  | .wakeEvent _ _ light => lightOk light
  | .darkAccess _ _ _ _ => true
  | .thriftFillCheck light => lightOk light
  | .vigilCyclePoint => true
  | .vigilCompare _ _ _ => true
  | .vigilRadioWake => true
  | .vigilLanternFound hsig _ => hsig < 2 ^ 48
  | .vigilListenEnd => true
  | .vigilStatusClear _ _ => true
  | .renewPrepareDone _ => true
  | .renewPrepareTimeout _ => true
  | .renewDrainIdle _ => true
  | .renewDrainTimeout _ => true
  | .renewFenceSaved _ => true
  | .renewFenceTimeout _ light => lightOk light
  | .renewMittenElapsed _ => true
  | .renewLoadDone _ _ light => lightOk light
  | .renewLoadTimeout _ light => lightOk light
  | .renewCalibrateDone _ gains bands light => lightOk light && gains.all (·.1 < 256) && bands.all (·.1 < 1024)
  | .renewCalibrateTimeout _ light => lightOk light
  | .gloveKick _ _ => true
  | .gloveKickTimeout _ light => lightOk light
  | .cudomWatchdog light => lightOk light
  | .sensorSample die mv ma _ _ light => die.length == 12 && mv.length == 14 && ma.length == 14 && lightOk light
  | .logEntry => true
  | .logPageWrite => true
  | .logSuppressSummary => true
  | .daliScheduleEntry _ => true
  | .daliForwardRx _ _ _ => true
  | .daliBusDown _ _ => true
  | .imageStageDone _ => true
  | .imageVerifyDone => true
  | .logReadDone => true
  | .provisionCommitDone light => lightOk light
  | .joinWindowOpen _ rsp => joinOk rsp
  | .lanePllLock _ _ => true
  | .autonegRestart _ => true
  | .linkFaultSignal _ _ _ _ => true
  | .pauseTxRepeat _ => true

end Sys2Proof
end

