-- ==== Sys2Proof/Tests/Slice0.lean ====
section
/-!
SUPPORT. Tests of the model. `witness_<Statement>_<k>`: operands and a state that meet every hypothesis of the k-th clause
with hypotheses of that statement of Obligations.lean (operands that no hypothesis names are left out). `test_…`: single
steps against results the spec gives.
-/

namespace Sys2Proof.Tests
open Sys2Proof Sys2Proof.Machine

-- Each proof here is one evaluation by the kernel: one after another, so that they do not hold a thread each.
set_option Elab.async false
set_option maxRecDepth 4000

/-- Every island lit, SERVICE, the packet transports open. -/
def lit : State :=
  { State.reset with
    pwr := (List.range 22).map (fun i => (i, { IslandPwr.init with st := .lit })) ++ [(32, gloveOn), (33, gloveOn)]
    mode := { ModeState.init with mode := .service, romDone := true }
    aon := { AonState.init with resetPin := false, xtal32 := true } }

/-- A power unit with its record changed. -/
def pwr (u : Nat) (f : IslandPwr → IslandPwr) (s : State) : State := s.setPw u (f (s.pw u))

/-- A unit that wakes, in a phase. -/
def wakes (u : Nat) (p : Phase) (s : State) : State := pwr u (fun x => { x with st := .waking, phase := p }) s

/-- The mode, the record of the mode changed. -/
def moded (m : Mode) (s : State) : State := { s with mode := { s.mode with mode := m } }

/-- A request of the mailbox, its tag 0x10. -/
def req (island op : Nat) (params : List Byte) : Request := ⟨.mailbox, 0x10, 0, island, op, 0x10, 0, params, 0, 0, [], 0⟩

/-- The request outstanding and dispatched. -/
def owing (r : Request) (s : State) : State := { s with cmd := { s.cmd with out := s.cmd.out ++ [⟨r, true⟩] } }

/-- What an internal request of Cudom firmware begins with. -/
def internal (island : Nat) (params : List Byte) : CmdSource := .internal island 0x10 0 params
def begun (s : State) (src : CmdSource) (o : Opc) : State := (s.begin src o).1
def taken (s : State) (src : CmdSource) (o : Opc) : Request := (s.begin src o).2.getD (req 0 0 [])

/-- A renewal, and a state in which one runs at a step. -/
def renewal0 : Renewal :=
  { part := 0, req := none, saved := [], hmac := none, cal := none, muted := 0, holds := 0, cores := 0, wasFailed := false
    waitSteer := false }
def renewing (i step : Nat) (r : Renewal) (s : State) : State := (s.setRen i (some r)).setStep i step

/-- An event of a source. -/
def event (src sev : Nat) (n : Ev) : Event :=
  { sec := 0, ns := 0, frac := 0, src := src, seq := 0, status := 0, sev := sev, flags := 0, name := n, detail := [] }

/-- Register fields set, one after another. -/
def put (l : List (Nat × Fld × Nat)) (s : State) : State := l.foldl (fun s x => s.setFld x.1 x.2.1 x.2.2) s

/-- Bytes in the packet store from an offset on, and nothing else. -/
def stored (off : Nat) (bs : List Byte) (s : State) : State :=
  { s with pst := (List.range bs.length).map (fun k => (off + k, some (bs.getD k 0))) }

/-- A frame in the receive FIFO of a source. -/
def received (src : Nat) (f : RxFrame) (s : State) : State := { s with rxFifo := [(src, [f])] }

/-- The time since power-on. -/
def later (n : Nat) (s : State) : State := { s with elapsed := n }

theorem witness_IdleStepIsOneTimeTick_1 :
    ∃ (s : State), s.pending = [] :=
  ⟨lit, by decide +kernel⟩

theorem witness_EveryStepKeepsCanonicalStores_1 :
    ∃ (s : State) (t : State), s.canonical = true ∧ step s = .next t :=
  ⟨lit, _, by decide +kernel, rfl⟩

theorem witness_FusesOnlyEverBurnUpward_1 :
    ∃ (s : State) (t : State), step s = .next t :=
  ⟨lit, _, rfl⟩

theorem witness_AccessCodesGovernEveryField_1 :
    ∃ (id : Nat) (d : RegDesc) (f : _), f ∈ d.fields ∧ id < 22 ∧ d ∈ islandRegs id ++ commonRegs :=
  ⟨21, (islandRegs 21)[0], (islandRegs 21)[0].fields[0], List.getElem_mem _, by decide +kernel, List.mem_append_left _
    (List.getElem_mem _)⟩

theorem witness_AccessCodesGovernEveryField_2 :
    ∃ (id : Nat) (d : RegDesc) (k : _), id < 22 ∧ d ∈ islandRegs id ++ commonRegs ∧ (∀ f ∈ d.fields, k < f.lo ∨ f.hi < k) :=
  ⟨21, (islandRegs 21)[0], 30, by
    refine ⟨?_, List.mem_append_left _ (List.getElem_mem _), ?_⟩ <;> decide +kernel⟩

theorem witness_RegisterWritesFollowTheAccessRules_1 :
    ∃ (a : Fin 0x10000000000), inWindows a = true ∧ 22 ≤ islandOf a :=
  ⟨0x106000000, by decide +kernel⟩

theorem witness_RegisterWritesFollowTheAccessRules_2 :
    ∃ (who : Requester) (a : Fin 0x10000000000) (bs : List Byte) (s : State), inWindows a = true ∧ islandOf a < 22 ∧
    s.answers who (islandOf a) = true ∧ inMailbox a = false ∧ (bs.length ≠ 4 ∨ a.val % 4 ≠ 0) :=
  ⟨.core 3, 0xF0000002, [0, 0, 0, 0], lit, by decide +kernel⟩

theorem witness_RegisterWritesFollowTheAccessRules_3 :
    ∃ (who : Requester) (a : Fin 0x10000000000) (bs : List Byte) (s : State), inWindows a = true ∧ islandOf a < 22 ∧
    s.answers who (islandOf a) = true ∧ inMailbox a = false ∧ bs.length = 4 ∧ a.val % 4 = 0 ∧ (findReg a).all (fun d =>
    !mayWrite d.wr who) = true :=
  ⟨.core 3, 0xF0fffff8, [0, 0, 0, 0], lit, by decide +kernel⟩

theorem witness_RegisterWritesFollowTheAccessRules_4 :
    ∃ (a : Fin 0x10000000000) (bs : List Byte), ((a.val < 0x80000000 ∨ (0x82000000 ≤ a.val ∧ a.val < 0xF0000000) ∨
    (0x110000000 ≤ a.val ∧ a.val < 0x1000000000) ∨ 0x1400000000 ≤ a.val)) ∧ bs ≠ [] :=
  ⟨0x7fffffff, [1], by decide +kernel⟩

theorem witness_RegisterWritesFollowTheAccessRules_5 :
    ∃ (who : Requester) (a : Fin 0x10000000000) (bs : List Byte) (d : RegDesc) (s : State), inWindows a = true ∧ islandOf a =
    0 ∧ s.answers who 0 = true ∧ bs.length = 4 ∧ a.val % 4 = 0 ∧ findReg a = some d ∧ mayWrite d.wr who = true ∧ a.val ≠
    A.aonVigilStatus ∧ a.val ≠ A.aonWakeStatus :=
  ⟨.glove 0, ⟨A.aonWakeEn, by decide⟩, [1, 0, 0, 0], (findReg A.aonWakeEn).get (by decide +kernel), lit, by
    refine ⟨?_, ?_, ?_, rfl, rfl, by simp, ?_, by decide, by decide⟩ <;> decide +kernel⟩

theorem witness_RegisterWritesFollowTheAccessRules_6 :
    ∃ (who : Requester) (i : Fin 22) (s : State), (∀ c, who ≠ .dma c) ∧ s.answers who i = true :=
  ⟨.core 0, 2, lit, by decide +kernel⟩

theorem witness_ResetTakesTheDeviceThroughOff_1 :
    ∃ (s : State), s.mode.mode = .off ∧ ((∀ i < 34, s.pw i = IslandPwr.init ∧ s.renStep i = 0)) :=
  ⟨State.reset, by decide +kernel⟩

theorem witness_ResetTakesTheDeviceThroughOff_2 :
    ∃ (s : State), s.mode.offReset = true :=
  ⟨{ lit with mode := { lit.mode with offReset := true } }, by decide +kernel⟩

theorem witness_WakePhasesFollowTheirReadySignals_1 :
    ∃ (u : Fin 34) (bad : List (Fin 4096)) (ph : Phase) (s : State), (s.pw u).st = .waking ∧ ((u.val = 10 ∧ (s.pw u).phase =
    .memory → bad = [])) ∧ (s.pw u).phase ≠ .restore ∧ nextPhase u (s.pw u).renewal (s.pw u).phase = some ph :=
  ⟨10, [], .logic, wakes 10 .memory lit, by decide +kernel⟩

theorem witness_WakePhasesFollowTheirReadySignals_2 :
    ∃ (s : State), (s.pw 10).st = .waking ∧ (s.pw 10).phase = .memory ∧ (s.pw 10).renewal = false :=
  ⟨wakes 10 .memory lit, by decide +kernel⟩

theorem witness_WakePhasesFollowTheirReadySignals_3 :
    ∃ (u : Fin 34) (s : State), (s.pw u).st = .waking ∧ (s.pw u).phase = .logic ∧ (s.pw u).renewal = false ∧ s.mode.toLight =
    [] ∧ s.mode.toDark = [] :=
  ⟨18, wakes 18 .logic lit, by decide +kernel⟩

theorem witness_WakePhasesFollowTheirReadySignals_4 :
    ∃ (i : Fin 22) (s : State), 2 ≤ i.val ∧ i.val ≠ 11 ∧ i.val ≠ 12 ∧ (s.pw i).st = .waking ∧ (s.pw i).phase = .logic ∧ (s.pw
    i).renewal = true :=
  ⟨2, pwr 2 (fun x => { x with renewal := true }) (wakes 2 .logic lit), by decide +kernel⟩

theorem witness_WakeTimeoutsRetryOnceThenFail_1 :
    ∃ (u : Fin 34) (s : State), (s.pw u).st = .waking ∧ (s.pw u).phase ≠ .restore ∧ (s.pw u).retried = false :=
  ⟨10, wakes 10 .logic lit, by decide +kernel⟩

theorem witness_WakeTimeoutsRetryOnceThenFail_2 :
    ∃ (u : Fin 34) (s : State), 2 ≤ u.val ∧ u.val ≤ 10 ∧ (s.pw u).st = .waking ∧ (s.pw u).retried = true ∧ (s.pw u).renewal =
    false ∧ s.mode.mode = .service ∧ s.mode.pending = none :=
  ⟨2, pwr 2 (fun x => { x with retried := true }) (wakes 2 .logic lit), by decide +kernel⟩

theorem witness_DarkIslandsAreAnsweredByAon_1 :
    ∃ (i : Fin 34) (s : State), 6 ≤ i.val ∧ i.val ≤ 9 ∧ (s.pw i).goingDark = true ∧ s.renStep i ≠ 5 ∧ s.mode.pending = none ∧
    s.mode.toLight = [] ∧ s.mode.toDark = [] :=
  ⟨6, pwr 6 (fun x => { x with goingDark := true }) lit, by decide +kernel⟩

theorem witness_DarkIslandsAreAnsweredByAon_2 :
    ∃ (i : Fin 34) (s : State), 6 ≤ i.val ∧ i.val ≤ 9 ∧ (s.pw i).goingDark = true ∧ s.renStep i = 5 :=
  ⟨9, (pwr 9 (fun x => { x with goingDark := true }) lit).setStep 9 5, by decide +kernel⟩

theorem witness_DarkIslandsAreAnsweredByAon_3 :
    ∃ (who : Requester) (i : Fin 22) (s : State), 1 ≤ i.val ∧ s.answers who i = false ∧ (∀ c, who ≠ .dma c) :=
  ⟨.core 23, 1, pwr 1 (fun x => { x with st := .dark }) lit, by decide +kernel⟩

theorem witness_DarkIslandsAreAnsweredByAon_4 :
    ∃ (c : Fin 64) (i : Fin 22) (s : State), 1 ≤ i.val ∧ s.answers (.dma c) i = false ∧ (s.bit (A.dmaChCtl c)
    F.dmaChCtl_enable) = true ∧ s.isLit 9 = true :=
  ⟨63, 21, (pwr 21 (fun x => { x with st := .dark }) lit).setFld (A.dmaChCtl 63) F.dmaChCtl_enable 1, by decide +kernel⟩

theorem witness_WakeEventsActLatchOrAreLost_1 :
    ∃ (src : Fin 10) (s : State), s.mode.mode ≠ .off ∧ sleeps s.mode.mode = false ∧ s.wakeEnabled src = true ∧ (src.val = 5 ∨
    src.val = 6 ∨ src.val = 9 → s.heldSources.testBit src = true) ∧ s.aon.window = false ∧ s.aon.entering = false ∧
    (s.mode.pending.any (fun t => sleeps t.target)) = false :=
  ⟨1, put [(A.aonWakeEn, F.aonWakeEn_enable, 0x3ff)] lit, by decide +kernel⟩

theorem witness_WakeEventsActLatchOrAreLost_2 :
    ∃ (src : Fin 10) (s : State), s.mode.mode ≠ .off ∧ s.wakeEnabled src = true ∧ (src.val = 5 ∨ src.val = 6 ∨ src.val = 9 →
    s.heldSources.testBit src = true) ∧ s.aon.window = false ∧ s.aon.entering = true :=
  ⟨1, { put [(A.aonWakeEn, F.aonWakeEn_enable, 0x3ff)] lit with aon := { lit.aon with entering := true } }, by decide +kernel⟩

theorem witness_WakeEventsActLatchOrAreLost_3 :
    ∃ (s : State), s.aon.window = true :=
  ⟨{ lit with aon := { lit.aon with window := true } }, by decide +kernel⟩

theorem witness_WakeEventsActLatchOrAreLost_4 :
    ∃ (src : Fin 10) (s : State), s.mode.mode = .vigil ∧ s.mode.pending = none ∧ 1 ≤ src.val ∧ s.wakeEnabled src = true ∧
    (src.val = 5 ∨ src.val = 6 ∨ src.val = 9 → s.heldSources.testBit src = true) ∧ s.aon.window = false ∧ s.aon.entering =
    false :=
  ⟨8,
    { (moded .vigil lit).setFld A.aonWakeEn F.aonWakeEn_enable 0x3ff with cmd := { CmdState.init with hostReady := true } },
    by decide +kernel⟩

theorem witness_WakeEventsActLatchOrAreLost_5 :
    ∃ (s : State), s.aon.window = true ∧ s.mode.pending.isSome = true :=
  ⟨{ lit with aon := { lit.aon with window := true }, mode := { lit.mode with pending := some ⟨.vigil, .vigil, 0, none, 0, false, none⟩ } },
    by decide +kernel⟩

/-- VIGIL, a cycle of its sampling open, its radio on the programme. -/
def vigil : State :=
  let s := moded .vigil lit
  { s with aon := { s.aon with vgPeriod := 10, vgRadio := 1, vgListen := 1, vgSampling := true } }

theorem witness_VigilCyclesSampleAndCompare_1 :
    ∃ (s : State), s.sampling = true ∧ s.aon.vgPoint + 1000000 * s.aon.vgPeriod ≤ s.elapsed :=
  ⟨later 10000000 vigil, by decide +kernel⟩

theorem witness_VigilCyclesSampleAndCompare_2 :
    ∃ (s : State), s.sampling = true ∧ s.aon.vgSampling = true ∧ s.aon.vgPoint + 280517 ≤ s.elapsed :=
  ⟨later 280517 vigil, by decide +kernel⟩

theorem witness_VigilCyclesSampleAndCompare_3 :
    ∃ (s : State), s.sampling = true ∧ s.mode.mode = .vigil ∧ 1 ≤ s.aon.vgRadio ∧ s.aon.vgListening = false ∧ (s.pw (16 +
    s.aon.vgRadio)).st = .dark ∧ s.isFitted (16 + s.aon.vgRadio) = true ∧ s.aon.vgBoundary ≤ s.nowNs + s.halfListen + 1000000
    ∧ s.nowNs < s.aon.vgBoundary + s.halfListen :=
  ⟨pwr 17 (fun x => { x with st := .dark }) vigil, by decide +kernel⟩

theorem witness_VigilCyclesSampleAndCompare_4 :
    ∃ (hsig : Nat) (stamp : Nat) (s : State), s.listening = true ∧ s.onAnchor = true ∧ s.bit A.aonVigilCmp
    F.aonVigilCmp_time_en = false ∧ hsigField hsig 47 40 = hsigCrc hsig ∧ hsigVersion hsig = 0 ∧ hsigType hsig = 0 ∧ 65536 *
    s.aon.vgBoundary ≤ stamp + 65536 * s.halfListen ∧ stamp ≤ 65536 * s.aon.vgBoundary + 65536 * s.halfListen :=
  ⟨hsigBuild 0 0 0 1 0 40 false, 65536 * 62500,
    { put [(A.radSynStatus 0, F.radSynStatus_lock_state0, 2)] (pwr 17 (fun x => { x with st := .reduced }) vigil) with aon := { vigil.aon with vgListening := true } },
    by decide +kernel⟩

theorem witness_VigilCyclesSampleAndCompare_5 :
    ∃ (s : State), s.listening = true ∧ s.aon.vgBoundary + s.halfListen ≤ s.nowNs :=
  ⟨{ pwr 17 (fun x => { x with st := .reduced }) vigil with aon := { vigil.aon with vgListening := true }, time := { vigil.time with clock := 62500 * fracUnits } },
    by decide +kernel⟩

theorem witness_VigilCyclesSampleAndCompare_6 :
    ∃ (who : Requester), isCudom who = true :=
  ⟨.glove 1, by decide +kernel⟩

theorem witness_VigilCyclesSampleAndCompare_7 :
    ∃ (s : State), s.mode.mode = .thrift ∧ s.mode.pending = none ∧ s.isLit 4 = true ∧ s.freeCells < s.fld A.aonThriftCfg
    F.aonThriftCfg_fill_exit :=
  ⟨(moded .thrift lit).setFree 0x17fff, by decide +kernel⟩

theorem witness_RenewalStepsRunInOrder_1 :
    ∃ (src : CmdSource) (s : State) (s1 : State) (r : Request), s.begin src .renew = (s1, some r) ∧ s1.isFitted r.island =
    true ∧ 1 ≤ r.island ∧ r.island < 22 ∧ (r.p 1 1 = 1 → (s1.stagedSlot r.island).isSome = true) ∧ s1.renewBusy r.island (r.p
    0 1) = false :=
  ⟨internal 21 [0, 0, 0, 0], lit, begun lit (internal 21 [0, 0, 0, 0]) .renew, taken lit (internal 21 [0, 0, 0, 0]) .renew,
    by decide +kernel⟩

theorem witness_RenewalStepsRunInOrder_2 :
    ∃ (i : Fin 22) (r : Renewal) (s : State), s.ren i = some r ∧ s.renStep i = 1 ∧ r.waitSteer = false ∧ s.absBegun i = true
    :=
  ⟨12, renewal0, renewing 12 1 renewal0 lit, by decide +kernel⟩

theorem witness_RenewalStepsRunInOrder_3 :
    ∃ (i : Fin 22) (r : Renewal) (s : State), s.ren i = some r ∧ s.renStep i = 1 :=
  ⟨21, renewal0, renewing 21 1 renewal0 lit, by decide +kernel⟩

theorem witness_RenewalStepsRunInOrder_4 :
    ∃ (i : Fin 22) (s : State), (s.ren i).isSome = true ∧ s.renStep i = 2 ∧ (i.val = 1 ∨ s.islandIdle i = true) :=
  ⟨6, renewing 6 2 renewal0 lit, by decide +kernel⟩

theorem witness_RenewalStepsRunInOrder_5 :
    ∃ (i : Fin 22) (s : State), 2 ≤ i.val ∧ (s.ren i).isSome = true ∧ s.renStep i = 2 :=
  ⟨21, renewing 21 2 renewal0 lit, by decide +kernel⟩

theorem witness_RenewalStepsRunInOrder_6 :
    ∃ (i : Fin 22) (r : Renewal) (s : State), s.ren i = some r ∧ s.renStep i = 3 :=
  ⟨17, renewal0, renewing 17 3 renewal0 lit, by decide +kernel⟩

theorem witness_RenewalStepsRunInOrder_7 :
    ∃ (i : Fin 22) (s : State), (s.ren i).isSome = true ∧ s.renStep i = 4 :=
  ⟨1, renewing 1 4 renewal0 lit, by decide +kernel⟩

theorem witness_RenewalStepsRunInOrder_8 :
    ∃ (i : Fin 22) (r : Renewal) (s : State), s.ren i = some r ∧ s.renStep i = 6 :=
  ⟨10, renewal0, renewing 10 6 renewal0 lit, by decide +kernel⟩

theorem witness_RenewalsRejoinAreAbandonedOrFail_1 :
    ∃ (i : Fin 22) (gains : List (Nat × Int)) (bands : List (Nat × Nat)) (r : Renewal) (q : Request) (s : State), s.ren i =
    some r ∧ r.req = some q ∧ s.isOut q = true ∧ s.renStep i = 8 ∧ (((i.val ≠ 11 ∧ i.val ≠ 12) ∨ (s.held (i.val - 11) = false
    ∧ s.mirror = 0))) ∧ (17 ≤ i.val → i.val ≤ 19 → renewMeasured (i.val - 17) (s.renewSets (i.val - 17) r) gains bands =
    true) :=
  ⟨11, [], [], { renewal0 with req := some (req 11 0x10 []) }, req 11 0x10 [], owing (req 11 0x10 []) (moded .renew (renewing
    11 8 { renewal0 with req := some (req 11 0x10 []) } lit)), by decide +kernel⟩

theorem witness_RenewalsRejoinAreAbandonedOrFail_2 :
    ∃ (i : Fin 22) (r : Renewal) (q : Request) (s : State), 2 ≤ i.val ∧ s.ren i = some r ∧ r.req = some q ∧ s.isOut q = true
    ∧ s.renStep i = 3 :=
  ⟨2, { renewal0 with req := some (req 2 0x10 []) }, req 2 0x10 [], owing (req 2 0x10 []) (moded .renew (renewing 2 3
    { renewal0 with req := some (req 2 0x10 []) } lit)), by decide +kernel⟩

theorem witness_RenewalsRejoinAreAbandonedOrFail_3 :
    ∃ (i : Fin 22) (r : Renewal) (q : Request) (s : State), 2 ≤ i.val ∧ s.ren i = some r ∧ r.req = some q ∧ s.isOut q = true
    ∧ s.renStep i = 6 ∧ (s.mode.mode = .renew ∨ s.mode.mode = .degraded) ∧ s.mode.pending = none ∧ i.val ∉ s.mode.toLight :=
  ⟨21, { renewal0 with req := some (req 21 0x10 []) }, req 21 0x10 [], owing (req 21 0x10 []) (moded .renew (renewing 21 6
    { renewal0 with req := some (req 21 0x10 []) } lit)), by decide +kernel⟩

theorem witness_RenewalsRejoinAreAbandonedOrFail_4 :
    ∃ (i : Fin 22) (r : Renewal) (q : Request) (s : State), 2 ≤ i.val ∧ s.ren i = some r ∧ r.req = some q ∧ s.isOut q = true
    ∧ s.renStep i = 8 ∧ (s.mode.mode = .renew ∨ s.mode.mode = .degraded) ∧ s.mode.pending = none ∧ i.val ∉ s.mode.toLight :=
  ⟨17, { renewal0 with req := some (req 17 0x10 []) }, req 17 0x10 [], owing (req 17 0x10 []) (moded .renew (renewing 17 8
    { renewal0 with req := some (req 17 0x10 []) } lit)), by decide +kernel⟩

/-- Both gloves run, the left the primary. -/
def gloves : State := (lit.setRole 0 0).setRole 1 1

theorem witness_GlovesAndSensorsAreWatched_1 :
    ∃ (g : Fin 2) (w : Word) (s : State), s.isLit 1 = true ∧ s.role g < 2 ∧ s.cdm.halted = false ∧ s.cdm.held = false ∧ (if
    g.val = 0 then F.cdmGloveKick_left else F.cdmGloveKick_right).get w = 1 :=
  ⟨1, 2, gloves, by decide +kernel⟩

theorem witness_GlovesAndSensorsAreWatched_2 :
    ∃ (who : Requester) (s : State), s.isLit 1 = true ∧ (∀ g, who ≠ .glove g) :=
  ⟨.core 0, gloves, by decide +kernel⟩

theorem witness_GlovesAndSensorsAreWatched_3 :
    ∃ (g : Fin 2) (s : State), s.isLit 1 = true ∧ s.mode.romDone = true ∧ s.cdm.halted = false ∧ s.cdm.held = false ∧ s.role
    g = 0 ∧ s.role (1 - g.val) = 1 ∧ s.lastKick g + s.kickTimeout ≤ s.elapsed ∧ s.mode.mode = .service ∧ s.mode.pending =
    none :=
  ⟨0, later 100000000 gloves, by decide +kernel⟩

theorem witness_GlovesAndSensorsAreWatched_4 :
    ∃ (s : State), s.isLit 1 = true ∧ s.mode.romDone = true ∧ s.cdm.halted = false ∧ s.cdm.held = false ∧ ((s.role 0 = 3 ∧
    s.role 1 = 3 ∨ max s.cdm.kickL s.cdm.kickR + 100000000 ≤ s.elapsed)) ∧ s.mode.mode = .service :=
  ⟨later 100000000 gloves, by decide +kernel⟩

theorem witness_GlovesAndSensorsAreWatched_5 :
    ∃ (s : State), s.isLit 1 = true ∧ s.mode.romDone = true ∧ s.cdm.halted = false ∧ s.cdm.held = false ∧ ((s.role 0 = 3 ∧
    s.role 1 = 3 ∨ max s.cdm.kickL s.cdm.kickR + 100000000 ≤ s.elapsed)) ∧ s.mode.mode = .test :=
  ⟨moded .test (later 100000000 gloves), by decide +kernel⟩

theorem witness_GlovesAndSensorsAreWatched_6 :
    ∃ (die : List Int) (mv : List Nat) (s : State), s.mode.mode ≠ .off ∧ die.length = 12 ∧ mv.length = 14 ∧ s.cdm.die.length
    = 12 ∧ s.cdm.railMv.length = 14 ∧ s.cdm.sampledAt + 1000000 ≤ s.elapsed :=
  ⟨List.replicate 12 1600, List.replicate 14 5000, later 1000000 gloves, by decide +kernel⟩

/-- A suppression record of a second that is over. -/
def suppressed : Suppress :=
  { name := .tempWarn, src := 1, sec := 5, taken := 16, count := 1, firstSeq := 0, last := event 1 2 .tempWarn, tier2 := true }

theorem witness_TheLogTakesSuppressesAndWrites_1 :
    ∃ (e : Event) (rest : List Event) (s : State), s.isLit 1 = true ∧ s.log.events = e :: rest ∧ (s.log.supp.find? (·.for
    e)).all (fun x => decide (x.taken < 16)) = true :=
  ⟨event 1 2 .tempWarn, [], { gloves with log := { gloves.log with events := [event 1 2 .tempWarn] } }, by decide +kernel⟩

theorem witness_TheLogTakesSuppressesAndWrites_2 :
    ∃ (e : Event) (rest : List Event) (x : Suppress) (s : State), s.isLit 1 = true ∧ s.log.events = e :: rest ∧
    s.log.supp.find? (·.for e) = some x ∧ 16 ≤ x.taken :=
  ⟨{ event 1 2 .tempWarn with sec := 5 }, [], suppressed,
    { gloves with log := { gloves.log with events := [{ event 1 2 .tempWarn with sec := 5 }], supp := [suppressed] } },
    by decide +kernel⟩

theorem witness_TheLogTakesSuppressesAndWrites_3 :
    ∃ (x : Suppress) (s : State), s.isLit 1 = true ∧ (s.log.supp.filter (fun y => !(s.secondOver y && y.count == 0))).find?
    s.secondOver = some x :=
  ⟨suppressed, { gloves with log := { gloves.log with supp := [suppressed] } }, by decide +kernel⟩

theorem witness_TheLogTakesSuppressesAndWrites_4 :
    ∃ (s : State), s.glovesRun = true ∧ s.pageDue = true ∧ s.flash.tier2.length + s.log.staging.length ≤ 262144 :=
  ⟨later 60000000000 { gloves with log := { gloves.log with staging := [event 1 2 .tempWarn] } }, by decide +kernel⟩

theorem witness_TheLogTakesSuppressesAndWrites_5 :
    ∃ (r : Request) (rest : List Request) (s : State), s.glovesRun = true ∧ s.cdm.jobs.logRead = r :: rest ∧ s.isOut r = true
    :=
  ⟨req 1 0x10 [], [], owing (req 1 0x10 [])
    { gloves with cdm := { gloves.cdm with jobs := { gloves.cdm.jobs with logRead := [req 1 0x10 []] } } }, by decide +kernel⟩

theorem witness_RepliesCarryHeaderStatusAndEffect_1 :
    ∃ (r : Request) (ps : List Byte), r.who = .host ∧ ps.length ≤ 4076 :=
  ⟨{ req 1 0x11 [] with who := .host }, [], by decide +kernel⟩

theorem witness_RepliesCarryHeaderStatusAndEffect_2 :
    ∃ (r : Request) (ps : List Byte), r.who = .mailbox ∧ ps.length ≤ 4076 :=
  ⟨req 1 0x11 [], [], by decide +kernel⟩

theorem witness_QueriesAnswerAndChangeNothing_1 :
    ∃ (src : CmdSource) (s : State) (s1 : State) (r : Request), s.begin src .query = (s1, some r) :=
  ⟨internal 21 [], lit, begun lit (internal 21 []) .query, taken lit (internal 21 []) .query, by decide +kernel⟩

theorem witness_QueriesAnswerAndChangeNothing_2 :
    ∃ (src : CmdSource) (s : State) (s1 : State) (r : Request), s.begin src .countersRead = (s1, some r) :=
  ⟨internal 2 [0, 0, 0, 1], lit, begun lit (internal 2 [0, 0, 0, 1]) .countersRead, taken lit (internal 2 [0, 0, 0, 1])
    .countersRead, by decide +kernel⟩

theorem witness_QueriesAnswerAndChangeNothing_3 :
    ∃ (src : CmdSource) (s : State) (s1 : State) (r : Request), s.begin src .modeGet = (s1, some r) :=
  ⟨internal 1 [], lit, begun lit (internal 1 []) .modeGet, taken lit (internal 1 []) .modeGet, by decide +kernel⟩

theorem witness_QueriesAnswerAndChangeNothing_4 :
    ∃ (src : CmdSource) (s : State) (s1 : State) (r : Request), s.begin src .sensorRead = (s1, some r) :=
  ⟨internal 1 [4, 0, 0, 0], lit, begun lit (internal 1 [4, 0, 0, 0]) .sensorRead, taken lit (internal 1 [4, 0, 0, 0])
    .sensorRead, by decide +kernel⟩

theorem witness_QueriesAnswerAndChangeNothing_5 :
    ∃ (src : CmdSource) (s : State) (s1 : State) (r : Request), s.begin src .timeGet = (s1, some r) :=
  ⟨internal 2 [], lit, begun lit (internal 2 []) .timeGet, taken lit (internal 2 []) .timeGet, by decide +kernel⟩

theorem witness_QueriesAnswerAndChangeNothing_6 :
    ∃ (src : CmdSource) (s : State) (s1 : State) (r : Request), s.begin src .keyState = (s1, some r) :=
  ⟨internal 10 [0xf, 0xff, 0, 0], lit, begun lit (internal 10 [0xf, 0xff, 0, 0]) .keyState, taken lit (internal 10 [0xf,
    0xff, 0, 0]) .keyState, by decide +kernel⟩

theorem witness_QueriesAnswerAndChangeNothing_7 :
    ∃ (src : CmdSource) (s : State) (s1 : State) (r : Request), s.begin src .calStatus = (s1, some r) :=
  ⟨internal 19 [], lit, begun lit (internal 19 []) .calStatus, taken lit (internal 19 []) .calStatus, by decide +kernel⟩

theorem witness_SettingCommandsSetWhatTheyName_1 :
    ∃ (src : CmdSource) (s : State) (s1 : State) (r : Request), s.begin src .wakeConfig = (s1, some r) :=
  ⟨internal 0 [0, 0, 3, 0xff, 0, 0, 0, 0], lit, begun lit (internal 0 [0, 0, 3, 0xff, 0, 0, 0, 0]) .wakeConfig, taken lit
    (internal 0 [0, 0, 3, 0xff, 0, 0, 0, 0]) .wakeConfig, by decide +kernel⟩

theorem witness_SettingCommandsSetWhatTheyName_2 :
    ∃ (src : CmdSource) (s : State) (s1 : State) (r : Request), s.begin src .vigilProgram = (s1, some r) :=
  ⟨internal 0 [0, 0, 0, 100, 2, 0, 0, 64, 0xf, 0xff, 0, 0, 1, 1, 0, 0], lit, begun lit (internal 0 [0, 0, 0, 100, 2, 0, 0,
    64, 0xf, 0xff, 0, 0, 1, 1, 0, 0]) .vigilProgram, taken lit (internal 0 [0, 0, 0, 100, 2, 0, 0, 64, 0xf, 0xff, 0, 0, 1, 1,
    0, 0]) .vigilProgram, by decide +kernel⟩

theorem witness_SettingCommandsSetWhatTheyName_3 :
    ∃ (src : CmdSource) (s : State) (s1 : State) (r : Request), s.begin src .faultClear = (s1, some r) ∧ s1.fld
    A.cdmFailedIslands F.cdmFailedIslands_failed = 0 ∧ s1.gloveDown = false :=
  ⟨internal 0 [], gloves, begun gloves (internal 0 []) .faultClear, taken gloves (internal 0 []) .faultClear,
    by decide +kernel⟩

theorem witness_SettingCommandsSetWhatTheyName_4 :
    ∃ (src : CmdSource) (s : State) (s1 : State) (r : Request), s.begin src .servoMode = (s1, some r) ∧ (r.p 0 1 = 0 ∨ r.p 0
    1 = 2) :=
  ⟨internal 2 [2, 0, 0, 0, 0x20, 0, 0, 0], moded .boot lit, begun (moded .boot lit) (internal 2 [2, 0, 0, 0, 0x20, 0, 0, 0])
    .servoMode, taken (moded .boot lit) (internal 2 [2, 0, 0, 0, 0x20, 0, 0, 0]) .servoMode, by decide +kernel⟩

theorem witness_SettingCommandsSetWhatTheyName_5 :
    ∃ (src : CmdSource) (s : State) (s1 : State) (r : Request), s.begin src .servoMode = (s1, some r) ∧ r.p 0 1 = 1 ∧
    s1.isLit 2 = true :=
  ⟨internal 2 [1, 0, 0, 0, 0, 0, 0, 0], lit, begun lit (internal 2 [1, 0, 0, 0, 0, 0, 0, 0]) .servoMode, taken lit (internal
    2 [1, 0, 0, 0, 0, 0, 0, 0]) .servoMode, by decide +kernel⟩

theorem witness_SettingCommandsSetWhatTheyName_6 :
    ∃ (src : CmdSource) (s : State) (s1 : State) (r : Request), s.begin src .timeSet = (s1, some r) ∧ s1.fld A.timeCtl
    F.timeCtl_servo_mode ≠ 1 ∧ r.p 6 4 < nsPerSec :=
  ⟨internal 2 [0, 0, 0, 0, 0, 1, 0x3b, 0x9a, 0xc9, 0xff, 0, 0], lit, begun lit (internal 2 [0, 0, 0, 0, 0, 1, 0x3b, 0x9a,
    0xc9, 0xff, 0, 0]) .timeSet, taken lit (internal 2 [0, 0, 0, 0, 0, 1, 0x3b, 0x9a, 0xc9, 0xff, 0, 0]) .timeSet,
    by decide +kernel⟩

theorem witness_SettingCommandsSetWhatTheyName_7 :
    ∃ (src : CmdSource) (s : State) (s1 : State) (r : Request), s.begin src .imageActivate = (s1, some r) ∧ s1.flash.valid
    (r.p 0 1) = true :=
  ⟨internal 1 [1, 0, 0, 0], { lit with flash := { lit.flash with validB := true } }, begun
    ({ lit with flash := { lit.flash with validB := true } }) (internal 1 [1, 0, 0, 0]) .imageActivate, taken
    ({ lit with flash := { lit.flash with validB := true } }) (internal 1 [1, 0, 0, 0]) .imageActivate, by decide +kernel⟩

theorem witness_SettingCommandsSetWhatTheyName_8 :
    ∃ (src : CmdSource) (s : State) (s1 : State) (r : Request), s.begin src .calInvalidate = (s1, some r) :=
  ⟨internal 17 [], lit, begun lit (internal 17 []) .calInvalidate, taken lit (internal 17 []) .calInvalidate,
    by decide +kernel⟩

theorem witness_PendingCommandsLeaveTheirWorkWaiting_1 :
    ∃ (src : CmdSource) (s : State) (s1 : State) (r : Request), s.begin src .imageStage = (s1, some r) ∧ r.p 0 1 < 2 ∧
    s1.cdm.slotBooted ≠ r.p 0 1 + 1 ∧ s1.loadsFrom (r.p 0 1) = false :=
  ⟨internal 1 [1, 0, 0, 0, 0, 0xff, 0xff, 0xfc, 1, 2, 3, 4], lit, begun lit (internal 1 [1, 0, 0, 0, 0, 0xff, 0xff, 0xfc, 1,
    2, 3, 4]) .imageStage, taken lit (internal 1 [1, 0, 0, 0, 0, 0xff, 0xff, 0xfc, 1, 2, 3, 4]) .imageStage,
    by decide +kernel⟩

theorem witness_PendingCommandsLeaveTheirWorkWaiting_2 :
    ∃ (src : CmdSource) (s : State) (s1 : State) (r : Request), s.begin src .imageVerify = (s1, some r) :=
  ⟨internal 1 [1, 0, 0, 0], lit, begun lit (internal 1 [1, 0, 0, 0]) .imageVerify, taken lit (internal 1 [1, 0, 0, 0])
    .imageVerify, by decide +kernel⟩

theorem witness_PendingCommandsLeaveTheirWorkWaiting_3 :
    ∃ (src : CmdSource) (s : State) (s1 : State) (r : Request), s.begin src .logRead = (s1, some r) :=
  ⟨internal 1 [2, 0, 0, 0, 0, 0, 0, 0], lit, begun lit (internal 1 [2, 0, 0, 0, 0, 0, 0, 0]) .logRead, taken lit (internal 1
    [2, 0, 0, 0, 0, 0, 0, 0]) .logRead, by decide +kernel⟩

theorem witness_PendingCommandsLeaveTheirWorkWaiting_4 :
    ∃ (src : CmdSource) (s : State) (s1 : State) (r : Request), s.begin src .provisionCommit = (s1, some r) :=
  ⟨internal 1 [0, 0, 0, 1, 0xf, 0xff, 0, 0], moded .provision lit, begun (moded .provision lit) (internal 1 [0, 0, 0, 1, 0xf,
    0xff, 0, 0]) .provisionCommit, taken (moded .provision lit) (internal 1 [0, 0, 0, 1, 0xf, 0xff, 0, 0]) .provisionCommit,
    by decide +kernel⟩

theorem witness_PendingCommandsLeaveTheirWorkWaiting_5 :
    ∃ (src : CmdSource) (s : State) (s1 : State) (r : Request), s.begin src .calRun = (s1, some r) ∧ (s1.synState (r.island -
    17) 0 ≠ 3 ∨ s1.synState (r.island - 17) 1 ≠ 3) :=
  ⟨internal 17 [0, 15, 63, 0], moded .calibrate lit, begun (moded .calibrate lit) (internal 17 [0, 15, 63, 0]) .calRun, taken
    (moded .calibrate lit) (internal 17 [0, 15, 63, 0]) .calRun, by decide +kernel⟩

theorem witness_PendingCommandsLeaveTheirWorkWaiting_6 :
    ∃ (src : CmdSource) (s : State) (s1 : State) (r : Request), s.begin src .retrain = (s1, some r) ∧ 11 ≤ r.island ∧
    r.island ≤ 12 ∧ s1.isLit (memId (1 - (r.island - 11))) = true :=
  ⟨internal 12 [], lit, begun lit (internal 12 []) .retrain, taken lit (internal 12 []) .retrain, by decide +kernel⟩

theorem witness_PendingCommandsLeaveTheirWorkWaiting_7 :
    ∃ (src : CmdSource) (s : State) (s1 : State) (r : Request), s.begin src .daliSend = (s1, some r) ∧ r.p 0 1 < 2 ∧
    s1.daliFails (r.p 0 1) = false ∧ (s1.dali (r.p 0 1)).busy = none ∧ (s1.dali (r.p 0 1)).queue = [] :=
  ⟨internal 1 [1, 24, 3, 0, 0, 0xff, 0xff, 0xff], lit.setFld (A.cdmDaliCtl 1) F.cdmDaliCtl_enable 1, begun (lit.setFld
    (A.cdmDaliCtl 1) F.cdmDaliCtl_enable 1) (internal 1 [1, 24, 3, 0, 0, 0xff, 0xff, 0xff]) .daliSend, taken (lit.setFld
    (A.cdmDaliCtl 1) F.cdmDaliCtl_enable 1) (internal 1 [1, 24, 3, 0, 0, 0xff, 0xff, 0xff]) .daliSend, by decide +kernel⟩

/-- Both gloves run and Cudom's work in hand is as given, its request outstanding. -/
def working (r : Request) (j : CdmJobs) : State := owing r { gloves with cdm := { gloves.cdm with jobs := j } }

theorem witness_PendingWorkCompletes_1 :
    ∃ (r : Request) (rest : List Request) (s : State), s.glovesRun = true ∧ s.cdm.jobs.stage = r :: rest ∧ s.isOut r = true ∧
    r.p 0 1 < 2 :=
  ⟨req 1 0x20 [1, 0, 0, 0, 0, 0, 0, 8, 7], [], working (req 1 0x20 [1, 0, 0, 0, 0, 0, 0, 8, 7])
    { CdmJobs.init with stage := [req 1 0x20 [1, 0, 0, 0, 0, 0, 0, 8, 7]] }, by decide +kernel⟩

theorem witness_PendingWorkCompletes_2 :
    ∃ (r : Request) (rest : List Request) (s : State), s.glovesRun = true ∧ s.cdm.jobs.stage = r :: rest :=
  ⟨req 1 0x20 [], [], working (req 1 0x20 []) { CdmJobs.init with stage := [req 1 0x20 []] }, by decide +kernel⟩

theorem witness_PendingWorkCompletes_3 :
    ∃ (r : Request) (n : Nat) (rest : List (Request × Nat)) (s : State), s.glovesRun = true ∧ s.cdm.jobs.verify = (r, n) ::
    rest ∧ s.isOut r = true ∧ n < 2 :=
  ⟨req 1 0x21 [0], 0, [], working (req 1 0x21 [0]) { CdmJobs.init with verify := [(req 1 0x21 [0], 0)] }, by decide +kernel⟩

theorem witness_PendingWorkCompletes_4 :
    ∃ (r : Request) (rest : List Request) (s : State), s.glovesRun = true ∧ s.cdm.jobs.provision = r :: rest ∧ s.isOut r =
    true ∧ s.mode.mode = .provision ∧ s.mode.pending = none :=
  ⟨req 1 0x50 [], [], moded .provision (working (req 1 0x50 []) { CdmJobs.init with provision := [req 1 0x50 []] }),
    by decide +kernel⟩

theorem witness_PendingWorkCompletes_5 :
    ∃ (b : Fin 2) (f : DaliFrame) (q : Request) (s : State), (s.dali b).busy = some f ∧ f.req = some q ∧ s.isOut q = true ∧
    (s.dali b).queue = [] :=
  ⟨1, ⟨true, false, true, 5, some (req 1 0x60 []), 0, 0⟩, req 1 0x60 [], owing (req 1 0x60 [])
    { gloves with cdm := { gloves.cdm with dali1 := { DaliBus.init with busy := some ⟨true, false, true, 5, some (req 1 0x60 []), 0, 0⟩ } } },
    by decide +kernel⟩

theorem witness_PendingWorkCompletes_6 :
    ∃ (r : Request) (since : Nat) (rest : List (Request × Nat)) (s : State), s.cdm.jobs.keyWait = (r, since) :: rest ∧ since
    + 1000000 ≤ s.elapsed ∧ s.isOut r = true :=
  ⟨req 10 0x10 [], 0, [], later 1000000 (working (req 10 0x10 []) { CdmJobs.init with keyWait := [(req 10 0x10 [], 0)] }),
    by decide +kernel⟩

/-- A transition under way. -/
def toward (t : Trans) (s : State) : State := { s with mode := { s.mode with pending := some t } }

theorem witness_ModeSetTakesTheTransitionSlot_1 :
    ∃ (src : CmdSource) (s : State) (s1 : State) (r : Request) (m : Mode) (next : _), s.begin src .modeSet = (s1, some r) ∧
    modeOf (r.p 0 1) = some m ∧ s1.mode.pending = none ∧ chainStep s1.mode.mode m = some next ∧ (sleeps m = true →
    s1.aon.xtal32 = true) :=
  ⟨internal 1 [6, 0, 0, 0], lit, begun lit (internal 1 [6, 0, 0, 0]) .modeSet, taken lit (internal 1 [6, 0, 0, 0]) .modeSet,
    .vigil, .thrift, by decide +kernel⟩

theorem witness_ModeSetTakesTheTransitionSlot_2 :
    ∃ (src : CmdSource) (s : State) (s1 : State) (r : Request) (m : Mode), s.begin src .modeSet = (s1, some r) ∧ modeOf (r.p
    0 1) = some m ∧ s1.mode.pending = none ∧ m = s1.mode.mode ∧ m ≠ .off ∧ m ≠ .recovery ∧ m ≠ .degraded :=
  ⟨internal 1 [4, 0, 0, 0], lit, begun lit (internal 1 [4, 0, 0, 0]) .modeSet, taken lit (internal 1 [4, 0, 0, 0]) .modeSet,
    .service, by decide +kernel⟩

theorem witness_ModeSetTakesTheTransitionSlot_3 :
    ∃ (src : CmdSource) (s : State) (s1 : State) (r : Request) (m : Mode), s.begin src .modeSet = (s1, some r) ∧ modeOf (r.p
    0 1) = some m ∧ (s1.mode.pending.isSome = true ∨ chainStep s1.mode.mode m = none) ∧ m ≠ .off ∧ m ≠ .recovery ∧ m ≠
    .degraded :=
  ⟨internal 1 [11, 0, 0, 0], lit, begun lit (internal 1 [11, 0, 0, 0]) .modeSet, taken lit (internal 1 [11, 0, 0, 0])
    .modeSet, .test, by decide +kernel⟩

theorem witness_ModeSetTakesTheTransitionSlot_4 :
    ∃ (src : CmdSource) (s : State) (s1 : State) (r : Request) (m : Mode), s.begin src .modeSet = (s1, some r) ∧ modeOf (r.p
    0 1) = some m ∧ m = .recovery ∧ s1.mode.mode ≠ .off ∧ s1.mode.mode ≠ .test ∧ s1.mode.mode ≠ .recovery ∧ s1.mode.pending =
    none ∧ s1.isOut r = true :=
  ⟨internal 1 [10, 0, 0, 0], lit, begun lit (internal 1 [10, 0, 0, 0]) .modeSet, taken lit (internal 1 [10, 0, 0, 0])
    .modeSet, .recovery, by decide +kernel⟩

theorem witness_ModeSetTakesTheTransitionSlot_5 :
    ∃ (src : CmdSource) (s : State) (s1 : State) (r : Request) (m : Mode), s.begin src .modeSet = (s1, some r) ∧ modeOf (r.p
    0 1) = some m ∧ m = .off ∧ s1.mode.pending = none :=
  ⟨internal 1 [0, 0, 0, 0], lit, begun lit (internal 1 [0, 0, 0, 0]) .modeSet, taken lit (internal 1 [0, 0, 0, 0]) .modeSet,
    .off, by decide +kernel⟩

theorem witness_TransitionsCompleteOrTimeOut_1 :
    ∃ (tr : Trans) (s : State), s.mode.pending = some tr ∧ s.canComplete tr = true ∧ tr.target = tr.final ∧ tr.req = none ∧
    (tr.target = .boot ∨ tr.target = .provision ∨ tr.target = .test) ∧ s.mode.provisionDue = none :=
  ⟨⟨.test, .test, 1, none, 0, false, none⟩, toward ⟨.test, .test, 1, none, 0, false, none⟩ (moded .boot lit),
    by decide +kernel⟩

theorem witness_TransitionsCompleteOrTimeOut_2 :
    ∃ (tr : Trans) (q : Request) (s : State), s.mode.pending = some tr ∧ s.canComplete tr = true ∧ tr.req = some q ∧ s.isOut
    q = true ∧ (tr.target = .service ∨ tr.target = .thrift ∨ tr.target = .vigil ∨ tr.target = .hibernate) ∧ tr.final =
    tr.target ∧ s.aon.window = true ∧ s.mode.provisionDue = none :=
  ⟨⟨.vigil, .vigil, 1, (some (req 1 0x10 [6, 0, 0, 0])), 0, false, none⟩, req 1 0x10 [6, 0, 0, 0], owing (req 1 0x10 [6, 0,
    0, 0]) (toward ⟨.vigil, .vigil, 1, (some (req 1 0x10 [6, 0, 0, 0])), 0, false, none⟩
    { moded .thrift lit with aon := { lit.aon with window := true } }), by decide +kernel⟩

theorem witness_TransitionsCompleteOrTimeOut_3 :
    ∃ (tr : Trans) (s : State), s.mode.mode = .thrift ∧ s.mode.pending = some tr ∧ tr.target = .vigil ∧ tr.req = none ∧
    s.mode.provisionDue = none :=
  ⟨⟨.vigil, .vigil, 1, none, 0, false, none⟩, toward ⟨.vigil, .vigil, 1, none, 0, false, none⟩ (moded .thrift lit),
    by decide +kernel⟩

theorem witness_TransitionsCompleteOrTimeOut_4 :
    ∃ (tr : Trans) (i : Nat) (s : State), s.mode.mode = .thrift ∧ s.mode.pending = some tr ∧ tr.target = .service ∧ s.unlit
    .service tr.light = [i] ∧ i ≠ 1 :=
  ⟨⟨.service, .service, 1, none, 0, false, none⟩, 17, pwr 17 (fun x => { x with st := .dark }) (toward ⟨.service, .service,
    1, none, 0, false, none⟩ (moded .thrift lit)), by decide +kernel⟩

theorem witness_TransitionsCompleteOrTimeOut_5 :
    ∃ (s : State), s.mode.mode = .boot ∧ s.mode.pending = none ∧ s.cmd.testHold = false ∧ s.isLit 1 = true :=
  ⟨moded .boot lit, by decide +kernel⟩

theorem witness_TransitionsCompleteOrTimeOut_6 :
    ∃ (s : State), s.cmd.testHoldAt + 10 * nsPerSec ≤ s.elapsed :=
  ⟨later 10000000000 lit, by decide +kernel⟩

/-- An image of one segment, signed with the key that this fuse value hashes: written out from R534 and R535, its hash and
signature computed outside Lean. -/
def image : Tbl Byte :=
  ((List.range 320).zip (Crypto.toBE 320
    (0x4b483734010000000000000001000000042ca8c560f92280756d4d4e5903043a370532b246669e6110b033f9ab150d51863208e24bd70ce3738d027638bbd54c * 2 ^ 2048
      + 0xd21fc91a81a4cd7ea2ab6c205986767e830926c1bbf7eff71c25a2245d787dd8cc01731db7c2d9b1f4ab7ce1959c83624f000000000000000000000000000000 * 2 ^ 1536
      + 0xd5dbec569b0399b2a5a3521b01b4cb8b9a978d41db759b7372af37c9c199392a3a53ac373017076b90851d4c655e707227015fc7bfce48752b42849e0edcb73f * 2 ^ 1024
      + 0x77cc1eb3a80986e140abf238386b2e846f4d30c0aebd9253c44f951357cfb68d0000000000000000000000000000000000000000000000000000000000000000 * 2 ^ 512
      + 0x010000000004000004000000000000005a667d62430a8c253ebae433333904dc6e1d41dcdc479704773159b905a3ad82d2bad7762d81a366cc46fbb2e2327f5c)))
    ++ [(1024, 1), (1025, 2), (1026, 3), (1027, 4)]
def imageKeyHash : List Byte := Crypto.toBE 48
  0x3de46d69a8e02a18320d8223d5a256f9917184c9a74850a412b124da885e85c13322d4a44e66a6bc31be7210f9c5e77d

theorem test_signed_image_is_valid : verifyImage imageKeyHash 0 image = 0 := by decide +kernel

/-- BOOT, the ROM not yet run; slot A holds the image. -/
def booting : State :=
  let s := moded .boot lit
  { s with mode := { s.mode with romDone := false }, flash := { s.flash with slotA := image, keyHash := imageKeyHash } }

theorem witness_BootRunsTheChosenImage_1 :
    ∃ (s : State), s.mode.mode = .boot ∧ s.isLit 1 = true ∧ s.mode.romDone = false ∧ s.aon.strapTest = true ∧ s.provRecord =
    none :=
  ⟨{ booting with aon := { lit.aon with strapTest := true } }, by decide +kernel⟩

theorem witness_BootRunsTheChosenImage_2 :
    ∃ (s : State), s.mode.mode = .boot ∧ s.isLit 1 = true ∧ s.mode.romDone = false ∧ s.aon.strapTest = false ∧
    s.flash.boardValid = false :=
  ⟨{ booting with flash := { lit.flash with boardValid := false } }, by decide +kernel⟩

theorem witness_BootRunsTheChosenImage_3 :
    ∃ (n : Nat) (s : State), s.mode.mode = .boot ∧ s.isLit 1 = true ∧ s.mode.romDone = false ∧ s.aon.strapTest = false ∧
    s.flash.boardValid = true ∧ s.flash.trial = false ∧ s.flash.bootSlot < 2 ∧ s.provRecord = none ∧ [s.flash.bootSlot, 1 -
    s.flash.bootSlot].find? (fun n => verifyImage s.flash.keyHash s.flash.minVersion (s.flash.slot n) == 0) = some n :=
  ⟨0, booting, rfl, by decide +kernel, rfl, rfl, rfl, rfl, by decide, rfl,
    List.find?_cons_of_pos (beq_iff_eq.mpr test_signed_image_is_valid)⟩

theorem witness_BootRunsTheChosenImage_4 :
    ∃ (s : State), s.mode.mode = .boot ∧ s.isLit 1 = true ∧ s.mode.romDone = false ∧ s.aon.strapTest = false ∧
    s.flash.boardValid = true ∧ s.flash.slotA = [] ∧ s.flash.slotB = [] ∧ s.flash.bootSlot < 2 :=
  ⟨{ booting with flash := { lit.flash with slotA := [] } }, by decide +kernel⟩

/-- A request of Cudom firmware, its tag 0x11, and one of the host waiting in BOOT. -/
def own (op : Nat) : Request := { req 1 op [0, 0, 0, 0] with who := .internal, tag := 0x11 }
def hostReq (op : Nat) (ps : List Byte) (s : State) : State :=
  { moded .boot s with cmd := { s.cmd with out := [⟨{ req 1 op ps with who := .host }, false⟩] } }

/-- TEST_ENTER's parameters: the key whose hash a fuse holds, and its signature of the nonce 0 to 31, chip ID and "TEST". -/
def testParams : List Byte :=
  Crypto.toBE 97 0x042ca8c560f92280756d4d4e5903043a370532b246669e6110b033f9ab150d51863208e24bd70ce3738d027638bbd54cd21fc91a81a4cd7ea2ab6c205986767e830926c1bbf7eff71c25a2245d787dd8cc01731db7c2d9b1f4ab7ce1959c83624f
    ++ [0, 0, 0] ++ Crypto.toBE 96
    0xd5dbec569b0399b2a5a3521b01b4cb8b9a978d41db759b7372af37c9c199392a3a53ac373017076b90851d4c655e7072d502dd7c0b6289617c4fc18f93bf88bd7261df291c572eec40517e608250fef6b978c244f37a0a6d6f5ccd16ef047e39
def challenged : State :=
  { lit with
    cmd := { lit.cmd with nonce := some (Crypto.toBE 32 0x000102030405060708090a0b0c0d0e0f101112131415161718191a1b1c1d1e1f) }
    flash := { lit.flash with testKeyHash := some imageKeyHash } }

theorem witness_AbortsTestsAndLimitsEndRequests_1 :
    ∃ (src : CmdSource) (o : Outst) (s : State) (s1 : State) (r : Request), s.begin src .abort = (s1, some r) ∧
    s1.cmd.out.find? (fun o => o.req.who == r.who && o.req.tag == r.p 0 2) = some o ∧ o.req.tag ≠ r.tag ∧ (opcOf o.req.island
    o.req.op = some .imageVerify ∨ opcOf o.req.island o.req.op = some .logRead ∨ opcOf o.req.island o.req.op = some
    .imageStage) ∧ (o.dispatched = true → s1.tooLate o.req = false) :=
  ⟨internal 1 [0, 0x11, 0, 0], ⟨own 0x21, true⟩, owing (own 0x21) lit, begun (owing (own 0x21) lit) (internal 1 [0, 0x11, 0,
    0]) .abort, taken (owing (own 0x21) lit) (internal 1 [0, 0x11, 0, 0]) .abort, by decide +kernel⟩

theorem witness_AbortsTestsAndLimitsEndRequests_2 :
    ∃ (src : CmdSource) (o : Outst) (x : Renewal) (s : State) (s1 : State) (r : Request), s.begin src .abort = (s1, some r) ∧
    s1.cmd.out.find? (fun o => o.req.who == r.who && o.req.tag == r.p 0 2) = some o ∧ o.req.tag ≠ r.tag ∧ opcOf o.req.island
    o.req.op = some .renew ∧ o.dispatched = true ∧ s1.tooLate o.req = false ∧ 1 ≤ o.req.island ∧ o.req.island < 22 ∧ s1.ren
    o.req.island = some x ∧ x.req = some o.req :=
  ⟨internal 1 [0, 0x11, 0, 0], ⟨{ own 3 with island := 10 }, true⟩,
    { renewal0 with req := some { own 3 with island := 10 } }, renewing 10 2
    { renewal0 with req := some { own 3 with island := 10 } } (owing { own 3 with island := 10 } lit), begun (renewing 10 2
    { renewal0 with req := some { own 3 with island := 10 } } (owing { own 3 with island := 10 } lit)) (internal 1 [0, 0x11,
    0, 0]) .abort, taken (renewing 10 2 { renewal0 with req := some { own 3 with island := 10 } } (owing
    { own 3 with island := 10 } lit)) (internal 1 [0, 0x11, 0, 0]) .abort, by decide +kernel⟩

theorem witness_AbortsTestsAndLimitsEndRequests_3 :
    ∃ (src : CmdSource) (o : Outst) (c : Opc) (s : State) (s1 : State) (r : Request), s.begin src .abort = (s1, some r) ∧
    s1.cmd.out.find? (fun o => o.req.who == r.who && o.req.tag == r.p 0 2) = some o ∧ opcOf o.req.island o.req.op = some c ∧
    ((c.abortable = false ∨ o.dispatched = true ∧ s1.tooLate o.req = true)) :=
  ⟨internal 1 [0, 0x11, 0, 0], ⟨own 0x13, true⟩, .testChallenge, owing (own 0x13) lit, begun (owing (own 0x13) lit) (internal
    1 [0, 0x11, 0, 0]) .abort, taken (owing (own 0x13) lit) (internal 1 [0, 0x11, 0, 0]) .abort, by decide +kernel⟩

theorem witness_AbortsTestsAndLimitsEndRequests_4 :
    ∃ (src : CmdSource) (s : State) (s1 : State) (r : Request), s.begin src .abort = (s1, some r) ∧ s1.cmd.out.find? (fun o
    => o.req.who == r.who && o.req.tag == r.p 0 2) = none :=
  ⟨internal 1 [0, 0x11, 0, 0], lit, begun lit (internal 1 [0, 0x11, 0, 0]) .abort, taken lit (internal 1 [0, 0x11, 0, 0])
    .abort, by decide +kernel⟩

theorem witness_AbortsTestsAndLimitsEndRequests_5 :
    ∃ (src : CmdSource) (s : State) (s1 : State) (r : Request), s.begin src .testChallenge = (s1, some r) ∧
    s1.cmd.testRefused < 3 :=
  ⟨.waiting .host, hostReq 19 [] lit, begun (hostReq 19 [] lit) (.waiting .host) .testChallenge, taken (hostReq 19 [] lit)
    (.waiting .host) .testChallenge, by decide +kernel⟩

theorem witness_AbortsTestsAndLimitsEndRequests_6 :
    ∃ (src : CmdSource) (s : State) (s1 : State) (r : Request), s.begin src .testEnter = (s1, some r) ∧ s1.testKeyOk r.params
    = true ∧ s1.mode.pending = none :=
  ⟨.waiting .host, hostReq 20 testParams challenged, begun (hostReq 20 testParams challenged) (.waiting .host) .testEnter,
    taken (hostReq 20 testParams challenged) (.waiting .host) .testEnter, by decide +kernel⟩

theorem witness_AbortsTestsAndLimitsEndRequests_7 :
    ∃ (src : CmdSource) (s : State) (s1 : State) (r : Request), s.begin src .testEnter = (s1, some r) ∧ s1.testKeyOk r.params
    = false :=
  ⟨.waiting .host, hostReq 20 (List.replicate 196 0) lit, begun (hostReq 20 (List.replicate 196 0) lit) (.waiting .host)
    .testEnter, taken (hostReq 20 (List.replicate 196 0) lit) (.waiting .host) .testEnter, by decide +kernel⟩

theorem witness_AbortsTestsAndLimitsEndRequests_8 :
    ∃ (who : CmdReq) (tag : Fin 65536) (o : Outst) (s : State), s.glovesRun = true ∧ s.cmd.out.find? (fun o => o.dispatched
    && o.req.who == who && o.req.tag == tag.val) = some o ∧ opcOf o.req.island o.req.op = some .imageVerify ∧
    s.mode.pending.any (fun x => x.req == some o.req) = false ∧ s.dueEvent o.req = none :=
  ⟨.internal, 0x11, ⟨own 0x21, true⟩, owing (own 0x21) gloves, by decide +kernel⟩

theorem witness_AbortsTestsAndLimitsEndRequests_9 :
    ∃ (who : CmdReq) (f : Request) (s : State), s.glovesRun = true ∧ s.openFrag who = some f :=
  ⟨.host, { req 1 0x30 [] with who := .host },
    { gloves with cmd := { gloves.cmd with frags := [{ req 1 0x30 [] with who := .host }] } }, by decide +kernel⟩

/-- The host port and the four slots of the mailbox are open. -/
def open_ (f : CmdState → CmdState) (s : State) : State :=
  { s with cmd := f { s.cmd with hostReady := true } }
/-- QUERY of DMA, by R51: with a source class and first byte. -/
def query5 (b0 cls : Nat) : List Byte := buildHdr b0 cls 21 1 0x10 0 1 0
/-- The mailbox's request slot 3 holds it. -/
def slot3 (s : State) : State :=
  { s with cmd := { s.cmd with mbx := ((query5 0x10 0).zipIdx 0x3000).map (fun x => (x.2, x.1)) } }
def goodWrite : List Byte := query5 0x10 1 ++ Crypto.toBE 4 (crc32 (query5 0x10 1))
def key5 : KeySlot := { KeySlot.erased with cls := 1, key := List.replicate 32 7 }
def net5 (tag : List Byte) : RxFrame :=
  { bytes := [2, 0, 0, 0, 0, 1] ++ [2, 0, 0, 0, 0, 9] ++ [0x88, 0xB5] ++ [1, 0, 9, 0] ++ query5 0x14 2 ++ tag
    station := 1536, secured := true, stamp := 0 }
/-- The tag that R72 gives it under key 9. -/
def tag5 : List Byte :=
  (Crypto.gcmSeal key5.key ([2, 0, 0, 0, 0, 9] ++ [0, 0, 0, 1] ++ [0, 0]) ([1, 0, 9, 0] ++ query5 0x14 2) []).2
def netLit (f : RxFrame) : State := ((lit.setKey 9 key5).setFld A.cdmCmdCtl F.cdmCmdCtl_net_en 1 |>.setFld A.cdmCmdCtl F.cdmCmdCtl_net_rate 9 |> received 18 f)

theorem witness_TransportsTakeAndReturnPackets_1 :
    ∃ (who : Requester) (s : State), s.isLit 1 = true ∧ mayWrite D.cdmMbxDoorbell.wr who = true ∧ s.transportUp .mailbox =
    false :=
  ⟨.core 23, moded .boot { lit with mode := { lit.mode with romDone := false } }, by decide +kernel⟩

theorem witness_TransportsTakeAndReturnPackets_2 :
    ∃ (who : Requester) (s : State), s.isLit 1 = true ∧ mayWrite D.cdmMbxDoorbell.wr who = true ∧ s.transportUp .mailbox =
    true ∧ s.cmd.mbxHeld ≠ [] ∧ s.cmd.bells = [] ∧ s.fld A.cdmMbxDoorbell F.cdmMbxDoorbell_req = 0 :=
  ⟨.core 0, open_ (fun c => { c with mbxHeld := [[1]] }) lit, by decide +kernel⟩

theorem witness_TransportsTakeAndReturnPackets_3 :
    ∃ (n : Fin 4) (s : State), s.isLit 1 = true ∧ s.transportUp .mailbox = true ∧ s.cmd.mbxHeld = [] ∧ s.cmd.bells = [] ∧
    s.cdm.halted = false ∧ s.cdm.held = false ∧ s.fld A.cdmMbxDoorbell F.cdmMbxDoorbell_req = 0 ∧ crc16 ((readBytes 0
    s.cmd.mbx (0x1000 * n.val) 4096).take 14) ≠ (parseHdr (readBytes 0 s.cmd.mbx (0x1000 * n.val) 4096)).chk :=
  ⟨3, gloves, by decide +kernel⟩

theorem witness_TransportsTakeAndReturnPackets_4 :
    ∃ (n : Fin 4) (o : Opc) (s : State), s.isLit 1 = true ∧ s.transportUp .mailbox = true ∧ s.cmd.mbxHeld = [] ∧ s.cmd.bells
    = [] ∧ s.cdm.halted = false ∧ s.cdm.held = false ∧ s.fld A.cdmMbxDoorbell F.cdmMbxDoorbell_req = 0 ∧ crc16 ((readBytes 0
    s.cmd.mbx (0x1000 * n.val) 4096).take 14) = (parseHdr (readBytes 0 s.cmd.mbx (0x1000 * n.val) 4096)).chk ∧ (parseHdr
    (readBytes 0 s.cmd.mbx (0x1000 * n.val) 4096)).isReply = false ∧ (parseHdr (readBytes 0 s.cmd.mbx (0x1000 * n.val)
    4096)).more = false ∧ s.openFrag .mailbox = none ∧ earlyChecks (parseHdr (readBytes 0 s.cmd.mbx (0x1000 * n.val) 4096)) 0
    ((parseHdr (readBytes 0 s.cmd.mbx (0x1000 * n.val) 4096)).plen + padLen (parseHdr (readBytes 0 s.cmd.mbx (0x1000 * n.val)
    4096)).plen) (mkRequest .mailbox (parseHdr (readBytes 0 s.cmd.mbx (0x1000 * n.val) 4096)) (((readBytes 0 s.cmd.mbx
    (0x1000 * n.val) 4096).drop 16).take (parseHdr (readBytes 0 s.cmd.mbx (0x1000 * n.val) 4096)).plen) 0 0 [] 0).params =
    none ∧ opcOf (mkRequest .mailbox (parseHdr (readBytes 0 s.cmd.mbx (0x1000 * n.val) 4096)) (((readBytes 0 s.cmd.mbx
    (0x1000 * n.val) 4096).drop 16).take (parseHdr (readBytes 0 s.cmd.mbx (0x1000 * n.val) 4096)).plen) 0 0 [] 0).island
    (mkRequest .mailbox (parseHdr (readBytes 0 s.cmd.mbx (0x1000 * n.val) 4096)) (((readBytes 0 s.cmd.mbx (0x1000 * n.val)
    4096).drop 16).take (parseHdr (readBytes 0 s.cmd.mbx (0x1000 * n.val) 4096)).plen) 0 0 [] 0).op = some o ∧ s.lateChecks
    (mkRequest .mailbox (parseHdr (readBytes 0 s.cmd.mbx (0x1000 * n.val) 4096)) (((readBytes 0 s.cmd.mbx (0x1000 * n.val)
    4096).drop 16).take (parseHdr (readBytes 0 s.cmd.mbx (0x1000 * n.val) 4096)).plen) 0 0 [] 0) o true = none :=
  ⟨3, .query, slot3 gloves, by decide +kernel⟩

theorem witness_TransportsTakeAndReturnPackets_5 :
    ∃ (f : List Byte) (s : State), s.isLit 1 = true ∧ s.cmd.mbxHeld = [f] ∧ s.cmd.bells = [] ∧ s.fld A.cdmMbxRspStatus
    F.cdmMbxRspStatus_rsp_valid = 15 :=
  ⟨[1, 2, 3, 4], (open_ (fun c => { c with mbxHeld := [[1, 2, 3, 4]] }) lit).setFld A.cdmMbxRspStatus
    F.cdmMbxRspStatus_rsp_valid 15, by decide +kernel⟩

theorem witness_TransportsTakeAndReturnPackets_6 :
    ∃ (bytes : List Byte) (s : State), s.hostPort = true ∧ s.transportUp .host = true ∧ s.hostFree ≠ 0 ∧ hostFrameOk bytes =
    false ∧ sleeps s.mode.mode = false ∧ s.mode.pending = none ∧ s.aon.entering = false ∧ s.cmd.hostRaw = [] :=
  ⟨[1, 2, 3], open_ (fun c => c) lit, by decide +kernel⟩

theorem witness_TransportsTakeAndReturnPackets_7 :
    ∃ (bytes : List Byte) (s : State), s.hostPort = true ∧ s.transportUp .host = true ∧ s.hostFree ≠ 0 ∧ hostFrameOk bytes =
    true ∧ s.cmd.hostHeld ≠ [] ∧ sleeps s.mode.mode = false ∧ s.mode.pending = none ∧ s.aon.entering = false :=
  ⟨goodWrite, open_ (fun c => { c with hostHeld := [[1]] }) lit, by decide +kernel⟩

theorem witness_TransportsTakeAndReturnPackets_8 :
    ∃ (bytes : List Byte) (o : Opc) (s : State), s.hostPort = true ∧ s.transportUp .host = true ∧ s.hostFree ≠ 0 ∧
    hostFrameOk bytes = true ∧ s.cmd.hostHeld = [] ∧ s.cmd.hostRaw = [] ∧ s.cdm.halted = false ∧ s.cdm.held = false ∧ sleeps
    s.mode.mode = false ∧ s.mode.pending = none ∧ s.aon.entering = false ∧ s.aon.window = false ∧ crc16 ((bytes.take
    (bytes.length - 4)).take 14) = (parseHdr (bytes.take (bytes.length - 4))).chk ∧ (parseHdr (bytes.take (bytes.length -
    4))).isReply = false ∧ (parseHdr (bytes.take (bytes.length - 4))).more = false ∧ s.openFrag .host = none ∧ earlyChecks
    (parseHdr (bytes.take (bytes.length - 4))) 1 ((bytes.take (bytes.length - 4)).length - 16) (mkRequest .host (parseHdr
    (bytes.take (bytes.length - 4))) (((bytes.take (bytes.length - 4)).drop 16).take (parseHdr (bytes.take (bytes.length -
    4))).plen) 0 0 [] 0).params = none ∧ opcOf (mkRequest .host (parseHdr (bytes.take (bytes.length - 4))) (((bytes.take
    (bytes.length - 4)).drop 16).take (parseHdr (bytes.take (bytes.length - 4))).plen) 0 0 [] 0).island (mkRequest .host
    (parseHdr (bytes.take (bytes.length - 4))) (((bytes.take (bytes.length - 4)).drop 16).take (parseHdr (bytes.take
    (bytes.length - 4))).plen) 0 0 [] 0).op = some o ∧ s.lateChecks (mkRequest .host (parseHdr (bytes.take (bytes.length -
    4))) (((bytes.take (bytes.length - 4)).drop 16).take (parseHdr (bytes.take (bytes.length - 4))).plen) 0 0 [] 0) o true =
    none :=
  ⟨goodWrite, .query, open_ (fun c => c) lit, by decide +kernel⟩

theorem witness_TransportsTakeAndReturnPackets_9 :
    ∃ (s : State), s.hostPort = true ∧ sleeps s.mode.mode = false ∧ s.mode.pending = none ∧ s.aon.entering = false :=
  ⟨open_ (fun c => c) lit, by decide +kernel⟩

theorem witness_TransportsTakeAndReturnPackets_10 :
    ∃ (f : List Byte) (rest : List (List Byte)) (s : State), s.hostPort = true ∧ s.cmd.hostWaiting = f :: rest ∧ sleeps
    s.mode.mode = false ∧ s.mode.pending = none ∧ s.aon.entering = false ∧ s.cmd.hostHeld = [] ∧ s.cmd.hostRaw = [] :=
  ⟨[1, 2, 3, 4], [], open_ (fun c => { c with hostWaiting := [[1, 2, 3, 4]] }) lit, by decide +kernel⟩

theorem witness_TransportsTakeAndReturnPackets_11 :
    ∃ (src : Fin 19) (f : RxFrame) (rest : List RxFrame) (s : State), Tbl.get (fun _ => []) s.rxFifo src = f :: rest ∧
    s.isLit 1 = true ∧ isCommandFrame src f = true ∧ s.transportUp (.network (beAt f.bytes 6 6) 0) = true ∧ Tbl.get (fun _ =>
    0) s.cmd.netCount src < s.fld A.cdmCmdCtl F.cdmCmdCtl_net_rate ∧ s.isLit 10 = true ∧ (s.netOpen f.bytes).2 = none :=
  ⟨18, net5 (List.replicate 16 0), [], netLit (net5 (List.replicate 16 0)), by decide +kernel⟩

theorem witness_TransportsTakeAndReturnPackets_12 :
    ∃ (src : Fin 19) (f : RxFrame) (rest : List RxFrame) (slot : Nat) (h : Hdr) (pt : List Byte) (o : Opc) (s : State),
    Tbl.get (fun _ => []) s.rxFifo src = f :: rest ∧ s.isLit 1 = true ∧ isCommandFrame src f = true ∧ s.transportUp (.network
    (beAt f.bytes 6 6) 0) = true ∧ Tbl.get (fun _ => 0) s.cmd.netCount src < s.fld A.cdmCmdCtl F.cdmCmdCtl_net_rate ∧ s.isLit
    10 = true ∧ (s.netOpen f.bytes).2 = some (slot, h, pt) ∧ (s.netSeq (beAt f.bytes 6 6) slot h.seq).isSome = true ∧ h.seq ≠
    0xFFFFFFFF ∧ crc16 (Crypto.toBE 1 h.b0 ++ Crypto.toBE 1 h.cls ++ Crypto.toBE 1 h.island ++ Crypto.toBE 1 h.op ++
    Crypto.toBE 2 h.tag ++ Crypto.toBE 2 h.plen ++ Crypto.toBE 4 h.seq ++ Crypto.toBE 2 h.status) = h.chk ∧ h.isReply = false
    ∧ h.more = false ∧ s.netQueued < 8 ∧ s.openFrag (.network (beAt f.bytes 6 6) slot) = none ∧ earlyChecks h 2 pt.length
    (mkRequest (.network (beAt f.bytes 6 6) slot) h (pt.take h.plen) src f.station (f.bytes.take 6 ++ (f.bytes.drop 12).take
    (etherAt f.bytes 12 2 - 12)) (s.key slot).gen).params = none ∧ opcOf (mkRequest (.network (beAt f.bytes 6 6) slot) h
    (pt.take h.plen) src f.station (f.bytes.take 6 ++ (f.bytes.drop 12).take (etherAt f.bytes 12 2 - 12)) (s.key
    slot).gen).island (mkRequest (.network (beAt f.bytes 6 6) slot) h (pt.take h.plen) src f.station (f.bytes.take 6 ++
    (f.bytes.drop 12).take (etherAt f.bytes 12 2 - 12)) (s.key slot).gen).op = some o ∧ s.lateChecks (mkRequest (.network
    (beAt f.bytes 6 6) slot) h (pt.take h.plen) src f.station (f.bytes.take 6 ++ (f.bytes.drop 12).take (etherAt f.bytes 12 2
    - 12)) (s.key slot).gen) o true = none :=
  ⟨18, net5 tag5, [], 9, parseHdr (query5 0x14 2), [], .query, netLit (net5 tag5), by decide +kernel⟩

theorem witness_TransportsTakeAndReturnPackets_13 :
    ∃ (s : State), s.nowSec = s.cmd.second :=
  ⟨lit, by decide +kernel⟩

theorem witness_TransportsTakeAndReturnPackets_14 :
    ∃ (s : State), s.nowSec ≠ s.cmd.second :=
  ⟨{ lit with time := { lit.time with clock := 1000000000 * fracUnits } }, by decide +kernel⟩

/-- A traffic key of 256 bits, with a counter drawn for HMAC. -/
def slot0 : KeySlot := { KeySlot.erased with cls := 0, key := List.replicate 32 7 }
def keyed (n : Nat) (k : KeySlot) (s : State) : State := s.setKey n k
def busyCip (ops : List CipOp) (jobs : List CipJob) (s : State) : State := { s with cip := { s.cip with ops := ops, jobs := jobs } }
def op1 : CipOp := { id := 1, user := .hmac, slot := 5, gen := 0, key := [], pn := 0, expedited := false }
/-- Job ring 0 enabled with 16 descriptors at the start of the packet store. -/
def ring0 : State :=
  put [(A.cipJobCtl 0, F.cipJobCtl_enable, 1), (A.cipJobCtl 0, F.cipJobCtl_size, 16), (A.cipJobPtr 0, F.cipJobPtr_prod, 1)]
    (lit.setReg (A.cipJobBaseLo 0) 0x80000000)

theorem witness_KeysAndOperationsOfTheCipherEngine_1 :
    ∃ (src : CmdSource) (s : State) (s1 : State) (r : Request), s.begin src .keyWrite = (s1, some r) ∧ (s1.key (r.p 0
    2)).shadow = none ∧ (r.p 2 1 = 0 ∨ r.p 3 1 ≠ 16) ∧ ((s1.key (r.p 0 2)).cls = 255 ∨ (s1.key (r.p 0 2)).cls = r.p 2 1) :=
  ⟨internal 10 [0xf, 0xfe, 0, 16, 1, 2, 3, 4, 5, 6, 7, 8, 9, 10, 11, 12, 13, 14, 15, 16], lit, begun lit (internal 10 [0xf,
    0xfe, 0, 16, 1, 2, 3, 4, 5, 6, 7, 8, 9, 10, 11, 12, 13, 14, 15, 16]) .keyWrite, taken lit (internal 10 [0xf, 0xfe, 0, 16,
    1, 2, 3, 4, 5, 6, 7, 8, 9, 10, 11, 12, 13, 14, 15, 16]) .keyWrite, by decide +kernel⟩

theorem witness_KeysAndOperationsOfTheCipherEngine_2 :
    ∃ (src : CmdSource) (s : State) (s1 : State) (r : Request), s.begin src .keyWrite = (s1, some r) ∧ (s1.key (r.p 0
    2)).shadow.isSome = true :=
  ⟨internal 10 [0xf, 0xfe, 0, 16, 1, 2, 3, 4, 5, 6, 7, 8, 9, 10, 11, 12, 13, 14, 15, 16], keyed 0xffe
    { slot0 with shadow := some (0, []) } lit, begun (keyed 0xffe { slot0 with shadow := some (0, []) } lit) (internal 10
    [0xf, 0xfe, 0, 16, 1, 2, 3, 4, 5, 6, 7, 8, 9, 10, 11, 12, 13, 14, 15, 16]) .keyWrite, taken (keyed 0xffe
    { slot0 with shadow := some (0, []) } lit) (internal 10 [0xf, 0xfe, 0, 16, 1, 2, 3, 4, 5, 6, 7, 8, 9, 10, 11, 12, 13, 14,
    15, 16]) .keyWrite, by decide +kernel⟩

theorem witness_KeysAndOperationsOfTheCipherEngine_3 :
    ∃ (src : CmdSource) (s : State) (s1 : State) (r : Request), s.begin src .keyErase = (s1, some r) ∧
    s1.cdm.jobs.keyWait.find? (fun q => q.1.p 0 2 == r.p 0 2) = none :=
  ⟨internal 10 [0xf, 0xfe, 0, 0], lit, begun lit (internal 10 [0xf, 0xfe, 0, 0]) .keyErase, taken lit (internal 10 [0xf,
    0xfe, 0, 0]) .keyErase, by decide +kernel⟩

theorem witness_KeysAndOperationsOfTheCipherEngine_4 :
    ∃ (u : CipUser) (id : Nat) (slot : Fin 4096) (encrypt : Bool) (len : Fin 33) (expedited : Bool) (s : State), (∀ q, u ≠
    .job q) ∧ s.isLit 10 = true ∧ s.cip.ops.any (·.id == id) = false ∧ s.cip.ops.length < 64 ∧ (expedited = true ∨ u =
    .network ∨ (s.cip.ops.filter (!·.expedited)).length < 56) ∧ s.cipRefusal slot (cipCls u) (cipLen u len) (if encrypt then
    some (s.cipUse u slot) else none) = none :=
  ⟨.port 15, 9, 4095, true, 32, false, keyed 4095 { slot0 with pn := 7 } lit, by decide +kernel⟩

theorem witness_KeysAndOperationsOfTheCipherEngine_5 :
    ∃ (id : Nat) (slot : Fin 4096) (encrypt : Bool) (len : Fin 33) (expedited : Bool) (st : Nat) (a : Nat) (s : State),
    s.isLit 10 = true ∧ s.cip.ops.any (·.id == id) = false ∧ s.cip.ops.length < 64 ∧ (expedited = true ∨ (s.cip.ops.filter
    (!·.expedited)).length < 56) ∧ s.cipRefusal slot (cipCls .hmac) (some len.val) (if encrypt then some 3 else none) = some
    (st, a) :=
  ⟨9, 4095, true, 16, true, ST.badParam, A.cipKeylenErr, keyed 4095 slot0 lit, by decide +kernel⟩

theorem witness_KeysAndOperationsOfTheCipherEngine_6 :
    ∃ (id : Nat) (o : CipOp) (s : State), s.cip.ops.find? (·.id == id) = some o ∧ s.cip.jobs.find? (fun j => j.op == some id
    && j.result.isNone) = none ∧ s.cdm.jobs.keyWait.find? (fun q => q.1.p 0 2 == o.slot) = none :=
  ⟨1, op1, busyCip [op1] [] lit, by decide +kernel⟩

theorem witness_KeysAndOperationsOfTheCipherEngine_7 :
    ∃ (id : Nat) (o : CipOp) (j : CipJob) (s : State), s.cip.ops.find? (·.id == id) = some o ∧ s.cip.jobs.find? (fun j =>
    j.op == some id && j.result.isNone) = some j ∧ (s.key o.slot).shadow = none :=
  ⟨1, op1, ⟨0, [], some 1, none⟩, busyCip [op1] [⟨0, [], some 1, none⟩] lit, by decide +kernel⟩

theorem witness_JobRingsAndMacsecReception_1 :
    ∃ (r : Fin 2) (s : State) (s1 : State) (d : List Byte), s.isLit 10 = true ∧ s.bit (A.cipJobCtl r) F.cipJobCtl_enable =
    true ∧ s.bit (A.cipJobCtl r) F.cipJobCtl_ring_err = false ∧ s.fld (A.cipJobCtl r) F.cipJobCtl_size ≠ 0 ∧ (s.fld
    (A.cipJobPtr r) F.cipJobPtr_done + (s.cip.jobs.filter (·.ring == r.val)).length) % s.fld (A.cipJobCtl r) F.cipJobCtl_size
    ≠ s.fld (A.cipJobPtr r) F.cipJobPtr_prod ∧ s.memRead (.island 10) (s.jobAddr r (s.cip.jobs.filter (·.ring ==
    r.val)).length) 64 = (s1, some d) ∧ (dle d 0 1).testBit 7 = true :=
  ⟨0, stored 0 (List.replicate 64 0x80) ring0, stored 0 (List.replicate 64 0x80) ring0, List.replicate 64 0x80,
    by decide +kernel⟩

theorem witness_JobRingsAndMacsecReception_2 :
    ∃ (r : Fin 2) (j : CipJob) (st : Nat) (n : Nat) (s : State), s.cip.jobs.find? (·.ring == r.val) = some j ∧ j.result =
    some (st, n) ∧ s.isLit 10 = true ∧ s.answers (.island 10) 4 = true ∧ j.desc.length = 64 ∧ 0x80000000 ≤ s.jobAddr r 0 ∧
    s.jobAddr r 0 + 64 ≤ 0x82000000 ∧ s.fld (A.cipJobCtl r) F.cipJobCtl_size ≤ 4096 :=
  ⟨0, ⟨0, List.replicate 64 0x80, none, some (ST.ok, 3)⟩, ST.ok, 3, busyCip [] [⟨0, List.replicate 64 0x80, none, some
    (ST.ok, 3)⟩] ring0, by decide +kernel⟩

theorem witness_JobRingsAndMacsecReception_3 :
    ∃ (r : Fin 2) (j : CipJob) (s : State), s.isLit 10 = true ∧ s.cip.jobs.find? (fun j => j.ring == r.val &&
    j.result.isNone) = some j :=
  ⟨1, ⟨1, [], some 1, none⟩, busyCip [op1] [⟨1, [], some 1, none⟩] lit, by decide +kernel⟩

theorem witness_JobRingsAndMacsecReception_4 :
    ∃ (who : Requester) (r : Fin 2) (s : State), s.isLit 10 = true ∧ (r = 0 ∨ isCudom who = true) :=
  ⟨.glove 0, 1, lit, by decide +kernel⟩

theorem witness_JobRingsAndMacsecReception_5 :
    ∃ (who : Requester) (s : State), s.isLit 10 = true ∧ isCudom who = false :=
  ⟨.core 0, lit, by decide +kernel⟩

theorem witness_JobRingsAndMacsecReception_6 :
    ∃ (p : Fin 16) (bytes : List Byte) (stamp : Int) (s : State), s.cip.rx.find? (·.1 == p.val) = some (p.val, bytes, stamp)
    ∧ s.isLit 10 = true ∧ s.rxSas p = [] ∧ ((Tbl.get (fun _ => []) s.rxFifo p).foldl (fun a f => a + f.bytes.length) 0) +
    bytes.length ≤ 262144 :=
  ⟨15, [2, 0, 0, 0, 0, 1, 2, 0, 0, 0, 0, 2, 8, 0], 7,
    { lit with cip := { lit.cip with rx := [(15, [2, 0, 0, 0, 0, 1, 2, 0, 0, 0, 0, 2, 8, 0], 7)] } }, by decide +kernel⟩

theorem witness_JobRingsAndMacsecReception_7 :
    ∃ (p : Fin 16) (bytes : List Byte) (stamp : Int) (s : State), s.cip.rx.find? (·.1 == p.val) = some (p.val, bytes, stamp)
    ∧ s.isLit 10 = true ∧ s.rxSas p ≠ [] ∧ beAt bytes 12 2 ≠ 0x88E5 ∧ ((Tbl.get (fun _ => []) s.rxFifo p).foldl (fun a f => a
    + f.bytes.length) 0) + bytes.length ≤ 262144 :=
  ⟨15, [2, 0, 0, 0, 0, 1, 2, 0, 0, 0, 0, 2, 8, 0], 7, put [(A.cipMsecSaW0 127, F.cipMsecSaW0_valid, 1), (A.cipMsecSaW0 127,
    F.cipMsecSaW0_port, 15)]
    { lit with cip := { lit.cip with rx := [(15, [2, 0, 0, 0, 0, 1, 2, 0, 0, 0, 0, 2, 8, 0], 7)] } }, by decide +kernel⟩

theorem witness_SchedulesBusesAndLongRunsEnd_1 :
    ∃ (e : Fin 64) (s : State), s.isLit 1 = true ∧ s.bit (A.cdmDaliSchedW0 e) F.cdmDaliSchedW0_valid = true ∧ s.fld
    (A.cdmDaliSchedW0 e) F.cdmDaliSchedW0_time < 86400 ∧ (s.fld (A.cdmDaliSchedW0 e) F.cdmDaliSchedW0_time : Int) =
    ((s.nowSec : Int) + signed 32 (s.fld A.cdmDaliTz F.cdmDaliTz_tz_offset)) % 86400 ∧ s.cdm.schedSec ≠ (s.localSec % 2 ^
    49).toNat ∧ (∀ k < e.val, s.schedDue k = false) ∧ s.bit (A.cdmDaliCtl (s.fld (A.cdmDaliSchedW0 e) F.cdmDaliSchedW0_bus))
    F.cdmDaliCtl_sched_en = true ∧ s.daliFails (s.fld (A.cdmDaliSchedW0 e) F.cdmDaliSchedW0_bus) = false ∧ (s.dali (s.fld
    (A.cdmDaliSchedW0 e) F.cdmDaliSchedW0_bus)).busy = none ∧ (s.dali (s.fld (A.cdmDaliSchedW0 e)
    F.cdmDaliSchedW0_bus)).queue = [] :=
  ⟨63, put [(A.cdmDaliCtl 1, F.cdmDaliCtl_enable, 1), (A.cdmDaliCtl 1, F.cdmDaliCtl_sched_en, 1), (A.cdmDaliSchedW0 63,
    F.cdmDaliSchedW0_valid, 1), (A.cdmDaliSchedW0 63, F.cdmDaliSchedW0_bus, 1), (A.cdmDaliSchedW0 63, F.cdmDaliSchedW0_time,
    86399), (A.cdmDaliTz, F.cdmDaliTz_tz_offset, 2 ^ 32 - 1)] lit, by decide +kernel⟩

theorem witness_SchedulesBusesAndLongRunsEnd_2 :
    ∃ (b : Fin 2) (s : State), s.daliFails b = false :=
  ⟨1, put [(A.cdmDaliCtl 1, F.cdmDaliCtl_enable, 1)] lit, by decide +kernel⟩

theorem witness_SchedulesBusesAndLongRunsEnd_3 :
    ∃ (b : Fin 2) (s : State), s.isLit 1 = true ∧ s.daliFails b = false ∧ (s.dali b).busy = none ∧ s.bit (A.cdmDaliCtl b)
    F.cdmDaliCtl_bus_down = false :=
  ⟨0, put [(A.cdmDaliCtl 0, F.cdmDaliCtl_enable, 1)] lit, by decide +kernel⟩

theorem witness_SchedulesBusesAndLongRunsEnd_4 :
    ∃ (s : State), s.isLit 1 = true :=
  ⟨lit, by decide +kernel⟩

theorem witness_SchedulesBusesAndLongRunsEnd_5 :
    ∃ (r : Rad) (s : State), s.isLit 21 = true ∧ (s.wr r).steerEnd.any (· ≤ s.elapsed) = true ∧ s.renStep (17 + r) ≠ 1 ∧
    s.mode.pending = none :=
  ⟨2, lit.setWr 2 { WlanRadio.init with steerEnd := some 0 }, by decide +kernel⟩

theorem witness_SchedulesBusesAndLongRunsEnd_6 :
    ∃ (r : Rad) (o : CalRunOut) (q : Request) (rest : List Request) (s : State), Tbl.get (fun _ => []) s.cdm.jobs.calRun r =
    q :: rest ∧ s.glovesRun = true ∧ s.radLit r = true ∧ s.isOut q = true ∧ s.radIdle r = true ∧ s.mode.mode ≠ .calibrate ∧
    calPass r (q.p 0 2) o.meas ≠ 0 ∧ r.val < s.flash.calValid.length :=
  ⟨2, ⟨(List.range 12).map (fun k => ⟨k, 0, -4000, 4000, -3800⟩), [], [], []⟩, req 19 0x10 [0, 3, 1, 0], [], owing (req 19
    0x10 [0, 3, 1, 0])
    { gloves with cdm := { gloves.cdm with jobs := { gloves.cdm.jobs with calRun := [(2, [req 19 0x10 [0, 3, 1, 0]])] } }, flash := { lit.flash with calValid := [false, false, false] } },
    by decide +kernel⟩

theorem witness_SchedulesBusesAndLongRunsEnd_7 :
    ∃ (r : Rad) (o : CalRunOut) (q : Request) (rest : List Request) (s : State), Tbl.get (fun _ => []) s.cdm.jobs.calRun r =
    q :: rest ∧ s.glovesRun = true ∧ s.radLit r = true ∧ s.isOut q = true ∧ s.radIdle r = true ∧ s.mode.mode ≠ .calibrate ∧
    calPass r (q.p 0 2) o.meas = 0 :=
  ⟨2, ⟨[], [], [], []⟩, req 19 0x10 [0, 3, 1, 0], [], owing (req 19 0x10 [0, 3, 1, 0])
    { gloves with cdm := { gloves.cdm with jobs := { gloves.cdm.jobs with calRun := [(2, [req 19 0x10 [0, 3, 1, 0]])] } }, flash := { lit.flash with calValid := [false, false, false] } },
    by decide +kernel⟩

/-- A radio's record changed. -/
def radio (r : Nat) (f : RadState → RadState) (s : State) : State := s.setRd r (f (s.rd r))

/-- Both synthesisers of a radio locked, the active one first, at a centre. -/
def locked (r f : Nat) (s : State) : State :=
  put [(A.radSynFreq r 0, F.radSynFreq_freq, f), (A.radCtl r, F.radCtl_enable, 1), (A.radCtl r, F.radCtl_tx_chain_en, 255)]
    ((s.setSyn r 0 2).setSyn r 1 2)

/-- A Holael command for one PPDU, its slot waiting or committed, and its PPDU in the air. -/
def cmd0 : TxCmd :=
  { frameId := 7, centre := 32000, chains := 3, earliest := 100000, deadline := 200000, response := false, cls := 0
    airNs := 40000, tx := Tx.holael 0 1, hsig := none, psdu := [], length := 40, map := none, gs := [], keySlot := none, reply := false
    cal := none }
def slot1 : Slot :=
  { cmd := cmd0, earliest := 100000, deadline := 200000, lead := 2000, commit := none, switch := false, gntWait := false }
def slot2 : Slot := { slot1 with commit := some 100000 }
/-- Committed for now, and late. -/
def slotN : Slot := { slot1 with commit := some 0 }
def slotL : Slot := { slot1 with deadline := 0 }
def air0 : Air := ⟨cmd0, 0, 3, [], 0, none⟩

theorem witness_SynthesisersTuneLockAndSwitch_1 :
    ∃ (r : Rad) (f : Nat) (s : State), s.radLit r = true ∧ inBand r f = true ∧ s.synState r 0 ≠ 3 ∧ s.synState r 1 ≠ 3 ∧ (∀
    q, (s.rd r).slot = some q → s.holding r q.cmd.centre = some (s.synActive r)) :=
  ⟨0, 32000, lit, by decide +kernel⟩

theorem witness_SynthesisersTuneLockAndSwitch_2 :
    ∃ (r : Rad) (f : Nat) (n : Fin 2) (s : State), s.radLit r = true ∧ inBand r f = true ∧ s.synState r n = 3 ∧ s.synState r
    (1 - n.val) ≠ 3 ∧ s.radIdle r = true ∧ (∀ q, (s.rd r).slot = some q → q.cmd.centre = f) :=
  ⟨1, 75840, 0, lit.setSyn 1 0 3, by decide +kernel⟩

theorem witness_SynthesisersTuneLockAndSwitch_3 :
    ∃ (r : Rad) (f : Nat) (s : State), s.radLit r = true ∧ inBand r f = false ∧ s.asksNothing r = true :=
  ⟨2, 75839, lit, by decide +kernel⟩

theorem witness_SynthesisersTuneLockAndSwitch_4 :
    ∃ (r : Rad) (w : Word) (s : State), s.radLit r = true ∧ F.radSynCtl_retune_req.get w = 1 :=
  ⟨2, F.radSynCtl_retune_req.put 1 0, lit, by decide +kernel⟩

theorem witness_SynthesisersTuneLockAndSwitch_5 :
    ∃ (r : Rad) (w : Word) (s : State), s.radLit r = true ∧ F.radSynCtl_retune_req.get w = 1 ∧ inBand r
    (F.radSynCtl_target_freq.get w) = true ∧ s.synState r 0 ≠ 3 ∧ s.synState r 1 ≠ 3 ∧ (s.rd r).retune = none ∧ (∀ q, (s.rd
    r).slot = some q → s.holding r q.cmd.centre = some (s.synActive r)) :=
  ⟨0, F.radSynCtl_target_freq.put 30720 (F.radSynCtl_retune_req.put 1 0), lit, by decide +kernel⟩

theorem witness_SynthesisersTuneLockAndSwitch_6 :
    ∃ (r : Rad) (n : Fin 2) (s : State), s.isUp (radId r) = true ∧ s.synState r n = 1 ∧ s.asksNothing r = true :=
  ⟨2, 1, lit.setSyn 2 1 1, by decide +kernel⟩

theorem witness_SynthesisersTuneLockAndSwitch_7 :
    ∃ (r : Rad) (n : Fin 2) (s : State), s.isUp (radId r) = true ∧ s.synState r n = 1 ∧ ((s.rd r).syn n).retried = false :=
  ⟨0, 0, lit.setSyn 0 0 1, by decide +kernel⟩

theorem witness_SynthesisersTuneLockAndSwitch_8 :
    ∃ (r : Rad) (n : Fin 2) (s : State), s.isUp (radId r) = true ∧ s.synState r n = 1 ∧ ((s.rd r).syn n).retried = true ∧
    s.synState r (1 - n.val) ≠ 3 ∧ (∀ q, (s.rd r).slot = some q → (s.holding r q.cmd.centre).isSome = true) :=
  ⟨0, 0, radio 0 (fun x => { x with syn0 := ⟨[], false, true⟩ }) (lit.setSyn 0 0 1), by decide +kernel⟩

theorem witness_SynthesisersTuneLockAndSwitch_9 :
    ∃ (r : Rad) (n : Fin 2) (s : State), s.isUp (radId r) = true ∧ s.synState r n = 1 ∧ ((s.rd r).syn n).retried = true ∧
    s.synState r (1 - n.val) = 3 ∧ s.mode.mode = .service :=
  ⟨1, 1, radio 1 (fun x => { x with syn1 := ⟨[], false, true⟩ }) ((lit.setSyn 1 1 1).setSyn 1 0 3), by decide +kernel⟩

theorem witness_SynthesisersTuneLockAndSwitch_10 :
    ∃ (r : Rad) (n : Fin 2) (s : State), s.radLit r = true ∧ s.synState r n = 2 ∧ (s.rd r).retune = none ∧ s.asksNothing r =
    true :=
  ⟨2, 1, lit.setSyn 2 1 2, by decide +kernel⟩

theorem witness_SynthesisersTuneLockAndSwitch_11 :
    ∃ (r : Rad) (width : Fin 5) (s : State), s.radLit r = true ∧ width.val ≤ maxWidth r ∧ s.synState r (1 - s.synActive r) =
    2 ∧ (s.rd r).air = none ∧ (s.rd r).rx = none ∧ ((∀ p, (s.rd r).slot = some p → p.cmd.response = false ∧ (p.commit = none
    ∨ p.switch = true))) ∧ s.asksNothing r = true :=
  ⟨1, 3, lit.setSyn 1 1 2, by decide +kernel⟩

theorem witness_SynthesisersTuneLockAndSwitch_12 :
    ∃ (who : Requester) (r : Rad) (w : Word) (s : State), s.radLit r = true ∧ F.radCtl_enable.get w = 0 ∧ isCudom who = true
    :=
  ⟨.glove 0, 2, 0, lit, by decide +kernel⟩

theorem witness_SynthesisersTuneLockAndSwitch_13 :
    ∃ (who : Requester) (r : Rad) (w : Word) (s : State), s.radLit r = true ∧ F.radCtl_enable.get w = 0 ∧ isCudom who = false
    :=
  ⟨.island 9, 2, 0, lit, by decide +kernel⟩

theorem witness_TransmitCommandsWaitCommitAndRadiate_1 :
    ∃ (r : Rad) (c : TxCmd) (s : State), s.radLit r = true ∧ txFmtOk r c.tx = true ∧ (s.rd r).slot = none ∧ s.txRefused r
    (s.issued r c) = none ∧ s.absNs (s.issued r c).earliest ≤ s.absNs (s.issued r c).deadline ∧ s.nowNs ≤ s.absNs (s.issued r
    c).deadline :=
  ⟨0, cmd0, locked 0 32000 lit, by decide +kernel⟩

theorem witness_TransmitCommandsWaitCommitAndRadiate_2 :
    ∃ (r : Rad) (c : TxCmd) (s : State), s.radLit r = true ∧ txFmtOk r c.tx = true ∧ (s.rd r).slot = none ∧ (s.rd r).held =
    [] ∧ s.txRefused r (s.issued r c) = none ∧ ((s.issued r c).isHolael || (s.issued r c).response) = true ∧ (s.issued r
    c).cal = none ∧ (s.absNs (s.issued r c).deadline < s.absNs (s.issued r c).earliest ∨ s.absNs (s.issued r c).deadline <
    s.nowNs) :=
  ⟨0, { cmd0 with earliest := 200001 }, lit, by decide +kernel⟩

theorem witness_TransmitCommandsWaitCommitAndRadiate_3 :
    ∃ (r : Rad) (c : TxCmd) (p : Slot) (s : State), s.radLit r = true ∧ txFmtOk r c.tx = true ∧ (s.rd r).slot = some p ∧
    s.txRefused r (s.issued r c) = none ∧ urgent (s.issued r c) = false :=
  ⟨0, cmd0, slot1, radio 0 (fun x => { x with slot := some slot1 }) (locked 0 32000 lit), by decide +kernel⟩

theorem witness_TransmitCommandsWaitCommitAndRadiate_4 :
    ∃ (r : Rad) (c : TxCmd) (p : Slot) (s : State), s.radLit r = true ∧ txFmtOk r c.tx = true ∧ (s.rd r).slot = some p ∧
    s.txRefused r (s.issued r c) = none ∧ urgent (s.issued r c) = true ∧ (p.commit.isSome = true ∨ (p.cmd.isHolael = true ∧
    p.cmd.cls = 1)) :=
  ⟨0, { cmd0 with response := true }, slot2, radio 0 (fun x => { x with slot := some slot2 }) (locked 0 32000 lit),
    by decide +kernel⟩

theorem witness_TransmitCommandsWaitCommitAndRadiate_5 :
    ∃ (r : Rad) (c : TxCmd) (p : Slot) (s : State), s.radLit r = true ∧ txFmtOk r c.tx = true ∧ (s.rd r).slot = some p ∧
    s.txRefused r (s.issued r c) = none ∧ urgent (s.issued r c) = true ∧ p.commit = none ∧ (p.cmd.isHolael = false ∨
    p.cmd.cls ≠ 1) ∧ s.absNs (s.issued r c).earliest ≤ s.absNs (s.issued r c).deadline ∧ s.nowNs ≤ s.absNs (s.issued r
    c).deadline :=
  ⟨0, { cmd0 with response := true }, slot1, radio 0 (fun x => { x with slot := some slot1 }) (locked 0 32000 lit),
    by decide +kernel⟩

theorem witness_TransmitCommandsWaitCommitAndRadiate_6 :
    ∃ (r : Rad) (p : Slot) (s : State), s.radLit r = true ∧ (s.rd r).slot = some p ∧ p.commit = none ∧ s.bit (A.radCtl r)
    F.radCtl_enable = true ∧ s.waitingOn r p = 0 ∧ s.nowNs + s.leadOf r p ≤ p.deadline :=
  ⟨0, slot1, radio 0 (fun x => { x with slot := some slot1 }) (locked 0 32000 lit), by decide +kernel⟩

theorem witness_TransmitCommandsWaitCommitAndRadiate_7 :
    ∃ (r : Rad) (p : Slot) (s : State), s.radLit r = true ∧ (s.rd r).slot = some p ∧ p.commit = none ∧ (s.rd r).held = [] ∧
    (p.cmd.isHolael || p.cmd.response) = true ∧ p.cmd.cal = none ∧ p.deadline ≤ s.nowNs + s.leadOf r p :=
  ⟨0, slotL, radio 0 (fun x => { x with slot := some slotL }) (locked 0 32000 lit), by decide +kernel⟩

theorem witness_TransmitCommandsWaitCommitAndRadiate_8 :
    ∃ (r : Rad) (p : Slot) (t0 : Nat) (s : State), s.radLit r = true ∧ (s.rd r).slot = some p ∧ p.commit = some t0 ∧ t0 ≤
    s.nowNs ∧ p.switch = false ∧ (s.rd r).air = none ∧ s.onActive r p.cmd.centre = true ∧ (s.bit (A.radCtl r)
    F.radCtl_coex_en = false ∨ (s.rd r).gnt = true) :=
  ⟨0, slotN, 0, radio 0 (fun x => { x with slot := some slotN }) (locked 0 32000 lit), by decide +kernel⟩

theorem witness_TransmitCommandsWaitCommitAndRadiate_9 :
    ∃ (r : Rad) (p : Slot) (t0 : Nat) (s : State), s.radLit r = true ∧ (s.rd r).slot = some p ∧ p.commit = some t0 ∧ t0 ≤
    s.nowNs ∧ p.switch = false ∧ (s.rd r).air = none ∧ s.onActive r p.cmd.centre = true ∧ s.bit (A.radCtl r) F.radCtl_coex_en
    = true ∧ (s.rd r).gnt = false ∧ (s.rd r).retune = none :=
  ⟨0, slotN, 0, radio 0 (fun x => { x with slot := some slotN }) (put [(A.radCtl 0, F.radCtl_coex_en, 1)] (locked 0 32000
    lit)), by decide +kernel⟩

theorem witness_TransmitCommandsWaitCommitAndRadiate_10 :
    ∃ (r : Rad) (a : Air) (s : State), s.radLit r = true ∧ (s.rd r).air = some a ∧ (a.cmd.isHolael || a.cmd.response) = true
    ∧ a.cmd.cal = none ∧ (s.rd r).retune = none ∧ s.asksNothing r = true :=
  ⟨0, air0, radio 0 (fun x => { x with air := some air0 }) (locked 0 32000 lit), by decide +kernel⟩

theorem witness_TransmitCommandsWaitCommitAndRadiate_11 :
    ∃ (r : Rad) (t0 : Nat) (p : Slot) (s : State), s.radLit r = true ∧ (s.rd r).slot = some p ∧ p.commit = some t0 ∧ t0 ≤
    s.nowNs + (s.rd r).lnaOff :=
  ⟨0, 0, slotN, radio 0 (fun x => { x with slot := some slotN }) (locked 0 32000 lit), by decide +kernel⟩

theorem witness_TransmitCommandsWaitCommitAndRadiate_14 :
    ∃ (r : Rad) (t0 : Nat) (p : Slot) (s : State), s.radLit r = true ∧ (s.rd r).slot = some p ∧ p.commit = some t0 ∧ s.bit
    (A.radCtl r) F.radCtl_coex_en = true ∧ t0 ≤ s.nowNs + (250 * s.fld (A.radCoexCtl r) F.radCoexCtl_coex_lead) :=
  ⟨0, 0, slotN, radio 0 (fun x => { x with slot := some slotN }) (put [(A.radCtl 0, F.radCtl_coex_en, 1)] (locked 0 32000
    lit)), by decide +kernel⟩

theorem witness_TransmitCommandsWaitCommitAndRadiate_15 :
    ∃ (r : Rad) (t0 : Nat) (p : Slot) (s : State), s.radLit r = true ∧ (s.rd r).slot = some p ∧ p.commit = some t0 ∧ s.nowNs
    + (s.rd r).lnaOff < t0 :=
  ⟨0, 100000, slot2, radio 0 (fun x => { x with slot := some slot2 }) (locked 0 32000 lit), by decide +kernel⟩

theorem witness_TransmitCommandsWaitCommitAndRadiate_19 :
    ∃ (r : Rad) (s : State), s.radLit r = true ∧ s.bit (A.radCtl r) F.radCtl_enable = true ∧ (s.rd r).air = none ∧ (s.rd
    r).slot = none :=
  ⟨2, radio 2 (fun x => { x with ends := [(0, 0), (1, 5)], paEn := 3, trsw := 3 }) (locked 2 75840 lit), by decide +kernel⟩

theorem witness_TransmitCommandsWaitCommitAndRadiate_22 :
    ∃ (r : Rad) (s : State), s.radLit r = true ∧ s.bit (A.radCtl r) F.radCtl_enable = true ∧ (s.rd r).air = none ∧ (s.rd
    r).slot = none ∧ s.fld (A.radAgcStatus r) F.radAgcStatus_state = 4 :=
  ⟨2, put [(A.radAgcStatus 2, F.radAgcStatus_state, 4)] (radio 2 (fun x => { x with ends := [(0, 0), (1, 5)] }) (locked 2
    75840 lit)), by decide +kernel⟩

theorem witness_SequencingDetectionAndTuner_1 :
    ∃ (r : Rad) (s : State), s.radLit r = true :=
  ⟨2, lit, by decide +kernel⟩

theorem witness_SequencingDetectionAndTuner_2 :
    ∃ (r : Rad) (lead : Word) (lag : Word) (s : State), s.radLit r = true ∧ (s.rd r).seqNext = some (lead, lag) :=
  ⟨1, 5, 6, radio 1 (fun x => { x with seqNext := some (5, 6) }) lit, by decide +kernel⟩

theorem witness_SequencingDetectionAndTuner_3 :
    ∃ (r : Rad) (c : Chain) (s : State), s.radLit r = true ∧ s.bit (A.radCtl r) F.radCtl_det_en = true ∧ c.val < chainsOf r ∧
    (s.rd r).muted.testBit c = false ∧ 4 ≤ Tbl.get (fun _ => 0) (s.rd r).detCount c :=
  ⟨0, 3, put [(A.radCtl 0, F.radCtl_det_en, 1)] (radio 0 (fun x => { x with detCount := [(3, 4)] }) lit), by decide +kernel⟩

theorem witness_SequencingDetectionAndTuner_4 :
    ∃ (who : Requester) (r : Rad) (s : State), s.radLit r = true ∧ isCudom who = true :=
  ⟨.glove 1, 0, lit, by decide +kernel⟩

theorem witness_SequencingDetectionAndTuner_7 :
    ∃ (who : Requester) (r : Rad) (s : State), s.radLit r = true ∧ isCudom who = false :=
  ⟨.core 23, 0, lit, by decide +kernel⟩

theorem witness_SequencingDetectionAndTuner_8 :
    ∃ (r : Rad) (w : Word) (s : State), s.radLit r = true ∧ F.radTunCmd_go.get w = 1 :=
  ⟨2, F.radTunCmd_go.put 1 0, lit, by decide +kernel⟩

theorem witness_SequencingDetectionAndTuner_9 :
    ∃ (r : Rad) (s : State), s.radLit r = true ∧ s.bit (A.radTunCmd r) F.radTunCmd_go = true ∧ (s.rd r).tunGo = true :=
  ⟨2, put [(A.radTunCmd 2, F.radTunCmd_go, 1)] (radio 2 (fun x => { x with tunGo := true }) lit), by decide +kernel⟩

theorem witness_CoexistenceBlanksAndAborts_1 :
    ∃ (r : Rad) (s : State), s.radLit r = true ∧ (s.rd r).blanks ≠ [] ∧ (s.rd r).blankOpen = false :=
  ⟨2, radio 2 (fun x => { x with blanks := [(0, 1)] }) lit, by decide +kernel⟩

theorem witness_CoexistenceBlanksAndAborts_2 :
    ∃ (r : Rad) (s : State), s.radLit r = true ∧ (s.rd r).blankOpen = true :=
  ⟨2, radio 2 (fun x => { x with blankOpen := true }) lit, by decide +kernel⟩

theorem witness_CoexistenceBlanksAndAborts_3 :
    ∃ (r : Rad) (s : State), (s.radLit r = false ∨ s.bit (A.radCtl r) F.radCtl_coex_en = false ∨ s.bit (A.radCoexCtl r)
    F.radCoexCtl_abort_en = false ∨ (s.rd r).air = none) :=
  ⟨0, lit, by decide +kernel⟩

theorem witness_CoexistenceBlanksAndAborts_4 :
    ∃ (r : Rad) (a : Air) (s : State), s.radLit r = true ∧ s.bit (A.radCtl r) F.radCtl_coex_en = true ∧ s.bit (A.radCoexCtl
    r) F.radCoexCtl_abort_en = true ∧ (s.rd r).air = some a ∧ (a.cmd.isHolael || a.cmd.response) = true ∧ a.cmd.cal = none ∧
    (s.rd r).retune = none ∧ s.asksNothing r = true :=
  ⟨0, air0, put [(A.radCtl 0, F.radCtl_coex_en, 1), (A.radCoexCtl 0, F.radCoexCtl_abort_en, 1)] (radio 0 (fun x =>
    { x with air := some air0 }) lit), by decide +kernel⟩

/-- A radio that receives: its gain control in a state, with a window and a reception. -/
def hears (r agc : Nat) (w : Option RxWin) (s : State) : State :=
  put [(A.radAgcStatus r, F.radAgcStatus_state, agc), (A.radCtl r, F.radCtl_enable, 1), (A.radCtl r, F.radCtl_rx_chain_en, 15)]
    (radio r (fun x => { x with rxWin := w, rx := some (Rx.start 0) }) s)

/-- An H-SIG of a lantern of 40 bytes, its check as bits 40 to 47. -/
def softOf (h : Nat) : List Int := (hsigSymbols h).flatten
def hsig : Nat := 40 * 2 ^ 22 + 83 * 2 ^ 40
def evt : HolEvent := ⟨1023, 0, 0, none, false, false, false, false, true, false, none⟩
def cw0 : Codeword := ⟨0, 0, 0, 5, true, 0, 3⟩
def galloped (w : List Codeword) (s : State) : State := { s with dec := { s.dec with waiting := w } }

theorem witness_GainFollowsTheReceptionStates_1 :
    ∃ (r : Rad) (s : State), s.radLit r = true ∧ s.agc r = 0 ∧ s.canReceive r = true :=
  ⟨2, put [(A.radCtl 2, F.radCtl_rx_chain_en, 15)] (locked 2 75840 (lit)), by decide +kernel⟩

theorem witness_GainFollowsTheReceptionStates_2 :
    ∃ (r : Rad) (s : State), s.radLit r = true ∧ (s.agc r = 1 ∨ s.agc r = 2) ∧ (s.rd r).detectAt + 8000 ≤ s.elapsed :=
  ⟨1, { hears 1 2 none lit with elapsed := 8000 }, by decide +kernel⟩

theorem witness_GainFollowsTheReceptionStates_3 :
    ∃ (r : Rad) (s : State), s.radLit r = true ∧ (s.agc r = 1 ∨ s.agc r = 2) :=
  ⟨0, hears 0 1 none lit, by decide +kernel⟩

theorem witness_GainFollowsTheReceptionStates_4 :
    ∃ (r : Rad) (s : State), s.radLit r = true ∧ s.agc r = 3 ∧ (s.rd r).rxWin = none ∧ s.bit (A.radPhyCtl r)
    F.radPhyCtl_restart_en = true :=
  ⟨2, put [(A.radPhyCtl 2, F.radPhyCtl_restart_en, 1)] (hears 2 3 none lit), by decide +kernel⟩

theorem witness_GainFollowsTheReceptionStates_5 :
    ∃ (r : Rad) (s : State), (s.rd r).rxWin.isSome = true :=
  ⟨0, hears 0 3 (some ⟨none, 0⟩) lit, by decide +kernel⟩

theorem witness_GainFollowsTheReceptionStates_6 :
    ∃ (r : Rad) (q : Rx) (s : State), s.radLit r = true ∧ (s.rd r).rx = some q ∧ s.nowNs < q.busyUntil :=
  ⟨0, { Rx.start 0 with busyUntil := 10 ^ 30 }, radio 0 (fun x =>
    { x with rx := some { Rx.start 0 with busyUntil := 10 ^ 30 } }) (hears 0 4 none lit), by decide +kernel⟩

theorem witness_GainFollowsTheReceptionStates_7 :
    ∃ (r : Rad) (q : Rx) (s : State), s.radLit r = true ∧ (s.rd r).rx = some q ∧ q.busyUntil ≤ s.nowNs :=
  ⟨0, Rx.start 0, hears 0 4 none lit, by decide +kernel⟩

theorem witness_GainFollowsTheReceptionStates_8 :
    ∃ (r : Rad) (s : State), s.radLit r = true ∧ (s.bit (A.radPhyCtl r) F.radPhyCtl_holael_rx_en && s.isLit 21 &&
    s.holListens r) = false :=
  ⟨2, lit, by decide +kernel⟩

theorem witness_GainFollowsTheReceptionStates_9 :
    ∃ (r : Rad) (s : State), s.radLit r = true ∧ (s.bit (A.radPhyCtl r) F.radPhyCtl_holael_rx_en && s.isLit 21 &&
    s.holListens r) = true :=
  ⟨1, put [(A.radPhyCtl 1, F.radPhyCtl_holael_rx_en, 1)]
    { lit with hmac := { lit.hmac with hol := { lit.hmac.hol with events := [(1, evt)] } } }, by decide +kernel⟩

theorem witness_HsigIsCheckedAndNoiseAveraged_1 :
    ∃ (r : Rad) (soft : List Int) (win : RxWin) (q : Rx) (s : State), s.radLit r = true ∧ (s.rd r).rxWin = some win ∧ (s.rd
    r).rx = some q ∧ q.lost = none ∧ (hsigDecode soft) / 2 ^ 40 % 256 ≠ hsigCrc (hsigDecode soft) :=
  ⟨0, softOf (hsig + 2 ^ 40), ⟨none, 0⟩, Rx.start 0, hears 0 3 (some ⟨none, 0⟩) lit, by decide +kernel⟩

theorem witness_HsigIsCheckedAndNoiseAveraged_2 :
    ∃ (r : Rad) (soft : List Int) (win : RxWin) (q : Rx) (s : State), s.radLit r = true ∧ (s.rd r).rxWin = some win ∧ (s.rd
    r).rx = some q ∧ q.lost = none ∧ (hsigDecode soft) / 2 ^ 40 % 256 = hsigCrc (hsigDecode soft) ∧ (((hsigDecode soft) % 4 ≠
    0 ∨ 9 ≤ (hsigDecode soft) / 4 % 16 ∨ (hsigDecode soft) / 2 ^ 20 % 4 = 3 ∨ (hsigDecode soft) / 2 ^ 22 % 2 ^ 17 = 0 ∨ ones
    (s.rxChains r) < (hsigDecode soft) / 2 ^ 18 % 4 + 1 ∨ (usesMap ((hsigDecode soft) / 4 % 16) = true ∧ (s.hsigMap r
    (hsigDecode soft) win).isNone = true))) :=
  ⟨0, softOf (hsigCrc 0 * 2 ^ 40), ⟨none, 0⟩, Rx.start 0, hears 0 3 (some ⟨none, 0⟩) lit, by decide +kernel⟩

theorem witness_HsigIsCheckedAndNoiseAveraged_3 :
    ∃ (r : Rad) (soft : List Int) (l : Nat) (win : RxWin) (q : Rx) (s : State) (x : _), s.radLit r = true ∧ (s.rd r).rxWin =
    some win ∧ (s.rd r).rx = some q ∧ q.lost = none ∧ (hsigDecode soft) / 2 ^ 40 % 256 = hsigCrc (hsigDecode soft) ∧
    s.hsigBad r (hsigDecode soft) win = false ∧ s.hsigTxTime r (hsigDecode soft) win = some x ∧ ((lsigDuration l) < x ∨ x +
    4000 ≤ (lsigDuration l)) :=
  ⟨0, softOf (hsig), 48, ⟨none, 0⟩, Rx.start 0, hears 0 3 (some ⟨none, 0⟩) lit, 82400, by decide +kernel⟩

theorem witness_HsigIsCheckedAndNoiseAveraged_4 :
    ∃ (r : Rad) (soft : List Int) (l : Nat) (win : RxWin) (q : Rx) (s : State) (x : _), s.radLit r = true ∧ (s.rd r).rxWin =
    some win ∧ (s.rd r).rx = some q ∧ q.lost = none ∧ (hsigDecode soft) / 2 ^ 40 % 256 = hsigCrc (hsigDecode soft) ∧
    s.hsigBad r (hsigDecode soft) win = false ∧ s.hsigTxTime r (hsigDecode soft) win = some x ∧ x ≤ (lsigDuration l) ∧
    (lsigDuration l) < x + 4000 :=
  ⟨0, softOf (hsig), 47, ⟨none, 0⟩, Rx.start 0, hears 0 3 (some ⟨none, 0⟩) lit, 82400, by decide +kernel⟩

theorem witness_HsigIsCheckedAndNoiseAveraged_5 :
    ∃ (r : Rad) (s : State), (s.rd r).rxWin = none :=
  ⟨2, lit, by decide +kernel⟩

theorem witness_HsigIsCheckedAndNoiseAveraged_6 :
    ∃ (r : Rad) (s : State), s.radLit r = true ∧ s.bit (A.radCtl r) F.radCtl_enable = true ∧ s.bit (A.radNfCfg r)
    F.radNfCfg_nf_en = true ∧ s.radIdle r = true ∧ s.agc r = 0 ∧ s.canReceive r = true ∧ (s.rd r).idleSince + 28800 ≤
    s.elapsed ∧ s.fld (A.radNfStatus r) F.radNfStatus_groups ≤ 980 :=
  ⟨0, put [(A.radNfCfg 0, F.radNfCfg_nf_en, 1), (A.radNfStatus 0, F.radNfStatus_groups, 980)]
    { put [(A.radCtl 0, F.radCtl_rx_chain_en, 15)] (locked 0 30720 (lit)) with elapsed := 28800 }, by decide +kernel⟩

theorem witness_TheGalleryServesByDeadline_1 :
    ∃ (r : Rad) (k : CwKind) (q : Rx) (s : State), s.radLit r = true ∧ (s.rd r).ppdu = some q ∧ q.lost = none ∧ q.discard =
    false ∧ (match k with | .holael => q.hsig.isSome | .wlan _ pre => ldpcPpdu r pre) = true ∧ s.isLit 20 = true ∧
    s.dec.waiting.length < 2048 ∧ (match k with | .holael => false | .wlan _ pre => s.foreignColour r pre.colour) = false :=
  ⟨2, .holael, { Rx.start 0 with hsig := some (1, ⟨none, 0⟩) }, radio 2 (fun x =>
    { x with rx := some { Rx.start 0 with hsig := some (1, ⟨none, 0⟩) } }) (lit), by decide +kernel⟩

theorem witness_TheGalleryServesByDeadline_2 :
    ∃ (r : Rad) (k : CwKind) (q : Rx) (s : State), s.radLit r = true ∧ (s.rd r).ppdu = some q ∧ q.lost = none ∧ q.discard =
    false ∧ (match k with | .holael => q.hsig.isSome | .wlan _ pre => ldpcPpdu r pre) = true ∧ s.isLit 20 = false :=
  ⟨0, .holael, { Rx.start 0 with hsig := some (1, ⟨none, 0⟩) }, radio 0 (fun x =>
    { x with rx := some { Rx.start 0 with hsig := some (1, ⟨none, 0⟩) } }) (pwr 20 (fun x => { x with st := .dark }) lit),
    by decide +kernel⟩

theorem witness_TheGalleryServesByDeadline_3 :
    ∃ (r : Rad) (k : CwKind) (q : Rx) (s : State) (v : _) (pre : _), s.radLit r = true ∧ (s.rd r).ppdu = some q ∧ q.lost =
    none ∧ q.discard = false ∧ (match k with | .holael => q.hsig.isSome | .wlan _ pre => ldpcPpdu r pre) = true ∧ s.isLit 20
    = true ∧ k = .wlan v pre ∧ s.foreignColour r pre.colour = true ∧ q.counted = false :=
  ⟨0, .wlan true ⟨⟨.he, 0, 0, 1, 0⟩, false, some 63, 0⟩, (Rx.start 0), radio 0 (fun x => { x with rx := some (Rx.start 0) })
    (put [(A.radPhyCtl 0, F.radPhyCtl_obss_skip, 1)] lit), true, ⟨⟨.he, 0, 0, 1, 0⟩, false, some 63, 0⟩, by decide +kernel⟩

theorem witness_TheGalleryServesByDeadline_4 :
    ∃ (r : Rad) (k : CwKind) (q : Rx) (s : State), s.radLit r = true ∧ (s.rd r).ppdu = some q ∧ q.lost = none ∧ q.discard =
    false ∧ (match k with | .holael => q.hsig.isSome | .wlan _ pre => ldpcPpdu r pre) = true ∧ s.isLit 20 = true ∧ k =
    .holael ∧ 2048 ≤ s.dec.waiting.length :=
  ⟨1, .holael, { Rx.start 0 with hsig := some (1, ⟨none, 0⟩) }, radio 1 (fun x =>
    { x with rx := some { Rx.start 0 with hsig := some (1, ⟨none, 0⟩) } }) (galloped (List.replicate 2048 cw0) lit),
    by decide +kernel⟩

theorem witness_TheGalleryServesByDeadline_5 :
    ∃ (cell : Fin 6) (c : Codeword) (s : State), s.isLit 20 = true ∧ Tbl.find? s.dec.cells cell = none ∧ c ∈ s.dec.waiting ∧
    (∀ d ∈ s.dec.waiting, d = c ∨ c.before d = true) ∧ (∀ d ∈ s.dec.waiting, d.num = c.num → d = c) :=
  ⟨5, cw0, galloped [{ cw0 with deadline := 6, num := 2 }, cw0] lit, by decide +kernel⟩

theorem witness_TheGalleryServesByDeadline_6 :
    ∃ (cell : Fin 6) (run : CellRun) (s : State), s.isLit 20 = true ∧ Tbl.find? s.dec.cells cell = some run :=
  ⟨5, ⟨cw0, 20, 0⟩, { lit with dec := { lit.dec with cells := [(5, ⟨cw0, 20, 0⟩)] } }, by decide +kernel⟩

theorem witness_TheGalleryServesByDeadline_7 :
    ∃ (cell : Fin 6) (run : CellRun) (s : State), s.isLit 20 = true ∧ Tbl.find? s.dec.cells cell = some run ∧ run.cw.deadline
    ≤ s.half :=
  ⟨5, ⟨cw0, 20, 0⟩, { lit with elapsed := 3, dec := { lit.dec with cells := [(5, ⟨cw0, 20, 0⟩)] } }, by decide +kernel⟩

theorem witness_TheGalleryServesByDeadline_8 :
    ∃ (c : Codeword) (s : State), s.isLit 20 = true ∧ s.nextCw = some c ∧ c.deadline < s.half + 245 :=
  ⟨cw0, galloped [{ cw0 with deadline := 6, num := 2 }, cw0] lit, by decide +kernel⟩

theorem witness_TheGalleryServesByDeadline_9 :
    ∃ (s : State), s.isLit 20 = true :=
  ⟨lit, by decide +kernel⟩

/-- A radio's calibration changed. -/
def cald (r : Nat) (f : CalState → CalState) (s : State) : State := radio r (fun x => { x with cal := f x.cal }) s
def est0 : CapEst :=
  { leak := 0, image := 0, predist := 0, phase := 0, gain := 0, evm := 0, pred0 := 0, pred1 := 0, pred2 := 0, coefs := [] }

theorem witness_CapturesFeedAndStagedSetsApply_1 :
    ∃ (r : Rad) (clipped : Bool) (low : Bool) (q : Capture) (s : State), s.radLit r = true ∧ (s.rd r).cal.capture = some q ∧
    (s.rd r).air = none ∧ (q.bad = true ∨ clipped = true ∨ low = true) :=
  ⟨2, false, true, ⟨0, 0, false, []⟩, cald 2 (fun c => { c with capture := some ⟨0, 0, false, []⟩ }) lit, by decide +kernel⟩

theorem witness_CapturesFeedAndStagedSetsApply_2 :
    ∃ (r : Rad) (q : Capture) (s : State), s.radLit r = true ∧ (s.rd r).cal.capture = some q ∧ q.rest = [] ∧ q.bad = false ∧
    q.gs ≤ 4 ∧ q.chain < 8 ∧ (s.fld (A.radCalCtl r) F.radCalCtl_loop_en) % 16 = 15 ∧ (s.rd r).cal.watch = [] ∧ (∀ k < 256,
    (Tbl.get (fun _ => Flow.empty) (s.rd r).cal.flow k).count + 1 < s.fsDepth r) :=
  ⟨0, ⟨3, 4, false, []⟩, put [(A.radCalCtl 0, F.radCalCtl_loop_en, 15), (A.radCalCtl 0, F.radCalCtl_fs_shift, 3)] (cald 0
    (fun c => { c with capture := some ⟨3, 4, false, []⟩ }) lit), by decide +kernel⟩

theorem witness_CapturesFeedAndStagedSetsApply_3 :
    ∃ (r : Rad) (s : State), s.radLit r = true ∧ s.radIdle r = true ∧ ((s.changesDue r = true ∨ ((s.rd r).cal.waits = true ∧
    ∀ t0, (s.rd r).cal.lastApply = some t0 → t0 + 10000000 ≤ s.elapsed))) :=
  ⟨1, radio 1 (fun x => { x with muteDue := 2 }) lit, by
    refine ⟨?_, ?_, Or.inl (by decide +kernel)⟩ <;> decide +kernel⟩

theorem witness_CapturesFeedAndStagedSetsApply_4 :
    ∃ (r : Rad) (t0 : Nat) (s : State), (s.rd r).cal.lastApply = some t0 ∧ s.elapsed < t0 + 10000000 ∧ s.changesDue r = false
    :=
  ⟨1, 0, { cald 1 (fun c => { c with lastApply := some 0 }) lit with elapsed := 9999999 }, by decide +kernel⟩

theorem witness_CapturesFeedAndStagedSetsApply_5 :
    ∃ (r : Rad) (p : Fin 1025) (s : State), s.isLit 21 = true ∧ (Tbl.get (fun _ => HolPeer.init) s.hmac.hol.peers
    p).refDeferred.testBit r = true ∧ (∀ t0, Tbl.find? (Tbl.get (fun _ => HolPeer.init) s.hmac.hol.peers p).refSent r = some
    t0 → t0 + s.refreshHoldoff r ≤ s.elapsed) :=
  ⟨2, 1024,
    { lit with hmac := { lit.hmac with hol := { HolState.init with peers := [(1024, { HolPeer.init with refDeferred := 4 })] } } },
    by decide +kernel⟩

theorem witness_StepsThinChainsAndCalibrationFrames_1 :
    ∃ (r : Rad) (n : Fin 2) (s : State), s.radLit r = true ∧ (s.rd r).air = none ∧ ((∀ p, (s.rd r).slot = some p → p.commit =
    none ∧ s.holding r p.cmd.centre ≠ some n.val)) ∧ s.asksNothing r = true ∧ (s.rd r).cal.step = none ∧ (s.rd r).cal.yielded
    = none ∧ s.loopOn r 5 = true ∧ s.synActive r ≠ n.val ∧ s.synState r n ≠ 1 ∧ s.synState r n ≠ 3 :=
  ⟨2, 1, put [(A.radCalCtl 2, F.radCalCtl_loop_en, 32)] (lit.setSyn 2 1 2), by
    refine ⟨?_, ?_, (fun _ h => nomatch (show (none : Option Slot) = some _ from h)), ?_, ?_, ?_, ?_, ?_, ?_, ?_⟩ <;> decide +kernel⟩

theorem witness_StepsThinChainsAndCalibrationFrames_2 :
    ∃ (r : Rad) (s : State), (((s.rd r).air.isSome = true ∨ (∃ p, (s.rd r).slot = some p ∧ p.commit.isSome = true))) :=
  ⟨0, radio 0 (fun x => { x with air := some air0 }) lit, Or.inl rfl⟩

theorem witness_StepsThinChainsAndCalibrationFrames_3 :
    ∃ (r : Rad) (t0 : Nat) (n : Fin 2) (s : State), s.radLit r = true ∧ s.asksNothing r = true ∧ (s.rd r).cal.step = some
    ⟨.probe n, t0⟩ ∧ s.loopOn r 5 = true :=
  ⟨0, 0, 1, put [(A.radCalCtl 0, F.radCalCtl_loop_en, 32)] (cald 0 (fun c => { c with step := some ⟨.probe 1, 0⟩ }) lit),
    by decide +kernel⟩

theorem witness_StepsThinChainsAndCalibrationFrames_4 :
    ∃ (r : Rad) (t0 : Nat) (c : Chain) (q : Chain) (g : Fin 26) (s : State), s.radLit r = true ∧ s.asksNothing r = true ∧
    (s.rd r).cal.step = some ⟨.loopback c q g, t0⟩ ∧ (s.rd r).cal.gainRun.isSome = true :=
  ⟨0, 0, 0, 1, 25, cald 0 (fun c => { c with gainRun := some 0, step := some ⟨.loopback 0 1 25, 0⟩ }) lit, by decide +kernel⟩

theorem witness_StepsThinChainsAndCalibrationFrames_5 :
    ∃ (r : Rad) (p : Slot) (k : StepRun) (s : State), s.radLit r = true ∧ (s.rd r).slot = some p ∧ p.commit = none ∧ (s.rd
    r).cal.step = some k ∧ (s.rd r).stepBlocks (s.holding r p.cmd.centre) p.cmd.chains = true ∧ s.asksNothing r = true :=
  ⟨0, slot1, ⟨.probe 0, 0⟩, cald 0 (fun c => { c with step := some ⟨.probe 0, 0⟩ }) (radio 0 (fun x =>
    { x with slot := some slot1 }) (locked 0 32000 lit)), by decide +kernel⟩

theorem witness_StepsThinChainsAndCalibrationFrames_6 :
    ∃ (r : Rad) (s : State), s.radLit r = true ∧ s.loopOn r 4 = true ∧ (s.rd r).cal.gainRun = none ∧ (16 ≤ absI (s.radTemp r
    - (s.rd r).cal.gainTemp) ∨ (s.rd r).cal.gainAt + 10 * nsPerSec ≤ s.elapsed) :=
  ⟨1, put [(A.radCalCtl 1, F.radCalCtl_loop_en, 16)] { lit with elapsed := 10 * nsPerSec }, by decide +kernel⟩

theorem witness_StepsThinChainsAndCalibrationFrames_7 :
    ∃ (r : Rad) (s : State), absI (s.radTemp r - (s.rd r).cal.gainTemp) < 16 ∧ s.elapsed < (s.rd r).cal.gainAt + 10 *
    nsPerSec :=
  ⟨1, { cald 1 (fun c => { c with gainTemp := lit.radTemp 1 }) lit with elapsed := 9999999999 }, by decide +kernel⟩

theorem witness_StepsThinChainsAndCalibrationFrames_8 :
    ∃ (r : Rad) (t0 : Nat) (s : State), s.radLit r = true ∧ (s.rd r).cal.gainRun = some t0 ∧ t0 + nsPerSec ≤ s.elapsed :=
  ⟨2, 0, { cald 2 (fun c => { c with gainRun := some 0 }) lit with elapsed := nsPerSec }, by decide +kernel⟩

theorem witness_StepsThinChainsAndCalibrationFrames_9 :
    ∃ (r : Rad) (s : State), s.radLit r = true :=
  ⟨0, lit, by decide +kernel⟩

theorem witness_StepsThinChainsAndCalibrationFrames_10 :
    ∃ (r : Rad) (id : Nat) (e : Nat) (d : Nat) (s : State), s.radLit r = true ∧ s.isLit 21 = true ∧ s.airIdle r = true ∧
    s.unserved r ≠ [] ∧ s.calFits r (s.calCmd r id e d (s.synFreq r (s.synActive r)) (((s.unserved r).take 4).foldl setBit 0)
    []) = true ∧ (s.holding r (s.synFreq r (s.synActive r))).isSome = true ∧ s.absNs e ≤ s.absNs d ∧ s.nowNs ≤ s.absNs d :=
  ⟨0, 3, 0, 0, put [(A.radCalState 0, F.radCalState_thin_chains, 15)] (locked 0 32000 lit), by decide +kernel⟩

theorem witness_StepsThinChainsAndCalibrationFrames_11 :
    ∃ (r : Rad) (id : Nat) (e : Nat) (d : Nat) (s : State), s.radLit r = true ∧ s.isLit 21 = true ∧ s.airIdle r = true ∧
    s.unserved r ≠ [] ∧ s.calFits r (s.calCmd r id e d (s.synFreq r (s.synActive r)) (((s.unserved r).take 4).foldl setBit 0)
    []) = false :=
  ⟨0, 3, 0, 0, radio 0 (fun x => { x with blanks := [(0, 30000)] }) (put [(A.radCalState 0, F.radCalState_thin_chains, 15),
    (A.radCoexCtl 0, F.radCoexCtl_sync_en, 1)] (locked 0 32000 lit)), by decide +kernel⟩

theorem witness_StepsThinChainsAndCalibrationFrames_12 :
    ∃ (r : Rad) (e : Nat) (d : Nat) (p : CalProbe) (q : Request) (rest : List Request) (s : State), s.radLit r = true ∧
    s.airIdle r = true ∧ Tbl.get (fun _ => []) s.cdm.jobs.calRun r = q :: rest ∧ p.chains.val &&& q.p 0 2 = p.chains.val ∧
    p.chains ≠ 0 ∧ ones p.chains.val ≤ 4 ∧ s.absNs e ≤ s.absNs d ∧ s.nowNs ≤ s.absNs d :=
  ⟨0, 0, 0, ⟨32000, 4, 3⟩, req 17 0x10 [0, 3, 1, 0], [],
    { locked 0 32000 lit with cdm := { lit.cdm with jobs := { lit.cdm.jobs with calRun := [(0, [req 17 0x10 [0, 3, 1, 0]])] } } },
    by decide +kernel⟩

/-- Holael state changed, the parent link changed, and a member state. -/
def holy (f : HolState → HolState) (s : State) : State := s.setHol (f s.hol)
def parented (f : ParentLink → ParentLink) (s : State) : State := holy (fun h => { h with parent := f h.parent }) s
def member (v : Nat) (s : State) : State := s.setMemberState v
/-- District time, ms. -/
def atMs (n : Nat) (s : State) : State := { s with time := { s.time with clock := n * 1000000 * fracUnits } }
/-- A JOIN_REQ's body: the key element of R223 with nothing else. -/
def joinBody : List Byte := List.replicate 6 0
/-- A partner's schedule as firmware writes it: bands, interval, offset and length in units, supervision. -/
def scheduled (p bands interval phase off win : Nat) (s : State) : State :=
  put [(A.hmacHolPartnerW0 p, F.hmacHolPartnerW0_bands, bands), (A.hmacHolPartnerW0 p, F.hmacHolPartnerW0_interval, interval),
    (A.hmacHolPartnerW2 p, F.hmacHolPartnerW2_phase, phase), (A.hmacHolPartnerW1 p, F.hmacHolPartnerW1_offset, off),
    (A.hmacHolPartnerW1 p, F.hmacHolPartnerW1_window, win), (A.hmacHolPartnerW4 p, F.hmacHolPartnerW4_supervision, 100),
    (A.hmacHolRound, F.hmacHolRound_round_units, 80)] s

theorem witness_ChannelsAndRoundsAreSetWhilePartnersAreFree_1 :
    ∃ (who : Requester) (i : Fin 64) (w : Word) (s : State), s.isLit 21 = true ∧ isAnyCore who = true ∧ chdefOk i w = true ∧
    s.anyPartner = false :=
  ⟨.core 0, 0, (F.hmacHolChdef_centre.put 30848 (F.hmacHolChdef_width.put 0 0)), lit, by decide +kernel⟩

theorem witness_ChannelsAndRoundsAreSetWhilePartnersAreFree_2 :
    ∃ (who : Requester) (i : Fin 64) (w : Word) (s : State), s.isLit 21 = true ∧ isAnyCore who = true ∧ (chdefOk i w = false
    ∨ ∃ p : Fin 1024, s.partnerState p ≠ 0) :=
  ⟨.core 0, 0, (F.hmacHolChdef_centre.put 30848 (F.hmacHolChdef_width.put 0 0)), lit.setPartnerState 1023 1, by
    refine ⟨?_, ?_, Or.inr ⟨1023, by decide +kernel⟩⟩ <;> decide +kernel⟩

theorem witness_ChannelsAndRoundsAreSetWhilePartnersAreFree_3 :
    ∃ (who : Requester) (w : Word) (s : State), s.isLit 21 = true ∧ isAnyCore who = true ∧ 8 ≤ F.hmacHolRound_round_units.get
    w ∧ F.hmacHolRound_round_units.get w ≤ 8192 ∧ 2 ≤ F.hmacHolRound_lantern_reserve.get w ∧
    F.hmacHolRound_lantern_reserve.get w ≤ 8 ∧ F.hmacHolRound_hop_increment.get w % 2 = 1 ∧ s.anyPartner = false :=
  ⟨.glove 0, (F.hmacHolRound_hop_increment.put 255 (F.hmacHolRound_lantern_reserve.put 8 (F.hmacHolRound_round_units.put 8192
    0))), lit, by decide +kernel⟩

theorem witness_ChannelsAndRoundsAreSetWhilePartnersAreFree_4 :
    ∃ (who : Requester) (w : Word) (s : State), s.isLit 21 = true ∧ isAnyCore who = true ∧ (F.hmacHolRound_round_units.get w
    < 8 ∨ 8192 < F.hmacHolRound_round_units.get w ∨ F.hmacHolRound_lantern_reserve.get w < 2 ∨ 8 <
    F.hmacHolRound_lantern_reserve.get w ∨ F.hmacHolRound_hop_increment.get w % 2 = 0 ∨ ∃ p : Fin 1024, s.partnerState p ≠ 0)
    :=
  ⟨.core 23, (F.hmacHolRound_hop_increment.put 255 (F.hmacHolRound_lantern_reserve.put 8 (F.hmacHolRound_round_units.put 8193
    0))), lit, by
    refine ⟨?_, ?_, Or.inr (Or.inl (by decide +kernel))⟩ <;> decide +kernel⟩

theorem witness_ChannelsAndRoundsAreSetWhilePartnersAreFree_5 :
    ∃ (who : Requester) (w : Word) (s : State), s.isLit 21 = true ∧ isAnyCore who = true ∧ F.hmacHolChmapCtl_change_req.get w
    = 1 ∧ s.hol.change = none :=
  ⟨.core 0, (F.hmacHolChmapCtl_change_req.put 1 0), lit, by decide +kernel⟩

theorem witness_ChannelsAndRoundsAreSetWhilePartnersAreFree_6 :
    ∃ (who : Requester) (s : State), s.isLit 21 = true ∧ isAnyCore who = true ∧ s.hol.change.isSome = true :=
  ⟨.core 0, holy (fun h => { h with change := some (1, 63, 9) }) lit, by decide +kernel⟩

theorem witness_ChannelsAndRoundsAreSetWhilePartnersAreFree_7 :
    ∃ (m : Nat) (a : Nat) (sw : Nat) (s : State), s.isLit 21 = true ∧ s.hol.change = some (m, a, sw) ∧ sw ≤ s.roundNo ∧ m < 2
    ^ 64 ∧ a < 64 :=
  ⟨2 ^ 64 - 1, 63, 0, holy (fun h => { h with change := some (2 ^ 64 - 1, 63, 0) }) lit, by decide +kernel⟩

theorem witness_ChannelsAndRoundsAreSetWhilePartnersAreFree_8 :
    ∃ (s : State), s.isLit 21 = true ∧ s.hol.parent.switchRound ≠ 0 ∧ s.hol.parent.switchRound ≤ s.parentRound :=
  ⟨parented (fun p => { p with switchRound := 1 }) (atMs 10 lit), by decide +kernel⟩

theorem witness_ChannelsAndRoundsAreSetWhilePartnersAreFree_9 :
    ∃ (who : Requester) (w : Word) (s : State), s.isLit 21 = true ∧ isAnyCore who = true ∧ F.hmacHolAbsence_go.get w = 1 ∧
    s.bit A.hmacHolCtl F.hmacHolCtl_coord_en = true ∧ F.hmacHolAbsence_bands.get w ≠ 0 ∧ F.hmacHolAbsence_duration.get w ≠ 0
    ∧ (s.hol.absences.filter (fun a => s.roundNo < a.start + a.rounds)).length < 4 :=
  ⟨.core 0, (F.hmacHolAbsence_duration.put 1 (F.hmacHolAbsence_bands.put 4 (F.hmacHolAbsence_go.put 1 0))), put
    [(A.hmacHolCtl, F.hmacHolCtl_coord_en, 1)] (holy (fun h => { h with absences := List.replicate 3 ⟨1, 5, 1⟩ }) lit),
    by decide +kernel⟩

theorem witness_ChannelsAndRoundsAreSetWhilePartnersAreFree_10 :
    ∃ (who : Requester) (s : State), s.isLit 21 = true ∧ isAnyCore who = true ∧ 4 ≤ (s.hol.absences.filter (fun a =>
    s.roundNo < a.start + a.rounds)).length :=
  ⟨.core 0, holy (fun h => { h with absences := List.replicate 4 ⟨1, 5, 1⟩ }) lit, by decide +kernel⟩

theorem witness_ChannelsAndRoundsAreSetWhilePartnersAreFree_11 :
    ∃ (who : Requester) (s : State), s.isLit 21 = true ∧ isAnyCore who = false :=
  ⟨.dma 0, lit, by decide +kernel⟩

theorem last_partner_is_admitted : (scheduled 1023 4 256 255 79 1 lit).admission 1023 = (ST.ok, 0) := by decide +kernel
theorem holAdmit_next (who : Requester) (w : Word) (s : State) :
    exec (.holAdmit who w) s = .next (afterCmd s (exec (.holAdmit who w) s)) := rfl

theorem witness_AdmittedSchedulesNeverMeet_1 :
    ∃ (who : Requester) (w : Word) (s : State) (t : State), exec (.holAdmit who w) s = .next t ∧ s.partnerState
    (F.hmacHolAdmit_partner.get w) = 0 ∧ t.partnerState (F.hmacHolAdmit_partner.get w) = 1 :=
  ⟨.core 0, (F.hmacHolAdmit_partner.put 1023 (F.hmacHolAdmit_go.put 1 0)), (scheduled 1023 4 256 255 79 1 lit), afterCmd
    (scheduled 1023 4 256 255 79 1 lit) (exec (.holAdmit (.core 0) (F.hmacHolAdmit_partner.put 1023 (F.hmacHolAdmit_go.put 1
    0))) (scheduled 1023 4 256 255 79 1 lit)), by
    refine ⟨holAdmit_next _ _ _, ?_, ?_⟩ <;> decide +kernel⟩

theorem witness_AdmittedSchedulesNeverMeet_2 :
    ∃ (who : Requester) (w : Word) (s : State), s.isLit 21 = true ∧ isAnyCore who = true ∧ F.hmacHolAdmit_go.get w = 1 ∧
    F.hmacHolAdmit_op.get w = 0 ∧ s.partnerState (F.hmacHolAdmit_partner.get w) = 0 ∧ 1 ≤ (s.fld (A.hmacHolPartnerW0
    (F.hmacHolAdmit_partner.get w)) F.hmacHolPartnerW0_interval) ∧ (s.fld (A.hmacHolPartnerW0 (F.hmacHolAdmit_partner.get w))
    F.hmacHolPartnerW0_interval) ≤ 256 ∧ (s.fld (A.hmacHolPartnerW2 (F.hmacHolAdmit_partner.get w)) F.hmacHolPartnerW2_phase)
    < (s.fld (A.hmacHolPartnerW0 (F.hmacHolAdmit_partner.get w)) F.hmacHolPartnerW0_interval) ∧ s.linkBands
    (F.hmacHolAdmit_partner.get w) ≠ 0 ∧ s.linkWindow (F.hmacHolAdmit_partner.get w) ≠ 0 ∧ 100 ≤ (s.fld (A.hmacHolPartnerW4
    (F.hmacHolAdmit_partner.get w)) F.hmacHolPartnerW4_supervision) ∧ (s.fld (A.hmacHolPartnerW4 (F.hmacHolAdmit_partner.get
    w)) F.hmacHolPartnerW4_supervision) ≤ 32000 ∧ (((s.fld (A.hmacHolPartnerW1 (F.hmacHolAdmit_partner.get w))
    F.hmacHolPartnerW1_offset) < s.fld A.hmacHolRound F.hmacHolRound_lantern_reserve ∨ s.roundUnits < (s.fld
    (A.hmacHolPartnerW1 (F.hmacHolAdmit_partner.get w)) F.hmacHolPartnerW1_offset) + s.linkWindow (F.hmacHolAdmit_partner.get
    w) ∨ ∃ b < 3, (s.linkBands (F.hmacHolAdmit_partner.get w)).testBit b = true ∧ (s.isFitted (radId b) = false ∨ shareOk
    (((s.fld (A.hmacHolPartnerW0 (F.hmacHolAdmit_partner.get w)) F.hmacHolPartnerW0_interval), (s.fld (A.hmacHolPartnerW2
    (F.hmacHolAdmit_partner.get w)) F.hmacHolPartnerW2_phase), (s.fld (A.hmacHolPartnerW1 (F.hmacHolAdmit_partner.get w))
    F.hmacHolPartnerW1_offset), s.linkWindow (F.hmacHolAdmit_partner.get w)) :: s.reserved b) s.roundUnits (s.shareLimit b) =
    false ∨ ∃ x ∈ s.reserved b, ∃ round, round % (s.fld (A.hmacHolPartnerW0 (F.hmacHolAdmit_partner.get w))
    F.hmacHolPartnerW0_interval) = (s.fld (A.hmacHolPartnerW2 (F.hmacHolAdmit_partner.get w)) F.hmacHolPartnerW2_phase) ∧
    round % x.1 = x.2.1 ∧ (s.fld (A.hmacHolPartnerW1 (F.hmacHolAdmit_partner.get w)) F.hmacHolPartnerW1_offset) < x.2.2.1 +
    x.2.2.2 ∧ x.2.2.1 < (s.fld (A.hmacHolPartnerW1 (F.hmacHolAdmit_partner.get w)) F.hmacHolPartnerW1_offset) + s.linkWindow
    (F.hmacHolAdmit_partner.get w)))) :=
  ⟨.core 0, (F.hmacHolAdmit_partner.put 1023 (F.hmacHolAdmit_go.put 1 0)), scheduled 1023 7 256 255 80 1 lit, by
    refine ⟨?_, ?_, ?_, ?_, ?_, ?_, ?_, ?_, ?_, ?_, ?_, ?_, Or.inr (Or.inl (by decide +kernel))⟩ <;> decide +kernel⟩

theorem witness_AdmissionOffersAndReleaseFrees_1 :
    ∃ (who : Requester) (w : Word) (s : State), s.isLit 21 = true ∧ isAnyCore who = true ∧ F.hmacHolAdmit_go.get w = 1 ∧
    F.hmacHolAdmit_op.get w = 0 ∧ s.admission (F.hmacHolAdmit_partner.get w) = (ST.ok, 0) :=
  ⟨.core 0, (F.hmacHolAdmit_partner.put 1023 (F.hmacHolAdmit_go.put 1 0)), scheduled 1023 4 256 255 79 1 lit, by
    refine ⟨?_, ?_, ?_, ?_, last_partner_is_admitted⟩ <;> decide +kernel⟩

theorem witness_AdmissionOffersAndReleaseFrees_2 :
    ∃ (who : Requester) (w : Word) (why : Nat) (s : State), s.isLit 21 = true ∧ isAnyCore who = true ∧ F.hmacHolAdmit_go.get
    w = 1 ∧ F.hmacHolAdmit_op.get w = 0 ∧ s.admission (F.hmacHolAdmit_partner.get w) = (ST.admitDenied, why) :=
  ⟨.core 0, (F.hmacHolAdmit_partner.put 1023 (F.hmacHolAdmit_go.put 1 0)), 6, scheduled 1023 7 256 255 80 1 lit,
    by decide +kernel⟩

theorem witness_AdmissionOffersAndReleaseFrees_3 :
    ∃ (who : Requester) (w : Word) (s : State), s.isLit 21 = true ∧ isAnyCore who = true ∧ F.hmacHolAdmit_go.get w = 1 ∧
    F.hmacHolAdmit_op.get w = 1 ∧ s.partnerState (F.hmacHolAdmit_partner.get w) = 1 :=
  ⟨.core 0, (F.hmacHolAdmit_op.put 1 (F.hmacHolAdmit_partner.put 1023 (F.hmacHolAdmit_go.put 1 0))), lit.setPartnerState 1023
    1, by decide +kernel⟩

theorem witness_AdmissionOffersAndReleaseFrees_4 :
    ∃ (who : Requester) (w : Word) (s : State), s.isLit 21 = true ∧ isAnyCore who = true ∧ F.hmacHolAdmit_go.get w = 1 ∧
    F.hmacHolAdmit_op.get w = 1 ∧ 2 ≤ s.partnerState (F.hmacHolAdmit_partner.get w) :=
  ⟨.core 0, (F.hmacHolAdmit_op.put 1 (F.hmacHolAdmit_partner.put 1023 (F.hmacHolAdmit_go.put 1 0))), lit.setPartnerState 1023
    2, by decide +kernel⟩

theorem witness_MemberStatesFollowLanternsAndTimeouts_1 :
    ∃ (who : Requester) (w : Word) (s : State), s.isLit 21 = true ∧ isAnyCore who = true ∧ F.hmacHolParentCtl_join.get w = 1
    ∧ s.memberState = 0 ∧ s.bit A.hmacHolCtl F.hmacHolCtl_member_en = true :=
  ⟨.core 0, (F.hmacHolParentCtl_join.put 1 0), put [(A.hmacHolCtl, F.hmacHolCtl_member_en, 1)] lit, by decide +kernel⟩

theorem witness_MemberStatesFollowLanternsAndTimeouts_2 :
    ∃ (who : Requester) (s : State), s.isLit 21 = true ∧ isAnyCore who = true ∧ s.memberState ≠ 0 :=
  ⟨.core 0, member 5 lit, by decide +kernel⟩

theorem witness_MemberStatesFollowLanternsAndTimeouts_3 :
    ∃ (k : Fin 256) (body : List Byte) (s : State), s.isLit 21 = true ∧ (s.memberState = 1 ∨ s.memberState = 2) ∧
    s.hol.parent.joinOpen = true ∧ s.hol.parent.joinSent = false ∧ joinReqOk body = true ∧ 40 + body.length ≤ 800 ∧ k *
    125000 + (s.joinNeed s.hol.parent.anchor 4 (40 + body.length) (s.brim parentNo)) ≤ s.hol.parent.joinLen * 125000 ∧
    (s.joinNeed s.hol.parent.anchor 4 (40 + body.length) (s.brim parentNo)) ≤ s.untilBlank (bandOfIdx s.hol.parent.anchor)
    ((nextAt s.nowNs s.parentNs ((s.hol.parent.joinOffset + k) * 125000)).2) (s.hol.parent.joinLen * 125000 - k * 125000) ∧
    s.radLit (bandOfIdx s.hol.parent.anchor) = true ∧ s.holKeyReady (s.fld A.hmacHolKeys F.hmacHolKeys_join_slot) :=
  ⟨0, joinBody, parented (fun p => { p with joinOpen := true, joinLen := 255 }) (keyed 9 slot0 (put [(A.hmacHolKeys,
    F.hmacHolKeys_join_slot, 9)] (member 1 lit))), by unfold State.holKeyReady; decide +kernel⟩

theorem witness_MemberStatesFollowLanternsAndTimeouts_4 :
    ∃ (k : Fin 256) (body : List Byte) (s : State), (s.hol.parent.joinOpen = false ∨ s.hol.parent.joinSent = true ∨
    s.hol.parent.joinLen * 125000 < k * 125000 + s.joinNeed s.hol.parent.anchor 4 (40 + body.length) (s.brim parentNo)) :=
  ⟨255, joinBody, parented (fun p => { p with joinOpen := true, joinLen := 255 }) lit, by decide +kernel⟩

theorem witness_MemberStatesFollowLanternsAndTimeouts_5 :
    ∃ (s : State), s.isLit 21 = true ∧ s.memberState = 2 ∧ s.hol.parent.joinAnswered = false ∧ s.hol.parent.since +
    s.parentNs ≤ s.elapsed :=
  ⟨{ member 2 lit with elapsed := 32000000000 }, by decide +kernel⟩

theorem witness_MemberStatesFollowLanternsAndTimeouts_6 :
    ∃ (s : State), (s.hol.parent.joinAnswered = true ∨ s.elapsed < s.hol.parent.since + s.parentNs) :=
  ⟨lit, by decide +kernel⟩

theorem witness_MemberStatesFollowLanternsAndTimeouts_10 :
    ∃ (s : State), s.isLit 21 = true ∧ (s.memberState = 1 ∨ s.memberState = 2) ∧ s.hol.parent.since + s.joinLimit ≤ s.elapsed
    :=
  ⟨{ member 1 lit with elapsed := 32000000000 }, by decide +kernel⟩

theorem witness_MemberStatesFollowLanternsAndTimeouts_11 :
    ∃ (s : State), s.isLit 21 = true ∧ s.memberState = 4 ∧ s.parentAway = false ∧ (s.peer parentNo).lastRx + 1000000 * s.fld
    A.hmacHolParentSupv F.hmacHolParentSupv_supervision ≤ s.elapsed :=
  ⟨{ member 4 lit with elapsed := 32000000000 }, by decide +kernel⟩

theorem witness_MemberStatesFollowLanternsAndTimeouts_12 :
    ∃ (s : State), s.isLit 21 = true ∧ s.memberState = 5 ∧ s.hol.parent.since + 2 * s.parentNs ≤ s.elapsed :=
  ⟨{ member 5 lit with elapsed := 32000000000 }, by decide +kernel⟩

theorem witness_MemberStatesFollowLanternsAndTimeouts_13 :
    ∃ (who : Requester) (w : Word) (s : State), s.isLit 21 = true ∧ isAnyCore who = true ∧ F.hmacHolParentCtl_leave.get w = 1
    ∧ 3 ≤ s.memberState :=
  ⟨.core 0, (F.hmacHolParentCtl_leave.put 1 0), member 3 lit, by decide +kernel⟩

theorem witness_MemberStatesFollowLanternsAndTimeouts_14 :
    ∃ (who : Requester) (w : Word) (s : State), s.isLit 21 = true ∧ isAnyCore who = true ∧ F.hmacHolParentCtl_leave.get w = 1
    ∧ (s.memberState = 1 ∨ s.memberState = 2) :=
  ⟨.core 0, (F.hmacHolParentCtl_leave.put 1 0), member 2 lit, by decide +kernel⟩

theorem witness_MemberStatesFollowLanternsAndTimeouts_15 :
    ∃ (s : State), s.isLit 21 = true ∧ s.radLit (bandOfIdx s.hol.parent.anchor) = true ∧ (s.memberState = 3 ∨ s.memberState =
    4) ∧ s.parentRound * s.parentNs + s.brim parentNo ≤ s.nowNs ∧ s.hol.parent.listened ≠ some s.parentRound ∧ (∀ a ∈
    s.hol.parent.absences, a.start ≤ s.parentRound → s.parentRound < a.start + a.rounds → a.bands.testBit (bandOfIdx
    s.hol.parent.anchor) = false) :=
  ⟨parented (fun p => { p with absences := [⟨1, 0, 0⟩] }) (member 3 (atMs 5 lit)), by decide +kernel⟩

theorem witness_MemberStatesFollowLanternsAndTimeouts_16 :
    ∃ (a : Absence) (s : State), a ∈ s.hol.parent.absences ∧ a.start ≤ s.parentRound ∧ s.parentRound < a.start + a.rounds ∧
    a.bands.testBit (bandOfIdx s.hol.parent.anchor) = true :=
  ⟨⟨1, 0, 1⟩, parented (fun p => { p with absences := [⟨1, 0, 1⟩] }) lit, by decide +kernel⟩

theorem witness_MemberStatesFollowLanternsAndTimeouts_17 :
    ∃ (s : State), s.hol.parent.listened = some s.parentRound :=
  ⟨parented (fun p => { p with listened := some 0 }) lit, by decide +kernel⟩

/-- The coordinator with partner 1023 ACTIVE on band 2 in every round, both keyed by slot 9, and a channel of that band in use. -/
def coordinator (s : State) : State :=
  keyed 9 slot0 (put [(A.hmacHolCtl, F.hmacHolCtl_coord_en, 1), (A.hmacHolJoin, F.hmacHolJoin_join_en, 1),
    (A.hmacHolKeys, F.hmacHolKeys_group_slot, 9), (A.hmacHolKeys, F.hmacHolKeys_join_slot, 9),
    (A.hmacHolPartnerW4 1023, F.hmacHolPartnerW4_key_slot0, 9)]
    (((scheduled 1023 4 1 0 2 10 s).setPartnerState 1023 2).setChMap (2 ^ 40)))
/-- An event of a peer under way on band 2, the peer as given. -/
def inEvent (p stop : Nat) (q : HolPeer) (s : State) : State :=
  holy (fun h => { h with events := [(2, HolEvent.at p 0 stop)], peers := [(p, q)] }) s
/-- Events under way. -/
def inEvents (l : Tbl HolEvent) (s : State) : State := holy (fun h => { h with events := l }) s
/-- A POLL from the parent, device 5, as R214 to R217 lay it out. -/
def pollHdr (tag pn : Nat) : List Byte := holHeader 1 0 0 false false 5 0 tag pn 0 0
def poll (tag pn : Nat) : List Byte := sealHol slot0.key (pollHdr tag pn) [] 5 0 pn false
def pollSig : Nat := hsigBuild 1 0 0 1 0 40 false
def pollRx : Rx := { Rx.start 0 with hsig := some (pollSig, ⟨some 1024, 0⟩) }
def badFrame : List Byte := List.replicate 36 0 ++ [0xd5, 0xb2, 0xb6, 0x6a]
/-- A joined member that listens to its parent. -/
def listens (w : Nat) (s : State) : State :=
  radio 0 (fun x => { x with rx := some { Rx.start 0 with hsig := some (w, ⟨some 1024, 0⟩) } })
    (inEvents [(0, HolEvent.at 1024 0 9000000)]
      (keyed 9 slot0 (put [(A.hmacHolCtl, F.hmacHolCtl_member_en, 1), (A.hmacHolParentKeys, F.hmacHolParentKeys_key_slot0, 9)] (member 3 s))))
def cand : HolMap :=
  { kind := 0, mapId := 0, band := 2, partner := 1023, width := 0, rate := 0, streams := 1, codedBits := 468, groups := 59, seq := 0
    calVersion := 0, valid := true, unit := 0, entries := [List.replicate 59 2] }
/-- A candidate of partner 1023 after one PPDU, with no map yet of it, the map store as given. -/
def candidate (ms : List HolMap) : State :=
  holy (fun h => { h with cands := [(snrKey 1023 2, cand)], snr := [(snrKey 1023 2, ⟨64, [], 64, false⟩)], maps := ms }) lit
/-- The whole map store, its units all taken. -/
def fullStore : List HolMap := (List.range 4).map (fun k => { cand with partner := k, groups := 524200, unit := 4096 * k })

theorem witness_PartnersAreSupervisedPolledAndOfferedMaps_1 :
    ∃ (p : Fin 1024) (s : State), s.isLit 21 = true ∧ 1 ≤ s.partnerState p ∧ s.partnerState p ≤ 3 ∧ (s.peer p).lastRx +
    1000000 * s.fld (A.hmacHolPartnerW4 p) F.hmacHolPartnerW4_supervision ≤ s.elapsed :=
  ⟨1023, { lit.setPartnerState 1023 3 with elapsed := 10 ^ 14 }, by decide +kernel⟩

theorem witness_PartnersAreSupervisedPolledAndOfferedMaps_2 :
    ∃ (p : Fin 1024) (s : State), s.elapsed < (s.peer p).lastRx + 1000000 * s.fld (A.hmacHolPartnerW4 p)
    F.hmacHolPartnerW4_supervision :=
  ⟨1023, holy (fun h => { h with peers := [(1023, { HolPeer.init with lastRx := 1 })] }) (lit), by decide +kernel⟩

theorem witness_PartnersAreSupervisedPolledAndOfferedMaps_3 :
    ∃ (p : Fin 1024) (b : Nat) (r : Nat) (s : State), s.isLit 21 = true ∧ s.partnerState p = 4 ∧ (s.peer p).absence = some
    (b, r, none) ∧ (s.peer p).absentSince + nsPerSec * s.fld A.hmacHolCfg F.hmacHolCfg_absence_limit ≤ s.elapsed :=
  ⟨1023, 1, 2,
    { holy (fun h => { h with peers := [(1023, { HolPeer.init with absence := some (1, 2, none) })] }) (lit.setPartnerState 1023 4) with elapsed := 10 ^ 14 },
    by decide +kernel⟩

theorem witness_PartnersAreSupervisedPolledAndOfferedMaps_4 :
    ∃ (p : Fin 1024) (b : Nat) (r : Nat) (n : Nat) (s : State), (s.peer p).absence = some (b, r, some n) :=
  ⟨1023, 1, 2, 3, holy (fun h => { h with peers := [(1023, { HolPeer.init with absence := some (1, 2, some 3) })] }) (lit),
    by decide +kernel⟩

theorem witness_PartnersAreSupervisedPolledAndOfferedMaps_5 :
    ∃ (p : Fin 1024) (s : State), s.elapsed < (s.peer p).absentSince + nsPerSec * s.fld A.hmacHolCfg
    F.hmacHolCfg_absence_limit :=
  ⟨1023, holy (fun h => { h with peers := [(1023, { HolPeer.init with absentSince := 1 })] }) (lit), by decide +kernel⟩

theorem witness_PartnersAreSupervisedPolledAndOfferedMaps_6 :
    ∃ (p : Fin 1025) (b : Nat) (r : Nat) (n : Option Nat) (s : State), p.val < 1024 ∧ s.isLit 21 = true ∧ s.partnerState p ≠
    0 ∧ (s.peer p).absence = some (b, r, n) ∧ b < 8 ∧ r ≤ s.roundNo :=
  ⟨1023, 7, 0, none, holy (fun h => { h with peers := [(1023, { HolPeer.init with absence := some (7, 0, none) })] })
    (lit.setPartnerState 1023 2), by decide +kernel⟩

theorem witness_PartnersAreSupervisedPolledAndOfferedMaps_7 :
    ∃ (p : Fin 1025) (b : Nat) (r : Nat) (n : Option Nat) (s : State), p.val < 1024 ∧ (s.peer p).absence = some (b, r, n) ∧
    s.roundNo < r :=
  ⟨1023, 7, 1, none, holy (fun h => { h with peers := [(1023, { HolPeer.init with absence := some (7, 1, none) })] })
    (lit.setPartnerState 1023 2), by decide +kernel⟩

theorem witness_PartnersAreSupervisedPolledAndOfferedMaps_8 :
    ∃ (p : Fin 1025) (b : Nat) (r : Nat) (n : Nat) (s : State), p.val < 1024 ∧ s.isLit 21 = true ∧ (s.peer p).absence = some
    (b, r, some n) ∧ r + n ≤ s.roundNo :=
  ⟨1023, 7, 1, 2, atMs 30 (holy (fun h => { h with peers := [(1023, { HolPeer.init with absence := some (7, 1, some 2) })] })
    (lit)), by decide +kernel⟩

theorem witness_PartnersAreSupervisedPolledAndOfferedMaps_9 :
    ∃ (p : Fin 1025) (b : Nat) (r : Nat) (s : State), p.val < 1024 ∧ (s.peer p).absence = some (b, r, none) :=
  ⟨1023, 7, 1, holy (fun h => { h with peers := [(1023, { HolPeer.init with absence := some (7, 1, none) })] }) (lit),
    by decide +kernel⟩

theorem witness_PartnersAreSupervisedPolledAndOfferedMaps_10 :
    ∃ (p : Fin 1025) (b : Nat) (r : Nat) (n : Nat) (s : State), p.val < 1024 ∧ (s.peer p).absence = some (b, r, some n) ∧
    s.roundNo < r + n :=
  ⟨1023, 7, 1, 2, atMs 29 (holy (fun h => { h with peers := [(1023, { HolPeer.init with absence := some (7, 1, some 2) })] })
    (lit)), by decide +kernel⟩

theorem witness_PartnersAreSupervisedPolledAndOfferedMaps_11 :
    ∃ (b : Nat) (s : State), s.isLit 21 = true ∧ b < 3 ∧ (s.absentBands s.roundNo).testBit b = true :=
  ⟨2, holy (fun h => { h with absences := [⟨4, 0, 1⟩] }) lit, by decide +kernel⟩

theorem witness_PartnersAreSupervisedPolledAndOfferedMaps_12 :
    ∃ (s : State), s.isLit 21 = true :=
  ⟨lit, by decide +kernel⟩

theorem witness_PartnersAreSupervisedPolledAndOfferedMaps_13 :
    ∃ (b : Nat) (e : HolEvent) (a : Absence) (s : State), s.isLit 21 = true ∧ b < 3 ∧ a ∈ s.hol.parent.absences ∧ a.start ≤
    s.parentRound ∧ s.parentRound < a.start + a.rounds ∧ a.bands.testBit b = true ∧ Tbl.find? s.hol.events b = some e ∧
    e.peer = parentNo :=
  ⟨2, HolEvent.at 1024 0 5, ⟨4, 0, 1⟩, parented (fun p => { p with absences := [⟨4, 0, 1⟩] }) (inEvent 1024 5 HolPeer.init
    lit), by decide +kernel⟩

theorem witness_PartnersAreSupervisedPolledAndOfferedMaps_14 :
    ∃ (s : State), s.isLit 21 = true :=
  ⟨lit, by decide +kernel⟩

theorem witness_PartnersAreSupervisedPolledAndOfferedMaps_15 :
    ∃ (r : Rad) (p : Fin 1024) (e : HolEvent) (t0 : Nat) (s : State), s.isLit 21 = true ∧ Tbl.find? s.hol.events r = some e ∧
    e.peer = p.val ∧ e.wait = true ∧ e.last = some t0 ∧ t0 + 18000 ≤ s.nowNs ∧ e.reopened = false ∧ t0 + 34000 + s.needNs r p
    1 40 ≤ e.stop :=
  ⟨2, 1023, { HolEvent.at 1023 0 1000000 with wait := true, last := some 0 }, 0, atMs 1 (holy (fun h =>
    { h with events := [(2, { HolEvent.at 1023 0 1000000 with wait := true, last := some 0 })], peers := [(1023, HolPeer.init)] })
    (coordinator lit)), by decide +kernel⟩

theorem witness_PartnersAreSupervisedPolledAndOfferedMaps_16 :
    ∃ (r : Rad) (e : HolEvent) (t0 : Nat) (s : State), Tbl.find? s.hol.events r = some e ∧ e.last = some t0 ∧ s.nowNs < t0 +
    18000 :=
  ⟨2, { HolEvent.at 1023 0 9 with wait := true, last := some 0 }, 0, inEvents [(2,
    { HolEvent.at 1023 0 9 with wait := true, last := some 0 })] lit, by decide +kernel⟩

theorem witness_PartnersAreSupervisedPolledAndOfferedMaps_17 :
    ∃ (r : Rad) (p : Fin 1024) (e : HolEvent) (t0 : Nat) (s : State), s.isLit 21 = true ∧ Tbl.find? s.hol.events r = some e ∧
    e.peer = p.val ∧ e.wait = true ∧ e.last = some t0 ∧ t0 + 18000 ≤ s.nowNs ∧ (e.reopened = true ∨ e.stop < t0 + 34000 +
    s.needNs r p 1 40) ∧ (s.setHol
    { s.hol with events := Tbl.insert r { e with wait := false } s.hol.events }).hol.events.any (fun x => x.2.peer == p.val
    && (x.2.wait || x.2.again)) = true :=
  ⟨2, 1023, { HolEvent.at 1023 0 0 with wait := true, last := some 0 }, 0, atMs 1 (holy (fun h =>
    { h with events := [(0, { HolEvent.at 1023 0 9 with again := true }), (2, { HolEvent.at 1023 0 0 with wait := true, last := some 0 })], peers := [(1023, HolPeer.init)] })
    (coordinator lit)), by decide +kernel⟩

theorem witness_PartnersAreSupervisedPolledAndOfferedMaps_18 :
    ∃ (r : Rad) (p : Fin 1024) (e : HolEvent) (t0 : Nat) (s : State), s.isLit 21 = true ∧ Tbl.find? s.hol.events r = some e ∧
    e.peer = p.val ∧ e.wait = true ∧ e.last = some t0 ∧ t0 + 18000 ≤ s.nowNs ∧ (e.reopened = true ∨ e.stop < t0 + 34000 +
    s.needNs r p 1 40) ∧ (s.setHol
    { s.hol with events := Tbl.insert r { e with wait := false } s.hol.events }).hol.events.any (fun x => x.2.peer == p.val
    && (x.2.wait || x.2.again)) = false ∧ (s.peer p).polled = true ∧ (s.peer p).heard = true :=
  ⟨2, 1023, { HolEvent.at 1023 0 1000000 with wait := true, last := some 0, reopened := true }, 0, atMs 1 (holy (fun h =>
    { h with events := [(2, { HolEvent.at 1023 0 1000000 with wait := true, last := some 0, reopened := true })], peers := [(1023, { HolPeer.init with polled := true, heard := true })] })
    (coordinator lit)), by decide +kernel⟩

theorem witness_PartnersAreSupervisedPolledAndOfferedMaps_19 :
    ∃ (r : Rad) (p : Fin 1024) (e : HolEvent) (t0 : Nat) (s : State), s.isLit 21 = true ∧ Tbl.find? s.hol.events r = some e ∧
    e.peer = p.val ∧ e.wait = true ∧ e.last = some t0 ∧ t0 + 18000 ≤ s.nowNs ∧ (e.reopened = true ∨ e.stop < t0 + 34000 +
    s.needNs r p 1 40) ∧ (s.setHol
    { s.hol with events := Tbl.insert r { e with wait := false } s.hol.events }).hol.events.any (fun x => x.2.peer == p.val
    && (x.2.wait || x.2.again)) = false ∧ (s.peer p).polled = true ∧ (s.peer p).heard = false :=
  ⟨2, 1023, { HolEvent.at 1023 0 0 with wait := true, last := some 0 }, 0, atMs 1 (holy (fun h =>
    { h with events := [(2, { HolEvent.at 1023 0 0 with wait := true, last := some 0 })], peers := [(1023, { HolPeer.init with polled := true })] })
    (coordinator lit)), by decide +kernel⟩

theorem witness_PartnersAreSupervisedPolledAndOfferedMaps_20 :
    ∃ (r : Rad) (p : Fin 1025) (m : RMsdu) (b : List Byte) (s : State), s.isLit 21 = true ∧ (s.peer p).rxq = [m] ∧ m.whole =
    some b ∧ snSub m.sn (s.peer p).rxNext < 2047 ∧ m.since + (s.linkInterval p * s.linkNs p + 10000000) < s.elapsed ∧
    ((Tbl.get (fun _ => []) s.rxFifo (16 + r)).foldl (fun a f => a + f.bytes.length) 0) + b.length ≤ 524288 :=
  ⟨2, 1023, ⟨5, [(0, [1, 2])], some 0, 0, 0⟩, [1, 2],
    { holy (fun h => { h with peers := [(1023, { HolPeer.init with rxq := [⟨5, [(0, [1, 2])], some 0, 0, 0⟩], rxNext := 4091 })] }) (coordinator lit) with elapsed := 20000001 },
    by decide +kernel⟩

theorem witness_PartnersAreSupervisedPolledAndOfferedMaps_21 :
    ∃ (p : Fin 1025) (s : State), (∀ m ∈ (s.peer p).rxq, s.elapsed ≤ m.since + (s.linkInterval p * s.linkNs p + 10000000)) :=
  ⟨1024, holy (fun h => { h with peers := [(1024, { HolPeer.init with rxq := [⟨5, [(0, [1, 2])], some 0, 0, 0⟩] })] }) lit,
    by decide +kernel⟩

theorem witness_PartnersAreSupervisedPolledAndOfferedMaps_22 :
    ∃ (p : Fin 1025) (r : Rad) (c : HolMap) (a : SnrAvg) (s : State), s.isLit 21 = true ∧ Tbl.find? s.hol.cands (snrKey p r)
    = some c ∧ Tbl.find? s.hol.snr (snrKey p r) = some a ∧ c.kind = 0 ∧ c.partner = p.val ∧ c.band = r.val ∧ c.valid = true ∧
    (∀ t0, Tbl.find? (s.peer p).offered r = some t0 → t0 + 1000000 * s.fld A.hmacHolCfg F.hmacHolCfg_offer_holdoff ≤
    s.elapsed) ∧ a.need ≤ a.taken ∧ offerWorth c (s.findMap 0 p r ((Tbl.find? (s.peer p).rxMapId r).getD 0)) a.refresh = true
    ∧ (∀ o ∈ s.hol.offers, o.peer ≠ p.val ∨ o.band ≠ r.val) ∧ (s.placeMap
    { c with mapId := (((Tbl.find? (s.peer p).rxMapId r).getD 0) + 1) % 4 }).2 = true :=
  ⟨1023, 2, cand, ⟨64, [], 64, false⟩, candidate [], by
    refine ⟨?_, ?_, ?_, ?_, ?_, ?_, ?_, (fun _ h => nomatch (show (none : Option Nat) = some _ from h)), ?_⟩ <;> decide +kernel⟩

theorem witness_PartnersAreSupervisedPolledAndOfferedMaps_23 :
    ∃ (p : Fin 1025) (r : Rad) (c : HolMap) (a : SnrAvg) (s : State), s.isLit 21 = true ∧ Tbl.find? s.hol.cands (snrKey p r)
    = some c ∧ Tbl.find? s.hol.snr (snrKey p r) = some a ∧ c.kind = 0 ∧ c.partner = p.val ∧ c.band = r.val ∧ c.valid = true ∧
    (∀ t0, Tbl.find? (s.peer p).offered r = some t0 → t0 + 1000000 * s.fld A.hmacHolCfg F.hmacHolCfg_offer_holdoff ≤
    s.elapsed) ∧ a.need ≤ a.taken ∧ offerWorth c (s.findMap 0 p r ((Tbl.find? (s.peer p).rxMapId r).getD 0)) a.refresh = true
    ∧ (∀ o ∈ s.hol.offers, o.peer ≠ p.val ∨ o.band ≠ r.val) ∧ (s.placeMap
    { c with mapId := (((Tbl.find? (s.peer p).rxMapId r).getD 0) + 1) % 4 }).2 = false :=
  ⟨1023, 2, cand, ⟨64, [], 64, false⟩, candidate fullStore, by
    refine ⟨?_, ?_, ?_, ?_, ?_, ?_, ?_, (fun _ h => nomatch (show (none : Option Nat) = some _ from h)), ?_⟩ <;> decide +kernel⟩

theorem witness_LanternsEventsAndJoinsAreSent_1 :
    ∃ (s : State), s.isLit 21 = true ∧ s.bit A.hmacHolCtl F.hmacHolCtl_coord_en = true ∧ s.radLit (bandOfIdx ((s.coordSwitch
    ((nextAt s.nowNs s.roundNs 0).1 % 2 ^ 48)).fld A.hmacHolRound F.hmacHolRound_anchor)) = true ∧ (s.absentBands ((nextAt
    s.nowNs s.roundNs 0).1 % 2 ^ 48)).testBit (bandOfIdx ((s.coordSwitch ((nextAt s.nowNs s.roundNs 0).1 % 2 ^ 48)).fld
    A.hmacHolRound F.hmacHolRound_anchor)) = false ∧ s.holKeyReady (s.fld A.hmacHolKeys F.hmacHolKeys_group_slot) :=
  ⟨coordinator lit, by unfold State.holKeyReady; decide +kernel⟩

theorem witness_LanternsEventsAndJoinsAreSent_2 :
    ∃ (s : State), s.isLit 21 = true ∧ s.bit A.hmacHolCtl F.hmacHolCtl_coord_en = true ∧ (s.absentBands ((nextAt s.nowNs
    s.roundNs 0).1 % 2 ^ 48)).testBit (bandOfIdx ((s.coordSwitch ((nextAt s.nowNs s.roundNs 0).1 % 2 ^ 48)).fld
    A.hmacHolRound F.hmacHolRound_anchor)) = true :=
  ⟨holy (fun h => { h with absences := [⟨1, 0, 1⟩] }) (coordinator lit), by decide +kernel⟩

theorem witness_LanternsEventsAndJoinsAreSent_3 :
    ∃ (p : Fin 1025) (s : State), p.val < 1024 ∧ s.isLit 21 = true ∧ s.bit A.hmacHolCtl F.hmacHolCtl_coord_en = true ∧
    s.partnerState p ≠ 0 ∧ (s.peer p).leaving = false ∧ s.eventStart p ≤ s.nowNs + s.linkNs p :=
  ⟨1023, coordinator lit, by decide +kernel⟩

theorem witness_LanternsEventsAndJoinsAreSent_4 :
    ∃ (p : Fin 1025) (s : State), s.nowNs + s.linkNs p < s.eventStart p :=
  ⟨1023, (coordinator lit).setReg (A.hmacHolPartnerW6 1023) 1000, by decide +kernel⟩

theorem witness_LanternsEventsAndJoinsAreSent_5 :
    ∃ (p : Fin 1025) (b : Fin 3) (s : State), p.val < 1024 ∧ s.isLit 21 = true ∧ s.bit A.hmacHolCtl F.hmacHolCtl_coord_en =
    true ∧ s.partnerState p ≠ 0 ∧ s.partnerState p ≠ 4 ∧ s.linkBands p = 2 ^ b.val ∧ (s.eventStart p) ≤ s.nowNs + s.linkNs p
    ∧ s.hol.events = [] ∧ ((s.coordSwitch (s.nextRound p)).advanceEvent p).polledNow p = true ∧ (s.absentBands (s.nextRound
    p)).testBit b = false ∧ (s.fld (A.hmacHolPartnerW2 p) F.hmacHolPartnerW2_absent_bands).testBit b = false ∧
    ((s.coordSwitch (s.nextRound p)).advanceEvent p).parentHolds b (s.eventStart p) ((s.eventStart p) + 125000 * s.linkWindow
    p) = false ∧ ((s.coordSwitch (s.nextRound p)).advanceEvent p).parentMeets b (s.eventStart p) ((s.eventStart p) + 125000 *
    s.linkWindow p) = false ∧ (((s.coordSwitch (s.nextRound p)).advanceEvent p).linkChannel p b).isSome = true ∧ s.radLit b =
    true ∧ (s.peer p).txq = [] ∧ (s.peer p).refUnsent.testBit b = false ∧ (s.peer p).leaving = false ∧ (s.peer p).absSend =
    none ∧ (∀ o ∈ s.hol.offers, o.peer ≠ p.val) ∧ ((s.coordSwitch (s.nextRound p)).advanceEvent p).needNs b p 1 40 ≤
    ((s.coordSwitch (s.nextRound p)).advanceEvent p).untilBlank b (s.eventStart p) (((s.eventStart p) + 125000 * s.linkWindow
    p) - (s.eventStart p)) ∧ ((s.coordSwitch (s.nextRound p)).advanceEvent p).linkHeld p (((s.coordSwitch (s.nextRound
    p)).advanceEvent p).linkKeyId p) = false ∧ ((s.coordSwitch (s.nextRound p)).advanceEvent p).holKeyReady (((s.coordSwitch
    (s.nextRound p)).advanceEvent p).linkSlot p (((s.coordSwitch (s.nextRound p)).advanceEvent p).linkKeyId p)) :=
  ⟨1023, 2, coordinator lit, by unfold State.holKeyReady; decide +kernel⟩

theorem witness_LanternsEventsAndJoinsAreSent_6 :
    ∃ (b : Nat) (s : State), s.isLit 21 = true ∧ s.bit A.hmacHolCtl F.hmacHolCtl_member_en = true ∧ (s.memberState = 3 ∨
    s.memberState = 4) ∧ b < 3 ∧ (s.linkBands parentNo).testBit b = true ∧ s.hol.events = [] ∧ (s.eventStart parentNo) ≤
    s.nowNs + s.linkNs parentNo ∧ (∀ a ∈ s.hol.parent.absences, a.start ≤ (s.nextRound parentNo) → (s.nextRound parentNo) <
    a.start + a.rounds → a.bands.testBit b = false) :=
  ⟨2, put [(A.hmacHolCtl, F.hmacHolCtl_member_en, 1), (A.hmacHolParentSched2, F.hmacHolParentSched2_bands, 4)] (member 3
    lit), by decide +kernel⟩

theorem witness_LanternsEventsAndJoinsAreSent_7 :
    ∃ (r : Rad) (start : Nat) (d : Nat) (b : List Byte) (rest : List (Nat × List Byte × Nat)) (s : State), s.isLit 21 = true
    ∧ s.hol.joinRsps = (d, b, start) :: rest ∧ 40 + b.length ≤ 800 ∧ bandOfIdx (s.fld A.hmacHolRound F.hmacHolRound_anchor) =
    r.val ∧ s.joinNeed (s.fld A.hmacHolRound F.hmacHolRound_anchor) 5 (40 + b.length) (s.brim 0) ≤ s.untilBlank r start
    (s.joinStop start - start) ∧ s.radLit r = true ∧ s.holKeyReady (s.fld A.hmacHolKeys F.hmacHolKeys_join_slot) :=
  ⟨0, 0, 4095, [1, 2], [], put [(A.hmacHolJoin, F.hmacHolJoin_join_len, 40)] (holy (fun h =>
    { h with joinRsps := [(4095, [1, 2], 0)] }) (coordinator lit)), by unfold State.holKeyReady; decide +kernel⟩

theorem witness_LanternsEventsAndJoinsAreSent_8 :
    ∃ (r : Rad) (p : Fin 1025) (e : HolEvent) (t0 : Nat) (type : Nat) (body : List Byte) (ack : Bool) (s : State), s.isLit 21
    = true ∧ s.hol.joinRsps = [] ∧ Tbl.find? s.hol.events r = some e ∧ e.peer = p.val ∧ e.last = some t0 ∧ e.wait = false ∧
    (p.val = parentNo → e.owed.isSome = true) ∧ (s.peer p).txq = [] ∧ s.nextFrame r p e false = some (.plain type body ack) ∧
    s.needNs r p type (psduLen ack body.length) ≤ s.untilBlank r (t0 + 16000) (e.stop - (t0 + 16000)) ∧ (s.linkChannel p
    r).isSome = true ∧ s.linkHeld p (s.linkKeyId p) = false ∧ s.holKeyReady (s.linkSlot p (s.linkKeyId p)) :=
  ⟨2, 1023, { HolEvent.at 1023 0 9000000 with last := some 0, more := true }, 0, 1, [], false, inEvents [(2,
    { HolEvent.at 1023 0 9000000 with last := some 0, more := true })] (coordinator lit),
    by unfold State.holKeyReady; decide +kernel⟩

theorem witness_LanternsEventsAndJoinsAreSent_9 :
    ∃ (r : Rad) (p : Fin 1025) (e : HolEvent) (t0 : Nat) (m : HMsdu) (s : State), s.isLit 21 = true ∧ s.hol.joinRsps = [] ∧
    Tbl.find? s.hol.events r = some e ∧ e.peer = p.val ∧ e.last = some t0 ∧ e.wait = false ∧ (p.val = parentNo →
    e.owed.isSome = true) ∧ (s.peer p).txq = [m] ∧ m.tries = 0 ∧ m.on = none ∧ s.nextFrame r p e false = some .data ∧
    (psduLen (e.owed == some 2) (msduSub m.sn m.frags true (m.payload.drop m.sent)).length) ≤ 131071 ∧ s.linkAir r p 2
    (psduLen (e.owed == some 2) (msduSub m.sn m.frags true (m.payload.drop m.sent)).length) ≤ 5484000 ∧ s.needNs r p 2
    (psduLen (e.owed == some 2) (msduSub m.sn m.frags true (m.payload.drop m.sent)).length) ≤ s.untilBlank r (t0 + 16000)
    (e.stop - (t0 + 16000)) ∧ (s.linkChannel p r).isSome = true ∧ s.linkHeld p (s.linkKeyId p) = false ∧ s.holKeyReady
    (s.linkSlot p (s.linkKeyId p)) :=
  ⟨2, 1023, { HolEvent.at 1023 0 9000000 with last := some 0 }, 0, ⟨4095, [1, 2, 3], 0, 0, 0, none⟩, holy (fun h =>
    { h with peers := [(1023, { HolPeer.init with txq := [⟨4095, [1, 2, 3], 0, 0, 0, none⟩] })] }) (inEvents [(2,
    { HolEvent.at 1023 0 9000000 with last := some 0 })] (coordinator lit)), by unfold State.holKeyReady; decide +kernel⟩

theorem witness_LanternsEventsAndJoinsAreSent_10 :
    ∃ (r : Rad) (e : HolEvent) (s : State), s.hol.joinRsps = [] ∧ Tbl.find? s.hol.events r = some e ∧ e.peer = parentNo ∧
    e.owed = none :=
  ⟨2, { HolEvent.at 1024 0 9000000 with last := some 0 }, inEvents [(2, { HolEvent.at 1024 0 9000000 with last := some 0 })]
    lit, by decide +kernel⟩

theorem witness_LanternsEventsAndJoinsAreSent_11 :
    ∃ (st : Fin 3) (key : List Byte) (s : State), s.isLit 21 = true ∧ s.bit A.hmacHolCtl F.hmacHolCtl_coord_en = true ∧ s.bit
    A.hmacHolJoin F.hmacHolJoin_join_en = true ∧ st.val ≠ 0 ∧ 46 + key.length ≤ 800 ∧ s.joinNeed (s.fld A.hmacHolRound
    F.hmacHolRound_anchor) 5 (46 + key.length) (s.brim 0) ≤ s.untilBlank (bandOfIdx (s.fld A.hmacHolRound
    F.hmacHolRound_anchor)) ((nextAt s.nowNs s.roundNs (s.fld A.hmacHolJoin F.hmacHolJoin_join_offset * 125000)).2)
    (s.joinStop ((nextAt s.nowNs s.roundNs (s.fld A.hmacHolJoin F.hmacHolJoin_join_offset * 125000)).2) - ((nextAt s.nowNs
    s.roundNs (s.fld A.hmacHolJoin F.hmacHolJoin_join_offset * 125000)).2)) ∧ s.radLit (bandOfIdx (s.fld A.hmacHolRound
    F.hmacHolRound_anchor)) = true ∧ s.holKeyReady (s.fld A.hmacHolKeys F.hmacHolKeys_join_slot) :=
  ⟨1, List.replicate 700 0, put [(A.hmacHolJoin, F.hmacHolJoin_join_len, 64)] (coordinator lit),
    by unfold State.holKeyReady; decide +kernel⟩

theorem witness_LanternsEventsAndJoinsAreSent_12 :
    ∃ (p : Fin 1024) (b : Fin 3) (s : State), s.isLit 21 = true ∧ s.bit A.hmacHolCtl F.hmacHolCtl_coord_en = true ∧ s.bit
    A.hmacHolJoin F.hmacHolJoin_join_en = true ∧ s.hol.maps = [] ∧ s.linkBands p = 2 ^ b.val :=
  ⟨1023, 2, coordinator lit, by decide +kernel⟩

theorem witness_HolaelFramesAreCheckedInOrder_1 :
    ∃ (r : Rad) (psdu : List Byte) (raw : Nat) (w : Nat) (p : Nat) (q : Rx) (win : RxWin) (s : State), s.isLit 21 = true ∧
    (s.rd r).ppdu = some q ∧ q.hsig = some (w, win) ∧ q.lost = none ∧ psdu.length = hsigLength w ∧ (if usesMap (hsigType w) =
    true then s.linkOf win w else some 0) = some p ∧ s.heardAt r p (hsigType w) (s.rxStamp r win.width raw / 65536) = true ∧
    (q.erased.isEmpty && decide (4 ≤ psdu.length) && leAt psdu (psdu.length - 4) 4 == crc32 (psdu.take (psdu.length - 4)) :
    Bool) = false :=
  ⟨0, List.replicate 40 1, 0, pollSig, 1024, pollRx, ⟨some 1024, 0⟩, listens pollSig lit, by decide +kernel⟩

theorem witness_HolaelFramesAreCheckedInOrder_2 :
    ∃ (r : Rad) (psdu : List Byte) (raw : Nat) (w : Nat) (p : Nat) (q : Rx) (win : RxWin) (s : State), s.isLit 21 = true ∧
    (s.rd r).ppdu = some q ∧ q.hsig = some (w, win) ∧ q.lost = none ∧ psdu.length = hsigLength w ∧ (if usesMap (hsigType w) =
    true then s.linkOf win w else some 0) = some p ∧ s.heardAt r p (hsigType w) (s.rxStamp r win.width raw / 65536) = true ∧
    (q.erased.isEmpty && decide (4 ≤ psdu.length) && leAt psdu (psdu.length - 4) 4 == crc32 (psdu.take (psdu.length - 4)) :
    Bool) = true ∧ (decide (40 ≤ psdu.length) && decide (psdu.length ≤ (if ((hsigType w) == 4 || (hsigType w) == 5 : Bool)
    then 800 else if (hsigType w) = 2 then psdu.length else 2048)) && leAt psdu 0 1 % 16 == (hsigType w) && hdrZero psdu &&
    (if ((hsigType w) == 4 || (hsigType w) == 5 : Bool) || (hsigType w) == 0 then !(leAt psdu 0 1).testBit 5 else leAt psdu
    16 4 == s.linkEvent p) : Bool) = false :=
  ⟨0, badFrame, 0, pollSig, 1024, pollRx, ⟨some 1024, 0⟩, listens pollSig lit, by decide +kernel⟩

theorem witness_HolaelFramesAreCheckedInOrder_3 :
    ∃ (r : Rad) (psdu : List Byte) (raw : Nat) (w : Nat) (p : Nat) (q : Rx) (win : RxWin) (s : State), s.isLit 21 = true ∧
    (s.rd r).ppdu = some q ∧ q.hsig = some (w, win) ∧ q.lost = none ∧ psdu.length = hsigLength w ∧ (if usesMap (hsigType w) =
    true then s.linkOf win w else some 0) = some p ∧ s.heardAt r p (hsigType w) (s.rxStamp r win.width raw / 65536) = true ∧
    (q.erased.isEmpty && decide (4 ≤ psdu.length) && leAt psdu (psdu.length - 4) 4 == crc32 (psdu.take (psdu.length - 4)) :
    Bool) = true ∧ (decide (40 ≤ psdu.length) && decide (psdu.length ≤ (if ((hsigType w) == 4 || (hsigType w) == 5 : Bool)
    then 800 else if (hsigType w) = 2 then psdu.length else 2048)) && leAt psdu 0 1 % 16 == (hsigType w) && hdrZero psdu &&
    (if ((hsigType w) == 4 || (hsigType w) == 5 : Bool) || (hsigType w) == 0 then !(leAt psdu 0 1).testBit 5 else leAt psdu
    16 4 == s.linkEvent p) : Bool) = true ∧ (leAt psdu 6 2 == s.districtTag && ((hsigType w) == 0 || leAt psdu 4 2 ==
    s.ownDevice) : Bool) = false :=
  ⟨0, poll 1 1, 0, pollSig, 1024, pollRx, ⟨some 1024, 0⟩, listens pollSig lit, by decide +kernel⟩

theorem witness_HolaelFramesAreCheckedInOrder_4 :
    ∃ (r : Rad) (psdu : List Byte) (raw : Nat) (w : Nat) (p : Nat) (q : Rx) (win : RxWin) (s : State), s.isLit 21 = true ∧
    (s.rd r).ppdu = some q ∧ q.hsig = some (w, win) ∧ q.lost = none ∧ psdu.length = hsigLength w ∧ (if usesMap (hsigType w) =
    true then s.linkOf win w else some 0) = some p ∧ s.heardAt r p (hsigType w) (s.rxStamp r win.width raw / 65536) = true ∧
    (q.erased.isEmpty && decide (4 ≤ psdu.length) && leAt psdu (psdu.length - 4) 4 == crc32 (psdu.take (psdu.length - 4)) :
    Bool) = true ∧ (decide (40 ≤ psdu.length) && decide (psdu.length ≤ (if ((hsigType w) == 4 || (hsigType w) == 5 : Bool)
    then 800 else if (hsigType w) = 2 then psdu.length else 2048)) && leAt psdu 0 1 % 16 == (hsigType w) && hdrZero psdu &&
    (if ((hsigType w) == 4 || (hsigType w) == 5 : Bool) || (hsigType w) == 0 then !(leAt psdu 0 1).testBit 5 else leAt psdu
    16 4 == s.linkEvent p) : Bool) = true ∧ (leAt psdu 6 2 == s.districtTag && ((hsigType w) == 0 || leAt psdu 4 2 ==
    s.ownDevice) : Bool) = true ∧ s.serves (hsigType w) p (leAt psdu 2 2) = false :=
  ⟨0, poll 0 1, 0, pollSig, 1024, pollRx, ⟨some 1024, 0⟩, member 5 (listens pollSig lit), by decide +kernel⟩

theorem witness_HolaelFramesAreCheckedInOrder_5 :
    ∃ (r : Rad) (psdu : List Byte) (raw : Nat) (w : Nat) (p : Nat) (q : Rx) (win : RxWin) (s : State), s.isLit 21 = true ∧
    (s.rd r).ppdu = some q ∧ q.hsig = some (w, win) ∧ q.lost = none ∧ psdu.length = hsigLength w ∧ (if usesMap (hsigType w) =
    true then s.linkOf win w else some 0) = some p ∧ s.heardAt r p (hsigType w) (s.rxStamp r win.width raw / 65536) = true ∧
    (q.erased.isEmpty && decide (4 ≤ psdu.length) && leAt psdu (psdu.length - 4) 4 == crc32 (psdu.take (psdu.length - 4)) :
    Bool) = true ∧ (decide (40 ≤ psdu.length) && decide (psdu.length ≤ (if ((hsigType w) == 4 || (hsigType w) == 5 : Bool)
    then 800 else if (hsigType w) = 2 then psdu.length else 2048)) && leAt psdu 0 1 % 16 == (hsigType w) && hdrZero psdu &&
    (if ((hsigType w) == 4 || (hsigType w) == 5 : Bool) || (hsigType w) == 0 then !(leAt psdu 0 1).testBit 5 else leAt psdu
    16 4 == s.linkEvent p) : Bool) = true ∧ (leAt psdu 6 2 == s.districtTag && ((hsigType w) == 0 || leAt psdu 4 2 ==
    s.ownDevice) : Bool) = true ∧ s.serves (hsigType w) p (leAt psdu 2 2) = true ∧ s.isLit 10 = false :=
  ⟨0, poll 0 1, 0, pollSig, 1024, pollRx, ⟨some 1024, 0⟩, pwr 10 (fun x => { x with st := .dark }) (listens pollSig lit),
    by decide +kernel⟩

theorem witness_HolaelFramesAreCheckedInOrder_6 :
    ∃ (r : Rad) (psdu : List Byte) (raw : Nat) (w : Nat) (p : Nat) (q : Rx) (win : RxWin) (s : State), s.isLit 21 = true ∧
    (s.rd r).ppdu = some q ∧ q.hsig = some (w, win) ∧ q.lost = none ∧ psdu.length = hsigLength w ∧ (if usesMap (hsigType w) =
    true then s.linkOf win w else some 0) = some p ∧ s.heardAt r p (hsigType w) (s.rxStamp r win.width raw / 65536) = true ∧
    (q.erased.isEmpty && decide (4 ≤ psdu.length) && leAt psdu (psdu.length - 4) 4 == crc32 (psdu.take (psdu.length - 4)) :
    Bool) = true ∧ (decide (40 ≤ psdu.length) && decide (psdu.length ≤ (if ((hsigType w) == 4 || (hsigType w) == 5 : Bool)
    then 800 else if (hsigType w) = 2 then psdu.length else 2048)) && leAt psdu 0 1 % 16 == (hsigType w) && hdrZero psdu &&
    (if ((hsigType w) == 4 || (hsigType w) == 5 : Bool) || (hsigType w) == 0 then !(leAt psdu 0 1).testBit 5 else leAt psdu
    16 4 == s.linkEvent p) : Bool) = true ∧ (leAt psdu 6 2 == s.districtTag && ((hsigType w) == 0 || leAt psdu 4 2 ==
    s.ownDevice) : Bool) = true ∧ s.serves (hsigType w) p (leAt psdu 2 2) = true ∧ s.isLit 10 = true ∧ (s.key (if (hsigType
    w) = 0 then s.fld A.hmacHolKeys F.hmacHolKeys_group_slot else if ((hsigType w) == 4 || (hsigType w) == 5 : Bool) = true
    then s.fld A.hmacHolKeys F.hmacHolKeys_join_slot else s.linkSlot p (if !((hsigType w) == 4 || (hsigType w) == 5 : Bool)
    && (hsigType w) != 0 && (leAt psdu 0 1).testBit 5 then 1 else 0))).cls = 0 ∧ (s.key (if (hsigType w) = 0 then s.fld
    A.hmacHolKeys F.hmacHolKeys_group_slot else if ((hsigType w) == 4 || (hsigType w) == 5 : Bool) = true then s.fld
    A.hmacHolKeys F.hmacHolKeys_join_slot else s.linkSlot p (if !((hsigType w) == 4 || (hsigType w) == 5 : Bool) && (hsigType
    w) != 0 && (leAt psdu 0 1).testBit 5 then 1 else 0))).key.length = 32 ∧ (openHol (s.key (if (hsigType w) = 0 then s.fld
    A.hmacHolKeys F.hmacHolKeys_group_slot else if ((hsigType w) == 4 || (hsigType w) == 5 : Bool) = true then s.fld
    A.hmacHolKeys F.hmacHolKeys_join_slot else s.linkSlot p (if !((hsigType w) == 4 || (hsigType w) == 5 : Bool) && (hsigType
    w) != 0 && (leAt psdu 0 1).testBit 5 then 1 else 0))).key psdu (leAt psdu 2 2) (leAt psdu 4 2) (leAt psdu 8 6) ((hsigType
    w) = 0)) = none :=
  ⟨0, poll 0 1, 0, pollSig, 1024, pollRx, ⟨some 1024, 0⟩, keyed 9 { slot0 with key := List.replicate 32 8 } (listens pollSig
    lit), by decide +kernel⟩

theorem witness_HolaelFramesAreCheckedInOrder_7 :
    ∃ (r : Rad) (psdu : List Byte) (raw : Nat) (w : Nat) (p : Nat) (q : Rx) (win : RxWin) (s : State), s.isLit 21 = true ∧
    (s.rd r).ppdu = some q ∧ q.hsig = some (w, win) ∧ q.lost = none ∧ psdu.length = hsigLength w ∧ (if usesMap (hsigType w) =
    true then s.linkOf win w else some 0) = some p ∧ s.heardAt r p (hsigType w) (s.rxStamp r win.width raw / 65536) = true ∧
    (q.erased.isEmpty && decide (4 ≤ psdu.length) && leAt psdu (psdu.length - 4) 4 == crc32 (psdu.take (psdu.length - 4)) :
    Bool) = true ∧ (decide (40 ≤ psdu.length) && decide (psdu.length ≤ (if ((hsigType w) == 4 || (hsigType w) == 5 : Bool)
    then 800 else if (hsigType w) = 2 then psdu.length else 2048)) && leAt psdu 0 1 % 16 == (hsigType w) && hdrZero psdu &&
    (if ((hsigType w) == 4 || (hsigType w) == 5 : Bool) || (hsigType w) == 0 then !(leAt psdu 0 1).testBit 5 else leAt psdu
    16 4 == s.linkEvent p) : Bool) = true ∧ (leAt psdu 6 2 == s.districtTag && ((hsigType w) == 0 || leAt psdu 4 2 ==
    s.ownDevice) : Bool) = true ∧ s.serves (hsigType w) p (leAt psdu 2 2) = true ∧ s.isLit 10 = true ∧ (s.key (if (hsigType
    w) = 0 then s.fld A.hmacHolKeys F.hmacHolKeys_group_slot else if ((hsigType w) == 4 || (hsigType w) == 5 : Bool) = true
    then s.fld A.hmacHolKeys F.hmacHolKeys_join_slot else s.linkSlot p (if !((hsigType w) == 4 || (hsigType w) == 5 : Bool)
    && (hsigType w) != 0 && (leAt psdu 0 1).testBit 5 then 1 else 0))).cls = 0 ∧ (s.key (if (hsigType w) = 0 then s.fld
    A.hmacHolKeys F.hmacHolKeys_group_slot else if ((hsigType w) == 4 || (hsigType w) == 5 : Bool) = true then s.fld
    A.hmacHolKeys F.hmacHolKeys_join_slot else s.linkSlot p (if !((hsigType w) == 4 || (hsigType w) == 5 : Bool) && (hsigType
    w) != 0 && (leAt psdu 0 1).testBit 5 then 1 else 0))).key.length = 32 ∧ (openHol (s.key (if (hsigType w) = 0 then s.fld
    A.hmacHolKeys F.hmacHolKeys_group_slot else if ((hsigType w) == 4 || (hsigType w) == 5 : Bool) = true then s.fld
    A.hmacHolKeys F.hmacHolKeys_join_slot else s.linkSlot p (if !((hsigType w) == 4 || (hsigType w) == 5 : Bool) && (hsigType
    w) != 0 && (leAt psdu 0 1).testBit 5 then 1 else 0))).key psdu (leAt psdu 2 2) (leAt psdu 4 2) (leAt psdu 8 6) ((hsigType
    w) = 0)).isSome = true ∧ (s.replayOf (seenKey (hsigType w) p (if !((hsigType w) == 4 || (hsigType w) == 5 : Bool) &&
    (hsigType w) != 0 && (leAt psdu 0 1).testBit 5 then 1 else 0) (leAt psdu 2 2)) (if (hsigType w) = 0 then s.fld
    A.hmacHolKeys F.hmacHolKeys_group_slot else if ((hsigType w) == 4 || (hsigType w) == 5 : Bool) = true then s.fld
    A.hmacHolKeys F.hmacHolKeys_join_slot else s.linkSlot p (if !((hsigType w) == 4 || (hsigType w) == 5 : Bool) && (hsigType
    w) != 0 && (leAt psdu 0 1).testBit 5 then 1 else 0))).ok (leAt psdu 8 6) = false :=
  ⟨0, poll 0 1, 0, pollSig, 1024, pollRx, ⟨some 1024, 0⟩, holy (fun h =>
    { h with seen := [(seenKey 1 1024 0 5, ⟨9, 0, 65, 1⟩)] }) (listens pollSig lit), by decide +kernel⟩

theorem witness_HolaelFramesAreCheckedInOrder_8 :
    ∃ (r : Rad) (psdu : List Byte) (raw : Nat) (w : Nat) (p : Nat) (q : Rx) (win : RxWin) (s : State), s.isLit 21 = true ∧
    (s.rd r).ppdu = some q ∧ q.hsig = some (w, win) ∧ q.lost = none ∧ psdu.length = hsigLength w ∧ (if usesMap (hsigType w) =
    true then s.linkOf win w else some 0) = some p ∧ s.heardAt r p (hsigType w) (s.rxStamp r win.width raw / 65536) = true ∧
    (q.erased.isEmpty && decide (4 ≤ psdu.length) && leAt psdu (psdu.length - 4) 4 == crc32 (psdu.take (psdu.length - 4)) :
    Bool) = true ∧ (decide (40 ≤ psdu.length) && decide (psdu.length ≤ (if ((hsigType w) == 4 || (hsigType w) == 5 : Bool)
    then 800 else if (hsigType w) = 2 then psdu.length else 2048)) && leAt psdu 0 1 % 16 == (hsigType w) && hdrZero psdu &&
    (if ((hsigType w) == 4 || (hsigType w) == 5 : Bool) || (hsigType w) == 0 then !(leAt psdu 0 1).testBit 5 else leAt psdu
    16 4 == s.linkEvent p) : Bool) = true ∧ (leAt psdu 6 2 == s.districtTag && ((hsigType w) == 0 || leAt psdu 4 2 ==
    s.ownDevice) : Bool) = true ∧ s.serves (hsigType w) p (leAt psdu 2 2) = true ∧ s.isLit 10 = true ∧ (s.key (if (hsigType
    w) = 0 then s.fld A.hmacHolKeys F.hmacHolKeys_group_slot else if ((hsigType w) == 4 || (hsigType w) == 5 : Bool) = true
    then s.fld A.hmacHolKeys F.hmacHolKeys_join_slot else s.linkSlot p (if !((hsigType w) == 4 || (hsigType w) == 5 : Bool)
    && (hsigType w) != 0 && (leAt psdu 0 1).testBit 5 then 1 else 0))).cls = 0 ∧ (s.key (if (hsigType w) = 0 then s.fld
    A.hmacHolKeys F.hmacHolKeys_group_slot else if ((hsigType w) == 4 || (hsigType w) == 5 : Bool) = true then s.fld
    A.hmacHolKeys F.hmacHolKeys_join_slot else s.linkSlot p (if !((hsigType w) == 4 || (hsigType w) == 5 : Bool) && (hsigType
    w) != 0 && (leAt psdu 0 1).testBit 5 then 1 else 0))).key.length = 32 ∧ (openHol (s.key (if (hsigType w) = 0 then s.fld
    A.hmacHolKeys F.hmacHolKeys_group_slot else if ((hsigType w) == 4 || (hsigType w) == 5 : Bool) = true then s.fld
    A.hmacHolKeys F.hmacHolKeys_join_slot else s.linkSlot p (if !((hsigType w) == 4 || (hsigType w) == 5 : Bool) && (hsigType
    w) != 0 && (leAt psdu 0 1).testBit 5 then 1 else 0))).key psdu (leAt psdu 2 2) (leAt psdu 4 2) (leAt psdu 8 6) ((hsigType
    w) = 0)) = some [] ∧ (s.replayOf (seenKey (hsigType w) p (if !((hsigType w) == 4 || (hsigType w) == 5 : Bool) &&
    (hsigType w) != 0 && (leAt psdu 0 1).testBit 5 then 1 else 0) (leAt psdu 2 2)) (if (hsigType w) = 0 then s.fld
    A.hmacHolKeys F.hmacHolKeys_group_slot else if ((hsigType w) == 4 || (hsigType w) == 5 : Bool) = true then s.fld
    A.hmacHolKeys F.hmacHolKeys_join_slot else s.linkSlot p (if !((hsigType w) == 4 || (hsigType w) == 5 : Bool) && (hsigType
    w) != 0 && (leAt psdu 0 1).testBit 5 then 1 else 0))).ok (leAt psdu 8 6) = true ∧ (hsigType w) = 1 ∧ (leAt psdu 0
    1).testBit 7 = false ∧ p = parentNo :=
  ⟨0, poll 0 1, 0, pollSig, 1024, pollRx, ⟨some 1024, 0⟩, listens pollSig lit, by decide +kernel⟩

theorem witness_HolaelFramesAreCheckedInOrder_9 :
    ∃ (r : Rad) (psdu : List Byte) (w : Nat) (q : Rx) (win : RxWin) (s : State), s.isLit 21 = true ∧ (s.rd r).ppdu = some q ∧
    q.hsig = some (w, win) ∧ q.lost = none ∧ psdu.length = hsigLength w ∧ usesMap (hsigType w) = true ∧ s.linkOf win w = none
    :=
  ⟨0, poll 0 1, pollSig, pollRx, ⟨some 1024, 0⟩, put [(A.hmacHolParentSched2, F.hmacHolParentSched2_partner, 1)] (listens
    pollSig lit), by decide +kernel⟩

theorem witness_HolaelFramesAreCheckedInOrder_10 :
    ∃ (r : Rad) (psdu : List Byte) (raw : Nat) (w : Nat) (q : Rx) (win : RxWin) (s : State) (p : _), s.isLit 21 = true ∧
    (s.rd r).ppdu = some q ∧ q.hsig = some (w, win) ∧ q.lost = none ∧ psdu.length = hsigLength w ∧ usesMap (hsigType w) =
    true ∧ s.linkOf win w = some p ∧ s.heardAt r p (hsigType w) (s.rxStamp r win.width raw / 65536) = false :=
  ⟨0, poll 0 1, 0, pollSig, pollRx, ⟨some 1024, 0⟩, inEvents [] (listens pollSig lit), 1024, by decide +kernel⟩

theorem witness_HolaelFramesAreCheckedInOrder_11 :
    ∃ (r : Rad) (s : State), (((s.rd r).ppdu = none ∨ ∃ q, (s.rd r).ppdu = some q ∧ (q.hsig = none ∨ q.lost.isSome = true)))
    :=
  ⟨0, lit, by decide +kernel⟩

/-- WLAN enabled on radio 0 with BSSID 0, and the first entry of radio 2 AUTHORIZED with its address, inside its service period. -/
def wlan : State := put [(A.hmacWlanCtl 0, F.hmacWlanCtl_enable, 1), (A.hmacWlanCtl 2, F.hmacWlanCtl_enable, 1),
  (A.hmacWlanCtl 0, F.hmacWlanCtl_mgmt_rate, 1),
  (A.hmacWlanBssCfg 0 0, F.hmacWlanBssCfg_bss_en, 1), (A.hmacWlanBssCfg 2 0, F.hmacWlanBssCfg_bss_en, 1),
  (A.hmacWlanProtect 0, F.hmacWlanProtect_protect_en, 1), (A.hmacWlanTrig 2, F.hmacWlanTrig_trig_en, 1),
  (A.hmacWlanStationW1 1024, F.hmacWlanStationW1_mac_hi, 1), (A.hmacWlanStationW1 1024, F.hmacWlanStationW1_state, 3),
  (A.hmacWlanStationW2 1024, F.hmacWlanStationW2_max_format, 5), (A.radCtl 2, F.radCtl_tx_chain_en, 1), (A.radCtl 2, F.radCtl_enable, 1)]
    (lit.setLk 1024 { StaLink.init with inSp := true })
/-- The entry is an EMLSR client. -/
def emlsr : State := put [(A.hmacWlanStationW2 1024, F.hmacWlanStationW2_emlsr, 1)] wlan
/-- The entry's key in slot 0, its protection on. -/
def secured (k : KeySlot) : State :=
  keyed 0 { k with key := List.replicate 16 1 } (put [(A.hmacWlanStationW3 1024, F.hmacWlanStationW3_protect_en, 1)] wlan)
def wradio (r : Nat) (f : WlanRadio → WlanRadio) (s : State) : State := s.setWr r (f (s.wr r))
def queued (m : WMpdu) (s : State) : State := s.setWp 1024 { WlanPeer.init with txq := [m] }
def mpdu : WMpdu := { tid := 7, sn := 4095, bytes := [1], tries := 0, wantStatus := false, frameId := 0, frags := 0, sent := 0 }
/-- The coordinator's radio 0 50 µs before a round and its lantern. -/
def windowed : State :=
  let s := put [(A.hmacHolCtl, F.hmacHolCtl_coord_en, 1), (A.hmacHolRound, F.hmacHolRound_round_units, 80),
    (A.hmacHolRound, F.hmacHolRound_lantern_reserve, 2)] wlan
  { s with elapsed := 10 ^ 7, time := { s.time with clock := 9950000 * fracUnits } }
def wair : WAir := ⟨65535, 75840, ⟨.nonHt, 0, 0, 1, 0⟩, [], 3, 9, 40000, 20000, 50, 100000, 0⟩
/-- A data MPDU of the entry's address, and of one that no entry of radio 0 has. -/
def wdata : WlanRx :=
  { kind := .data, ta := 2 ^ 32, bss := 0, tid := 7, sn := 0, frag := 0, moreFrag := false, agreement := false, isProtected := false
    keyId := 0, pn := 5, authentic := true, pm := true, buffered := none, colour := none, response := none, ppduEnd := 0, width := 0
    bytes := [1, 2], raw := 0, cws := none }
def strange : WlanRx := { wdata with ta := 7 }
theorem entryOf_of_regs (s t : State) (h : s.regs = t.regs) (r ta : Nat) : s.entryOf r ta = t.entryOf r ta := by
  unfold State.entryOf State.sta State.staMac State.fld State.reg
  rw [h]
theorem radio0_has_no_station : wlan.entryOf 0 7 = none := by decide +kernel
theorem still_no_station (s : State) (h : s.regs = wlan.regs) : s.entryOf 0 7 = none :=
  (entryOf_of_regs s wlan h 0 7).trans radio0_has_no_station

theorem witness_StationsReceiveReorderAndAcknowledge_1 :
    ∃ (who : Requester) (w : Word) (s : State), s.isLit 21 = true ∧ isAnyCore who = true ∧ 1 ≤ (F.hmacWlanStationW1_state.get
    w) ∧ (F.hmacWlanStationW1_state.get w) ≤ 3 :=
  ⟨.core 0, (F.hmacWlanStationW1_aid.put 2007 (F.hmacWlanStationW1_state.put 3 0)), lit, by decide +kernel⟩

theorem witness_StationsReceiveReorderAndAcknowledge_2 :
    ∃ (who : Requester) (n : Fin 1536) (w : Word) (s : State), s.isLit 21 = true ∧ isAnyCore who = true ∧
    F.hmacWlanStationW1_state.get w = 0 ∧ s.sta n ≠ 0 ∧ s.bit (A.hmacWlanStationW2 n) F.hmacWlanStationW2_mld = false :=
  ⟨.core 0, 1024, (F.hmacWlanStationW1_aid.put 2007 (F.hmacWlanStationW1_state.put 0 0)), wlan, by decide +kernel⟩

theorem witness_StationsReceiveReorderAndAcknowledge_3 :
    ∃ (who : Requester) (s : State), s.isLit 21 = true ∧ isAnyCore who = false :=
  ⟨.dma 0, lit, by decide +kernel⟩

theorem witness_StationsReceiveReorderAndAcknowledge_4 :
    ∃ (n : Fin 1536) (tid : Fin 8) (h : WHeld) (s : State), (s.wp n).held = [h] ∧ h.tid = tid.val ∧ s.elapsed ≤ h.since +
    50000000 :=
  ⟨0, 7, ⟨7, 2046, [1], 0, 0⟩, lit.setWp 0 { WlanPeer.init with held := [⟨7, 2046, [1], 0, 0⟩] }, by decide +kernel⟩

theorem witness_StationsReceiveReorderAndAcknowledge_5 :
    ∃ (n : Fin 1536) (tid : Fin 8) (h : WHeld) (s : State), (s.wp n).held = [h] ∧ h.tid = tid.val ∧ h.since + 50000000 <
    s.elapsed ∧ snSub h.sn (Tbl.get (fun _ => 0) (s.wp n).baRx tid) < 2047 ∧ ((Tbl.get (fun _ => []) s.rxFifo (16 +
    entryRadio n)).foldl (fun a f => a + f.bytes.length) 0) + h.bytes.length ≤ 524288 :=
  ⟨0, 7, ⟨7, 2046, [1], 0, 0⟩,
    { lit.setWp 0 { WlanPeer.init with held := [⟨7, 2046, [1], 0, 0⟩] } with elapsed := 50000001 }, by decide +kernel⟩

theorem witness_StationsReceiveReorderAndAcknowledge_6 :
    ∃ (n : Fin 1536) (s : State), s.isLit 21 = true ∧ s.sta n ≠ 0 :=
  ⟨1024, wlan, by decide +kernel⟩

theorem witness_StationsReceiveReorderAndAcknowledge_7 :
    ∃ (r : Rad) (f : WlanRx) (n : Nat) (s : State), s.isLit 21 = true ∧ s.radLit r = true ∧ s.bit (A.hmacWlanCtl r)
    F.hmacWlanCtl_enable = true ∧ (s.rd r).ppdu.any (·.fails f.cws) = false ∧ s.entryOf r f.ta = some n ∧ s.sta n = 3 ∧
    f.kind = .data ∧ f.response = none ∧ f.colour = none ∧ f.frag.val = 0 ∧ f.moreFrag = false ∧ f.agreement = false ∧
    Tbl.find? (s.wp n).baRx f.tid = none ∧ Tbl.find? (s.wp n).board f.tid = none ∧ ((Tbl.get (fun _ => []) s.rxFifo (16 +
    r)).foldl (fun a f => a + f.bytes.length) 0) + f.bytes.length ≤ 524288 ∧ f.isProtected = false ∧ s.bit
    (A.hmacWlanStationW3 n) F.hmacWlanStationW3_protect_en = false :=
  ⟨2, wdata, 1024, wlan, by decide +kernel⟩

theorem witness_StationsReceiveReorderAndAcknowledge_8 :
    ∃ (r : Rad) (f : WlanRx) (n : Nat) (s : State), s.isLit 21 = true ∧ s.radLit r = true ∧ s.bit (A.hmacWlanCtl r)
    F.hmacWlanCtl_enable = true ∧ (s.rd r).ppdu.any (·.fails f.cws) = false ∧ s.entryOf r f.ta = some n ∧ s.sta n = 3 ∧
    f.kind = .data ∧ f.response = none ∧ f.colour = none ∧ f.frag.val = 0 ∧ f.moreFrag = false ∧ f.agreement = false ∧
    Tbl.find? (s.wp n).baRx f.tid = none ∧ Tbl.find? (s.wp n).board f.tid = none ∧ ((Tbl.get (fun _ => []) s.rxFifo (16 +
    r)).foldl (fun a f => a + f.bytes.length) 0) + f.bytes.length ≤ 524288 ∧ f.isProtected = false ∧ s.bit
    (A.hmacWlanStationW3 n) F.hmacWlanStationW3_protect_en = true :=
  ⟨2, wdata, 1024, secured slot0, by decide +kernel⟩

theorem witness_StationsReceiveReorderAndAcknowledge_9 :
    ∃ (r : Rad) (f : WlanRx) (n : Nat) (s : State), s.isLit 21 = true ∧ s.radLit r = true ∧ s.bit (A.hmacWlanCtl r)
    F.hmacWlanCtl_enable = true ∧ (s.rd r).ppdu.any (·.fails f.cws) = false ∧ s.entryOf r f.ta = some n ∧ s.sta n = 3 ∧
    f.kind = .data ∧ f.response = none ∧ f.colour = none ∧ f.frag.val = 0 ∧ f.moreFrag = false ∧ f.agreement = false ∧
    Tbl.find? (s.wp n).baRx f.tid = none ∧ Tbl.find? (s.wp n).board f.tid = none ∧ ((Tbl.get (fun _ => []) s.rxFifo (16 +
    r)).foldl (fun a f => a + f.bytes.length) 0) + f.bytes.length ≤ 524288 ∧ f.isProtected = true ∧ s.isLit 10 = true ∧
    (s.key (s.staSlot n f.keyId)).cls = 0 ∧ (s.key (s.staSlot n f.keyId)).key.length = s.staKeyLen n ∧ f.authentic = false :=
  ⟨2, { wdata with isProtected := true, authentic := false }, 1024, secured slot0, by decide +kernel⟩

theorem witness_StationsReceiveReorderAndAcknowledge_10 :
    ∃ (r : Rad) (f : WlanRx) (n : Nat) (s : State), s.isLit 21 = true ∧ s.radLit r = true ∧ s.bit (A.hmacWlanCtl r)
    F.hmacWlanCtl_enable = true ∧ (s.rd r).ppdu.any (·.fails f.cws) = false ∧ s.entryOf r f.ta = some n ∧ s.sta n = 3 ∧
    f.kind = .data ∧ f.response = none ∧ f.colour = none ∧ f.frag.val = 0 ∧ f.moreFrag = false ∧ f.agreement = false ∧
    Tbl.find? (s.wp n).baRx f.tid = none ∧ Tbl.find? (s.wp n).board f.tid = none ∧ ((Tbl.get (fun _ => []) s.rxFifo (16 +
    r)).foldl (fun a f => a + f.bytes.length) 0) + f.bytes.length ≤ 524288 ∧ f.isProtected = true ∧ s.isLit 10 = true ∧
    (s.key (s.staSlot n f.keyId)).cls = 0 ∧ (s.key (s.staSlot n f.keyId)).key.length = s.staKeyLen n ∧ f.authentic = true ∧
    (Tbl.get (fun _ => (0, 0)) (s.wp n).replay (16 * f.keyId.val + f.tid.val)).1 = (s.key (s.staSlot n f.keyId)).gen ∧ f.pn ≤
    (Tbl.get (fun _ => (0, 0)) (s.wp n).replay (16 * f.keyId.val + f.tid.val)).2 :=
  ⟨2, { wdata with isProtected := true }, 1024, (secured slot0).setWp 1024 { WlanPeer.init with replay := [(7, (0, 5))] },
    by decide +kernel⟩

theorem witness_StationsReceiveReorderAndAcknowledge_11 :
    ∃ (r : Rad) (f : WlanRx) (n : Nat) (s : State), s.isLit 21 = true ∧ s.radLit r = true ∧ s.bit (A.hmacWlanCtl r)
    F.hmacWlanCtl_enable = true ∧ (s.rd r).ppdu.any (·.fails f.cws) = false ∧ s.entryOf r f.ta = some n ∧ s.sta n = 3 ∧
    f.kind = .data ∧ f.response = none ∧ f.colour = none ∧ f.frag.val = 0 ∧ f.moreFrag = false ∧ f.agreement = false ∧
    Tbl.find? (s.wp n).baRx f.tid = none ∧ Tbl.find? (s.wp n).board f.tid = none ∧ ((Tbl.get (fun _ => []) s.rxFifo (16 +
    r)).foldl (fun a f => a + f.bytes.length) 0) + f.bytes.length ≤ 524288 ∧ f.isProtected = true ∧ s.isLit 10 = true ∧
    (s.key (s.staSlot n f.keyId)).cls = 0 ∧ (s.key (s.staSlot n f.keyId)).key.length = s.staKeyLen n ∧ f.authentic = true ∧
    ((Tbl.get (fun _ => (0, 0)) (s.wp n).replay (16 * f.keyId.val + f.tid.val)).1 ≠ (s.key (s.staSlot n f.keyId)).gen ∨
    (Tbl.get (fun _ => (0, 0)) (s.wp n).replay (16 * f.keyId.val + f.tid.val)).2 < f.pn) :=
  ⟨2, { wdata with isProtected := true }, 1024, (secured slot0).setWp 1024 { WlanPeer.init with replay := [(7, (0, 4))] },
    by decide +kernel⟩

theorem witness_StationsReceiveReorderAndAcknowledge_12 :
    ∃ (r : Rad) (f : WlanRx) (s : State), s.isLit 21 = true ∧ s.radLit r = true ∧ s.bit (A.hmacWlanCtl r)
    F.hmacWlanCtl_enable = true ∧ (s.rd r).ppdu.any (·.fails f.cws) = false ∧ s.entryOf r f.ta = none ∧ f.kind = .data ∧
    f.response = none ∧ f.colour = none ∧ (s.wr r).sec = s.nowSec ∧ (s.wr r).unknown.contains f.ta = true :=
  ⟨0, strange, wradio 0 (fun x => { x with unknown := [7] }) wlan, by
    refine ⟨?_, ?_, ?_, ?_, (still_no_station _ rfl), ?_, ?_, ?_, ?_, ?_⟩ <;> decide +kernel⟩

theorem witness_StationsReceiveReorderAndAcknowledge_13 :
    ∃ (r : Rad) (f : WlanRx) (s : State), s.isLit 21 = true ∧ s.radLit r = true ∧ s.bit (A.hmacWlanCtl r)
    F.hmacWlanCtl_enable = true ∧ (s.rd r).ppdu.any (·.fails f.cws) = false ∧ s.entryOf r f.ta = none ∧ f.kind = .data ∧
    f.response = none ∧ f.colour = none ∧ (s.wr r).sec = s.nowSec ∧ (s.wr r).unknown.contains f.ta = false ∧ (s.wr
    r).mgmtCount < s.fld (A.hmacWlanCtl r) F.hmacWlanCtl_mgmt_rate ∧ s.mgmtRoom r f.bytes.length = true :=
  ⟨0, strange, wlan, by
    refine ⟨?_, ?_, ?_, ?_, (still_no_station _ rfl), ?_, ?_, ?_, ?_, ?_, ?_, ?_⟩ <;> decide +kernel⟩

theorem witness_StationsReceiveReorderAndAcknowledge_14 :
    ∃ (r : Rad) (f : WlanRx) (s : State), s.isLit 21 = true ∧ s.radLit r = true ∧ s.bit (A.hmacWlanCtl r)
    F.hmacWlanCtl_enable = true ∧ (s.rd r).ppdu.any (·.fails f.cws) = false ∧ s.entryOf r f.ta = none ∧ f.kind = .mgmt ∧
    f.response = none ∧ f.colour = none ∧ (s.wr r).sec = s.nowSec ∧ s.fld (A.hmacWlanCtl r) F.hmacWlanCtl_mgmt_rate ≤ (s.wr
    r).mgmtCount :=
  ⟨0, { strange with kind := .mgmt }, wradio 0 (fun x => { x with mgmtCount := 1 }) wlan, by
    refine ⟨?_, ?_, ?_, ?_, (still_no_station _ rfl), ?_, ?_, ?_, ?_, ?_⟩ <;> decide +kernel⟩

theorem witness_StationsReceiveReorderAndAcknowledge_15 :
    ∃ (r : Rad) (f : WlanRx) (c : Nat) (s : State), s.isLit 21 = true ∧ s.radLit r = true ∧ s.bit (A.hmacWlanCtl r)
    F.hmacWlanCtl_enable = true ∧ (s.rd r).ppdu.any (·.fails f.cws) = false ∧ s.entryOf r f.ta = none ∧ f.kind = .qosNull ∧
    f.response = none ∧ c ≠ 0 ∧ f.colour = some c ∧ (s.wr r).colourNow = c ∧ ((s.wr r).colour.filter (fun t => s.elapsed ≤ t
    + nsPerSec)).length = 7 :=
  ⟨0, { strange with kind := .qosNull, colour := some 63 }, 63, wradio 0 (fun x =>
    { x with colourNow := 63, colour := List.replicate 7 0 }) wlan, by
    refine ⟨?_, ?_, ?_, ?_, (still_no_station _ rfl), ?_, ?_, ?_, ?_, ?_, ?_⟩ <;> decide +kernel⟩

theorem witness_StationsReceiveReorderAndAcknowledge_16 :
    ∃ (r : Rad) (f : WlanRx) (sns : List Nat) (e : WExch) (n : Fin 1536) (m : WMpdu) (s : State), s.isLit 21 = true ∧
    s.radLit r = true ∧ s.bit (A.hmacWlanCtl r) F.hmacWlanCtl_enable = true ∧ (s.rd r).ppdu.any (·.fails f.cws) = false ∧
    f.kind = .ack sns ∧ f.response = none ∧ f.colour = none ∧ (s.wr r).exch = some e ∧ (s.wr r).multi = [] ∧ e.entry = some
    n.val ∧ e.mgmt = none ∧ e.frag = none ∧ (s.wp n).txq = [m] ∧ m.tid = e.tid ∧ m.sn ∈ e.sns ∧ m.wantStatus = false :=
  ⟨2, { wdata with kind := .ack [4095] }, [4095], ⟨1, some 1024, 7, [4095], none, none, 0⟩, 1024, mpdu, wradio 2 (fun x =>
    { x with exch := some ⟨1, some 1024, 7, [4095], none, none, 0⟩ }) (queued mpdu wlan), by decide +kernel⟩

theorem witness_StationsReceiveReorderAndAcknowledge_17 :
    ∃ (r : Rad) (f : WlanRx) (n : Nat) (d : Nat) (cts : Bool) (s : State), s.isLit 21 = true ∧ s.radLit r = true ∧ s.bit
    (A.hmacWlanCtl r) F.hmacWlanCtl_enable = true ∧ (s.rd r).ppdu.any (·.fails f.cws) = false ∧ f.kind = .cts ∧ f.response =
    none ∧ f.colour = none ∧ s.entryOf r f.ta = some n ∧ (s.wr r).icf = some (n, cts, d) :=
  ⟨2, { wdata with kind := .cts }, 1024, 5, false, wradio 2 (fun x => { x with icf := some (1024, false, 5) }) wlan,
    by decide +kernel⟩

theorem witness_StationsReceiveReorderAndAcknowledge_18 :
    ∃ (r : Rad) (f : WlanRx) (n : Fin 1536) (s : State), s.isLit 21 = true ∧ s.radLit r = true ∧ s.bit (A.hmacWlanCtl r)
    F.hmacWlanCtl_enable = true ∧ (s.rd r).ppdu.any (·.fails f.cws) = false ∧ s.entryOf r f.ta = none ∧ f.kind = .tbEnd ∧
    f.response = none ∧ f.colour = none ∧ (s.wr r).trigWait = [n.val] :=
  ⟨0, { strange with kind := .tbEnd }, 511, wradio 0 (fun x => { x with trigWait := [511] }) wlan, by
    refine ⟨?_, ?_, ?_, ?_, (still_no_station _ rfl), ?_, ?_, ?_, ?_⟩ <;> decide +kernel⟩

theorem witness_StationsReceiveReorderAndAcknowledge_19 :
    ∃ (r : Rad) (q : Rx) (s : State), (s.rd r).ppdu = some q ∧ q.lost.isSome = true :=
  ⟨2, { Rx.start 0 with lost := some .decDark }, radio 2 (fun x =>
    { x with rx := some { Rx.start 0 with lost := some .decDark } }) lit, by decide +kernel⟩

theorem witness_StationsReceiveReorderAndAcknowledge_20 :
    ∃ (r : Rad) (f : WlanRx) (q : Rx) (k : Nat) (s : State), s.isLit 21 = true ∧ s.radLit r = true ∧ s.bit (A.hmacWlanCtl r)
    F.hmacWlanCtl_enable = true ∧ (s.rd r).ppdu = some q ∧ q.lost = none ∧ k ∈ q.erased ∧ f.cws = some (k, k) :=
  ⟨2, { wdata with cws := some (3, 3) }, { Rx.start 0 with erased := [3] }, 3, radio 2 (fun x =>
    { x with done := some { Rx.start 0 with erased := [3] } }) wlan, by decide +kernel⟩

theorem witness_StationsReceiveReorderAndAcknowledge_21 :
    ∃ (r : Rad) (s : State), s.bit (A.hmacWlanCtl r) F.hmacWlanCtl_enable = false :=
  ⟨1, wlan, by decide +kernel⟩

theorem witness_WlanTransmissionsFitTheirWindows_1 :
    ∃ (r : Rad) (a : WAir) (n : Fin 1536) (tid : Fin 8) (x : Nat) (m : WMpdu) (s : State), s.wlanMay r = true ∧ (s.wr r).exch
    = none ∧ (s.wr r).multi = [] ∧ (s.wr r).icf = none ∧ s.dataMay r n = true ∧ s.bit (A.hmacWlanStationW2 n)
    F.hmacWlanStationW2_emlsr = false ∧ s.wlanFmt r a.tx = true ∧ s.staTakes n a.tx a.tx.streams = true ∧ (s.wp n).txq = [m]
    ∧ m.tid = tid.val ∧ m.bytes ≠ [] ∧ x + 16000 + a.response ≤ s.wlanRoom r a ∧ s.ahead a.earliest a.deadline ∧ (((s.bit
    (A.hmacWlanStationW3 n) F.hmacWlanStationW3_protect_en) = true → s.isLit 10 = true ∧ (s.key (s.staSlot n (s.fld
    (A.hmacWlanStationW3 n) F.hmacWlanStationW3_tx_key_id))).cls = 0 ∧ (s.key (s.staSlot n (s.fld (A.hmacWlanStationW3 n)
    F.hmacWlanStationW3_tx_key_id))).key.length = s.staKeyLen n ∧ ((s.key (s.staSlot n (s.fld (A.hmacWlanStationW3 n)
    F.hmacWlanStationW3_tx_key_id))).use = 0 ∨ (s.key (s.staSlot n (s.fld (A.hmacWlanStationW3 n)
    F.hmacWlanStationW3_tx_key_id))).use = 3) ∧ (s.key (s.staSlot n (s.fld (A.hmacWlanStationW3 n)
    F.hmacWlanStationW3_tx_key_id))).pn < 2 ^ 48 - 1)) :=
  ⟨2, wair, 1024, 7, 64000, mpdu, queued mpdu (secured slot0), by unfold State.ahead; decide +kernel⟩

theorem witness_WlanTransmissionsFitTheirWindows_2 :
    ∃ (r : Rad) (a : WAir) (n : Fin 1536) (tid : Fin 8) (x : Nat) (m : WMpdu) (s : State), s.wlanMay r = true ∧ (s.wr r).exch
    = none ∧ (s.wr r).multi = [] ∧ (s.wr r).icf = none ∧ s.dataMay r n = true ∧ s.bit (A.hmacWlanStationW2 n)
    F.hmacWlanStationW2_emlsr = false ∧ s.wlanFmt r a.tx = true ∧ s.staTakes n a.tx a.tx.streams = true ∧ (s.wp n).txq = [m]
    ∧ m.tid = tid.val ∧ s.wlanRoom r a < x + 16000 + a.response ∧ s.bit (A.hmacWlanStationW2 n) F.hmacWlanStationW2_frag_en =
    false :=
  ⟨2, wair, 1024, 7, 64001, mpdu, queued mpdu wlan, by decide +kernel⟩

theorem witness_WlanTransmissionsFitTheirWindows_3 :
    ∃ (r : Rad) (a : WAir) (n : Fin 1536) (tid : Fin 8) (x : Nat) (m : WMpdu) (s : State), s.wlanMay r = true ∧ (s.wr r).exch
    = none ∧ (s.wr r).multi = [] ∧ (s.wr r).icf = none ∧ s.dataMay r n = true ∧ s.bit (A.hmacWlanStationW2 n)
    F.hmacWlanStationW2_emlsr = false ∧ s.wlanFmt r a.tx = true ∧ s.staTakes n a.tx a.tx.streams = true ∧ (s.wp n).txq = [m]
    ∧ m.tid = tid.val ∧ x + 16000 + a.response ≤ s.wlanRoom r a ∧ s.bit (A.hmacWlanStationW3 n)
    F.hmacWlanStationW3_protect_en = true ∧ s.isLit 10 = true ∧ (s.key (s.staSlot n (s.fld (A.hmacWlanStationW3 n)
    F.hmacWlanStationW3_tx_key_id))).cls = 0 ∧ (s.key (s.staSlot n (s.fld (A.hmacWlanStationW3 n)
    F.hmacWlanStationW3_tx_key_id))).key.length = s.staKeyLen n ∧ ((s.key (s.staSlot n (s.fld (A.hmacWlanStationW3 n)
    F.hmacWlanStationW3_tx_key_id))).use = 0 ∨ (s.key (s.staSlot n (s.fld (A.hmacWlanStationW3 n)
    F.hmacWlanStationW3_tx_key_id))).use = 3) ∧ 2 ^ 48 - 1 ≤ (s.key (s.staSlot n (s.fld (A.hmacWlanStationW3 n)
    F.hmacWlanStationW3_tx_key_id))).pn :=
  ⟨2, wair, 1024, 7, 64000, mpdu, queued mpdu (secured { slot0 with pn := 2 ^ 48 - 1 }), by decide +kernel⟩

theorem witness_WlanTransmissionsFitTheirWindows_4 :
    ∃ (r : Rad) (a : WAir) (u : MuUser) (x : Nat) (m : WMpdu) (s : State), s.wlanMay r = true ∧ (s.wr r).exch = none ∧ (s.wr
    r).multi = [] ∧ (s.wr r).icf = none ∧ s.wlanFmt r a.tx = true ∧ muOk r (ones (s.txChains r)) a.tx [u] = true ∧ s.dataMay
    r u.entry = true ∧ s.bit (A.hmacWlanStationW2 u.entry) F.hmacWlanStationW2_emlsr = false ∧ s.staTakes u.entry a.tx
    u.streams = true ∧ s.bit (A.hmacWlanStationW3 u.entry) F.hmacWlanStationW3_protect_en = false ∧ (s.wp u.entry).txq = [m]
    ∧ m.tid = u.tid.val ∧ m.bytes ≠ [] ∧ u.airs = [x] ∧ x + 16000 + a.response ≤ s.wlanRoom r a ∧ s.ahead a.earliest
    a.deadline :=
  ⟨2, { wair with tx := ⟨.he, 0, 7, 1, 0⟩ }, ⟨1024, 7, 0, 242, 1, [64000], false⟩, 64000, mpdu, queued mpdu (wradio 2 (fun x
    => { x with colourNow := 1 }) wlan), by unfold State.ahead; decide +kernel⟩

theorem witness_WlanTransmissionsFitTheirWindows_5 :
    ∃ (r : Rad) (a : WAir) (n : Fin 1536) (tid : Fin 8) (m : WMpdu) (s : State), s.wlanMay r = true ∧ (s.wr r).exch = none ∧
    (s.wr r).multi = [] ∧ (s.wr r).icf = none ∧ s.dataMay r n = true ∧ s.bit (A.hmacWlanStationW2 n)
    F.hmacWlanStationW2_emlsr = true ∧ (s.wp n).txq = [m] ∧ m.tid = tid.val ∧ s.wlanFmt r
    ({ a with tx := { a.tx with fmt := .nonHt, mcs := 0, streams := 1 } }).tx = true ∧ a.len ≠ 0 ∧ a.airNs + 16000 +
    a.response ≤ s.wlanRoom r a ∧ s.ahead a.earliest a.deadline :=
  ⟨2, wair, 1024, 7, mpdu, queued mpdu emlsr, by unfold State.ahead; decide +kernel⟩

theorem witness_WlanTransmissionsFitTheirWindows_6 :
    ∃ (r : Rad) (a : WAir) (n : Fin 1536) (tid : Fin 8) (x : Nat) (d : Nat) (m : WMpdu) (s : State), s.wlanMay r = true ∧
    (s.wr r).exch = none ∧ (s.wr r).multi = [] ∧ (s.wr r).icf = some (n.val, true, d) ∧ s.dataMay r n = true ∧ s.bit
    (A.hmacWlanStationW3 n) F.hmacWlanStationW3_protect_en = false ∧ s.wlanFmt r a.tx = true ∧ s.staTakes n a.tx a.tx.streams
    = true ∧ (s.wp n).txq = [m] ∧ m.tid = tid.val ∧ m.bytes ≠ [] ∧ x + 16000 + a.response ≤ s.wlanRoom r a ∧ s.ahead
    a.earliest a.deadline :=
  ⟨2, wair, 1024, 7, 64000, 5, mpdu, wradio 2 (fun x => { x with icf := some (1024, true, 5) }) (queued mpdu emlsr),
    by unfold State.ahead; decide +kernel⟩

theorem witness_WlanTransmissionsFitTheirWindows_7 :
    ∃ (r : Rad) (a : WAir) (m : WMgmt) (rest : List WMgmt) (s : State), s.wlanMay r = true ∧ (s.wr r).exch = none ∧ (s.wr
    r).multi = [] ∧ (s.wr r).icf = none ∧ s.wlanFmt r a.tx = true ∧ (s.wr r).mgmtTx = m :: rest ∧ m.robust = false ∧ m.bytes
    ≠ [] ∧ a.airNs + 16000 + a.response ≤ s.wlanRoom r a ∧ s.ahead a.earliest a.deadline :=
  ⟨2, wair, ⟨0, none, false, [1], 0⟩, [], wradio 2 (fun x => { x with mgmtTx := [⟨0, none, false, [1], 0⟩] }) wlan,
    by unfold State.ahead; decide +kernel⟩

theorem witness_WlanTransmissionsFitTheirWindows_8 :
    ∃ (r : Rad) (a : WAir) (p : Nat) (rest : List Nat) (s : State), s.wlanMay r = true ∧ (s.wr r).exch = none ∧ (s.wr
    r).multi = [] ∧ (s.wr r).icf = none ∧ s.wlanFmt r a.tx = true ∧ (s.wr r).probes = p :: rest ∧ a.len ≠ 0 ∧ a.airNs + 16000
    + a.response ≤ s.wlanRoom r a ∧ s.ahead a.earliest a.deadline :=
  ⟨2, wair, 9, [], wradio 2 (fun x => { x with probes := [9] }) wlan, by unfold State.ahead; decide +kernel⟩

theorem witness_WlanTransmissionsFitTheirWindows_9 :
    ∃ (r : Rad) (a : WAir) (d : Nat × Nat) (rest : List (Nat × Nat)) (s : State), s.wlanMay r = true ∧ (s.wr r).exch = none ∧
    (s.wr r).multi = [] ∧ (s.wr r).icf = none ∧ s.wlanFmt r a.tx = true ∧ (s.wr r).disassoc = d :: rest ∧ a.len ≠ 0 ∧ a.airNs
    + 16000 + a.response ≤ s.wlanRoom r a ∧ s.ahead a.earliest a.deadline :=
  ⟨2, wair, (9, 8), [], wradio 2 (fun x => { x with disassoc := [(9, 8)] }) wlan, by unfold State.ahead; decide +kernel⟩

theorem witness_WlanTransmissionsFitTheirWindows_10 :
    ∃ (r : Rad) (a : WAir) (b : Nat) (bytes : List Byte) (rest : List (Nat × List Byte)) (s : State), s.wlanMay r = true ∧
    (s.wr r).exch = none ∧ (s.wr r).multi = [] ∧ (s.wr r).icf = none ∧ s.wlanFmt r a.tx = true ∧ (s.wr r).group = (b, bytes)
    :: rest ∧ bytes ≠ [] ∧ (s.wr r).groupReady ≠ 0 ∧ a.airNs + 16000 ≤ s.wlanRoom r a ∧ s.ahead a.earliest a.deadline ∧
    (s.key (s.fld (A.hmacWlanBssGkey r b) F.hmacWlanBssGkey_gtk_slot)).cls ≠ 0 ∧ s.groupHeld r (s.fld (A.hmacWlanBssGkey r b)
    F.hmacWlanBssGkey_gtk_slot) = false :=
  ⟨2, wair, 15, [1], [], wradio 2 (fun x => { x with group := [(15, [1])], groupReady := 1 }) wlan,
    by unfold State.ahead; decide +kernel⟩

theorem witness_WlanTransmissionsFitTheirWindows_11 :
    ∃ (r : Rad) (s : State), s.wlanMay r = false :=
  ⟨2, lit, by decide +kernel⟩

theorem witness_WlanTransmissionsFitTheirWindows_12 :
    ∃ (r : Rad) (a : WAir) (b : Fin 16) (s : State), s.wlanMay r = true ∧ s.bssUp r b = true ∧ (∀ k < b.val, s.bssUp r k =
    false) ∧ txFmtOk r a.tx = true ∧ a.airNs + 16000 ≤ s.wlanRoom r a ∧ a.len ≠ 0 ∧ s.ahead a.earliest a.deadline ∧ (s.key
    (s.fld (A.hmacWlanBssMkey r b) F.hmacWlanBssMkey_bigtk_slot)).cls ≠ 0 ∧ s.groupHeld r (s.fld (A.hmacWlanBssMkey r b)
    F.hmacWlanBssMkey_bigtk_slot) = false :=
  ⟨0, wair, 0, wlan, by unfold State.ahead; decide +kernel⟩

theorem witness_WlanTransmissionsFitTheirWindows_13 :
    ∃ (r : Rad) (s : State), (∀ b < 16, s.bssUp r b = false) :=
  ⟨1, lit, by decide +kernel⟩

theorem witness_WlanTransmissionsFitTheirWindows_14 :
    ∃ (r : Rad) (start : Nat) (stop : Nat) (t0 : Nat) (s : State), s.isLit 21 = true ∧ s.radLit r = true ∧ s.bit
    (A.hmacWlanCtl r) F.hmacWlanCtl_enable = true ∧ s.bit (A.hmacWlanProtect r) F.hmacWlanProtect_protect_en = true ∧
    s.nextWindow r = some (start, stop) ∧ start ≤ s.nowNs + s.protectLead r ∧ (s.wr r).shielded ≠ start ∧ t0 + (28000 +
    sigExtNs r .nonHt) + 10000 ≤ start ∧ s.idleBy r (if r.val = 0 then 19000 else 25000) t0 = true ∧ s.ahead t0 (start -
    (28000 + sigExtNs r .nonHt) - 10000) ∧ (s.rd r).slot = none :=
  ⟨0, 10000000, 10250000, 9956000, windowed, by unfold State.ahead; decide +kernel⟩

theorem witness_WlanTransmissionsFitTheirWindows_15 :
    ∃ (r : Rad) (start : Nat) (stop : Nat) (cts : Option Nat) (s : State), s.isLit 21 = true ∧ s.radLit r = true ∧ s.bit
    (A.hmacWlanCtl r) F.hmacWlanCtl_enable = true ∧ s.bit (A.hmacWlanProtect r) F.hmacWlanProtect_protect_en = true ∧
    s.nextWindow r = some (start, stop) ∧ start ≤ s.nowNs + s.protectLead r ∧ (s.wr r).shielded ≠ start ∧ cts.all (fun t0 =>
    decide (start < t0 + (28000 + sigExtNs r .nonHt) + 10000) || !s.idleBy r (if r.val = 0 then 19000 else 25000) t0) = true
    :=
  ⟨0, 10000000, 10250000, none, windowed, by decide +kernel⟩

theorem witness_WlanTransmissionsFitTheirWindows_16 :
    ∃ (r : Rad) (s : State), (s.nextWindow r).all (fun w => (s.wr r).shielded == w.1 || decide (s.nowNs + s.protectLead r <
    w.1)) = true :=
  ⟨0, lit, by decide +kernel⟩

theorem witness_WlanTransmissionsFitTheirWindows_17 :
    ∃ (r : Rad) (n : Fin 1536) (a : WAir) (s : State), s.wlanMay r = true ∧ s.suspended = false ∧ entryRadio n = r.val ∧
    s.sta n = 3 ∧ (((s.lk n).stale = true ∨ (s.fld (A.hmacWlanSound r) F.hmacWlanSound_sound_interval ≠ 0 ∧ (s.lk
    n).sounded.all (fun t0 => decide (t0 + s.fld (A.hmacWlanSound r) F.hmacWlanSound_sound_interval * 1000000 ≤ s.elapsed)) =
    true))) ∧ s.wlanFmt r a.tx = true ∧ a.len ≠ 0 ∧ a.airNs + 16000 + a.response ≤ s.wlanRoom r a ∧ s.ahead a.earliest
    a.deadline :=
  ⟨2, 1024, wair, wlan.setLk 1024 { StaLink.init with stale := true }, by
    refine ⟨?_, ?_, ?_, ?_, Or.inl (by decide +kernel), ?_, ?_, ?_, ?_⟩ <;> (try unfold State.ahead) <;> decide +kernel⟩

theorem witness_WlanTransmissionsFitTheirWindows_18 :
    ∃ (r : Rad) (n : Fin 1536) (t0 : Nat) (s : State), (s.lk n).stale = false ∧ (s.lk n).sounded = some t0 ∧ s.elapsed < t0 +
    s.fld (A.hmacWlanSound r) F.hmacWlanSound_sound_interval * 1000000 :=
  ⟨2, 1024, 0, put [(A.hmacWlanSound 2, F.hmacWlanSound_sound_interval, 1)] (lit.setLk 1024
    { StaLink.init with sounded := some 0 }), by decide +kernel⟩

theorem witness_WlanTransmissionsFitTheirWindows_19 :
    ∃ (r : Rad) (a : WAir) (users : List (Fin 1536)) (s : State), s.wlanMay r = true ∧ s.suspended = false ∧ s.bit
    (A.hmacWlanTrig r) F.hmacWlanTrig_trig_en = true ∧ (s.wr r).lastTrig.all (fun t0 => decide (t0 + 1000 * s.fld
    (A.hmacWlanTrig r) F.hmacWlanTrig_trig_period ≤ s.elapsed)) = true ∧ (s.wr r).trigWait = [] ∧ s.wlanFmt r a.tx = true ∧
    a.len ≠ 0 ∧ a.airNs + 16000 + a.response ≤ s.wlanRoom r a ∧ s.ahead a.earliest a.deadline ∧ (((users.filter (fun (n : Fin
    1536) => entryRadio n == r.val && s.sta n == 3 && (s.lk n).buffered && decide ((s.lk n).missed < 8) && (s.fld
    (A.hmacWlanStationW4 n) F.hmacWlanStationW4_twt == 255 || (s.lk n).inSp))).take (min (if r.val = 0 then 18 else 74) (max
    1 (s.fld (A.hmacWlanTrig r) F.hmacWlanTrig_max_users)))).map (·.val)) ≠ [] :=
  ⟨2, wair, [1024], wlan.setLk 1024 { StaLink.init with inSp := true, buffered := true },
    by unfold State.ahead; decide +kernel⟩

theorem witness_WlanTransmissionsFitTheirWindows_20 :
    ∃ (r : Rad) (t0 : Nat) (s : State), (s.wr r).lastTrig = some t0 ∧ s.elapsed < t0 + 1000 * s.fld (A.hmacWlanTrig r)
    F.hmacWlanTrig_trig_period :=
  ⟨2, 0, put [(A.hmacWlanTrig 2, F.hmacWlanTrig_trig_period, 1)] (wradio 2 (fun x => { x with lastTrig := some 0 }) lit),
    by decide +kernel⟩

theorem witness_WlanTransmissionsFitTheirWindows_21 :
    ∃ (who : Requester) (r : Rad) (w : Word) (s : State), s.isLit 21 = true ∧ isCudom who = true ∧ F.hmacWlanSteer_go.get w =
    1 ∧ (s.wr r).steerEnd = none :=
  ⟨.glove 0, 2, (F.hmacWlanSteer_go.put 1 0), lit, by decide +kernel⟩

theorem witness_WlanTransmissionsFitTheirWindows_22 :
    ∃ (who : Requester) (r : Rad) (s : State), s.isLit 21 = true ∧ isCudom who = true ∧ (s.wr r).steerEnd.isSome = true :=
  ⟨.glove 0, 2, wradio 2 (fun x => { x with steerEnd := some 0 }) lit, by decide +kernel⟩

theorem witness_WlanTransmissionsFitTheirWindows_23 :
    ∃ (r : Rad) (s : State), (s.wr r).switchAt.all (fun t0 => decide (s.nowNs < t0)) = true :=
  ⟨0, lit, by decide +kernel⟩

theorem witness_WlanTransmissionsFitTheirWindows_24 :
    ∃ (r : Rad) (t0 : Nat) (s : State), s.isLit 21 = true ∧ (s.wr r).switchAt = some t0 ∧ t0 ≤ s.nowNs :=
  ⟨0, 0, wradio 0 (fun x => { x with switchAt := some 0 }) lit, by decide +kernel⟩

def offs13 : Offsets := ⟨0, 0, 0, 0, 0, none⟩
def verdict13 : Verdict := ⟨none, false, 0, none, false, 0, false, 0, 0, 0⟩
def frame13 (src : Nat) (stamp : Option Nat) (look : Option Lookup) : PktFrame :=
  ⟨src, stamp, 0, ⟨[], 0, false, 0⟩, offs13, none, verdict13, 0, none, look, none⟩
def flying (l : List PktFrame) : State := { lit with pkt := { lit.pkt with flight := l } }

theorem witness_RulesChangeByStagedVersions_1 :
    ∃ (who : Requester) (n : Fin 8192) (i : Fin 36) (w : Word) (s : State), s.isLit 3 = true ∧ isAnyCore who = true ∧
    s.ruleBusy = false ∧ s.ruleFree n = true ∧ actionBad i w = false :=
  ⟨.core 3, 8191, 34, 0x80000000, lit, by decide +kernel⟩

theorem witness_RulesChangeByStagedVersions_2 :
    ∃ (who : Requester) (n : Fin 8192) (i : Fin 36) (w : Word) (s : State), s.isLit 3 = true ∧ isAnyCore who = true ∧
    (s.ruleBusy = true ∨ s.ruleFree n = false ∨ actionBad i w = true) :=
  ⟨.core 0, 0, 32, 0x80000000, lit, by decide +kernel⟩

theorem witness_RulesChangeByStagedVersions_3 :
    ∃ (who : Requester) (s : State), s.isLit 3 = true ∧ isAnyCore who = true ∧ s.ruleBusy = false :=
  ⟨.glove 1, lit, by decide +kernel⟩

theorem witness_RulesChangeByStagedVersions_5 :
    ∃ (who : Requester) (n : Fin 8192) (c : Instr) (s : State), s.isLit 3 = true ∧ isAnyCore who = true ∧ s.ruleBusy = true ∧
    (c = .ruleStageAdd who n ∨ c = .ruleStageRemove who n) :=
  ⟨.core 0, 5, .ruleStageRemove (.core 0) 5, put [(A.pktVersionCtl, F.pktVersionCtl_seed_busy, 1)] lit, by
    refine ⟨?_, ?_, ?_, Or.inr rfl⟩ <;> decide +kernel⟩

theorem witness_RulesChangeByStagedVersions_6 :
    ∃ (who : Requester) (s : State), s.isLit 3 = true ∧ isAnyCore who = true ∧ s.bit A.pktVersionCtl F.pktVersionCtl_busy =
    false ∧ s.pkt.commitAt ≠ some s.elapsed ∧ s.retiring = none ∧ s.bit A.pktVersionCtl F.pktVersionCtl_seed_busy = false :=
  ⟨.core 0, lit, by decide +kernel⟩

theorem witness_RulesChangeByStagedVersions_7 :
    ∃ (who : Requester) (s : State), s.isLit 3 = true ∧ isAnyCore who = true ∧ s.pkt.commitAt = some s.elapsed :=
  ⟨.core 0, { lit with pkt := { lit.pkt with commitAt := some lit.elapsed } }, by decide +kernel⟩

theorem witness_RulesChangeByStagedVersions_8 :
    ∃ (who : Requester) (s : State), s.isLit 3 = true ∧ isAnyCore who = true ∧ s.bit A.pktVersionCtl F.pktVersionCtl_busy =
    false ∧ s.pkt.commitAt ≠ some s.elapsed ∧ s.retiring.isSome = true :=
  ⟨.core 0, put [(A.pktVersionCtl, F.pktVersionCtl_retiring_live, 1)] lit, by decide +kernel⟩

theorem witness_RulesChangeByStagedVersions_9 :
    ∃ (who : Requester) (s : State), s.isLit 3 = true ∧ isAnyCore who = true ∧ s.bit A.pktVersionCtl F.pktVersionCtl_busy =
    false ∧ s.pkt.commitAt ≠ some s.elapsed ∧ s.retiring = none ∧ s.bit A.pktVersionCtl F.pktVersionCtl_seed_busy = true :=
  ⟨.core 0, put [(A.pktVersionCtl, F.pktVersionCtl_seed_busy, 1)] lit, by decide +kernel⟩

theorem witness_RulesChangeByStagedVersions_10 :
    ∃ (s : State), s.isLit 3 = true ∧ s.bit A.pktVersionCtl F.pktVersionCtl_seed_busy = true ∧ s.pkt.seedAt + 8192 ≤
    s.elapsed ∧ s.pkt.commitWaits = false :=
  ⟨put [(A.pktVersionCtl, F.pktVersionCtl_seed_busy, 1)] { lit with elapsed := 8192 }, by decide +kernel⟩

theorem witness_RulesChangeByStagedVersions_11 :
    ∃ (s : State), s.isLit 3 = true ∧ s.bit A.pktVersionCtl F.pktVersionCtl_seed_busy = true ∧ s.pkt.seedAt + 8192 ≤
    s.elapsed ∧ s.pkt.commitWaits = true ∧ s.retiring = none :=
  ⟨put [(A.pktVersionCtl, F.pktVersionCtl_seed_busy, 1)]
    { lit with elapsed := 8192, pkt := { lit.pkt with commitWaits := true } }, by decide +kernel⟩

theorem witness_RulesChangeByStagedVersions_12 :
    ∃ (s : State), s.elapsed < s.pkt.seedAt + 8192 :=
  ⟨{ lit with elapsed := 8191 }, by decide +kernel⟩

theorem witness_RulesChangeByStagedVersions_13 :
    ∃ (s : State), s.isLit 3 = true ∧ s.bit A.pktVersionCtl F.pktVersionCtl_seed_busy = true ∧ s.pkt.seedAt + 8192 ≤
    s.elapsed ∧ s.pkt.commitWaits = true ∧ s.retiring.isSome = true :=
  ⟨put [(A.pktVersionCtl, F.pktVersionCtl_seed_busy, 1), (A.pktVersionCtl, F.pktVersionCtl_retiring_live, 1)]
    { lit with elapsed := 9000, pkt := { lit.pkt with commitWaits := true } }, by decide +kernel⟩

theorem witness_RulesChangeByStagedVersions_14 :
    ∃ (v : Nat) (s : State), s.isLit 3 = true ∧ s.retiring = some v ∧ (∀ f ∈ s.pkt.flight, f.stamp ≠ some v) :=
  ⟨3, put [(A.pktVersionCtl, F.pktVersionCtl_retiring_live, 1), (A.pktVersionCtl, F.pktVersionCtl_retiring, 3)] lit,
    by decide +kernel⟩

theorem witness_RulesChangeByStagedVersions_15 :
    ∃ (v : Nat) (f : PktFrame) (s : State), s.retiring = some v ∧ f ∈ s.pkt.flight ∧ f.stamp = some v :=
  ⟨0, frame13 0 (some 0) none, put [(A.pktVersionCtl, F.pktVersionCtl_retiring_live, 1)] (flying [frame13 0 (some 0) none]),
    by decide +kernel⟩

theorem witness_RulesChangeByStagedVersions_16 :
    ∃ (v : Nat) (key : Nat) (n : Nat) (s : State), Tbl.wf resetWord s.regs = true ∧ s.findRule v key = some n :=
  ⟨2, 0, 8191, lit.setFld (A.pktRuleLive 8191) F.pktRuleLive_live_mask 4, by decide +kernel⟩

theorem witness_RulesChangeByStagedVersions_17 :
    ∃ (v : Nat) (key : Nat) (s : State), s.findRule v key = none :=
  ⟨0, 0, lit, by decide +kernel⟩

/-- A frame of an ingress: an Ethernet header of a type, and more bytes. -/
def ether (ty : Nat) (rest : List Byte) : RxFrame := ⟨List.replicate 12 0 ++ Crypto.toBE 2 ty ++ rest, 0, false, 0⟩
def here (ty : Nat) (rest : List Byte) (s : State := lit) : State := received 18 (ether ty rest) s
/-- IPv4, 20 bytes and no payload, of a fragment word. -/
def ip4 (fragment : Nat) : List Byte := [0x45, 0, 0, 20, 0, 9] ++ Crypto.toBE 2 fragment ++ List.replicate 12 0
def datagram : List Nat := [4, mapped 0, mapped 0, 9, 0]
/-- A rule of version 0 that matches every frame, with action words 0 and 1. -/
def ruled (n a0 a1 : Nat) : State :=
  ((lit.setFld (A.pktRuleLive n) F.pktRuleLive_live_mask 1).setReg (A.pktRuleAct0 n) (BitVec.ofNat 32 a0)).setReg
    (A.pktRuleAct0 n + 4) (BitVec.ofNat 32 a1)
/-- The table of endpoints at the start of the packet store, with a bucket; bucket 25 536 is the key's first one, 78 337 its second. -/
def key13 : List Byte := [0x10, 0, 0, 0] ++ List.replicate 15 0 ++ [1]
def bucket13 (action : List Byte) : List Byte := [0, 0, 0, 0x90] ++ key13.drop 4 ++ action ++ List.replicate 232 0
def nothing13 : List Byte := List.replicate 256 0
def found13 (k : Nat) (b : List Byte) (s : State) : State := stored (256 * k) b (s.setReg A.pktEpBaseLo 0x80000000)
def frag13 : FragEntry := ⟨datagram, verdict13, 0, 0, none⟩
def held13 : HeldFrag := ⟨0, 0, ⟨[], 0, false, 0⟩, offs13, ⟨datagram, 8, 0, true⟩, 0⟩
def look13 (second : Bool) : PktFrame := frame13 0 (some 0) (some ⟨key13, second, false⟩)

theorem witness_FramesAreStampedParsedAndDecided_1 :
    ∃ (src : Fin 19) (fr : RxFrame) (rest : List RxFrame) (s : State) (c : Nat), c < 8 ∧ s.isLit 3 = true ∧ Tbl.get (fun _ =>
    []) s.rxFifo src = fr :: rest ∧ s.pktTurn (s.pipeOf src) = some src.val ∧ (parseFrame s.parseCfg fr.bytes).exc = some c ∧
    (parseFrame s.parseCfg fr.bytes).frag = none ∧ s.bit (A.pktExcCfg c) F.pktExcCfg_to_sump = false :=
  ⟨18, ether 0x800 (List.replicate 20 0), [], here 0x800 (List.replicate 20 0) (put [(A.pktExcCfg 3, F.pktExcCfg_to_sump, 0)]
    lit), 3, by decide +kernel⟩

theorem witness_FramesAreStampedParsedAndDecided_2 :
    ∃ (src : Fin 19) (fr : RxFrame) (rest : List RxFrame) (s : State) (c : Nat), c < 8 ∧ s.isLit 3 = true ∧ Tbl.get (fun _ =>
    []) s.rxFifo src = fr :: rest ∧ s.pktTurn (s.pipeOf src) = some src.val ∧ (parseFrame s.parseCfg fr.bytes).exc = some c ∧
    (parseFrame s.parseCfg fr.bytes).frag = none ∧ s.bit (A.pktExcCfg c) F.pktExcCfg_to_sump = true ∧ 1000000 ≤ s.tokensNow c
    :=
  ⟨18, ether 0x800 (List.replicate 20 0), [], here 0x800 (List.replicate 20 0) (put [(A.pktExcCfg 3, F.pktExcCfg_to_sump, 1)]
    lit), 3, by decide +kernel⟩

theorem witness_FramesAreStampedParsedAndDecided_3 :
    ∃ (src : Fin 19) (fr : RxFrame) (rest : List RxFrame) (s : State) (c : Nat), c < 8 ∧ s.isLit 3 = true ∧ Tbl.get (fun _ =>
    []) s.rxFifo src = fr :: rest ∧ s.pktTurn (s.pipeOf src) = some src.val ∧ (parseFrame s.parseCfg fr.bytes).exc = some c ∧
    (parseFrame s.parseCfg fr.bytes).frag = none ∧ s.bit (A.pktExcCfg c) F.pktExcCfg_to_sump = true ∧ s.tokensNow c < 1000000
    :=
  ⟨18, ether 0x800 (List.replicate 20 0), [], here 0x800 (List.replicate 20 0) (put [(A.pktExcCfg 3, F.pktExcCfg_to_sump, 1),
    (A.pktExcCfg 3, F.pktExcCfg_burst, 0)] lit), 3, by decide +kernel⟩

theorem witness_FramesAreStampedParsedAndDecided_4 :
    ∃ (src : Fin 19) (fr : RxFrame) (rest : List RxFrame) (s : State), s.isLit 3 = true ∧ Tbl.get (fun _ => []) s.rxFifo src
    = fr :: rest ∧ s.pktTurn (s.pipeOf src) = some src.val ∧ (parseFrame s.parseCfg fr.bytes).exc = none ∧ (parseFrame
    s.parseCfg fr.bytes).frag = none ∧ s.findRule s.current ((keyOf (parseFrame s.parseCfg fr.bytes) (s.bit (A.pktSrcCfg src)
    F.pktSrcCfg_key_select)).bits src) = none ∧ s.bit (A.pktExcCfg 0) F.pktExcCfg_to_sump = false :=
  ⟨18, ether 1 ([]), [], here 1 ([]) (put [(A.pktExcCfg 0, F.pktExcCfg_to_sump, 0)] lit), by decide +kernel⟩

theorem witness_FramesAreStampedParsedAndDecided_5 :
    ∃ (src : Fin 19) (fr : RxFrame) (rest : List RxFrame) (s : State) (n : _), s.isLit 3 = true ∧ Tbl.get (fun _ => [])
    s.rxFifo src = fr :: rest ∧ s.pktTurn (s.pipeOf src) = some src.val ∧ (parseFrame s.parseCfg fr.bytes).exc = none ∧
    (parseFrame s.parseCfg fr.bytes).frag = none ∧ s.findRule s.current ((keyOf (parseFrame s.parseCfg fr.bytes) (s.bit
    (A.pktSrcCfg src) F.pktSrcCfg_key_select)).bits src) = some n ∧ bitsAt (s.ruleAct n 2) 31 29 = 0 ∧ (bitsAt (s.ruleAct n
    0) 31 29 = 0 ∨ bitsAt (s.ruleAct n 0) 31 29 = 1) :=
  ⟨18, ether 1 ([]), [], here 1 ([]) (ruled 8191 0x3fffffff 0xf), 8191, by decide +kernel⟩

theorem witness_FramesAreStampedParsedAndDecided_6 :
    ∃ (src : Fin 19) (fr : RxFrame) (rest : List RxFrame) (s : State) (n : _), s.isLit 3 = true ∧ Tbl.get (fun _ => [])
    s.rxFifo src = fr :: rest ∧ s.pktTurn (s.pipeOf src) = some src.val ∧ (parseFrame s.parseCfg fr.bytes).exc = none ∧
    (parseFrame s.parseCfg fr.bytes).frag = none ∧ s.findRule s.current ((keyOf (parseFrame s.parseCfg fr.bytes) (s.bit
    (A.pktSrcCfg src) F.pktSrcCfg_key_select)).bits src) = some n ∧ bitsAt (s.ruleAct n 2) 31 29 = 0 ∧ bitsAt (s.ruleAct n 0)
    31 29 = 2 :=
  ⟨18, ether 1 ([]), [], here 1 ([]) (ruled 0 0x40000000 0), 0, by decide +kernel⟩

theorem witness_FramesAreStampedParsedAndDecided_7 :
    ∃ (src : Fin 19) (fr : RxFrame) (rest : List RxFrame) (s : State) (g : _), s.isLit 3 = true ∧ Tbl.get (fun _ => [])
    s.rxFifo src = fr :: rest ∧ s.pktTurn (s.pipeOf src) = some src.val ∧ (parseFrame s.parseCfg fr.bytes).exc = none ∧
    (parseFrame s.parseCfg fr.bytes).frag = some g ∧ g.offset ≠ 0 ∧ (∀ e ∈ s.pkt.frags, e.dgram ≠ g.dgram) ∧ s.bit
    A.pktFragCtl F.pktFragCtl_hold_en = true ∧ s.pkt.held.length < 64 :=
  ⟨18, ether 0x800 (ip4 0x2001), [], here 0x800 (ip4 0x2001) (put [(A.pktParseCtl, F.pktParseCtl_ipv4_csum_en, 0)] (put
    [(A.pktFragCtl, F.pktFragCtl_hold_en, 1)] lit)), ⟨datagram, 8, 0, true⟩, by decide +kernel⟩

theorem witness_FramesAreStampedParsedAndDecided_8 :
    ∃ (src : Fin 19) (fr : RxFrame) (rest : List RxFrame) (s : State) (g : _) (e : _), s.isLit 3 = true ∧ Tbl.get (fun _ =>
    []) s.rxFifo src = fr :: rest ∧ s.pktTurn (s.pipeOf src) = some src.val ∧ (parseFrame s.parseCfg fr.bytes).exc = none ∧
    (parseFrame s.parseCfg fr.bytes).frag = some g ∧ g.offset ≠ 0 ∧ s.pkt.frags.find? (fun e => e.dgram == g.dgram) = some e
    ∧ e.verdict.exc = none ∧ e.verdict.drop = false :=
  ⟨18, ether 0x800 (ip4 1), [], here 0x800 (ip4 1) (put [(A.pktParseCtl, F.pktParseCtl_ipv4_csum_en, 0)]
    ({ lit with pkt := { lit.pkt with frags := [frag13] } })), ⟨datagram, 8, 0, false⟩, frag13, by decide +kernel⟩

theorem witness_FramesAreStampedParsedAndDecided_9 :
    ∃ (src : Fin 19) (s : State), s.pktTurn (s.pipeOf src) ≠ some src.val :=
  ⟨15, received 15 (ether 0x88b5 []) lit, by decide +kernel⟩

theorem witness_FramesAreStampedParsedAndDecided_10 :
    ∃ (pipe : Nat) (k : Nat) (s : State), s.pktTurn pipe = some k :=
  ⟨1, 18, here 1 [] lit, by decide +kernel⟩

theorem witness_FramesAreStampedParsedAndDecided_11 :
    ∃ (k : Nat) (f : PktFrame) (l : Lookup) (b : List Byte) (s : State) (s1 : State) (r : _), s.isLit 3 = true ∧
    (s.pkt.flight.filter (·.look.isSome))[k]? = some f ∧ f.look = some l ∧ f.frag = none ∧ s.memRead (.island 3) (s.epBase +
    256 * s.epBucket l.key l.second) 256 = (s1, some b) ∧ epSearch b l.key = some r ∧ (afterLookup (s1.spreadQueue f.base
    f.spread) f.missKind (some r)).exc = none ∧ (afterLookup (s1.spreadQueue f.base f.spread) f.missKind (some r)).drop =
    false :=
  ⟨0, look13 false, ⟨key13, false, false⟩, bucket13 [0, 0, 0, 0], found13 25536 (bucket13 [0, 0, 0, 0]) (flying [look13
    false]), found13 25536 (bucket13 [0, 0, 0, 0]) (flying [look13 false]), (0, 0), by decide +kernel⟩

theorem witness_FramesAreStampedParsedAndDecided_12 :
    ∃ (k : Nat) (f : PktFrame) (l : Lookup) (b : List Byte) (s : State) (s1 : State) (r : _), s.isLit 3 = true ∧
    (s.pkt.flight.filter (·.look.isSome))[k]? = some f ∧ f.look = some l ∧ f.frag = none ∧ s.memRead (.island 3) (s.epBase +
    256 * s.epBucket l.key l.second) 256 = (s1, some b) ∧ epSearch b l.key = some r ∧ (afterLookup (s1.spreadQueue f.base
    f.spread) f.missKind (some r)).exc = none ∧ (afterLookup (s1.spreadQueue f.base f.spread) f.missKind (some r)).drop =
    true :=
  ⟨0, look13 true, ⟨key13, true, false⟩, bucket13 [0, 0, 0, 0x80], found13 78337 (bucket13 [0, 0, 0, 0x80]) (flying [look13
    true]), found13 78337 (bucket13 [0, 0, 0, 0x80]) (flying [look13 true]), (0x80000000, 0), by decide +kernel⟩

theorem witness_FramesAreStampedParsedAndDecided_13 :
    ∃ (k : Nat) (f : PktFrame) (l : Lookup) (b : List Byte) (s : State) (s1 : State), s.isLit 3 = true ∧ (s.pkt.flight.filter
    (·.look.isSome))[k]? = some f ∧ f.look = some l ∧ f.frag = none ∧ s.memRead (.island 3) (s.epBase + 256 * s.epBucket
    l.key l.second) 256 = (s1, some b) ∧ epSearch b l.key = none ∧ l.second = false :=
  ⟨0, look13 false, ⟨key13, false, false⟩, nothing13, found13 25536 (nothing13) (flying [look13 false]), found13 25536
    (nothing13) (flying [look13 false]), by decide +kernel⟩

theorem witness_FramesAreStampedParsedAndDecided_14 :
    ∃ (k : Nat) (f : PktFrame) (l : Lookup) (b : List Byte) (s : State) (s1 : State), s.isLit 3 = true ∧ (s.pkt.flight.filter
    (·.look.isSome))[k]? = some f ∧ f.look = some l ∧ f.frag = none ∧ s.memRead (.island 3) (s.epBase + 256 * s.epBucket
    l.key l.second) 256 = (s1, some b) ∧ epSearch b l.key = none ∧ l.second = true ∧ (afterLookup (s1.spreadQueue f.base
    f.spread) f.missKind none).exc = none ∧ (afterLookup (s1.spreadQueue f.base f.spread) f.missKind none).drop = false :=
  ⟨0, look13 true, ⟨key13, true, false⟩, nothing13, found13 78337 (nothing13) (flying [look13 true]), found13 78337
    (nothing13) (flying [look13 true]), by decide +kernel⟩

theorem witness_FramesAreStampedParsedAndDecided_15 :
    ∃ (k : Nat) (f : PktFrame) (s : State), s.isLit 3 = true ∧ (s.pkt.flight.filter (·.look.isSome))[k]? = some f ∧ f.frag =
    none ∧ (afterLookup (s.spreadQueue f.base f.spread) f.missKind none).exc = none ∧ (afterLookup (s.spreadQueue f.base
    f.spread) f.missKind none).drop = false :=
  ⟨0, look13 false, flying [look13 false], by decide +kernel⟩

theorem witness_FramesAreStampedParsedAndDecided_16 :
    ∃ (who : Requester) (w : Word) (s : State), s.isLit 3 = true ∧ isAnyCore who = true ∧ F.pktEpInval_go.get w = 1 :=
  ⟨.core 0, (F.pktEpInval_bucket.put 262143 (F.pktEpInval_go.put 1 0)), lit, by decide +kernel⟩

theorem witness_FramesAreStampedParsedAndDecided_17 :
    ∃ (who : Requester) (s : State), s.isLit 3 = true ∧ isAnyCore who = true :=
  ⟨.glove 0, lit, by decide +kernel⟩

theorem witness_FramesAreStampedParsedAndDecided_18 :
    ∃ (e : FragEntry) (rest : List FragEntry) (s : State), s.isLit 3 = true ∧ s.pkt.frags = e :: rest ∧ e.born + 200000000 ≤
    s.elapsed :=
  ⟨frag13, [], { lit with pkt := { lit.pkt with frags := [frag13] }, elapsed := 200000000 }, by decide +kernel⟩

theorem witness_FramesAreStampedParsedAndDecided_19 :
    ∃ (h : HeldFrag) (rest : List HeldFrag) (s : State), s.isLit 3 = true ∧ s.pkt.held = h :: rest ∧ h.since + s.holdTime ≤
    s.elapsed :=
  ⟨held13, [], { lit with pkt := { lit.pkt with held := [held13] }, elapsed := 200000000 }, by decide +kernel⟩

theorem witness_FramesAreStampedParsedAndDecided_20 :
    ∃ (s : State), s.pkt.frags.head?.all (fun e => decide (s.elapsed < e.born + 200000000)) = true :=
  ⟨{ lit with pkt := { lit.pkt with frags := [frag13], held := [held13] } }, by decide +kernel⟩

theorem witness_FramesAreStampedParsedAndDecided_22 :
    ∃ (k : RuleKey), k.l4Src < 65536 ∧ k.l4Dst < 65536 :=
  ⟨(keyOf (parseFrame lit.parseCfg (ether 1 []).bytes) false), by decide +kernel⟩

def pkt14 : SchPkt := ⟨[1, 2, 3], [], 0, 0, 0, 0⟩
/-- A queue, enabled, of a tier, an egress and a station, with a packet. -/
def backlog (q tier egress station : Nat) (s : State) : State :=
  let s := put [(A.schCtl, F.schCtl_enable, 1), (A.schQW0 q, F.schQW0_enable, 1), (A.schQW0 q, F.schQW0_tier, tier)
    , (A.schQW0 q, F.schQW0_egress, egress), (A.schQW1 q, F.schQW1_station, station)] s
  { s with sch := { s.sch with queues := [(q, { SchQueue.init with pkts := [pkt14] })] } }.setFree 131000
def v14 (q : Nat) (m : Option Nat) : Verdict := { verdict13 with queue := q, meter := m }
def f14 (q : Nat) (m : Option Nat) : PktFrame :=
  { frame13 18 (some 0) none with frame := ⟨[1, 2, 3], 0, false, 0⟩, verdict := some (v14 q m) }
def decided (q : Nat) (m : Option Nat) (s : State) : State := { s with pkt := { s.pkt with flight := [f14 q m] } }

theorem witness_QueuesAdmitServeAndShape_1 :
    ∃ (k : Fin 19) (f : PktFrame) (v : Verdict) (s : State), s.schTakes = true ∧ s.isLit 3 = true ∧ s.deliverable k = some
    (f, v) ∧ s.meterFirst f v = none ∧ v.queue < 4096 ∧ v.queue ≤ 18 :=
  ⟨18, f14 18 none, v14 18 none, decided 18 none (lit), by decide +kernel⟩

theorem witness_QueuesAdmitServeAndShape_2 :
    ∃ (k : Fin 19) (f : PktFrame) (v : Verdict) (s : State), s.schTakes = true ∧ s.isLit 3 = true ∧ s.deliverable k = some
    (f, v) ∧ s.meterFirst f v = none ∧ v.queue < 4096 ∧ 18 < v.queue ∧ (s.bit A.schCtl F.schCtl_enable && s.bit (A.schQW0
    v.queue) F.schQW0_enable) = false :=
  ⟨18, f14 4095 none, v14 4095 none, decided 4095 none (put [(A.schCtl, F.schCtl_enable, 1)] lit), by decide +kernel⟩

theorem witness_QueuesAdmitServeAndShape_3 :
    ∃ (k : Fin 19) (f : PktFrame) (v : Verdict) (s : State) (m : _), s.schTakes = true ∧ s.isLit 3 = true ∧ s.deliverable k =
    some (f, v) ∧ s.meterFirst f v = none ∧ v.queue < 4096 ∧ 18 < v.queue ∧ (s.bit A.schCtl F.schCtl_enable && s.bit
    (A.schQW0 v.queue) F.schQW0_enable) = true ∧ v.meter = some m ∧ m < 16384 ∧ v.aware = false ∧ ((s.meterMet m).settle
    s.elapsed).tp < f.frame.bytes.length * 1000000 ∧ F.schMtrW0_red_drop.get ((s.meterMet m).settle s.elapsed).w0 = 1 :=
  ⟨18, f14 19 (some 16383), v14 19 (some 16383), decided 19 (some 16383) (put [(A.schCtl, F.schCtl_enable, 1), (A.schQW0 19,
    F.schQW0_enable, 1)] lit), 16383, by decide +kernel⟩

theorem witness_QueuesAdmitServeAndShape_4 :
    ∃ (k : Fin 19) (f : PktFrame) (v : Verdict) (s : State), s.schTakes = true ∧ s.isLit 3 = true ∧ s.deliverable k = some
    (f, v) ∧ s.meterFirst f v = none ∧ v.queue < 4096 ∧ 18 < v.queue ∧ (s.bit A.schCtl F.schCtl_enable && s.bit (A.schQW0
    v.queue) F.schQW0_enable) = true ∧ v.meter = none ∧ s.fld (A.schQW2 v.queue) F.schQW2_q_limit < (s.schQ v.queue).cells +
    (cellsOf f.frame.bytes.length) :=
  ⟨18, f14 19 none, v14 19 none, decided 19 none (put [(A.schCtl, F.schCtl_enable, 1), (A.schQW0 19, F.schQW0_enable, 1),
    (A.schQW2 19, F.schQW2_q_limit, 0)] lit), by decide +kernel⟩

theorem witness_QueuesAdmitServeAndShape_5 :
    ∃ (k : Fin 19) (f : PktFrame) (v : Verdict) (s : State), s.schTakes = true ∧ s.isLit 3 = true ∧ s.deliverable k = some
    (f, v) ∧ s.meterFirst f v = none ∧ v.queue < 4096 ∧ 18 < v.queue ∧ (s.bit A.schCtl F.schCtl_enable && s.bit (A.schQW0
    v.queue) F.schQW0_enable) = true ∧ v.meter = none ∧ (s.schQ v.queue).cells + (cellsOf f.frame.bytes.length) ≤ s.fld
    (A.schQW2 v.queue) F.schQW2_q_limit ∧ s.freeCells < (cellsOf f.frame.bytes.length) + (if 3 ≤ s.qTier v.queue then s.fld
    A.schPoolCfg F.schPoolCfg_reserve else 0) :=
  ⟨18, f14 19 none, v14 19 none, decided 19 none (put [(A.schCtl, F.schCtl_enable, 1), (A.schQW0 19, F.schQW0_enable, 1),
    (A.schPoolStatus, F.schPoolStatus_free_cells, 0)] lit), by decide +kernel⟩

theorem witness_QueuesAdmitServeAndShape_6 :
    ∃ (k : Fin 19) (f : PktFrame) (v : Verdict) (s : State), s.schTakes = true ∧ s.isLit 3 = true ∧ s.deliverable k = some
    (f, v) ∧ s.meterFirst f v = none ∧ v.queue < 4096 ∧ 18 < v.queue ∧ (s.bit A.schCtl F.schCtl_enable && s.bit (A.schQW0
    v.queue) F.schQW0_enable) = true ∧ v.meter = none ∧ (s.schQ v.queue).cells + (cellsOf f.frame.bytes.length) ≤ s.fld
    (A.schQW2 v.queue) F.schQW2_q_limit ∧ (cellsOf f.frame.bytes.length) + (if 3 ≤ s.qTier v.queue then s.fld A.schPoolCfg
    F.schPoolCfg_reserve else 0) ≤ s.freeCells :=
  ⟨18, f14 4095 none, v14 4095 none, decided 4095 none (put [(A.schCtl, F.schCtl_enable, 1), (A.schQW0 4095, F.schQW0_enable,
    1)] lit), by decide +kernel⟩

theorem witness_QueuesAdmitServeAndShape_7 :
    ∃ (m : MgmtFrame) (rest : List MgmtFrame) (s : State), s.schTakes = true ∧ s.cmd.cdmTx = m :: rest ∧ m.queue ≤ 18 ∧ s.bit
    A.schCtl F.schCtl_enable = true ∧ s.bit (A.schQW0 m.queue) F.schQW0_enable = true ∧ s.freeCells < cellsOf m.bytes.length
    :=
  ⟨⟨0, 1700, [1, 2, 3]⟩, [], put [(A.schCtl, F.schCtl_enable, 1), (A.schQW0 0, F.schQW0_enable, 1), (A.schPoolStatus,
    F.schPoolStatus_free_cells, 0)] { lit with cmd := { lit.cmd with cdmTx := [⟨0, 1700, [1, 2, 3]⟩] } }, by decide +kernel⟩

theorem witness_QueuesAdmitServeAndShape_8 :
    ∃ (m : MgmtFrame) (rest : List MgmtFrame) (s : State), s.schTakes = true ∧ s.cmd.cdmTx = m :: rest ∧ m.queue ≤ 18 ∧ s.bit
    A.schCtl F.schCtl_enable = true ∧ s.bit (A.schQW0 m.queue) F.schQW0_enable = true ∧ cellsOf m.bytes.length ≤ s.freeCells
    :=
  ⟨⟨18, 1700, [1, 2, 3]⟩, [], put [(A.schCtl, F.schCtl_enable, 1), (A.schQW0 18, F.schQW0_enable, 1)]
    { lit with cmd := { lit.cmd with cdmTx := [⟨18, 1700, [1, 2, 3]⟩] } }, by decide +kernel⟩

theorem witness_QueuesAdmitServeAndShape_9 :
    ∃ (p : SchPkt) (q : Nat) (rest : List (SchPkt × Nat)) (s : State), s.schTakes = true ∧ s.isLit 5 = true ∧ s.tsk.fwd = (p,
    q) :: rest ∧ 18 < q ∧ q < 4096 ∧ s.bit A.schCtl F.schCtl_enable = true ∧ s.bit (A.schQW0 q) F.schQW0_enable = true ∧
    (s.schQ q).cells + cellsOf p.bytes.length ≤ s.fld (A.schQW2 q) F.schQW2_q_limit ∧ cellsOf p.bytes.length + s.fld
    A.schPoolCfg F.schPoolCfg_reserve ≤ s.freeCells :=
  ⟨pkt14, 4095, [], put [(A.schCtl, F.schCtl_enable, 1), (A.schQW0 4095, F.schQW0_enable, 1)]
    { lit with tsk := { lit.tsk with fwd := [(pkt14, 4095)] } }, by decide +kernel⟩

theorem witness_QueuesAdmitServeAndShape_10 :
    ∃ (s : State), s.schTakes = false :=
  ⟨State.reset, by decide +kernel⟩

theorem witness_QueuesAdmitServeAndShape_11 :
    ∃ (e : Fin 20) (q : Nat) (p : SchPkt) (s : State), s.egressUp e = true ∧ q < 4096 ∧ ((s.busyQs e).foldl (fun s q =>
    s.refreshQ q) s).freeCells + cellsOf p.bytes.length ≤ 131072 ∧ e.val < 16 ∧ ((s.busyQs e).foldl (fun s q => s.refreshQ q)
    s).nextOf (((s.busyQs e).foldl (fun s q => s.refreshQ q) s).busyQs e) = some (q, p) ∧ ((s.busyQs e).foldl (fun s q =>
    s.refreshQ q) s).portRoom e p.bytes.length = true :=
  ⟨15, 3000, pkt14, backlog 3000 4 15 0 lit, by decide +kernel⟩

theorem witness_QueuesAdmitServeAndShape_12 :
    ∃ (e : Fin 20) (q : Nat) (p : SchPkt) (s : State), s.egressUp e = true ∧ q < 4096 ∧ ((s.busyQs e).foldl (fun s q =>
    s.refreshQ q) s).freeCells + cellsOf p.bytes.length ≤ 131072 ∧ e.val = 19 ∧ ((s.busyQs e).foldl (fun s q => s.refreshQ q)
    s).nextOf (((s.busyQs e).foldl (fun s q => s.refreshQ q) s).busyQs 19) = some (q, p) ∧ s.tsk.items.length +
    s.tsk.inbox.length + 256 < 4096 :=
  ⟨19, 19, pkt14, backlog 19 3 19 0 lit, by decide +kernel⟩

theorem witness_QueuesAdmitServeAndShape_13 :
    ∃ (e : Fin 20) (who : Option (Fin 1025)) (q : Nat) (p : SchPkt) (s : State) (n : Fin 1025) (v : HolEvent), s.egressUp e =
    true ∧ q < 4096 ∧ ((s.busyQs e).foldl (fun s q => s.refreshQ q) s).freeCells + cellsOf p.bytes.length ≤ 131072 ∧ 16 ≤
    e.val ∧ e.val < 19 ∧ who = some n ∧ Tbl.find? s.hol.events (e.val - 16) = some v ∧ v.peer = n.val ∧ ((s.busyQs e).foldl
    (fun s q => s.refreshQ q) s).partnerNext e n = some (q, p) :=
  ⟨18, some 5, 20, pkt14, holy (fun h => { h with events := [(2, HolEvent.at 5 0 0)] }) (backlog 20 2 18 1541 lit), 5,
    HolEvent.at 5 0 0, by decide +kernel⟩

theorem witness_QueuesAdmitServeAndShape_14 :
    ∃ (e : Fin 20) (who : Option (Fin 1025)) (q : Nat) (p : SchPkt) (s : State) (n : Nat), s.egressUp e = true ∧ q < 4096 ∧
    ((s.busyQs e).foldl (fun s q => s.refreshQ q) s).freeCells + cellsOf p.bytes.length ≤ 131072 ∧ 16 ≤ e.val ∧ e.val < 19 ∧
    who = none ∧ ((s.busyQs e).foldl (fun s q => s.refreshQ q) s).wlanNext e = some (q, p) ∧ 18 < q ∧ ((s.busyQs e).foldl
    (fun s q => s.refreshQ q) s).qEntry q = some n :=
  ⟨16, none, 20, pkt14, put [(A.hmacWlanStationW1 0, F.hmacWlanStationW1_state, 3), (A.hmacWlanStationW4 0,
    F.hmacWlanStationW4_queue_base, 20)] (backlog 20 1 16 0 lit), 0, by decide +kernel⟩

theorem witness_QueuesAdmitServeAndShape_15 :
    ∃ (e : Fin 20) (s : State), (s.isLit 4 = false ∨ s.bit (A.schEgress e) F.schEgress_hold = true) :=
  ⟨19, put [(A.schEgress 19, F.schEgress_hold, 1)] lit, Or.inr (by decide +kernel)⟩

theorem witness_QueuesAdmitServeAndShape_16 :
    ∃ (q : Fin 4096) (s : State), s.isLit 4 = true ∧ (s.schQ q).pkts ≠ [] ∧ s.isShaped q = true ∧ s.isWlanQ q = false ∧ s.fld
    (A.schQW4 q) F.schQW4_idle_slope ≠ 0 ∧ 0 ≤ s.creditNow q :=
  ⟨4095, put [(A.schQW0 4095, F.schQW0_shaper_en, 1), (A.schQW4 4095, F.schQW4_idle_slope, 1)] (backlog 4095 1 15 0 lit),
    by decide +kernel⟩

theorem witness_QueuesAdmitServeAndShape_17 :
    ∃ (who : Requester) (w : Word) (s : State), s.isLit 4 = true ∧ isAnyCore who = true ∧ F.schQFlush_go.get w = 1 ∧
    s.freeCells + (s.schQ (F.schQFlush_queue.get w)).cells ≤ 131072 :=
  ⟨.core 0, (F.schQFlush_queue.put 4095 (F.schQFlush_go.put 1 0)), backlog 4095 1 15 0 lit, by decide +kernel⟩

theorem witness_QueuesAdmitServeAndShape_18 :
    ∃ (who : Requester) (m : Fin 16384) (s : State), s.isLit 4 = true ∧ isAnyCore who = true ∧ F.schMtrW0_cir.get (s.reg
    (A.schMtrW0 m)) ≤ F.schMtrW1_pir.get (s.reg (A.schMtrW1 m)) :=
  ⟨.core 0, 16383, lit, by decide +kernel⟩

theorem witness_QueuesAdmitServeAndShape_19 :
    ∃ (who : Requester) (m : Fin 16384) (s : State), s.isLit 4 = true ∧ isAnyCore who = true ∧ F.schMtrW1_pir.get (s.reg
    (A.schMtrW1 m)) < F.schMtrW0_cir.get (s.reg (A.schMtrW0 m)) :=
  ⟨.core 0, 0, put [(A.schMtrW0 0, F.schMtrW0_cir, 1)] lit, by decide +kernel⟩

theorem witness_QueuesAdmitServeAndShape_20 :
    ∃ (who : Requester) (q : Fin 4096) (w : Word) (s : State), s.isLit 4 = true ∧ isAnyCore who = true ∧ (18 < q.val ∨
    isCudom who = true) ∧ ((F.schQW0_tier.get w) ≠ s.qTier q ∨ (F.schQW0_egress.get w) ≠ s.qEgress q) ∧ (queueOk q
    (F.schQW0_tier.get w) (F.schQW0_egress.get w) (s.qStation q) && (s.schQ q).pkts.isEmpty) = true :=
  ⟨.core 0, 19, (F.schQW0_egress.put 15 (F.schQW0_tier.put 4 0)), lit, by decide +kernel⟩

theorem witness_QueuesAdmitServeAndShape_21 :
    ∃ (who : Requester) (q : Fin 4096) (w : Word) (s : State), s.isLit 4 = true ∧ isAnyCore who = true ∧ (18 < q.val ∨
    isCudom who = true) ∧ ((F.schQW0_tier.get w) ≠ s.qTier q ∨ (F.schQW0_egress.get w) ≠ s.qEgress q) ∧ (queueOk q
    (F.schQW0_tier.get w) (F.schQW0_egress.get w) (s.qStation q) && (s.schQ q).pkts.isEmpty) = false :=
  ⟨.core 0, 4095, (F.schQW0_egress.put 15 (F.schQW0_tier.put 2 0)), lit, by decide +kernel⟩

theorem witness_QueuesAdmitServeAndShape_22 :
    ∃ (who : Requester) (q : Fin 4096) (s : State), s.isLit 4 = true ∧ isAnyCore who = true ∧ (18 < q.val ∨ isCudom who =
    true) :=
  ⟨.glove 0, 18, lit, by decide +kernel⟩

theorem witness_QueuesAdmitServeAndShape_23 :
    ∃ (who : Requester) (q : Fin 4096) (s : State), s.isLit 4 = true ∧ q.val ≤ 18 ∧ isCudom who = false :=
  ⟨.core 0, 18, lit, by decide +kernel⟩

theorem witness_QueuesAdmitServeAndShape_24 :
    ∃ (x : Meter) (b : Nat), 0 < b ∧ F.schMtrW3_pbs.get x.w3 = 0 :=
  ⟨⟨D.schMtrW0.resetWord, 0, 0, 0, 0, 0, 0⟩, 1, by decide +kernel⟩

/-- A Kalhar Link of four lanes at port 12: its state, width and rate codes, its link. -/
def kalhar (st width rate up : Nat) (s : State := lit) : State :=
  put [(pCfg 12, F.lnqPortCfg_enable, 1), (pCfg 12, F.lnqPortCfg_mode, 5), (pCfg 12, F.lnqPortCfg_width, 2), (pStat 12, F.lnqPortStatus_kl_state, st)
    , (pStat 12, F.lnqPortStatus_kl_width, width), (pStat 12, F.lnqPortStatus_kl_rate, rate), (pStat 12, F.lnqPortStatus_link_up, up)
    , (pStat 12, F.lnqPortStatus_kl_rev, 2)] s
def ported (f : PortState → PortState) (s : State) : State := s.setPort 12 (f (s.port 12))
def params15 : Tbl Nat := [(0, 1), (1, 0), (2, 0), (3, 255), (4, 0), (5, 0), (6, 0), (7, 0)]

/-- A training sequence TS1 of a lane, its symbols at negative disparity. -/
def ts1 (lane rev rate width flags : Nat) : List (Fin 1024) :=
  ((true, 188) :: ([74, lane, rev, rate, width, flags] ++ List.replicate 9 74).map (fun v => (false, v))).map (fun x => Fin.ofNat 1024 (encode10 x.1 x.2 false))
def tr1 (lane rev rate width flags : Nat) : Training := ⟨false, lane, rev, rate, width, flags, false⟩
/-- Four lanes in reversed order. -/
def reversed15 (flags : Nat) : List (List (Fin 1024)) := [3, 2, 1, 0].map (fun l => ts1 l 2 6 2 flags)
/-- A control block on one lane. -/
def ctl15 (type a b : Nat) : List (List (Fin 1024)) :=
  [[(true, 28), (false, type), (false, a), (false, b)].map (fun x => Fin.ofNat 1024 (encode10 x.1 x.2 false))]

theorem witness_KalharLinksTrainAndFall_1 :
    ∃ (p : Fin 16) (ts : List (List (Fin 1024))) (i0 : Nat) (w0 : Nat) (t0 : Training) (s : State), s.isKl p = true ∧
    s.klState p = 0 ∧ (s.port p).tx = none ∧ lanesOf 5 (s.fld (pCfg p) F.lnqPortCfg_width) (p % 4) = some (s.portLanes p) ∧
    ((s.trainings p ts).filter (fun x => !x.2.second)).all (fun x => if (((s.portLanes p).length) != 1 && t0.lane + i0 + 1 ==
    ((s.portLanes p).length) : Bool) then x.2.lane + x.1 + 1 == ((s.portLanes p).length) else x.2.lane == x.1) = true ∧ (i0,
    t0) ∈ ((s.trainings p ts).filter (fun x => !x.2.second)) ∧ t0.lane = 0 ∧ w0 ≤ s.fld (pCfg p) F.lnqPortCfg_width ∧ (fun (k
    : Nat) => (List.range (2 ^ k)).all (fun i => ((s.trainings p ts).filter (fun x => !x.2.second)).any (fun x => x.2.lane ==
    i))) w0 = true ∧ (∀ k ≤ s.fld (pCfg p) F.lnqPortCfg_width, w0 < k → (fun (k : Nat) => (List.range (2 ^ k)).all (fun i =>
    ((s.trainings p ts).filter (fun x => !x.2.second)).any (fun x => x.2.lane == i))) k = false) ∧ t0.flags.testBit 0 = true
    :=
  ⟨12, reversed15 1, 3, 2, tr1 0 2 6 2 1, kalhar 0 0 0 0, by
    refine ⟨?_, ?_, ?_, ?_, ?_, ?_, ?_, ?_, ?_, (fun k h h2 => absurd (Nat.lt_of_lt_of_le h2 h) (by decide +kernel)), ?_⟩ <;> decide +kernel⟩

theorem witness_KalharLinksTrainAndFall_2 :
    ∃ (p : Fin 16) (ts : List (List (Fin 1024))) (i0 : Nat) (w0 : Nat) (t0 : Training) (s : State), s.isKl p = true ∧
    s.klState p = 0 ∧ (s.port p).tx = none ∧ lanesOf 5 (s.fld (pCfg p) F.lnqPortCfg_width) (p % 4) = some (s.portLanes p) ∧
    ((s.trainings p ts).filter (fun x => !x.2.second)).all (fun x => if (((s.portLanes p).length) != 1 && t0.lane + i0 + 1 ==
    ((s.portLanes p).length) : Bool) then x.2.lane + x.1 + 1 == ((s.portLanes p).length) else x.2.lane == x.1) = true ∧ (i0,
    t0) ∈ ((s.trainings p ts).filter (fun x => !x.2.second)) ∧ t0.lane = 0 ∧ w0 ≤ s.fld (pCfg p) F.lnqPortCfg_width ∧ (fun (k
    : Nat) => (List.range (2 ^ k)).all (fun i => ((s.trainings p ts).filter (fun x => !x.2.second)).any (fun x => x.2.lane ==
    i))) w0 = true ∧ (∀ k ≤ s.fld (pCfg p) F.lnqPortCfg_width, w0 < k → (fun (k : Nat) => (List.range (2 ^ k)).all (fun i =>
    ((s.trainings p ts).filter (fun x => !x.2.second)).any (fun x => x.2.lane == i))) k = false) ∧ t0.flags.testBit 0 = false
    :=
  ⟨12, reversed15 2, 3, 2, tr1 0 2 6 2 2, kalhar 0 0 0 0, by
    refine ⟨?_, ?_, ?_, ?_, ?_, ?_, ?_, ?_, ?_, (fun k h h2 => absurd (Nat.lt_of_lt_of_le h2 h) (by decide +kernel)), ?_⟩ <;> decide +kernel⟩

theorem witness_KalharLinksTrainAndFall_3 :
    ∃ (p : Fin 16) (s : State), s.isKl p = true ∧ s.klState p = 1 :=
  ⟨12, kalhar 1 2 6 0, by decide +kernel⟩

theorem witness_KalharLinksTrainAndFall_4 :
    ∃ (p : Fin 16) (s : State), s.isKl p = true ∧ s.klState p = 1 ∧ (s.port p).stAt + 2000000 ≤ s.elapsed ∧ (s.port p).tx =
    none ∧ s.linkUp p = false ∧ (s.port p).pass ≠ .thrift ∧ 0 < s.klRate p :=
  ⟨12, later 2000000 (kalhar 1 2 6 0), by decide +kernel⟩

theorem witness_KalharLinksTrainAndFall_5 :
    ∃ (p : Fin 16) (s : State), s.isKl p = true ∧ s.klState p = 1 ∧ (s.port p).stAt + 2000000 ≤ s.elapsed ∧ (s.port p).tx =
    none ∧ s.linkUp p = false ∧ (s.port p).pass ≠ .thrift ∧ s.klRate p = 0 :=
  ⟨12, later 2000000 (kalhar 1 2 0 0), by decide +kernel⟩

theorem witness_KalharLinksTrainAndFall_6 :
    ∃ (p : Fin 16) (s : State), s.isKl p = true ∧ s.klState p = 1 ∧ (s.port p).stAt + 2000000 ≤ s.elapsed ∧ (s.port p).tx =
    none ∧ s.linkUp p = true ∧ (s.port p).pass = .thrift ∧ 0 < s.klRate p :=
  ⟨12, later 2000000 (ported (fun x => { x with pass := .thrift }) (kalhar 1 0 1 1)), by decide +kernel⟩

theorem witness_KalharLinksTrainAndFall_7 :
    ∃ (p : Fin 16) (skew : Nat) (s : State), s.isKl p = true ∧ s.klState p = 2 ∧ skew ≤ 16 :=
  ⟨12, 16, kalhar 2 2 6 0, by decide +kernel⟩

theorem witness_KalharLinksTrainAndFall_8 :
    ∃ (p : Fin 16) (skew : Nat) (s : State), s.isKl p = true ∧ s.klState p = 2 ∧ 16 < skew :=
  ⟨12, 17, kalhar 2 2 6 0, by decide +kernel⟩

theorem witness_KalharLinksTrainAndFall_9 :
    ∃ (p : Fin 16) (s : State), s.isKl p = true ∧ s.klState p = 2 ∧ 8 ≤ s.markers p s.elapsed ∧ (s.port p).tx = none :=
  ⟨12, later 2621440 (kalhar 2 2 6 0), by decide +kernel⟩

theorem witness_KalharLinksTrainAndFall_10 :
    ∃ (p : Fin 16) (s : State), s.isKl p = true ∧ s.klState p = 2 ∧ s.markers p s.elapsed < 8 :=
  ⟨12, kalhar 2 2 6 0, by decide +kernel⟩

theorem witness_KalharLinksTrainAndFall_11 :
    ∃ (p : Fin 16) (blk : List (List (Fin 1024))) (i : Nat) (v : Nat) (s : State), s.isKl p = true ∧ s.klState p = 3 ∧ blkOf
    blk = some (7, i, v) ∧ i < 8 :=
  ⟨12, ctl15 7 7 255, 7, 255, kalhar 3 2 6 0, by decide +kernel⟩

theorem witness_KalharLinksTrainAndFall_12 :
    ∃ (p : Fin 16) (blk : List (List (Fin 1024))) (i : Nat) (v : Nat) (s : State), s.isKl p = true ∧ s.klState p = 3 ∧ blkOf
    blk = some (7, i, v) ∧ 8 ≤ i :=
  ⟨12, ctl15 7 8 255, 8, 255, kalhar 3 2 6 0, by decide +kernel⟩

theorem witness_KalharLinksTrainAndFall_13 :
    ∃ (p : Fin 16) (s : State), s.isKl p = true ∧ s.klState p = 3 ∧ ((List.range 8).all (fun i => (Tbl.find? (s.port
    p).params i).isSome) && s.klParam p 7 == (s.klParam p 0 + s.klParam p 1 + s.klParam p 2 + s.klParam p 3 + s.klParam p 4 +
    s.klParam p 5 + s.klParam p 6) % 256 : Bool) = false :=
  ⟨12, kalhar 3 2 6 0, by decide +kernel⟩

theorem witness_KalharLinksTrainAndFall_14 :
    ∃ (p : Fin 16) (s : State), s.isKl p = true ∧ s.klState p = 3 ∧ ((List.range 8).all (fun i => (Tbl.find? (s.port
    p).params i).isSome) && s.klParam p 7 == (s.klParam p 0 + s.klParam p 1 + s.klParam p 2 + s.klParam p 3 + s.klParam p 4 +
    s.klParam p 5 + s.klParam p 6) % 256 : Bool) = true ∧ ((s.port p).pass != .bringUp && decide ((s.port p).passAt + 2000000
    < s.elapsed) : Bool) = true ∧ s.linkUp p = true ∧ s.wireSettled p :=
  ⟨12, later 2000001 (ported (fun x => { x with params := params15, pass := .deep }) (kalhar 3 2 6 1)), by
    refine ⟨?_, ?_, ?_, ?_, ?_, (fun _ h => nomatch (show (none : Option WireFrame) = some _ from h))⟩ <;> (try unfold State.wireSettled) <;> decide +kernel⟩

theorem witness_KalharLinksTrainAndFall_15 :
    ∃ (p : Fin 16) (s : State), s.isKl p = true ∧ s.klState p = 3 ∧ ((List.range 8).all (fun i => (Tbl.find? (s.port
    p).params i).isSome) && s.klParam p 7 == (s.klParam p 0 + s.klParam p 1 + s.klParam p 2 + s.klParam p 3 + s.klParam p 4 +
    s.klParam p 5 + s.klParam p 6) % 256 : Bool) = true ∧ ((s.port p).pass != .bringUp && decide ((s.port p).passAt + 2000000
    < s.elapsed) : Bool) = false :=
  ⟨12, ported (fun x => { x with params := params15 }) (kalhar 3 2 6 0), by decide +kernel⟩

theorem witness_KalharLinksTrainAndFall_16 :
    ∃ (p : Fin 16) (s : State), s.isKl p = true ∧ s.klState p = 3 ∧ (s.port p).stAt + 1000000 ≤ s.elapsed ∧ s.linkUp p =
    false ∧ (s.port p).pass ≠ .thrift :=
  ⟨12, later 1000000 (kalhar 3 2 6 0), by decide +kernel⟩

theorem witness_KalharLinksTrainAndFall_17 :
    ∃ (p : Fin 16) (s : State), s.isKl p = true ∧ 1 ≤ s.klState p ∧ s.klState p ≤ 4 ∧ (s.port p).pass ≠ .thrift ∧ s.linkUp p
    = false :=
  ⟨12, kalhar 1 2 6 0, by decide +kernel⟩

theorem witness_KalharLinksTrainAndFall_18 :
    ∃ (p : Fin 16) (s : State), s.isKl p = true ∧ 1 ≤ s.klState p ∧ s.klState p ≤ 4 ∧ (s.port p).pass ≠ .thrift ∧ s.linkUp p
    = true ∧ s.wireSettled p :=
  ⟨12, kalhar 4 2 6 1, by
    refine ⟨?_, ?_, ?_, ?_, ?_, (fun _ h => nomatch (show (none : Option WireFrame) = some _ from h))⟩ <;> (try unfold State.wireSettled) <;> decide +kernel⟩

theorem witness_KalharLinksTrainAndFall_19 :
    ∃ (p : Fin 16) (s : State), s.isKl p = true ∧ s.klState p = 4 ∧ s.linkUp p = true ∧ s.wireSettled p :=
  ⟨12, kalhar 4 2 6 1, by
    refine ⟨?_, ?_, ?_, (fun _ h => nomatch (show (none : Option WireFrame) = some _ from h))⟩ <;> (try unfold State.wireSettled) <;> decide +kernel⟩

theorem witness_KalharLinksTrainAndFall_20 :
    ∃ (p : Fin 16) (k : Fin 4) (l : Nat) (s : State), s.isKl p = true ∧ s.klState p = 4 ∧ s.linkUp p = true ∧ s.wireSettled p
    ∧ (s.port p).pass ≠ .thrift ∧ lanesOf 5 (s.fld (pCfg p) F.lnqPortCfg_width) (p % 4) = some (s.portLanes p) ∧ s.klWidth p
    ≤ s.fld (pCfg p) F.lnqPortCfg_width ∧ (s.klLanes p (s.klWidth p))[k.val]? = some l ∧ (∀ v ≤ s.klWidth p, (fun (v : Nat)
    => (s.klLanes p v).all (fun x => !(fun (x : Nat) => x == l || s.lane p x F.lnqLaneStatus_bad) x)) v = false) :=
  ⟨12, 0, 0, kalhar 4 1 6 1, by
    refine ⟨?_, ?_, ?_, (fun _ h => nomatch (show (none : Option WireFrame) = some _ from h)), ?_, ?_, ?_, ?_, ?_⟩ <;> (try unfold State.wireSettled) <;> decide +kernel⟩

theorem witness_KalharLinksTrainAndFall_21 :
    ∃ (p : Fin 16) (k : Fin 4) (l : Nat) (w : Nat) (s : State), s.isKl p = true ∧ s.klState p = 4 ∧ s.linkUp p = true ∧
    s.wireSettled p ∧ (s.port p).pass ≠ .thrift ∧ lanesOf 5 (s.fld (pCfg p) F.lnqPortCfg_width) (p % 4) = some (s.portLanes
    p) ∧ s.klWidth p ≤ s.fld (pCfg p) F.lnqPortCfg_width ∧ (s.klLanes p (s.klWidth p))[k.val]? = some l ∧ w ≤ s.klWidth p ∧
    (fun (v : Nat) => (s.klLanes p v).all (fun x => !(fun (x : Nat) => x == l || s.lane p x F.lnqLaneStatus_bad) x)) w = true
    ∧ (∀ v ≤ s.klWidth p, w < v → (fun (v : Nat) => (s.klLanes p v).all (fun x => !(fun (x : Nat) => x == l || s.lane p x
    F.lnqLaneStatus_bad) x)) v = false) :=
  ⟨12, 1, 1, 0, kalhar 4 1 6 1, by
    refine ⟨?_, ?_, ?_, (fun _ h => nomatch (show (none : Option WireFrame) = some _ from h)), ?_, ?_, ?_, ?_, ?_, ?_, ?_⟩ <;> (try unfold State.wireSettled) <;> decide +kernel⟩

theorem witness_KalharLinksTrainAndFall_22 :
    ∃ (p : Fin 16) (s : State), s.isKl p = true ∧ s.klState p ≠ 1 :=
  ⟨12, kalhar 0 0 0 0, by decide +kernel⟩

/-- The link of port 12 in ACTIVE with both ends' low-power features, its ladder from the top. -/
def thrifty (width rate : Nat) (f : PortState → PortState) : State :=
  ported (fun x => f { x with params := params15, top := (2, 6) })
    (kalhar 4 width rate 1 (put [(A.lnqKlCtl 3 0, F.lnqKlCtl_thrift_en, 1)] lit))
def idleLanes (rx : Bool) (s : State) : State := s.setLanes 12 (s.klLanes 12 2) (if rx then F.lnqLaneStatus_rx_idle_e else F.lnqLaneStatus_tx_idle_e) 1

theorem witness_KalharLinksSaveAndRegainPower_1 :
    ∃ (p : Fin 16) (blk : List (List (Fin 1024))) (a : Nat) (b : Nat) (s : State), s.idleOk p = true ∧ blkOf blk = some (4,
    a, b) :=
  ⟨12, ctl15 4 1 2, 1, 2, thrifty 2 6 id, by decide +kernel⟩

theorem witness_KalharLinksSaveAndRegainPower_2 :
    ∃ (p : Fin 16) (s : State), s.idleOk p = true ∧ (s.port p).tx = none ∧ (s.port p).txq = [] ∧ (s.port p).txAt + s.lpIdle p
    ≤ s.elapsed :=
  ⟨12, later 1000 (thrifty 2 6 id), by decide +kernel⟩

theorem witness_KalharLinksSaveAndRegainPower_3 :
    ∃ (p : Fin 16) (s : State), s.idleOk p = true ∧ (s.port p).tx = none ∧ ((s.port p).txq ≠ [] ∨ s.elapsed < (s.port p).txAt
    + s.lpIdle p) :=
  ⟨12, thrifty 2 6 (fun x => { x with txq := [[1]] }), by decide +kernel⟩

theorem witness_KalharLinksSaveAndRegainPower_4 :
    ∃ (p : Fin 16) (s : State), s.idleOk p = true ∧ (s.port p).tx = none ∧ s.inIdleE p F.lnqLaneStatus_tx_idle_e = true ∧
    (s.port p).lpTxAt + 1000000 ≤ s.elapsed :=
  ⟨12, later 1000000 (idleLanes false (thrifty 2 6 id)), by decide +kernel⟩

theorem witness_KalharLinksSaveAndRegainPower_5 :
    ∃ (p : Fin 16) (s : State), s.idleOk p = true ∧ (s.port p).tx = none ∧ (s.inIdleE p F.lnqLaneStatus_tx_idle_e = false ∨
    s.elapsed < (s.port p).lpTxAt + 1000000) :=
  ⟨12, thrifty 2 6 id, by decide +kernel⟩

theorem witness_KalharLinksSaveAndRegainPower_6 :
    ∃ (p : Fin 16) (s : State), s.isKl p = true ∧ s.klState p = 4 ∧ s.inIdleE p F.lnqLaneStatus_rx_idle_e = true ∧ (s.port
    p).lpRxAt + 2000000 ≤ s.elapsed ∧ s.linkUp p = true ∧ s.wireSettled p :=
  ⟨12, later 2000000 (idleLanes true (thrifty 2 6 id)), by
    refine ⟨?_, ?_, ?_, ?_, ?_, (fun _ h => nomatch (show (none : Option WireFrame) = some _ from h))⟩ <;> (try unfold State.wireSettled) <;> decide +kernel⟩

theorem witness_KalharLinksSaveAndRegainPower_7 :
    ∃ (p : Fin 16) (s : State), s.klRev p = 1 :=
  ⟨12, put [(pStat 12, F.lnqPortStatus_kl_rev, 1)] (kalhar 4 2 4 1), by decide +kernel⟩

theorem witness_KalharLinksSaveAndRegainPower_8 :
    ∃ (p : Fin 16) (s : State), s.isKl p = true ∧ s.klState p = 4 ∧ (s.port p).txq = [] ∧ (s.port p).tx = none ∧ ((s.klCtl p
    F.lnqKlCtl_deep_req == 1 || s.klRev p == 1) && decide ((s.port p).txAt + s.deepIdle p ≤ s.elapsed) && decide ((s.port
    p).rxAt + s.deepIdle p ≤ s.elapsed) : Bool) = true :=
  ⟨12, later 100000 (put [(A.lnqKlCtl 3 0, F.lnqKlCtl_deep_req, 1)] (thrifty 2 6 id)), by decide +kernel⟩

theorem witness_KalharLinksSaveAndRegainPower_9 :
    ∃ (p : Fin 16) (blk : List (List (Fin 1024))) (a : Nat) (b : Nat) (s : State), s.isKl p = true ∧ s.klState p = 4 ∧
    (s.port p).txq = [] ∧ (s.port p).tx = none ∧ ((s.klCtl p F.lnqKlCtl_deep_req == 1 || s.klRev p == 1) && decide ((s.port
    p).txAt + s.deepIdle p ≤ s.elapsed) && decide ((s.port p).rxAt + s.deepIdle p ≤ s.elapsed) : Bool) = true ∧ blkOf blk =
    some (5, a, b) :=
  ⟨12, ctl15 5 0 0, 0, 0, later 100000 (put [(A.lnqKlCtl 3 0, F.lnqKlCtl_deep_req, 1)] (thrifty 2 6 id)), by decide +kernel⟩

theorem witness_KalharLinksSaveAndRegainPower_10 :
    ∃ (p : Fin 16) (s : State), s.isKl p = true ∧ s.klState p = 4 ∧ (s.port p).txq = [] ∧ (s.port p).tx = none ∧ ((s.klCtl p
    F.lnqKlCtl_deep_req == 1 || s.klRev p == 1) && decide ((s.port p).txAt + s.deepIdle p ≤ s.elapsed) && decide ((s.port
    p).rxAt + s.deepIdle p ≤ s.elapsed) : Bool) = false :=
  ⟨12, thrifty 2 6 id, by decide +kernel⟩

theorem witness_KalharLinksSaveAndRegainPower_11 :
    ∃ (p : Fin 16) (blk : List (List (Fin 1024))) (a : Nat) (b : Nat) (s : State), s.isKl p = true ∧ s.klState p = 4 ∧
    (s.port p).txq = [] ∧ (s.port p).tx = none ∧ blkOf blk = some (6, a, b) ∧ (s.port p).deepSent = true :=
  ⟨12, ctl15 6 0 0, 0, 0, thrifty 2 6 (fun x => { x with deepSent := true }), by decide +kernel⟩

theorem witness_KalharLinksSaveAndRegainPower_12 :
    ∃ (p : Fin 16) (s : State), s.isKl p = true ∧ s.klState p = 4 ∧ (s.port p).txq = [] ∧ (s.port p).tx = none ∧ (s.port
    p).deepSent = false :=
  ⟨12, thrifty 2 6 id, by decide +kernel⟩

theorem witness_KalharLinksSaveAndRegainPower_13 :
    ∃ (p : Fin 16) (s : State), s.isKl p = true ∧ s.klState p = 5 ∧ (s.port p).tx = none :=
  ⟨12, kalhar 5 2 6 1, by decide +kernel⟩

theorem witness_KalharLinksSaveAndRegainPower_14 :
    ∃ (fw : Nat) (x : Nat × Nat), 0 < x.1 ∧ fw < x.1 :=
  ⟨1, (2, 6), by decide +kernel⟩

theorem witness_KalharLinksSaveAndRegainPower_15 :
    ∃ (fw : Nat) (x : Nat × Nat), 0 < x.1 ∧ x.1 ≤ fw :=
  ⟨1, (1, 6), by decide +kernel⟩

theorem witness_KalharLinksSaveAndRegainPower_16 :
    ∃ (fw : Nat) (fr : Nat) (x : Nat × Nat) (y : _), stepBelow fw fr x = some y ∧ fr ≤ x.2 ∧ fw ≤ x.1 :=
  ⟨0, 4, (0, 6), (0, 4), by decide +kernel⟩

theorem witness_KalharLinksSaveAndRegainPower_17 :
    ∃ (x : Nat × Nat), x.1 = 0 :=
  ⟨(0, 2), by decide +kernel⟩

theorem witness_KalharLinksSaveAndRegainPower_18 :
    ∃ (p : Fin 16) (s : State) (x : Nat × Nat), (s.port p).top.2 ≤ 6 ∧ s.klHigher p = some x :=
  ⟨12, thrifty 0 4 id, (0, 6), by decide +kernel⟩

theorem witness_KalharLinksSaveAndRegainPower_19 :
    ∃ (p : Fin 16) (bits : Nat) (x : Nat × Nat) (s : State), s.thriftOk p = true ∧ ((s.port p).ownReq.isNone && (s.port
    p).change.isNone : Bool) = true ∧ (if (decide (16 * s.klThr p F.lnqKlThrift_up_cells < s.egressCells p) && s.klStep p !=
    (s.port p).top : Bool) then some (s.port p).top else if (decide (s.klThr p F.lnqKlThrift_thrift_hi * (fun (y : Nat × Nat)
    => stepCap y * 8000) (s.klStep p) < bits * 100) : Bool) then s.klHigher p else if (decide (10 * max 1 (s.klThr p
    F.lnqKlThrift_dwell) ≤ (if ((s.klLower p).any (fun y => bits * 100 < s.klThr p F.lnqKlThrift_thrift_lo * (fun (y : Nat ×
    Nat) => stepCap y * 8000) y) : Bool) then (s.port p).lowRun + 1 else 0)) : Bool) then s.klLower p else none) = some x :=
  ⟨12, 0, (1, 6), thrifty 2 6 (fun x => { x with lowRun := 9999 }), by decide +kernel⟩

theorem witness_KalharLinksSaveAndRegainPower_20 :
    ∃ (p : Fin 16) (bits : Nat) (s : State), s.thriftOk p = true ∧ (((s.port p).ownReq.isNone && (s.port p).change.isNone :
    Bool) = false ∨ (if (decide (16 * s.klThr p F.lnqKlThrift_up_cells < s.egressCells p) && s.klStep p != (s.port p).top :
    Bool) then some (s.port p).top else if (decide (s.klThr p F.lnqKlThrift_thrift_hi * (fun (y : Nat × Nat) => stepCap y *
    8000) (s.klStep p) < bits * 100) : Bool) then s.klHigher p else if (decide (10 * max 1 (s.klThr p F.lnqKlThrift_dwell) ≤
    (if ((s.klLower p).any (fun y => bits * 100 < s.klThr p F.lnqKlThrift_thrift_lo * (fun (y : Nat × Nat) => stepCap y *
    8000) y) : Bool) then (s.port p).lowRun + 1 else 0)) : Bool) then s.klLower p else none) = none) :=
  ⟨12, 0, thrifty 2 6 id, by decide +kernel⟩

theorem witness_KalharLinksSaveAndRegainPower_21 :
    ∃ (p : Fin 16) (blk : List (List (Fin 1024))) (w : Nat) (r : Nat) (s : State) (y : _), s.thriftOk p = true ∧ (s.port
    p).tx = none ∧ blkOf blk = some (1, w, r) ∧ (decide (w ≤ 2) && decide (r ≤ 6) : Bool) = true ∧ (s.port p).ownReq = some y
    ∧ y.2 ≤ 6 :=
  ⟨12, ctl15 1 0 6, 0, 6, thrifty 2 6 (fun x => { x with ownReq := some (1, 6) }), (1, 6), by decide +kernel⟩

theorem witness_KalharLinksSaveAndRegainPower_22 :
    ∃ (p : Fin 16) (blk : List (List (Fin 1024))) (w : Nat) (r : Nat) (s : State) (t0 : _), s.thriftOk p = true ∧ (s.port
    p).tx = none ∧ blkOf blk = some (1, w, r) ∧ (decide (w ≤ 2) && decide (r ≤ 6) : Bool) = true ∧ (s.port p).ownReq = none ∧
    (s.port p).lastAnswer = some t0 ∧ s.elapsed < t0 + 100000 :=
  ⟨12, ctl15 1 2 6, 2, 6, thrifty 2 6 (fun x => { x with lastAnswer := some 0 }), 0, by decide +kernel⟩

theorem witness_KalharLinksSaveAndRegainPower_23 :
    ∃ (p : Fin 16) (blk : List (List (Fin 1024))) (w : Nat) (r : Nat) (s : State), s.thriftOk p = true ∧ (s.port p).tx = none
    ∧ blkOf blk = some (1, w, r) ∧ (decide (w ≤ 2) && decide (r ≤ 6) : Bool) = true ∧ (s.port p).ownReq = none ∧ (s.port
    p).lastAnswer.all (fun t0 => t0 + 100000 ≤ s.elapsed) = true ∧ (stepCap (s.klStep p) ≤ stepCap ((w, r) : Nat × Nat) ∨
    s.dwelled p = true) :=
  ⟨12, ctl15 1 2 6, 2, 6, thrifty 1 6 id, by
    refine ⟨?_, ?_, ?_, ?_, ?_, ?_, (show _ ∨ _ from by decide +kernel)⟩ <;> decide +kernel⟩

theorem witness_KalharLinksSaveAndRegainPower_24 :
    ∃ (p : Fin 16) (blk : List (List (Fin 1024))) (w : Nat) (r : Nat) (s : State), s.thriftOk p = true ∧ (s.port p).tx = none
    ∧ blkOf blk = some (1, w, r) ∧ (decide (w ≤ 2) && decide (r ≤ 6) : Bool) = true ∧ (s.port p).ownReq = none ∧ (s.port
    p).lastAnswer.all (fun t0 => t0 + 100000 ≤ s.elapsed) = true ∧ stepCap ((w, r) : Nat × Nat) < stepCap (s.klStep p) ∧
    s.dwelled p = false :=
  ⟨12, ctl15 1 1 6, 1, 6, thrifty 2 6 id, by decide +kernel⟩

theorem witness_KalharLinksSaveAndRegainPower_25 :
    ∃ (p : Fin 16) (blk : List (List (Fin 1024))) (w : Nat) (r : Nat) (s : State), s.thriftOk p = true ∧ (s.port p).tx = none
    ∧ blkOf blk = some (1, w, r) ∧ (decide (w ≤ 2) && decide (r ≤ 6) : Bool) = false :=
  ⟨12, ctl15 1 3 6, 3, 6, thrifty 2 6 id, by decide +kernel⟩

theorem witness_KalharLinksSaveAndRegainPower_26 :
    ∃ (p : Fin 16) (blk : List (List (Fin 1024))) (a : Nat) (b : Nat) (s : State) (y : _), s.thriftOk p = true ∧ (s.port
    p).tx = none ∧ blkOf blk = some (2, a, b) ∧ (s.port p).ownReq = some y ∧ y.2 ≤ 6 :=
  ⟨12, ctl15 2 0 0, 0, 0, thrifty 2 6 (fun x => { x with ownReq := some (1, 6) }), (1, 6), by decide +kernel⟩

theorem witness_KalharLinksSaveAndRegainPower_27 :
    ∃ (p : Fin 16) (blk : List (List (Fin 1024))) (a : Nat) (b : Nat) (s : State), s.thriftOk p = true ∧ (s.port p).tx = none
    ∧ blkOf blk = some (2, a, b) ∧ (s.port p).ownReq = none :=
  ⟨12, ctl15 2 0 0, 0, 0, thrifty 2 6 id, by decide +kernel⟩

theorem witness_KalharLinksSaveAndRegainPower_28 :
    ∃ (p : Fin 16) (blk : List (List (Fin 1024))) (a : Nat) (b : Nat) (s : State), s.thriftOk p = true ∧ (s.port p).tx = none
    ∧ blkOf blk = some (3, a, b) :=
  ⟨12, ctl15 3 0 0, 0, 0, thrifty 2 6 id, by decide +kernel⟩

theorem witness_KalharLinksSaveAndRegainPower_29 :
    ∃ (p : Fin 16) (w : Nat) (s : State), s.isKl p = true ∧ s.klState p = 4 ∧ (s.port p).change = some (w, s.klRate p) ∧ w ≤
    2 ∧ (s.markers p (s.port p).changeAt + 2) ≤ s.markers p s.elapsed :=
  ⟨12, 1, later 6553600 (thrifty 2 6 (fun x => { x with change := some (1, 6) })), by decide +kernel⟩

theorem witness_KalharLinksSaveAndRegainPower_30 :
    ∃ (p : Fin 16) (w : Nat) (s : State), s.isKl p = true ∧ s.klState p = 4 ∧ (s.port p).change = some (w, s.klRate p) ∧ w ≤
    2 ∧ s.markers p s.elapsed < (s.markers p (s.port p).changeAt + 2) :=
  ⟨12, 1, thrifty 2 6 (fun x => { x with change := some (1, 6) }), by decide +kernel⟩

theorem witness_KalharLinksSaveAndRegainPower_31 :
    ∃ (p : Fin 16) (s : State), s.isKl p = true ∧ s.klState p ≠ 4 ∧ (s.port p).pass = .thrift ∧ (s.port p).passAt + 2000000 ≤
    s.elapsed ∧ s.linkUp p = true ∧ s.wireSettled p :=
  ⟨12, later 2000000 (ported (fun x => { x with pass := .thrift }) (kalhar 1 0 1 1)), by
    refine ⟨?_, ?_, ?_, ?_, ?_, (fun _ h => nomatch (show (none : Option WireFrame) = some _ from h))⟩ <;> (try unfold State.wireSettled) <;> decide +kernel⟩

theorem witness_KalharLinksSaveAndRegainPower_32 :
    ∃ (p : Fin 16) (s : State), s.isKl p = true ∧ s.klState p ≠ 4 ∧ (s.port p).pass ≠ .thrift :=
  ⟨12, kalhar 1 0 1 1, by decide +kernel⟩

/-- A port with a mode, enabled. -/
def on17 (p mode : Nat) (s : State) : State := put [(pCfg p, F.lnqPortCfg_enable, 1), (pCfg p, F.lnqPortCfg_mode, mode)] s

theorem witness_PortsAreEnabledAndLinksFollowTheirPartners_1 :
    ∃ (who : Requester) (p : Fin 16) (w : Word) (s : State), s.portLitAt p = true ∧ isAnyCore who = true ∧ s.portOn p = false
    ∧ (F.lnqPortCfg_mode.get w) ≤ 5 ∧ (F.lnqPortCfg_width.get w) ≤ 2 ∧ (lanesOf (F.lnqPortCfg_mode.get w)
    (F.lnqPortCfg_width.get w) (p % 4)) = none :=
  ⟨.core 0, 13, (F.lnqPortCfg_cuff.put 0 (F.lnqPortCfg_width.put 2 (F.lnqPortCfg_mode.put 5 0))), lit, by decide +kernel⟩

theorem witness_PortsAreEnabledAndLinksFollowTheirPartners_2 :
    ∃ (who : Requester) (p : Fin 16) (w : Word) (ls : List Nat) (s : State), s.portLitAt p = true ∧ isAnyCore who = true ∧
    s.portOn p = false ∧ (lanesOf (F.lnqPortCfg_mode.get w) (F.lnqPortCfg_width.get w) (p % 4)) = some ls ∧ ((s.otherPorts
    p).any (fun k => (s.portLanes k).any ls.contains) : Bool) = true :=
  ⟨.core 0, 12, (F.lnqPortCfg_cuff.put 0 (F.lnqPortCfg_width.put 2 (F.lnqPortCfg_mode.put 5 0))), [0, 1, 2, 3], on17 15 1
    lit, by decide +kernel⟩

theorem witness_PortsAreEnabledAndLinksFollowTheirPartners_3 :
    ∃ (who : Requester) (p : Fin 16) (w : Word) (ls : List Nat) (s : State), s.portLitAt p = true ∧ isAnyCore who = true ∧
    s.portOn p = false ∧ (lanesOf (F.lnqPortCfg_mode.get w) (F.lnqPortCfg_width.get w) (p % 4)) = some ls ∧ ((s.otherPorts
    p).any (fun k => (s.portLanes k).any ls.contains) : Bool) = false ∧ (if (F.lnqPortCfg_mode.get w) = 5 then ls.all (fun l
    => s.lanePll (p.val / 4) l == (s.lanePll (p.val / 4) (ls.headD 0))) && (s.otherPorts p).all (fun k => (s.portLanes k).all
    (fun x => s.lanePll (p.val / 4) x != (s.lanePll (p.val / 4) (ls.headD 0)))) else ls.all (fun l => (fun (b : Bool) =>
    s.fld (A.lnqPllCtl (p.val / 4)) (pllEn b) == 1 && s.fld (A.lnqPllCtl (p.val / 4)) (pllRate b) == modeRate
    (F.lnqPortCfg_mode.get w)) (s.lanePll (p.val / 4) l) && (s.otherPorts p).all (fun k => !s.ownsPll k (s.lanePll (p.val /
    4) l))) : Bool) = false :=
  ⟨.core 0, 15, (F.lnqPortCfg_cuff.put 0 (F.lnqPortCfg_width.put 0 (F.lnqPortCfg_mode.put 3 0))), [3], lit, by decide +kernel⟩

theorem witness_PortsAreEnabledAndLinksFollowTheirPartners_4 :
    ∃ (who : Requester) (p : Fin 16) (w : Word) (ls : List Nat) (s : State), s.portLitAt p = true ∧ isAnyCore who = true ∧
    s.portOn p = false ∧ (lanesOf (F.lnqPortCfg_mode.get w) (F.lnqPortCfg_width.get w) (p % 4)) = some ls ∧ ((s.otherPorts
    p).any (fun k => (s.portLanes k).any ls.contains) : Bool) = false ∧ (if (F.lnqPortCfg_mode.get w) = 5 then ls.all (fun l
    => s.lanePll (p.val / 4) l == (s.lanePll (p.val / 4) (ls.headD 0))) && (s.otherPorts p).all (fun k => (s.portLanes k).all
    (fun x => s.lanePll (p.val / 4) x != (s.lanePll (p.val / 4) (ls.headD 0)))) else ls.all (fun l => (fun (b : Bool) =>
    s.fld (A.lnqPllCtl (p.val / 4)) (pllEn b) == 1 && s.fld (A.lnqPllCtl (p.val / 4)) (pllRate b) == modeRate
    (F.lnqPortCfg_mode.get w)) (s.lanePll (p.val / 4) l) && (s.otherPorts p).all (fun k => !s.ownsPll k (s.lanePll (p.val /
    4) l))) : Bool) = true ∧ (s.isLit 2 && (List.range 16).all (fun k => k == p.val || !s.portOn k || s.fld (pCfg k)
    F.lnqPortCfg_cuff != (F.lnqPortCfg_cuff.get w)) : Bool) = false :=
  ⟨.core 0, 15, (F.lnqPortCfg_cuff.put 0 (F.lnqPortCfg_width.put 0 (F.lnqPortCfg_mode.put 1 0))), [3], on17 0 1 (put
    [(A.lnqPllCtl 3, pllEn false, 1)] lit), by decide +kernel⟩

theorem witness_PortsAreEnabledAndLinksFollowTheirPartners_5 :
    ∃ (who : Requester) (p : Fin 16) (w : Word) (ls : List Nat) (s : State), s.portLitAt p = true ∧ isAnyCore who = true ∧
    s.portOn p = false ∧ (lanesOf (F.lnqPortCfg_mode.get w) (F.lnqPortCfg_width.get w) (p % 4)) = some ls ∧ ((s.otherPorts
    p).any (fun k => (s.portLanes k).any ls.contains) : Bool) = false ∧ (if (F.lnqPortCfg_mode.get w) = 5 then ls.all (fun l
    => s.lanePll (p.val / 4) l == (s.lanePll (p.val / 4) (ls.headD 0))) && (s.otherPorts p).all (fun k => (s.portLanes k).all
    (fun x => s.lanePll (p.val / 4) x != (s.lanePll (p.val / 4) (ls.headD 0)))) else ls.all (fun l => (fun (b : Bool) =>
    s.fld (A.lnqPllCtl (p.val / 4)) (pllEn b) == 1 && s.fld (A.lnqPllCtl (p.val / 4)) (pllRate b) == modeRate
    (F.lnqPortCfg_mode.get w)) (s.lanePll (p.val / 4) l) && (s.otherPorts p).all (fun k => !s.ownsPll k (s.lanePll (p.val /
    4) l))) : Bool) = true ∧ (s.isLit 2 && (List.range 16).all (fun k => k == p.val || !s.portOn k || s.fld (pCfg k)
    F.lnqPortCfg_cuff != (F.lnqPortCfg_cuff.get w)) : Bool) = true :=
  ⟨.core 0, 15, (F.lnqPortCfg_cuff.put 9 (F.lnqPortCfg_width.put 0 (F.lnqPortCfg_mode.put 1 0))), [3], (put [(A.lnqPllCtl 3,
    pllEn false, 1)] (on17 0 1 lit)), by decide +kernel⟩

theorem witness_PortsAreEnabledAndLinksFollowTheirPartners_6 :
    ∃ (who : Requester) (p : Fin 16) (w : Word) (s : State), s.portLitAt p = true ∧ isAnyCore who = true ∧ s.portOn p = false
    ∧ (5 < (F.lnqPortCfg_mode.get w) ∨ 2 < (F.lnqPortCfg_width.get w)) :=
  ⟨.core 0, 15, (F.lnqPortCfg_cuff.put 0 (F.lnqPortCfg_width.put 0 (F.lnqPortCfg_mode.put 6 0))), lit, by
    refine ⟨?_, ?_, ?_, Or.inl (by decide +kernel)⟩ <;> decide +kernel⟩

theorem witness_PortsAreEnabledAndLinksFollowTheirPartners_7 :
    ∃ (who : Requester) (p : Fin 16) (w : Word) (s : State), s.portLitAt p = true ∧ isAnyCore who = true ∧ s.portOn p = true
    ∧ (F.lnqPortCfg_mode.get w == s.pMode p && F.lnqPortCfg_width.get w == s.fld (pCfg p) F.lnqPortCfg_width &&
    F.lnqPortCfg_cuff.get w == s.fld (pCfg p) F.lnqPortCfg_cuff && F.lnqPortCfg_an_en.get w == s.fld (pCfg p)
    F.lnqPortCfg_an_en : Bool) = true :=
  ⟨.core 0, 15, (on17 15 1 lit).reg (pCfg 15), on17 15 1 lit, by decide +kernel⟩

theorem witness_PortsAreEnabledAndLinksFollowTheirPartners_8 :
    ∃ (who : Requester) (p : Fin 16) (w : Word) (s : State), s.portLitAt p = true ∧ isAnyCore who = true ∧ s.portOn p = true
    ∧ (F.lnqPortCfg_mode.get w == s.pMode p && F.lnqPortCfg_width.get w == s.fld (pCfg p) F.lnqPortCfg_width &&
    F.lnqPortCfg_cuff.get w == s.fld (pCfg p) F.lnqPortCfg_cuff && F.lnqPortCfg_an_en.get w == s.fld (pCfg p)
    F.lnqPortCfg_an_en : Bool) = false :=
  ⟨.core 0, 15, (F.lnqPortCfg_cuff.put 0 (F.lnqPortCfg_width.put 0 (F.lnqPortCfg_mode.put 2 0))), on17 15 1 lit,
    by decide +kernel⟩

theorem witness_PortsAreEnabledAndLinksFollowTheirPartners_9 :
    ∃ (who : Requester) (p : Fin 16) (s : State), s.portLitAt p = true ∧ isAnyCore who = true ∧ s.portOn p = true ∧ s.linkUp
    p = true ∧ s.wireSettled p :=
  ⟨.glove 0, 15, put [(pStat 15, F.lnqPortStatus_link_up, 1)] (on17 15 1 lit), by
    refine ⟨?_, ?_, ?_, ?_, (fun _ h => nomatch (show (none : Option WireFrame) = some _ from h))⟩ <;> (try unfold State.wireSettled) <;> decide +kernel⟩

theorem witness_PortsAreEnabledAndLinksFollowTheirPartners_10 :
    ∃ (who : Requester) (p : Fin 16) (s : State), s.portLitAt p = true ∧ isAnyCore who = true ∧ s.portOn p = true ∧ s.linkUp
    p = false :=
  ⟨.glove 0, 15, on17 15 1 lit, by decide +kernel⟩

theorem witness_PortsAreEnabledAndLinksFollowTheirPartners_11 :
    ∃ (who : Requester) (p : Fin 16) (w : Word) (s : State), s.portLitAt p = true ∧ isAnyCore who = true ∧ s.portOn p = false
    ∧ F.lnqPortCfg_mode.get w ≤ 5 ∧ F.lnqPortCfg_width.get w ≤ 2 :=
  ⟨.glove 0, 15, (F.lnqPortCfg_cuff.put 0 (F.lnqPortCfg_width.put 1 (F.lnqPortCfg_mode.put 5 0))), lit, by decide +kernel⟩

theorem witness_PortsAreEnabledAndLinksFollowTheirPartners_12 :
    ∃ (who : Requester) (p : Fin 16) (s : State), s.portLitAt p = true ∧ isAnyCore who = false :=
  ⟨.dma 0, 15, lit, by decide +kernel⟩

theorem witness_PortsAreEnabledAndLinksFollowTheirPartners_13 :
    ∃ (q : Fin 4) (b : Bool) (s : State), s.isLit (lnqId q) = true ∧ s.fld (A.lnqPllCtl q) (pllEn b) = 1 :=
  ⟨3, true, put [(A.lnqPllCtl 3, pllEn true, 1)] lit, by decide +kernel⟩

theorem witness_PortsAreEnabledAndLinksFollowTheirPartners_14 :
    ∃ (q : Fin 4) (b : Bool) (s : State), s.isLit (lnqId q) = true ∧ s.fld (A.lnqPllCtl q) (pllEn b) = 0 :=
  ⟨3, true, lit, by decide +kernel⟩

theorem witness_PortsAreEnabledAndLinksFollowTheirPartners_15 :
    ∃ (q : Fin 4) (l : Fin 4) (signal : Bool) (s : State), s.isLit (lnqId q) = true ∧ s.bit (A.lnqLaneStatus q l)
    F.lnqLaneStatus_in_use = true ∧ signal = true :=
  ⟨3, 3, true, put [(A.lnqLaneStatus 3 3, F.lnqLaneStatus_in_use, 1)] lit, by decide +kernel⟩

theorem witness_PortsAreEnabledAndLinksFollowTheirPartners_16 :
    ∃ (q : Fin 4) (l : Fin 4) (signal : Bool) (s : State), s.isLit (lnqId q) = true ∧ s.bit (A.lnqLaneStatus q l)
    F.lnqLaneStatus_in_use = true ∧ signal = false :=
  ⟨3, 3, false, put [(A.lnqLaneStatus 3 3, F.lnqLaneStatus_in_use, 1)] lit, by decide +kernel⟩

theorem witness_PortsAreEnabledAndLinksFollowTheirPartners_17 :
    ∃ (p : Fin 16) (s : State), s.portLive p = true ∧ s.runsAn p = true :=
  ⟨15, put [(pCfg 15, F.lnqPortCfg_an_en, 1)] (on17 15 1 lit), by decide +kernel⟩

theorem witness_PortsAreEnabledAndLinksFollowTheirPartners_19 :
    ∃ (p : Fin 16) (s : State), s.portLive p = true ∧ s.runsAn p = true ∧ s.linkUp p = true ∧ s.wireSettled p :=
  ⟨15, put [(pStat 15, F.lnqPortStatus_link_up, 1)] (put [(pCfg 15, F.lnqPortCfg_an_en, 1)] (on17 15 1 lit)), by
    refine ⟨?_, ?_, ?_, (fun _ h => nomatch (show (none : Option WireFrame) = some _ from h))⟩ <;> (try unfold State.wireSettled) <;> decide +kernel⟩

theorem witness_PortsAreEnabledAndLinksFollowTheirPartners_20 :
    ∃ (p : Fin 16) (link : Bool) (full : Bool) (s : State), s.portLive p = true ∧ s.pMode p = 2 ∧ ((link && full) = true ∨
    s.linkUp p = false) :=
  ⟨15, true, true, on17 15 2 lit, by
    refine ⟨?_, ?_, Or.inl (by decide +kernel)⟩ <;> decide +kernel⟩

theorem witness_PortsAreEnabledAndLinksFollowTheirPartners_21 :
    ∃ (p : Fin 16) (link : Bool) (full : Bool) (s : State), s.portLive p = true ∧ s.pMode p = 2 ∧ (link && full) = false ∧
    s.linkUp p = true ∧ s.wireSettled p :=
  ⟨15, false, true, put [(pStat 15, F.lnqPortStatus_link_up, 1)] (on17 15 2 lit), by
    refine ⟨?_, ?_, ?_, ?_, (fun _ h => nomatch (show (none : Option WireFrame) = some _ from h))⟩ <;> (try unfold State.wireSettled) <;> decide +kernel⟩

theorem witness_PortsAreEnabledAndLinksFollowTheirPartners_22 :
    ∃ (p : Fin 16) (s : State), s.portLive p = true ∧ s.pMode p ≠ 5 ∧ (!s.bit (pStat p) F.lnqPortStatus_duplex_err &&
    (s.portLanes p).all (fun l => s.lane p l F.lnqLaneStatus_sym_lock) && (!s.runsAn p || s.bit (pStat p)
    F.lnqPortStatus_an_done) && (s.pMode p != 2 || (s.port p).sgmiiLink) && (s.pMode p != 4 || !s.bit (pStat p)
    F.lnqPortStatus_local_fault) : Bool) = true ∧ ((s.port p).goodAt.any (fun g => g + 10000000 ≤ s.elapsed) : Bool) = true ∧
    s.linkUp p = false :=
  ⟨15, (let s := later 10000000 (put [(A.lnqLaneStatus 3 3, F.lnqLaneStatus_sym_lock, 1), (pStat 15, F.lnqPortStatus_an_done,
    1)] (on17 15 3 lit)); s.setPort 15 { s.port 15 with goodAt := some 0 }), by decide +kernel⟩

theorem witness_PortsAreEnabledAndLinksFollowTheirPartners_23 :
    ∃ (p : Fin 16) (s : State), s.portLive p = true ∧ s.pMode p ≠ 5 ∧ ((!s.bit (pStat p) F.lnqPortStatus_duplex_err &&
    (s.portLanes p).all (fun l => s.lane p l F.lnqLaneStatus_sym_lock) && (!s.runsAn p || s.bit (pStat p)
    F.lnqPortStatus_an_done) && (s.pMode p != 2 || (s.port p).sgmiiLink) && (s.pMode p != 4 || !s.bit (pStat p)
    F.lnqPortStatus_local_fault) : Bool) = false ∨ ((s.port p).goodAt.any (fun g => g + 10000000 ≤ s.elapsed) : Bool) =
    false) :=
  ⟨15, on17 15 3 lit, by
    refine ⟨?_, ?_, Or.inl (by decide +kernel)⟩ <;> decide +kernel⟩

theorem witness_PortsAreEnabledAndLinksFollowTheirPartners_24 :
    ∃ (p : Fin 16) (s : State), s.portLive p = true ∧ s.pMode p ≠ 5 ∧ s.linkUp p = true ∧ s.wireSettled p :=
  ⟨15, put [(pStat 15, F.lnqPortStatus_link_up, 1)] (on17 15 3 lit), by
    refine ⟨?_, ?_, ?_, (fun _ h => nomatch (show (none : Option WireFrame) = some _ from h))⟩ <;> (try unfold State.wireSettled) <;> decide +kernel⟩

theorem witness_PortsAreEnabledAndLinksFollowTheirPartners_25 :
    ∃ (p : Fin 16) (s : State), s.portLive p = true ∧ s.pMode p ≠ 5 ∧ s.linkUp p = false :=
  ⟨15, on17 15 3 lit, by decide +kernel⟩

theorem witness_PortsAreEnabledAndLinksFollowTheirPartners_26 :
    ∃ (p : Fin 16) (s : State), s.portLive p = true ∧ s.pMode p = 4 :=
  ⟨12, on17 12 4 lit, by decide +kernel⟩

theorem witness_PortsAreEnabledAndLinksFollowTheirPartners_27 :
    ∃ (p : Fin 16) (s : State), s.portLive p = true ∧ 10 ≤ (((s.port p).flaps.filter (fun t => s.elapsed < t +
    nsPerSec)).length) ∧ s.linkUp p = false :=
  ⟨15, (on17 15 1 lit).setPort 15 { PortState.init with flaps := List.replicate 10 0 }, by decide +kernel⟩

theorem witness_PortsAreEnabledAndLinksFollowTheirPartners_28 :
    ∃ (p : Fin 16) (s : State), s.portLive p = true ∧ 10 ≤ (((s.port p).flaps.filter (fun t => s.elapsed < t +
    nsPerSec)).length) ∧ s.linkUp p = true ∧ s.wireSettled p :=
  ⟨15, (put [(pStat 15, F.lnqPortStatus_link_up, 1)] (on17 15 1 lit)).setPort 15
    { PortState.init with flaps := List.replicate 10 0 }, by
    refine ⟨?_, ?_, ?_, (fun _ h => nomatch (show (none : Option WireFrame) = some _ from h))⟩ <;> (try unfold State.wireSettled) <;> decide +kernel⟩

theorem witness_PortsAreEnabledAndLinksFollowTheirPartners_29 :
    ∃ (p : Fin 16) (s : State), s.portLive p = true ∧ (((s.port p).flaps.filter (fun t => s.elapsed < t + nsPerSec)).length)
    < 10 :=
  ⟨15, on17 15 1 lit, by decide +kernel⟩

theorem witness_PortsAreEnabledAndLinksFollowTheirPartners_30 :
    ∃ (p : Fin 16) (s : State), s.portOn p = true ∧ s.pHold p = true ∧ (s.port p).holdEnd ≤ s.elapsed :=
  ⟨15, put [(pStat 15, F.lnqPortStatus_holdoff, 1)] (on17 15 1 lit), by decide +kernel⟩

theorem witness_PortsAreEnabledAndLinksFollowTheirPartners_31 :
    ∃ (p : Fin 16) (s : State), s.portOn p = true ∧ s.pHold p = true ∧ s.elapsed < (s.port p).holdEnd :=
  ⟨15, (put [(pStat 15, F.lnqPortStatus_holdoff, 1)] (on17 15 1 lit)).setPort 15 { PortState.init with holdEnd := 9 },
    by decide +kernel⟩

/-- Port 15 with its link up, or its record changed. -/
def up17 (mode : Nat) (s : State := lit) : State := put [(pStat 15, F.lnqPortStatus_link_up, 1)] (on17 15 mode s)
def port15 (f : PortState → PortState) (s : State) : State := s.setPort 15 (f (s.port 15))
def pauses : State := put [(A.lnqPortPause 3 3, F.lnqPortPause_tx_en, 1)] lit
def wire15 : WireFrame := ⟨List.replicate 60 255, none, false, 0⟩
def cuffed (c : Nat) (n : Nat) (s : State) : State :=
  { s with time := { s.time with cuffs := [(c, ⟨List.replicate n ⟨0, 0, 0, false, false, false⟩, false⟩)] } }

theorem witness_FramesAreCountedPausedAndStamped_1 :
    ∃ (p : Fin 16) (bad : List (Fin 4 × Bool)) (es : Bool) (s : State), s.portLive p = true ∧ s.linkUp p = true ∧ (s.pMode p
    ≠ 5 ∨ s.klState p = 4) ∧ (es = true ∨ bad.any (·.2) = true) :=
  ⟨15, [], true, up17 3, by
    refine ⟨?_, ?_, Or.inl (by decide +kernel), Or.inl rfl⟩ <;> decide +kernel⟩

theorem witness_FramesAreCountedPausedAndStamped_2 :
    ∃ (p : Fin 16) (bad : List (Fin 4 × Bool)) (s : State) (l : _) (b : _), s.portLive p = true ∧ s.linkUp p = true ∧
    (s.pMode p ≠ 5 ∨ s.klState p = 4) ∧ bad = [(l, b)] :=
  ⟨15, [(2, false)], up17 3, 2, false, by
    refine ⟨?_, ?_, Or.inl (by decide +kernel), ?_⟩ <;> decide +kernel⟩

theorem witness_FramesAreCountedPausedAndStamped_3 :
    ∃ (p : Fin 16) (f : List Byte) (bad : List (Fin 4 × Bool)) (es : Bool) (s : State), s.portLive p = true ∧ s.linkUp p =
    true ∧ (s.pMode p ≠ 5 ∨ s.klState p = 4) ∧ (bad.isEmpty && !es : Bool) = true ∧ 16384 ≤ f.length :=
  ⟨15, List.replicate 16384 0, [], false, up17 3, by
    refine ⟨?_, ?_, Or.inl (by decide +kernel), ?_, ?_⟩ <;> decide +kernel⟩

theorem witness_FramesAreCountedPausedAndStamped_4 :
    ∃ (p : Fin 16) (f : List Byte) (bad : List (Fin 4 × Bool)) (es : Bool) (s : State), s.portLive p = true ∧ s.linkUp p =
    true ∧ (s.pMode p ≠ 5 ∨ s.klState p = 4) ∧ (bad.isEmpty && !es : Bool) = true ∧ f.length < 64 :=
  ⟨15, [], [], false, up17 3, by
    refine ⟨?_, ?_, Or.inl (by decide +kernel), ?_, ?_⟩ <;> decide +kernel⟩

theorem witness_FramesAreCountedPausedAndStamped_5 :
    ∃ (p : Fin 16) (f : List Byte) (bad : List (Fin 4 × Bool)) (es : Bool) (s : State), s.portLive p = true ∧ s.linkUp p =
    true ∧ (s.pMode p ≠ 5 ∨ s.klState p = 4) ∧ (bad.isEmpty && !es : Bool) = true ∧ s.maxLen p < f.length ∧ f.length < 16384
    ∧ 64 ≤ f.length :=
  ⟨15, List.replicate 9601 0, [], false, up17 3, by
    refine ⟨?_, ?_, Or.inl (by decide +kernel), ?_, ?_, ?_, ?_⟩ <;> decide +kernel⟩

theorem witness_FramesAreCountedPausedAndStamped_6 :
    ∃ (p : Fin 16) (f : List Byte) (bad : List (Fin 4 × Bool)) (es : Bool) (s : State), s.portLive p = true ∧ s.linkUp p =
    true ∧ (s.pMode p ≠ 5 ∨ s.klState p = 4) ∧ (bad.isEmpty && !es : Bool) = true ∧ 64 ≤ f.length ∧ f.length ≤ s.maxLen p ∧
    (fcsOk f) = false :=
  ⟨15, (([2] : List Byte) ++ List.replicate 59 0 ++ [86, 146, 196, 74]), [], false, up17 3, by
    refine ⟨?_, ?_, Or.inl (by decide +kernel), ?_, ?_, ?_, ?_⟩ <;> decide +kernel⟩

theorem witness_FramesAreCountedPausedAndStamped_7 :
    ∃ (p : Fin 16) (f : List Byte) (bad : List (Fin 4 × Bool)) (es : Bool) (s : State), s.portLive p = true ∧ s.linkUp p =
    true ∧ (s.pMode p ≠ 5 ∨ s.klState p = 4) ∧ ((bad.isEmpty && !es : Bool) && decide (64 ≤ f.length) && decide (f.length ≤
    s.maxLen p) && (fcsOk f) : Bool) = true ∧ (beAt f 12 2 == 0x8808 : Bool) = false ∧ s.secured p false = false ∧ (((fun (t
    : State) => Tbl.get (fun _ => []) t.rxFifo p) s).foldl (fun a f => a + f.bytes.length) 0) + (f.length - 4) ≤ 262144 :=
  ⟨15, (([2] : List Byte) ++ List.replicate 59 0 ++ [87, 146, 196, 74]), [], false, up17 3, by
    refine ⟨?_, ?_, Or.inl (by decide +kernel), ?_, ?_, ?_, ?_⟩ <;> decide +kernel⟩

theorem witness_FramesAreCountedPausedAndStamped_8 :
    ∃ (p : Fin 16) (f : List Byte) (bad : List (Fin 4 × Bool)) (es : Bool) (s : State), s.portLive p = true ∧ s.linkUp p =
    true ∧ (s.pMode p ≠ 5 ∨ s.klState p = 4) ∧ ((bad.isEmpty && !es : Bool) && decide (64 ≤ f.length) && decide (f.length ≤
    s.maxLen p) && (fcsOk f) : Bool) = true ∧ (beAt f 12 2 == 0x8808 : Bool) = false ∧ s.secured p false = false ∧ 262144 <
    (((fun (t : State) => Tbl.get (fun _ => []) t.rxFifo p) s).foldl (fun a f => a + f.bytes.length) 0) + (f.length - 4) :=
  ⟨15, (([2] : List Byte) ++ List.replicate 59 0 ++ [87, 146, 196, 74]), [], false, received 15 ⟨List.replicate 262085 0, 0,
    false, 0⟩ (up17 3), by
    refine ⟨?_, ?_, Or.inl (by decide +kernel), ?_, ?_, ?_, ?_⟩ <;> decide +kernel⟩

theorem witness_FramesAreCountedPausedAndStamped_9 :
    ∃ (p : Fin 16) (f : List Byte) (bad : List (Fin 4 × Bool)) (es : Bool) (s : State), s.portLive p = true ∧ s.linkUp p =
    true ∧ (s.pMode p ≠ 5 ∨ s.klState p = 4) ∧ ((bad.isEmpty && !es : Bool) && decide (64 ≤ f.length) && decide (f.length ≤
    s.maxLen p) && (fcsOk f) : Bool) = true ∧ (beAt f 12 2 == 0x8808 : Bool) = false ∧ s.secured p false = true ∧ s.isLit 10
    = true :=
  ⟨15, (([2] : List Byte) ++ List.replicate 59 0 ++ [87, 146, 196, 74]), [], false, put [(A.cipMsecSaW0 0,
    F.cipMsecSaW0_valid, 1), (A.cipMsecSaW0 0, F.cipMsecSaW0_dir, 0), (A.cipMsecSaW0 0, F.cipMsecSaW0_port, 15)] (up17 3), by
    refine ⟨?_, ?_, Or.inl (by decide +kernel), ?_, ?_, ?_, ?_⟩ <;> decide +kernel⟩

theorem witness_FramesAreCountedPausedAndStamped_10 :
    ∃ (p : Fin 16) (f : List Byte) (bad : List (Fin 4 × Bool)) (es : Bool) (s : State), s.portLive p = true ∧ s.linkUp p =
    true ∧ (s.pMode p ≠ 5 ∨ s.klState p = 4) ∧ ((bad.isEmpty && !es : Bool) && decide (64 ≤ f.length) && decide (f.length ≤
    s.maxLen p) && (fcsOk f) : Bool) = true ∧ (beAt f 12 2 == 0x8808 : Bool) = false ∧ s.secured p false = true ∧ s.isLit 10
    = false :=
  ⟨15, (([2] : List Byte) ++ List.replicate 59 0 ++ [87, 146, 196, 74]), [], false,
    { up17 3 with pwr := Tbl.set (fun _ => IslandPwr.init) 10 IslandPwr.init (up17 3).pwr, cip := { (up17 3).cip with needRx := 0x8000, needTx := 0x8000 } },
    by
    refine ⟨?_, ?_, Or.inl (by decide +kernel), ?_, ?_, ?_, ?_⟩ <;> decide +kernel⟩

theorem witness_FramesAreCountedPausedAndStamped_11 :
    ∃ (p : Fin 16) (f : List Byte) (bad : List (Fin 4 × Bool)) (es : Bool) (s : State), s.portLive p = true ∧ s.linkUp p =
    true ∧ (s.pMode p ≠ 5 ∨ s.klState p = 4) ∧ ((bad.isEmpty && !es : Bool) && decide (64 ≤ f.length) && decide (f.length ≤
    s.maxLen p) && (fcsOk f) : Bool) = true ∧ (beAt f 12 2 == 0x8808 : Bool) = true ∧ (beAt f 14 2 == 1 && (f.take 6 ==
    [0x01, 0x80, 0xC2, 0x00, 0x00, 0x01] || !(f.getD 0 0).getLsbD 0) : Bool) = true :=
  ⟨15, (([1, 128, 194, 0, 0, 1, 2, 0, 0, 0, 0, 9, 136, 8, 0, 1, 0, 7] : List Byte) ++ List.replicate 42 0 ++ [231, 188, 80,
    41]), [], false, up17 3, by
    refine ⟨?_, ?_, Or.inl (by decide +kernel), ?_, ?_, ?_⟩ <;> decide +kernel⟩

theorem witness_FramesAreCountedPausedAndStamped_12 :
    ∃ (p : Fin 16) (f : List Byte) (bad : List (Fin 4 × Bool)) (es : Bool) (s : State), s.portLive p = true ∧ s.linkUp p =
    true ∧ (s.pMode p ≠ 5 ∨ s.klState p = 4) ∧ ((bad.isEmpty && !es : Bool) && decide (64 ≤ f.length) && decide (f.length ≤
    s.maxLen p) && (fcsOk f) : Bool) = true ∧ (beAt f 12 2 == 0x8808 : Bool) = true ∧ (beAt f 14 2 == 1 && (f.take 6 ==
    [0x01, 0x80, 0xC2, 0x00, 0x00, 0x01] || !(f.getD 0 0).getLsbD 0) : Bool) = false :=
  ⟨15, (([1, 128, 194, 0, 0, 1, 2, 0, 0, 0, 0, 9, 136, 8, 1, 1, 0, 7] : List Byte) ++ List.replicate 42 0 ++ [116, 39, 153,
    86]), [], false, up17 3, by
    refine ⟨?_, ?_, Or.inl (by decide +kernel), ?_, ?_, ?_⟩ <;> decide +kernel⟩

theorem witness_FramesAreCountedPausedAndStamped_13 :
    ∃ (p : Fin 16) (s : State), (s.portLive p = false ∨ s.linkUp p = false) :=
  ⟨15, lit, Or.inl (by decide +kernel)⟩

theorem witness_FramesAreCountedPausedAndStamped_14 :
    ∃ (p : Fin 16) (q : Nat) (rest : List Nat) (s : State), s.portLitAt p = true ∧ (s.port p).pauseIn = q :: rest ∧
    (!s.pauseRx p || decide (min 100 (s.fld (A.lnqPortPause (p / 4) (p % 4)) F.lnqPortPause_budget) * 1000000 ≤ s.pausedTime
    p) : Bool) = true :=
  ⟨15, 65535, [], port15 (fun x => { x with pauseIn := [65535] }) (put [(A.lnqPortPause 3 3, F.lnqPortPause_budget, 0)] lit),
    by decide +kernel⟩

theorem witness_FramesAreCountedPausedAndStamped_15 :
    ∃ (p : Fin 16) (q : Nat) (rest : List Nat) (s : State), s.portLitAt p = true ∧ (s.port p).pauseIn = q :: rest ∧
    (!s.pauseRx p || decide (min 100 (s.fld (A.lnqPortPause (p / 4) (p % 4)) F.lnqPortPause_budget) * 1000000 ≤ s.pausedTime
    p) : Bool) = false :=
  ⟨15, 65535, [], port15 (fun x => { x with pauseIn := [65535] }) lit, by decide +kernel⟩

theorem witness_FramesAreCountedPausedAndStamped_16 :
    ∃ (p : Fin 16) (e : Nat) (s : State), s.portLitAt p = true ∧ (s.port p).pauseEnd = some e ∧ e ≤ s.elapsed :=
  ⟨15, 0, port15 (fun x => { x with pauseEnd := some 0 }) lit, by decide +kernel⟩

theorem witness_FramesAreCountedPausedAndStamped_17 :
    ∃ (p : Fin 16) (e : Nat) (s : State), s.portLitAt p = true ∧ (s.port p).pauseEnd = some e ∧ s.elapsed < e :=
  ⟨15, 7, port15 (fun x => { x with pauseEnd := some 7 }) lit, by decide +kernel⟩

theorem witness_FramesAreCountedPausedAndStamped_18 :
    ∃ (p : Fin 16) (s : State), s.portLive p = true ∧ s.linkUp p = true ∧ s.pauseTx p = true ∧ (s.port p).tx = none ∧ (s.port
    p).xoffSent = false ∧ (1024 * s.fld (A.lnqPortFlow (p / 4) (p % 4)) F.lnqPortFlow_xoff) < s.rxFill p :=
  ⟨15, received 15 ⟨List.replicate 1024 0, 0, false, 0⟩ (up17 1 (put [(A.lnqPortFlow 3 3, F.lnqPortFlow_xoff, 0),
    (A.lnqPortFlow 3 3, F.lnqPortFlow_xon, 0)] pauses)), by decide +kernel⟩

theorem witness_FramesAreCountedPausedAndStamped_19 :
    ∃ (p : Fin 16) (s : State), s.portLive p = true ∧ s.linkUp p = true ∧ s.pauseTx p = true ∧ (s.port p).tx = none ∧ (s.port
    p).xoffSent = false ∧ s.rxFill p ≤ (1024 * s.fld (A.lnqPortFlow (p / 4) (p % 4)) F.lnqPortFlow_xoff) :=
  ⟨15, received 15 ⟨List.replicate 1024 0, 0, false, 0⟩ (up17 1 (put [(A.lnqPortFlow 3 3, F.lnqPortFlow_xoff, 1),
    (A.lnqPortFlow 3 3, F.lnqPortFlow_xon, 0)] pauses)), by decide +kernel⟩

theorem witness_FramesAreCountedPausedAndStamped_20 :
    ∃ (p : Fin 16) (s : State), s.portLive p = true ∧ s.linkUp p = true ∧ s.pauseTx p = true ∧ (s.port p).tx = none ∧ (s.port
    p).xoffSent = true ∧ s.rxFill p < (1024 * s.fld (A.lnqPortFlow (p / 4) (p % 4)) F.lnqPortFlow_xon) :=
  ⟨15, port15 (fun x => { x with xoffSent := true }) (up17 1 (put [(A.lnqPortFlow 3 3, F.lnqPortFlow_xoff, 2), (A.lnqPortFlow
    3 3, F.lnqPortFlow_xon, 1)] pauses)), by decide +kernel⟩

theorem witness_FramesAreCountedPausedAndStamped_21 :
    ∃ (p : Fin 16) (s : State), s.portLive p = true ∧ s.linkUp p = true ∧ s.pauseTx p = true ∧ (s.port p).tx = none ∧ (s.port
    p).xoffSent = true ∧ (1024 * s.fld (A.lnqPortFlow (p / 4) (p % 4)) F.lnqPortFlow_xon) < s.rxFill p ∧ (s.port p).pauseAt +
    (0xFFFF * 256 * 1000 / max 1 (s.portMbps p)) ≤ s.elapsed :=
  ⟨15, later 99999999 (port15 (fun x => { x with xoffSent := true }) (received 15 ⟨List.replicate 1024 0, 0, false, 0⟩ (up17
    1 (put [(A.lnqPortFlow 3 3, F.lnqPortFlow_xoff, 2), (A.lnqPortFlow 3 3, F.lnqPortFlow_xon, 0)] pauses)))),
    by decide +kernel⟩

theorem witness_FramesAreCountedPausedAndStamped_22 :
    ∃ (p : Fin 16) (s : State), s.portLive p = true ∧ s.linkUp p = true ∧ s.pauseTx p = true ∧ (s.port p).tx = none ∧
    (s.rxFill p ≤ (1024 * s.fld (A.lnqPortFlow (p / 4) (p % 4)) F.lnqPortFlow_xon) ∨ s.elapsed < (s.port p).pauseAt + (0xFFFF
    * 256 * 1000 / max 1 (s.portMbps p))) :=
  ⟨15, received 15 ⟨List.replicate 1024 0, 0, false, 0⟩ (up17 1 (put [(A.lnqPortFlow 3 3, F.lnqPortFlow_xoff, 2),
    (A.lnqPortFlow 3 3, F.lnqPortFlow_xon, 1)] pauses)), by
    refine ⟨?_, ?_, ?_, ?_, Or.inl (by decide +kernel)⟩ <;> decide +kernel⟩

theorem witness_FramesAreCountedPausedAndStamped_23 :
    ∃ (p : Fin 16) (buffered : Nat) (f : List Byte) (rest : List (List Byte)) (s : State), (s.port p).txq = f :: rest ∧
    (s.portLive p && s.linkUp p && !s.onWire p && !s.paused p && (s.pMode p != 5 || s.klState p == 4) && !s.bit (pStat p)
    F.lnqPortStatus_local_fault && (s.pMode p != 4 || !s.bit (pStat p) F.lnqPortStatus_remote_fault) && (decide ((s.fld
    (A.lnqPortTx (p / 4) (p % 4)) F.lnqPortTx_start_thresh) ≤ buffered) || decide (f.length ≤ buffered)) && (!s.secured p
    true || s.isLit 10) : Bool) = false :=
  ⟨15, 0, [1, 2], [], port15 (fun x => { x with txq := [[1, 2]] }) lit, by decide +kernel⟩

theorem witness_FramesAreCountedPausedAndStamped_24 :
    ∃ (p : Fin 16) (buffered : Nat) (f : List Byte) (rest : List (List Byte)) (s : State), (s.port p).txq = f :: rest ∧
    ((s.portLive p && s.linkUp p && !s.onWire p && !s.paused p && (s.pMode p != 5 || s.klState p == 4) && !s.bit (pStat p)
    F.lnqPortStatus_local_fault && (s.pMode p != 4 || !s.bit (pStat p) F.lnqPortStatus_remote_fault) && (decide ((s.fld
    (A.lnqPortTx (p / 4) (p % 4)) F.lnqPortTx_start_thresh) ≤ buffered) || decide (f.length ≤ buffered)) && (!s.secured p
    true || s.isLit 10) : Bool) && !s.secured p true && (s.pMode p != 5 || decide (f.length + 4 ≤ s.maxLen p)) : Bool) = true
    ∧ (s.port p).tx = none :=
  ⟨15, 0, [1, 2], [], port15 (fun x => { x with txq := [[1, 2]] }) (put [(A.lnqPortTx 3 3, F.lnqPortTx_start_thresh, 0)]
    (up17 1)), by decide +kernel⟩

theorem witness_FramesAreCountedPausedAndStamped_25 :
    ∃ (p : Fin 16) (buffered : Nat) (f : List Byte) (rest : List (List Byte)) (s : State) (g : _), (s.port p).txq = f :: rest
    ∧ ((s.portLive p && s.linkUp p && !s.onWire p && !s.paused p && (s.pMode p != 5 || s.klState p == 4) && !s.bit (pStat p)
    F.lnqPortStatus_local_fault && (s.pMode p != 4 || !s.bit (pStat p) F.lnqPortStatus_remote_fault) && (decide ((s.fld
    (A.lnqPortTx (p / 4) (p % 4)) F.lnqPortTx_start_thresh) ≤ buffered) || decide (f.length ≤ buffered)) && (!s.secured p
    true || s.isLit 10) : Bool) && !s.secured p true && (s.pMode p != 5 || decide (f.length + 4 ≤ s.maxLen p)) : Bool) = true
    ∧ (s.port p).tx = some g ∧ g.erased = false :=
  ⟨15, 2, [1, 2], [], port15 (fun x => { x with tx := some wire15 }) (port15 (fun x => { x with txq := [[1, 2]] }) (up17 1)),
    wire15, by decide +kernel⟩

theorem witness_FramesAreCountedPausedAndStamped_26 :
    ∃ (p : Fin 16) (buffered : Nat) (f : List Byte) (rest : List (List Byte)) (s : State), (s.port p).txq = f :: rest ∧
    (s.portLive p && s.linkUp p && !s.onWire p && !s.paused p && (s.pMode p != 5 || s.klState p == 4) && !s.bit (pStat p)
    F.lnqPortStatus_local_fault && (s.pMode p != 4 || !s.bit (pStat p) F.lnqPortStatus_remote_fault) && (decide ((s.fld
    (A.lnqPortTx (p / 4) (p % 4)) F.lnqPortTx_start_thresh) ≤ buffered) || decide (f.length ≤ buffered)) && (!s.secured p
    true || s.isLit 10) : Bool) = true ∧ s.pMode p = 5 ∧ s.maxLen p < f.length + 4 ∧ (s.port p).tx = none :=
  ⟨15, 0, List.replicate 9597 0, [], port15 (fun x => { x with txq := [List.replicate 9597 0] }) (put [(A.lnqPortTx 3 3,
    F.lnqPortTx_start_thresh, 0), (pStat 15, F.lnqPortStatus_kl_state, 4)] (up17 5)), by decide +kernel⟩

theorem witness_FramesAreCountedPausedAndStamped_27 :
    ∃ (p : Fin 16) (buffered : Nat) (f : List Byte) (rest : List (List Byte)) (s : State), (s.port p).txq = f :: rest ∧
    (s.portLive p && s.linkUp p && !s.onWire p && !s.paused p && (s.pMode p != 5 || s.klState p == 4) && !s.bit (pStat p)
    F.lnqPortStatus_local_fault && (s.pMode p != 4 || !s.bit (pStat p) F.lnqPortStatus_remote_fault) && (decide ((s.fld
    (A.lnqPortTx (p / 4) (p % 4)) F.lnqPortTx_start_thresh) ≤ buffered) || decide (f.length ≤ buffered)) && (!s.secured p
    true || s.isLit 10) : Bool) = true ∧ s.secured p true = true ∧ s.txSa p = none ∧ s.pMode p ≠ 5 ∧ (s.port p).tx = none :=
  ⟨15, 0, [1, 2], [], port15 (fun x => { x with txq := [[1, 2]] }) (put [(A.cipMsecSaW0 0, F.cipMsecSaW0_valid, 1),
    (A.cipMsecSaW0 0, F.cipMsecSaW0_dir, 1), (A.cipMsecSaW0 0, F.cipMsecSaW0_port, 15), (A.cipMsecSaW0 0, F.cipMsecSaW0_an,
    1)] (put [(A.lnqPortTx 3 3, F.lnqPortTx_start_thresh, 0)] (up17 1))), by decide +kernel⟩

theorem witness_FramesAreCountedPausedAndStamped_28 :
    ∃ (p : Fin 16) (g : WireFrame) (s : State), s.portLitAt p = true ∧ (s.port p).tx = some g ∧ s.elapsed < g.ends :=
  ⟨15, { wire15 with ends := 1 }, port15 (fun x => { x with tx := some { wire15 with ends := 1 } }) lit, by decide +kernel⟩

theorem witness_FramesAreCountedPausedAndStamped_29 :
    ∃ (p : Fin 16) (g : WireFrame) (s : State), s.portLitAt p = true ∧ (s.port p).tx = some g ∧ g.ends ≤ s.elapsed :=
  ⟨15, wire15, port15 (fun x => { x with tx := some wire15 }) lit, by decide +kernel⟩

theorem witness_FramesAreCountedPausedAndStamped_30 :
    ∃ (who : Requester) (p : Fin 16) (s : State), s.portLitAt p = true ∧ isAnyCore who = true :=
  ⟨.core 0, 15, lit, by decide +kernel⟩

theorem witness_FramesAreCountedPausedAndStamped_31 :
    ∃ (who : Requester) (p : Fin 16) (s : State), s.portLitAt p = true ∧ isAnyCore who = false :=
  ⟨.dma 0, 15, lit, by decide +kernel⟩

theorem witness_FramesAreCountedPausedAndStamped_32 :
    ∃ (who : Requester) (q : Fin 4) (l : Fin 4) (s : State), s.isLit (lnqId q) = true ∧ isCudom who = true ∧ (s.mode.mode =
    .test ∨ (s.bit (A.lnqLaneStatus q l) F.lnqLaneStatus_in_use) = false) :=
  ⟨.glove 0, 3, 3, moded .test lit, by
    refine ⟨?_, ?_, Or.inl (by decide +kernel)⟩ <;> decide +kernel⟩

theorem witness_FramesAreCountedPausedAndStamped_33 :
    ∃ (who : Requester) (q : Fin 4) (l : Fin 4) (s : State), s.isLit (lnqId q) = true ∧ isCudom who = true ∧ s.mode.mode ≠
    .test ∧ (s.bit (A.lnqLaneStatus q l) F.lnqLaneStatus_in_use) = true :=
  ⟨.glove 0, 3, 3, put [(A.lnqLaneStatus 3 3, F.lnqLaneStatus_in_use, 1)] lit, by decide +kernel⟩

theorem witness_FramesAreCountedPausedAndStamped_34 :
    ∃ (who : Requester) (q : Fin 4) (s : State), s.isLit (lnqId q) = true ∧ isCudom who = false :=
  ⟨.core 0, 3, lit, by decide +kernel⟩

theorem witness_FramesAreCountedPausedAndStamped_35 :
    ∃ (p : Fin 16) (s : State), s.portLitAt p = true :=
  ⟨15, lit, by decide +kernel⟩

theorem witness_FramesAreCountedPausedAndStamped_36 :
    ∃ (c : Fin 11) (k : Fin 19) (id : Fin 65536) (s : State), (if (decide (k.val < 16) : Bool) then s.portOn k && s.fld (pCfg
    k) F.lnqPortCfg_cuff == c.val else c.val + 8 == k.val && !((((s.rd (k - 16)).last).any (fun d => d.frameId == id.val) :
    Bool) && ((s.rd (k - 16)).last).any (fun d => d.status != ST.ok && !d.aborted) : Bool) : Bool) = true ∧ (!s.isLit 2 ||
    decide (16 ≤ (s.cuff c).entries.length) : Bool) = true :=
  ⟨7, 15, 511, cuffed 7 16 (put [(pCfg 15, F.lnqPortCfg_cuff, 7)] (up17 1)), by decide +kernel⟩

theorem witness_FramesAreCountedPausedAndStamped_37 :
    ∃ (c : Fin 11) (k : Fin 19) (id : Fin 65536) (s : State), (if (decide (k.val < 16) : Bool) then s.portOn k && s.fld (pCfg
    k) F.lnqPortCfg_cuff == c.val else c.val + 8 == k.val && !((((s.rd (k - 16)).last).any (fun d => d.frameId == id.val) :
    Bool) && ((s.rd (k - 16)).last).any (fun d => d.status != ST.ok && !d.aborted) : Bool) : Bool) = true ∧ (!s.isLit 2 ||
    decide (16 ≤ (s.cuff c).entries.length) : Bool) = false :=
  ⟨10, 18, 511, cuffed 10 15 lit, by decide +kernel⟩

theorem witness_FramesAreCountedPausedAndStamped_38 :
    ∃ (c : Fin 11) (k : Fin 19) (id : Fin 65536) (s : State), (if (decide (k.val < 16) : Bool) then s.portOn k && s.fld (pCfg
    k) F.lnqPortCfg_cuff == c.val else c.val + 8 == k.val && !((((s.rd (k - 16)).last).any (fun d => d.frameId == id.val) :
    Bool) && ((s.rd (k - 16)).last).any (fun d => d.status != ST.ok && !d.aborted) : Bool) : Bool) = false :=
  ⟨9, 18, 511, lit, by decide +kernel⟩

theorem witness_FramesAreCountedPausedAndStamped_39 :
    ∃ (who : Requester) (c : Fin 11) (s : State), s.isLit 2 = true ∧ isAnyCore who = true ∧ (s.cuff c).entries.length ≤ 16 :=
  ⟨.core 0, 10, cuffed 10 16 lit, by decide +kernel⟩

theorem witness_FramesAreCountedPausedAndStamped_40 :
    ∃ (who : Requester) (s : State), s.isLit 2 = true ∧ isAnyCore who = false :=
  ⟨.dma 0, lit, by decide +kernel⟩

theorem witness_FramesAreCountedPausedAndStamped_41 :
    ∃ (s : State), s.isLit 2 = true :=
  ⟨lit, by decide +kernel⟩

theorem witness_FramesAreCountedPausedAndStamped_42 :
    ∃ (y : Int), -(65536 * 1000000000) ≤ y :=
  ⟨-(65536 * 1000000000), by decide +kernel⟩

theorem witness_FramesAreCountedPausedAndStamped_43 :
    ∃ (who : Requester) (s : State), s.isLit 2 = true ∧ isAnyCore who = true ∧ (s.fld A.timeCtl F.timeCtl_servo_mode == 1 &&
    !s.bit A.timeCtl F.timeCtl_src : Bool) = false :=
  ⟨.core 0, lit, by decide +kernel⟩

theorem witness_FramesAreCountedPausedAndStamped_44 :
    ∃ (who : Requester) (w : Word) (s : State), s.isLit 2 = true ∧ isAnyCore who = true ∧ (s.fld A.timeCtl
    F.timeCtl_servo_mode == 1 && !s.bit A.timeCtl F.timeCtl_src : Bool) = true ∧ (s.bit A.timeCtl F.timeCtl_step_en && decide
    (s.stepThresh < (if (signed 32 (s.reg A.timeOffsetNs).toNat * 65536 + ((w.toNat / 65536 : Nat) : Int) : Int) < 0 then
    -(signed 32 (s.reg A.timeOffsetNs).toNat * 65536 + ((w.toNat / 65536 : Nat) : Int) : Int) else (signed 32 (s.reg
    A.timeOffsetNs).toNat * 65536 + ((w.toNat / 65536 : Nat) : Int) : Int) : Int)) : Bool) = true :=
  ⟨.core 0, 0xffffffff, put [(A.timeOffsetNs, F.timeOffsetNs_offset_ns, 0x7FFFFFFF), (A.timeCtl, F.timeCtl_step_en, 1),
    (A.timeCtl, F.timeCtl_servo_mode, 1)] lit, by decide +kernel⟩

theorem witness_FramesAreCountedPausedAndStamped_45 :
    ∃ (who : Requester) (w : Word) (s : State), s.isLit 2 = true ∧ isAnyCore who = true ∧ (s.fld A.timeCtl
    F.timeCtl_servo_mode == 1 && !s.bit A.timeCtl F.timeCtl_src : Bool) = true ∧ (s.bit A.timeCtl F.timeCtl_step_en && decide
    (s.stepThresh < (if (signed 32 (s.reg A.timeOffsetNs).toNat * 65536 + ((w.toNat / 65536 : Nat) : Int) : Int) < 0 then
    -(signed 32 (s.reg A.timeOffsetNs).toNat * 65536 + ((w.toNat / 65536 : Nat) : Int) : Int) else (signed 32 (s.reg
    A.timeOffsetNs).toNat * 65536 + ((w.toNat / 65536 : Nat) : Int) : Int) : Int)) : Bool) = false :=
  ⟨.core 0, 0xffffffff, put [(A.timeCtl, F.timeCtl_servo_mode, 1)] lit, by decide +kernel⟩

theorem witness_FramesAreCountedPausedAndStamped_46 :
    ∃ (s : State), s.isLit 2 = true ∧ s.fld A.timeCtl F.timeCtl_servo_mode = 1 ∧ (!s.bit A.timeCtl F.timeCtl_holdover &&
    decide (s.time.quietFrom + s.holdoverAfter ≤ s.elapsed) : Bool) = true :=
  ⟨later 4000000000 (put [(A.timeCtl, F.timeCtl_servo_mode, 1)] lit), by decide +kernel⟩

theorem witness_FramesAreCountedPausedAndStamped_47 :
    ∃ (s : State), s.isLit 2 = true ∧ s.fld A.timeCtl F.timeCtl_servo_mode = 1 ∧ (!s.bit A.timeCtl F.timeCtl_holdover &&
    decide (s.time.quietFrom + s.holdoverAfter ≤ s.elapsed) : Bool) = false :=
  ⟨put [(A.timeCtl, F.timeCtl_servo_mode, 1), (A.timeCtl, F.timeCtl_holdover, 1)] lit, by decide +kernel⟩

/-- A descriptor: its first word, source and destination. -/
def desc (w src dst : Nat) : List Byte :=
  (Crypto.toBE 4 w).reverse ++ List.replicate 4 0 ++ (Crypto.toBE 8 src).reverse ++ (Crypto.toBE 8 dst).reverse ++ List.replicate 8 0
/-- A channel enabled over two descriptors at the start of the packet store, at the first. -/
def ring (c : Nat) (d : List Byte) (s : State := lit) : State :=
  stored 0 (d ++ desc 0 0 0) (put [(A.dmaChCtl c, F.dmaChCtl_enable, 1), (A.dmaChCtl c, F.dmaChCtl_size, 2)
    , (A.dmaChBaseLo c, ⟨31, 0, .rw, 0⟩, 0x80000000), (A.dmaChCurLo c, ⟨31, 0, .rw, 0⟩, 0x80000000)] s)
/-- The descriptor held, its bytes moved, a frame gathered for a queue. -/
def held (c : Nat) (d : List Byte) (moved : Nat) (frame : List Byte) (q : Nat) (s : State) : State :=
  s.setDmaCh c { DmaChan.init with desc := some d, moved := moved, frame := frame, inFrame := true, queue := q }
def arrived (r : Nat) (b : List Byte) (s : State) : State := s.setWr r { s.wr r with mgmtRx := [(b, 5)] }

theorem witness_DmaWalksDescriptorsAndMovesTheirBytes_1 :
    ∃ (who : Requester) (c : Fin 64) (w : Word) (s : State), s.isLit 9 = true ∧ dmaMay who c = true ∧ (s.bit (A.dmaChCtl c)
    F.dmaChCtl_enable) = false ∧ ((decide (1 ≤ (F.dmaChCtl_size.get w)) && decide ((F.dmaChCtl_size.get w) ≤ 4096) &&
    s.dmaBase c % 32 == 0 && periphOk c (if 48 ≤ c.val ∧ c.val < 57 then c.val - 47 else F.dmaChCtl_periph.get w) : Bool) =
    true) :=
  ⟨.core 0, 56, (F.dmaChCtl_size.put 4096 0), lit, by decide +kernel⟩

theorem witness_DmaWalksDescriptorsAndMovesTheirBytes_2 :
    ∃ (who : Requester) (c : Fin 64) (w : Word) (s : State), s.isLit 9 = true ∧ dmaMay who c = true ∧ (s.bit (A.dmaChCtl c)
    F.dmaChCtl_enable) = false ∧ ((decide (1 ≤ (F.dmaChCtl_size.get w)) && decide ((F.dmaChCtl_size.get w) ≤ 4096) &&
    s.dmaBase c % 32 == 0 && periphOk c (if 48 ≤ c.val ∧ c.val < 57 then c.val - 47 else F.dmaChCtl_periph.get w) : Bool) =
    false) :=
  ⟨.glove 0, 63, (F.dmaChCtl_size.put 1 0), put [(A.dmaChBaseLo 63, ⟨31, 0, .rw, 0⟩, 0x81fffffc)] lit, by decide +kernel⟩

theorem witness_DmaWalksDescriptorsAndMovesTheirBytes_3 :
    ∃ (who : Requester) (c : Fin 64) (s : State), s.isLit 9 = true ∧ dmaMay who c = true ∧ (s.bit (A.dmaChCtl c)
    F.dmaChCtl_enable) = true :=
  ⟨.glove 0, 63, put [(A.dmaChCtl 63, F.dmaChCtl_enable, 1)] lit, by decide +kernel⟩

theorem witness_DmaWalksDescriptorsAndMovesTheirBytes_4 :
    ∃ (who : Requester) (c : Fin 64) (s : State), s.isLit 9 = true ∧ dmaMay who c = true ∧ (s.bit (A.dmaChCtl c)
    F.dmaChCtl_enable) = true ∧ (s.dmaCh c).desc = none :=
  ⟨.glove 0, 63, put [(A.dmaChCtl 63, F.dmaChCtl_enable, 1)] lit, by decide +kernel⟩

theorem witness_DmaWalksDescriptorsAndMovesTheirBytes_5 :
    ∃ (who : Requester) (c : Fin 64) (s : State) (d : _), s.isLit 9 = true ∧ dmaMay who c = true ∧ (s.bit (A.dmaChCtl c)
    F.dmaChCtl_enable) = true ∧ (s.dmaCh c).desc = some d :=
  ⟨.core 0, 47, held 47 (desc 2147483656 0x80000100 0x80000200) 3 [] 0 (ring 47 (desc 2147483656 0 0)), desc 2147483656
    0x80000100 0x80000200, by decide +kernel⟩

theorem witness_DmaWalksDescriptorsAndMovesTheirBytes_6 :
    ∃ (who : Requester) (c : Fin 64) (s : State), s.isLit 9 = true ∧ dmaMay who c = true ∧ (s.bit (A.dmaChCtl c)
    F.dmaChCtl_enable) = false :=
  ⟨.core 0, 56, lit, by decide +kernel⟩

theorem witness_DmaWalksDescriptorsAndMovesTheirBytes_7 :
    ∃ (who : Requester) (c : Fin 64) (s : State), s.isLit 9 = true ∧ dmaMay who c = true ∧ (s.bit (A.dmaChCtl c)
    F.dmaChCtl_enable) = true :=
  ⟨.glove 0, 63, put [(A.dmaChCtl 63, F.dmaChCtl_enable, 1)] lit, by decide +kernel⟩

theorem witness_DmaWalksDescriptorsAndMovesTheirBytes_8 :
    ∃ (who : Requester) (c : Fin 64) (s : State), s.isLit 9 = true ∧ dmaMay who c = true ∧ (s.bit (A.dmaChCtl c)
    F.dmaChCtl_enable) = false :=
  ⟨.core 0, 56, lit, by decide +kernel⟩

theorem witness_DmaWalksDescriptorsAndMovesTheirBytes_9 :
    ∃ (who : Requester) (c : Fin 64) (s : State), s.isLit 9 = true ∧ dmaMay who c = false :=
  ⟨.core 0, 57, lit, by decide +kernel⟩

theorem witness_DmaWalksDescriptorsAndMovesTheirBytes_10 :
    ∃ (c : Fin 64) (s : State), s.dmaRuns c = true ∧ (s.dmaCh c).desc = none ∧ s.renStep 9 ≠ 2 ∧ s.answers (.dma c) 4 = true
    ∧ inStore (s.dmaCur c) 32 ∧ 2 ≤ dKind (s.storeDesc (s.dmaCur c)) :=
  ⟨63, ring 63 (desc 3221225472 0 0), by
    refine ⟨?_, ?_, ?_, ?_, (show _ ∧ _ from by decide +kernel), ?_⟩ <;> decide +kernel⟩

theorem witness_DmaWalksDescriptorsAndMovesTheirBytes_11 :
    ∃ (c : Fin 64) (s : State), s.dmaRuns c = true ∧ (s.dmaCh c).desc = none ∧ s.renStep 9 ≠ 2 ∧ s.answers (.dma c) 4 = true
    ∧ inStore (s.dmaCur c) 32 ∧ dKind (s.storeDesc (s.dmaCur c)) < 2 ∧ dOwn (s.storeDesc (s.dmaCur c)) = false :=
  ⟨63, ring 63 (desc 536870912 0 0), by
    refine ⟨?_, ?_, ?_, ?_, (show _ ∧ _ from by decide +kernel), ?_, ?_⟩ <;> decide +kernel⟩

theorem witness_DmaWalksDescriptorsAndMovesTheirBytes_12 :
    ∃ (c : Fin 64) (s : State), s.dmaRuns c = true ∧ (s.dmaCh c).desc = none ∧ s.renStep 9 ≠ 2 ∧ s.answers (.dma c) 4 = true
    ∧ inStore (s.dmaCur c) 32 ∧ (dKind (s.storeDesc (s.dmaCur c)) == 1 && dOwn (s.storeDesc (s.dmaCur c)) : Bool) = true ∧
    dSrc (s.storeDesc (s.dmaCur c)) % 32 ≠ 0 :=
  ⟨63, ring 63 (desc 2684354560 16 0), by
    refine ⟨?_, ?_, ?_, ?_, (show _ ∧ _ from by decide +kernel), ?_, ?_⟩ <;> decide +kernel⟩

theorem witness_DmaWalksDescriptorsAndMovesTheirBytes_13 :
    ∃ (c : Fin 64) (s : State), s.dmaRuns c = true ∧ (s.dmaCh c).desc = none ∧ s.renStep 9 ≠ 2 ∧ s.answers (.dma c) 4 = true
    ∧ inStore (s.dmaCur c) 32 ∧ (dKind (s.storeDesc (s.dmaCur c)) == 1 && dOwn (s.storeDesc (s.dmaCur c)) : Bool) = true ∧
    dSrc (s.storeDesc (s.dmaCur c)) % 32 = 0 ∧ (s.dmaFlag c F.dmaChStatus_hops) < 63 :=
  ⟨63, ring 63 (desc 2684354560 32 0), by
    refine ⟨?_, ?_, ?_, ?_, (show _ ∧ _ from by decide +kernel), ?_, ?_, ?_⟩ <;> decide +kernel⟩

theorem witness_DmaWalksDescriptorsAndMovesTheirBytes_14 :
    ∃ (c : Fin 64) (s : State), s.dmaRuns c = true ∧ (s.dmaCh c).desc = none ∧ s.renStep 9 ≠ 2 ∧ s.answers (.dma c) 4 = true
    ∧ inStore (s.dmaCur c) 32 ∧ (dKind (s.storeDesc (s.dmaCur c)) == 1 && dOwn (s.storeDesc (s.dmaCur c)) : Bool) = true ∧
    dSrc (s.storeDesc (s.dmaCur c)) % 32 = 0 ∧ (s.dmaFlag c F.dmaChStatus_hops) = 63 :=
  ⟨63, put [(A.dmaChStatus 63, F.dmaChStatus_hops, 63)] (ring 63 (desc 2684354560 32 0)), by
    refine ⟨?_, ?_, ?_, ?_, (show _ ∧ _ from by decide +kernel), ?_, ?_, ?_⟩ <;> decide +kernel⟩

theorem witness_DmaWalksDescriptorsAndMovesTheirBytes_15 :
    ∃ (c : Fin 64) (s : State), s.dmaRuns c = true ∧ (s.dmaCh c).desc = none ∧ s.renStep 9 ≠ 2 ∧ s.answers (.dma c) 4 = true
    ∧ inStore (s.dmaCur c) 32 ∧ (dKind (s.storeDesc (s.dmaCur c)) == 0 && dOwn (s.storeDesc (s.dmaCur c)) : Bool) = true ∧
    s.fixedOk c (s.storeDesc (s.dmaCur c)) = false :=
  ⟨63, ring 63 (desc 2181038087 8 0), by
    refine ⟨?_, ?_, ?_, ?_, (show _ ∧ _ from by decide +kernel), ?_, ?_⟩ <;> decide +kernel⟩

theorem witness_DmaWalksDescriptorsAndMovesTheirBytes_16 :
    ∃ (c : Fin 64) (s : State), s.dmaRuns c = true ∧ (s.dmaCh c).desc = none ∧ s.renStep 9 ≠ 2 ∧ s.answers (.dma c) 4 = true
    ∧ inStore (s.dmaCur c) 32 ∧ (dKind (s.storeDesc (s.dmaCur c)) == 0 && dOwn (s.storeDesc (s.dmaCur c)) : Bool) = true ∧
    s.fixedOk c (s.storeDesc (s.dmaCur c)) = true ∧ (s.isTxChan c && dSop (s.storeDesc (s.dmaCur c)) && (s.dmaCh c).inFrame :
    Bool) = false :=
  ⟨63, ring 63 (desc 2181038088 8 0), by
    refine ⟨?_, ?_, ?_, ?_, (show _ ∧ _ from by decide +kernel), ?_, ?_, ?_⟩ <;> decide +kernel⟩

theorem witness_DmaWalksDescriptorsAndMovesTheirBytes_17 :
    ∃ (c : Fin 64) (s : State), s.dmaRuns c = true ∧ (s.dmaCh c).desc = none ∧ s.renStep 9 ≠ 2 ∧ s.answers (.dma c) 4 = true
    ∧ inStore (s.dmaCur c) 32 ∧ (dKind (s.storeDesc (s.dmaCur c)) == 0 && dOwn (s.storeDesc (s.dmaCur c)) : Bool) = true ∧
    s.fixedOk c (s.storeDesc (s.dmaCur c)) = true ∧ (s.isTxChan c && dSop (s.storeDesc (s.dmaCur c)) && (s.dmaCh c).inFrame :
    Bool) = true ∧ inStore (s.dmaCh c).lastAt 8 :=
  ⟨47, (ring 47 (desc 2281701376 0 19) (put [(A.dmaChCtl 47, F.dmaChCtl_periph, 16)] lit)).setDmaCh 47
    { DmaChan.init with inFrame := true, lastAt := 0x80000020 }, by
    refine ⟨?_, ?_, ?_, ?_, (show _ ∧ _ from by decide +kernel), ?_, ?_, ?_, (show _ ∧ _ from by decide +kernel)⟩ <;> decide +kernel⟩

theorem witness_DmaWalksDescriptorsAndMovesTheirBytes_18 :
    ∃ (c : Fin 64) (s : State), s.dmaRuns c = false :=
  ⟨0, lit, by decide +kernel⟩

theorem witness_DmaWalksDescriptorsAndMovesTheirBytes_19 :
    ∃ (c : Nat) (s : State), s.dmaPick = some c :=
  ⟨47, held 47 (desc 2147483656 0 0) 0 [] 0 (ring 47 (desc 2147483656 0 0)), by decide +kernel⟩

theorem witness_DmaWalksDescriptorsAndMovesTheirBytes_20 :
    ∃ (c : Fin 64) (d : List Byte) (s : State), s.dmaPick = some c.val ∧ (s.dmaCh c).desc = some d ∧ dSrcFixed d = false ∧
    dDstFixed d = false ∧ s.answers (.dma c) 4 = true ∧ inStore (dSrc d) (dCount d) ∧ s.isTxChan c = false ∧ inStore (dDst d)
    (dCount d) :=
  ⟨47, desc 2147483656 0x80001000 0x81fffff8, held 47 (desc 2147483656 0x80001000 0x81fffff8) 0 [] 0 (ring 47 (desc
    2147483656 0x80001000 0x81fffff8) (lit)), by
    refine ⟨?_, ?_, ?_, ?_, ?_, (show _ ∧ _ from by decide +kernel), ?_, (show _ ∧ _ from by decide +kernel)⟩ <;> decide +kernel⟩

theorem witness_DmaWalksDescriptorsAndMovesTheirBytes_21 :
    ∃ (c : Fin 64) (d : List Byte) (s : State), s.dmaPick = some c.val ∧ (s.dmaCh c).desc = some d ∧ dSrcFixed d = false ∧
    dDstFixed d = false ∧ s.answers (.dma c) 4 = true ∧ inStore (dSrc d) (dCount d) ∧ s.isTxChan c = true :=
  ⟨47, desc 2147483656 0x80001000 0, held 47 (desc 2147483656 0x80001000 0) 0 [] 0 (ring 47 (desc 2147483656 0x80001000 0)
    (put [(A.dmaChCtl 47, F.dmaChCtl_periph, 16)] lit)), by
    refine ⟨?_, ?_, ?_, ?_, ?_, (show _ ∧ _ from by decide +kernel), ?_⟩ <;> decide +kernel⟩

theorem witness_DmaWalksDescriptorsAndMovesTheirBytes_22 :
    ∃ (c : Fin 64) (d : List Byte) (s : State), s.dmaRuns c = true ∧ isRxChan c = false ∧ (s.dmaCh c).desc = some d ∧
    (s.dmaCh c).moved = dCount d ∧ s.answers (.dma c) 4 = true ∧ inStore (s.dmaCur c) 32 ∧ s.dmaCur c + 32 < 2 ^ 40 ∧
    (s.isTxChan c && dEop d : Bool) = false :=
  ⟨63, desc 2147483653 0 0, held 63 (desc 2147483653 0 0) (dCount (desc 2147483653 0 0)) [] 0 (ring 63 (desc 2147483653 0 0)
    (lit)), by
    refine ⟨?_, ?_, ?_, ?_, ?_, (show _ ∧ _ from by decide +kernel), ?_, ?_⟩ <;> decide +kernel⟩

theorem witness_DmaWalksDescriptorsAndMovesTheirBytes_23 :
    ∃ (c : Fin 64) (d : List Byte) (s : State), s.dmaRuns c = true ∧ isRxChan c = false ∧ (s.dmaCh c).desc = some d ∧
    (s.dmaCh c).moved = dCount d ∧ s.answers (.dma c) 4 = true ∧ inStore (s.dmaCur c) 32 ∧ s.dmaCur c + 32 < 2 ^ 40 ∧
    ((s.isTxChan c && dEop d : Bool) && decide (c.val < 48) && s.isLit 4 && s.renStep 4 == 0 : Bool) = true ∧ (!(s.dmaCh
    c).frame.isEmpty && decide ((s.dmaCh c).frame.length ≤ 16383) : Bool) = false :=
  ⟨47, desc 2214592512 0 0, held 47 (desc 2214592512 0 0) (dCount (desc 2214592512 0 0)) [] 0 (ring 47 (desc 2214592512 0 0)
    (put [(A.dmaChCtl 47, F.dmaChCtl_periph, 16)] lit)), by
    refine ⟨?_, ?_, ?_, ?_, ?_, (show _ ∧ _ from by decide +kernel), ?_, ?_, ?_⟩ <;> decide +kernel⟩

theorem witness_DmaWalksDescriptorsAndMovesTheirBytes_24 :
    ∃ (c : Fin 64) (d : List Byte) (s : State), s.dmaRuns c = true ∧ isRxChan c = false ∧ (s.dmaCh c).desc = some d ∧
    (s.dmaCh c).moved = dCount d ∧ s.answers (.dma c) 4 = true ∧ inStore (s.dmaCur c) 32 ∧ s.dmaCur c + 32 < 2 ^ 40 ∧
    ((s.isTxChan c && dEop d : Bool) && decide (c.val < 48) && s.isLit 4 && s.renStep 4 == 0 : Bool) = true ∧ (!(s.dmaCh
    c).frame.isEmpty && decide ((s.dmaCh c).frame.length ≤ 16383) : Bool) = true :=
  ⟨47, desc 2214592512 0 0, held 47 (desc 2214592512 0 0) (dCount (desc 2214592512 0 0)) [1] 18 (ring 47 (desc 2214592512 0
    0) (put [(A.dmaChCtl 47, F.dmaChCtl_periph, 16)] lit)), by
    refine ⟨?_, ?_, ?_, ?_, ?_, (show _ ∧ _ from by decide +kernel), ?_, ?_, ?_⟩ <;> decide +kernel⟩

theorem witness_DmaWalksDescriptorsAndMovesTheirBytes_25 :
    ∃ (c : Fin 64) (d : List Byte) (s : State), s.dmaRuns c = true ∧ isRxChan c = false ∧ (s.dmaCh c).desc = some d ∧
    (s.dmaCh c).moved = dCount d ∧ s.answers (.dma c) 4 = true ∧ inStore (s.dmaCur c) 32 ∧ s.dmaCur c + 32 < 2 ^ 40 ∧
    ((s.isTxChan c && dEop d : Bool) && decide (c.val < 48) && s.isLit 4 && s.renStep 4 == 0 : Bool) = true ∧ (!(s.dmaCh
    c).frame.isEmpty && decide ((s.dmaCh c).frame.length ≤ 16383) : Bool) = true ∧ 18 < (s.dmaCh c).queue ∧ (s.dmaCh c).queue
    < 4096 ∧ s.bit A.schCtl F.schCtl_enable = true ∧ s.bit (A.schQW0 (s.dmaCh c).queue) F.schQW0_enable = true ∧ (s.schQ
    (s.dmaCh c).queue).cells + (cellsOf (s.dmaCh c).frame.length) ≤ s.fld (A.schQW2 (s.dmaCh c).queue) F.schQW2_q_limit ∧
    (cellsOf (s.dmaCh c).frame.length) + (if 3 ≤ s.qTier (s.dmaCh c).queue then s.fld A.schPoolCfg F.schPoolCfg_reserve else
    0) ≤ s.freeCells :=
  ⟨47, desc 2214592512 0 0, held 47 (desc 2214592512 0 0) (dCount (desc 2214592512 0 0)) [1] 19 (ring 47 (desc 2214592512 0
    0) (put [(A.dmaChCtl 47, F.dmaChCtl_periph, 16)] (put [(A.schCtl, F.schCtl_enable, 1), (A.schQW0 19, F.schQW0_enable, 1)]
    lit))), by
    refine ⟨?_, ?_, ?_, ?_, ?_, (show _ ∧ _ from by decide +kernel), ?_, ?_, ?_, ?_, ?_, ?_, ?_, ?_, ?_⟩ <;> decide +kernel⟩

theorem witness_DmaWalksDescriptorsAndMovesTheirBytes_26 :
    ∃ (c : Fin 64) (d : List Byte) (s : State), s.dmaRuns c = true ∧ isRxChan c = false ∧ (s.dmaCh c).desc = some d ∧
    (s.dmaCh c).moved = dCount d ∧ s.answers (.dma c) 4 = true ∧ inStore (s.dmaCur c) 32 ∧ s.dmaCur c + 32 < 2 ^ 40 ∧
    ((s.isTxChan c && dEop d : Bool) && decide (c.val < 48) && s.isLit 4 && s.renStep 4 == 0 : Bool) = true ∧ (!(s.dmaCh
    c).frame.isEmpty && decide ((s.dmaCh c).frame.length ≤ 16383) : Bool) = true ∧ (s.dmaCh c).queue ≤ 18 :=
  ⟨47, desc 2214592512 0 0, held 47 (desc 2214592512 0 0) (dCount (desc 2214592512 0 0)) [1] 18 (ring 47 (desc 2214592512 0
    0) (put [(A.dmaChCtl 47, F.dmaChCtl_periph, 16)] lit)), by
    refine ⟨?_, ?_, ?_, ?_, ?_, (show _ ∧ _ from by decide +kernel), ?_, ?_, ?_, ?_⟩ <;> decide +kernel⟩

theorem witness_DmaWalksDescriptorsAndMovesTheirBytes_27 :
    ∃ (c : Fin 64) (d : List Byte) (s : State), s.dmaRuns c = true ∧ isRxChan c = false ∧ (s.dmaCh c).desc = some d ∧
    (s.dmaCh c).moved = dCount d ∧ s.answers (.dma c) 4 = true ∧ inStore (s.dmaCur c) 32 ∧ s.dmaCur c + 32 < 2 ^ 40 ∧
    (s.isTxChan c && dEop d : Bool) = true ∧ c.val < 48 ∧ s.renStep 4 ≠ 0 :=
  ⟨47, desc 2214592512 0 0, held 47 (desc 2214592512 0 0) (dCount (desc 2214592512 0 0)) [1] 18 (ring 47 (desc 2214592512 0
    0) (put [(A.dmaChCtl 47, F.dmaChCtl_periph, 16)] (lit.setStep 4 1))), by
    refine ⟨?_, ?_, ?_, ?_, ?_, (show _ ∧ _ from by decide +kernel), ?_, ?_, ?_, ?_⟩ <;> decide +kernel⟩

theorem witness_DmaWalksDescriptorsAndMovesTheirBytes_28 :
    ∃ (c : Fin 64) (d : List Byte) (s : State) (r : Rad), s.dmaRuns c = true ∧ isRxChan c = false ∧ (s.dmaCh c).desc = some d
    ∧ (s.dmaCh c).moved = dCount d ∧ s.answers (.dma c) 4 = true ∧ inStore (s.dmaCur c) 32 ∧ s.dmaCur c + 32 < 2 ^ 40 ∧ c.val
    = 48 + 3 * r.val ∧ (s.isTxChan c && dEop d : Bool) = true ∧ (s.dmaCh c).frame ≠ [] ∧ s.isLit 21 = true :=
  ⟨54, desc 2214592512 0 0, held 54 (desc 2214592512 0 0) (dCount (desc 2214592512 0 0)) [1] 0 (ring 54 (desc 2214592512 0 0)
    (lit)), 2, by
    refine ⟨?_, ?_, ?_, ?_, ?_, (show _ ∧ _ from by decide +kernel), ?_, ?_, ?_, ?_, ?_⟩ <;> decide +kernel⟩

theorem witness_DmaWalksDescriptorsAndMovesTheirBytes_29 :
    ∃ (c : Fin 64) (d : List Byte) (s : State) (r : Rad), s.dmaRuns c = true ∧ isRxChan c = false ∧ (s.dmaCh c).desc = some d
    ∧ (s.dmaCh c).moved = dCount d ∧ s.answers (.dma c) 4 = true ∧ inStore (s.dmaCur c) 32 ∧ s.dmaCur c + 32 < 2 ^ 40 ∧ c.val
    = 48 + 3 * r.val ∧ (s.isTxChan c && dEop d : Bool) = true ∧ (s.dmaCh c).frame = [] ∧ s.isLit 21 = true ∧ s.mgmtRoom r 16
    = true :=
  ⟨54, desc 2214592512 0 0, held 54 (desc 2214592512 0 0) (dCount (desc 2214592512 0 0)) [] 0 (ring 54 (desc 2214592512 0 0)
    (lit)), 2, by
    refine ⟨?_, ?_, ?_, ?_, ?_, (show _ ∧ _ from by decide +kernel), ?_, ?_, ?_, ?_, ?_, ?_⟩ <;> decide +kernel⟩

theorem witness_DmaWalksDescriptorsAndMovesTheirBytes_30 :
    ∃ (c : Fin 64) (a : Nat) (s : State), a < 2 ^ 40 ∧ s.dmaRuns c = true :=
  ⟨63, 2 ^ 40 - 1, ring 63 (desc 0 0 0), by decide +kernel⟩

theorem witness_DmaWalksDescriptorsAndMovesTheirBytes_31 :
    ∃ (c : Fin 64) (a : Nat) (s : State), a < 2 ^ 40 ∧ s.dmaRuns c = false :=
  ⟨63, 0, lit, by decide +kernel⟩

theorem witness_DmaWalksDescriptorsAndMovesTheirBytes_32 :
    ∃ (c : Fin 64) (bs : List Byte) (stamp : Option Int) (s : State), s.rxReady c = true ∧ s.rxHead c = some (bs, stamp) ∧ bs
    ≠ [] ∧ s.answers (.dma c) 4 = true ∧ inStore (s.dmaCur c) 32 ∧ s.dmaCur c + 32 < 2 ^ 40 ∧ (dKind (s.storeDesc (s.dmaCur
    c)) == 0 && dOwn (s.storeDesc (s.dmaCur c)) && !dDstFixed (s.storeDesc (s.dmaCur c)) && decide (0x80000000 ≤ dDst
    (s.storeDesc (s.dmaCur c))) && decide (dDst (s.storeDesc (s.dmaCur c)) + (dCount (s.storeDesc (s.dmaCur c))) ≤
    0x82000000) && (fun (n : Nat) => decide ((s.dmaCur c) + 32 ≤ dDst (s.storeDesc (s.dmaCur c))) || decide (dDst
    (s.storeDesc (s.dmaCur c)) + n ≤ (s.dmaCur c))) (dCount (s.storeDesc (s.dmaCur c))) : Bool) = true ∧ bs.length ≤ (dCount
    (s.storeDesc (s.dmaCur c))) :=
  ⟨55, [1, 2], some 5, arrived 2 [1, 2] (ring 55 (desc 2147483656 0 0x80000800)), by
    refine ⟨?_, ?_, ?_, ?_, (show _ ∧ _ from by decide +kernel), ?_, ?_, ?_⟩ <;> decide +kernel⟩

theorem witness_DmaWalksDescriptorsAndMovesTheirBytes_33 :
    ∃ (c : Fin 64) (bs : List Byte) (stamp : Option Int) (s : State), s.rxReady c = true ∧ s.rxHead c = some (bs, stamp) ∧ bs
    ≠ [] ∧ s.answers (.dma c) 4 = true ∧ inStore (s.dmaCur c) 32 ∧ s.dmaCur c + 32 < 2 ^ 40 ∧ dKind (s.storeDesc (s.dmaCur
    c)) = 0 ∧ dOwn (s.storeDesc (s.dmaCur c)) = false :=
  ⟨55, [1, 2], some 5, arrived 2 [1, 2] (ring 55 (desc 0 0 0x80000800)), by
    refine ⟨?_, ?_, ?_, ?_, (show _ ∧ _ from by decide +kernel), ?_, ?_, ?_⟩ <;> decide +kernel⟩

theorem witness_DmaWalksDescriptorsAndMovesTheirBytes_34 :
    ∃ (c : Fin 64) (bs : List Byte) (stamp : Option Int) (s : State), s.rxReady c = true ∧ s.rxHead c = some (bs, stamp) ∧ bs
    ≠ [] ∧ s.answers (.dma c) 4 = true ∧ inStore (s.dmaCur c) 32 ∧ s.dmaCur c + 32 < 2 ^ 40 ∧ (dKind (s.storeDesc (s.dmaCur
    c)) == 0 && dOwn (s.storeDesc (s.dmaCur c)) && !dDstFixed (s.storeDesc (s.dmaCur c)) && decide (0x80000000 ≤ dDst
    (s.storeDesc (s.dmaCur c))) && decide (dDst (s.storeDesc (s.dmaCur c)) + (dCount (s.storeDesc (s.dmaCur c))) ≤
    0x82000000) && (fun (n : Nat) => decide ((s.dmaCur c) + 32 ≤ dDst (s.storeDesc (s.dmaCur c))) || decide (dDst
    (s.storeDesc (s.dmaCur c)) + n ≤ (s.dmaCur c))) (dCount (s.storeDesc (s.dmaCur c))) : Bool) = true ∧ 0 < (dCount
    (s.storeDesc (s.dmaCur c))) ∧ (dCount (s.storeDesc (s.dmaCur c))) < bs.length ∧ inStore (if (s.dmaCur c) + 32 = s.dmaBase
    c + 32 * s.dmaSize c then s.dmaBase c else (s.dmaCur c) + 32) 32 ∧ (if (s.dmaCur c) + 32 = s.dmaBase c + 32 * s.dmaSize c
    then s.dmaBase c else (s.dmaCur c) + 32) ≠ (s.dmaCur c) ∧ ((if (s.dmaCur c) + 32 = s.dmaBase c + 32 * s.dmaSize c then
    s.dmaBase c else (s.dmaCur c) + 32) + 32 ≤ dDst (s.storeDesc (s.dmaCur c)) ∨ dDst (s.storeDesc (s.dmaCur c)) + (dCount
    (s.storeDesc (s.dmaCur c))) ≤ (if (s.dmaCur c) + 32 = s.dmaBase c + 32 * s.dmaSize c then s.dmaBase c else (s.dmaCur c) +
    32)) ∧ dKind (s.storeDesc (if (s.dmaCur c) + 32 = s.dmaBase c + 32 * s.dmaSize c then s.dmaBase c else (s.dmaCur c) +
    32)) < 2 ∧ dOwn (s.storeDesc (if (s.dmaCur c) + 32 = s.dmaBase c + 32 * s.dmaSize c then s.dmaBase c else (s.dmaCur c) +
    32)) = false :=
  ⟨55, [1, 2], some 5, arrived 2 [1, 2] (ring 55 (desc 2147483649 0 0x80000800)), by
    refine ⟨?_, ?_, ?_, ?_, (show _ ∧ _ from by decide +kernel), ?_, ?_, ?_, ?_, (show _ ∧ _ from by decide +kernel), ?_, ?_, ?_, ?_⟩ <;> decide +kernel⟩

theorem witness_DmaWalksDescriptorsAndMovesTheirBytes_35 :
    ∃ (c : Fin 64) (bs : List Byte) (stamp : Option Int) (s : State) (n : _), s.rxReady c = true ∧ s.rxHead c = some (bs,
    stamp) ∧ bs ≠ [] ∧ s.answers (.dma c) 4 = true ∧ inStore (s.dmaCur c) 32 ∧ s.dmaCur c + 32 < 2 ^ 40 ∧ (dKind (s.storeDesc
    (s.dmaCur c)) == 0 && dOwn (s.storeDesc (s.dmaCur c)) && !dDstFixed (s.storeDesc (s.dmaCur c)) && decide (0x80000000 ≤
    dDst (s.storeDesc (s.dmaCur c))) && decide (dDst (s.storeDesc (s.dmaCur c)) + (dCount (s.storeDesc (s.dmaCur c))) ≤
    0x82000000) && (fun (n : Nat) => decide ((s.dmaCur c) + 32 ≤ dDst (s.storeDesc (s.dmaCur c))) || decide (dDst
    (s.storeDesc (s.dmaCur c)) + n ≤ (s.dmaCur c))) (dCount (s.storeDesc (s.dmaCur c))) : Bool) = true ∧ n < (dCount
    (s.storeDesc (s.dmaCur c))) ∧ n < bs.length :=
  ⟨55, [1, 2], some 5, arrived 2 [1, 2] (ring 55 (desc 2147483656 0 0x80000800)), 1, by
    refine ⟨?_, ?_, ?_, ?_, (show _ ∧ _ from by decide +kernel), ?_, ?_, ?_, ?_⟩ <;> decide +kernel⟩

theorem witness_DmaWalksDescriptorsAndMovesTheirBytes_36 :
    ∃ (c : Fin 64) (s : State), s.rxReady c = false :=
  ⟨0, lit, by decide +kernel⟩

def item20 (slot : Nat) (st : ItemSt) : Item :=
  { slot := slot, gen := 15, st := st, words := [], prio := 7, aff := 2, entry := 9, fromCore := none, pkt := none, readyAt := 0, order := 5
    started := 0, long := false, waited := false }
def tasks (l : List Item) : State := lit.setTsk { lit.tsk with items := l }
/-- Every slot taken. -/
def crowdOf (n : Nat) : State := tasks ((List.range n).map (fun n => item20 n .parked))
def crowd : State := crowdOf 4096
theorem slot_is_taken (m n : Nat) (h : n ∈ List.range m) : (crowdOf m).tsk.items.any (fun i => i.slot == n) = true :=
  List.any_eq_true.mpr ⟨item20 n .parked, List.mem_map_of_mem h, beq_self_eq_true n⟩
theorem no_slot_is_free : crowd.slotFree = none := by
  unfold State.slotFree crowd
  rw [List.find?_eq_none]
  intro n hn
  rw [slot_is_taken 4096 n hn]
  decide
def waits (k : Nat) : State := lit.setTsk { lit.tsk with waiting := [(k, 0)] }
def pkted (st : ItemSt) (w8 : Word) : Item := { item20 4095 st with pkt := some (3, 1), words := [0, 0, 0, 0, 0, 0, 0, 0, w8] }

theorem witness_WorkItemsAreCreatedDispatchedAndEnded_1 :
    ∃ (p : SchPkt) (q : Nat) (slot : Nat) (c : Nat) (rest : List (SchPkt × Nat)) (s : State), s.tsk.inbox = (p, q) :: rest ∧
    s.isLit 5 = true ∧ s.isLit 4 = true ∧ s.slotFree = some slot ∧ s.freeRun (cellsOf p.bytes.length) = some c ∧
    s.tsk.items.length < 4096 ∧ p.bytes.length < 16384 ∧ q < 4096 :=
  ⟨pkt14, 4095, 0, 0, [], lit.setTsk { lit.tsk with inbox := [(pkt14, 4095)] }, by decide +kernel⟩

theorem witness_WorkItemsAreCreatedDispatchedAndEnded_2 :
    ∃ (s : State), s.tsk.inbox = [] :=
  ⟨lit, by decide +kernel⟩

theorem witness_WorkItemsAreCreatedDispatchedAndEnded_3 :
    ∃ (k : Fin 24) (s : State) (slot : _), s.isLit 5 = true ∧ (s.tsk.waiting.any (fun x => x.1 == k.val) : Bool) = false ∧
    s.slotFree = some slot ∧ s.tsk.items.length < 4096 ∧ (Tbl.get (fun _ => 0) s.tsk.gens slot) < 16 :=
  ⟨23, lit, 0, by decide +kernel⟩

theorem witness_WorkItemsAreCreatedDispatchedAndEnded_4 :
    ∃ (k : Fin 24) (s : State), s.isLit 5 = true ∧ (s.tsk.waiting.any (fun x => x.1 == k.val) : Bool) = false ∧ s.slotFree =
    none :=
  ⟨0, crowd, by
    refine ⟨?_, ?_, no_slot_is_free⟩ <;> decide +kernel⟩

theorem witness_WorkItemsAreCreatedDispatchedAndEnded_5 :
    ∃ (k : Fin 24) (s : State), s.isLit 5 = true ∧ (s.tsk.waiting.any (fun x => x.1 == k.val) : Bool) = true :=
  ⟨23, waits 23, by decide +kernel⟩

theorem witness_WorkItemsAreCreatedDispatchedAndEnded_6 :
    ∃ (k : Fin 24) (s : State), s.isLit 5 = true ∧ (s.tsk.waiting.any (fun x => x.1 == k.val && decide (x.2 + 20000 ≤
    s.elapsed)) : Bool) = true :=
  ⟨23, later 20000 (waits 23), by decide +kernel⟩

theorem witness_WorkItemsAreCreatedDispatchedAndEnded_7 :
    ∃ (k : Fin 24) (s : State), s.isLit 5 = true ∧ (s.tsk.waiting.any (fun x => x.1 == k.val && decide (x.2 + 20000 ≤
    s.elapsed)) : Bool) = false :=
  ⟨0, waits 23, by decide +kernel⟩

theorem witness_WorkItemsAreCreatedDispatchedAndEnded_8 :
    ∃ (i : Item), i.aff = 0 :=
  ⟨{ item20 4095 .ready with aff := 0 }, by decide +kernel⟩

theorem witness_WorkItemsAreCreatedDispatchedAndEnded_9 :
    ∃ (i : Item), i.aff = 1 :=
  ⟨{ item20 4095 .ready with aff := 1 }, by decide +kernel⟩

theorem witness_WorkItemsAreCreatedDispatchedAndEnded_10 :
    ∃ (i : Item), 2 ≤ i.aff :=
  ⟨item20 4095 .ready, by decide +kernel⟩

theorem witness_WorkItemsAreCreatedDispatchedAndEnded_11 :
    ∃ (i : Item) (j : Item), i.readyAt < j.readyAt :=
  ⟨item20 1 .ready, { item20 1 .ready with readyAt := 1 }, by decide +kernel⟩

theorem witness_WorkItemsAreCreatedDispatchedAndEnded_12 :
    ∃ (i : Item) (j : Item), i.readyAt = j.readyAt ∧ i.fromCore = none ∧ j.fromCore ≠ none :=
  ⟨item20 1 .ready, { item20 1 .ready with fromCore := some 0 }, by decide +kernel⟩

theorem witness_WorkItemsAreCreatedDispatchedAndEnded_13 :
    ∃ (i : Item) (j : Item) (m : _) (n : _), i.readyAt = j.readyAt ∧ i.fromCore = some m ∧ j.fromCore = some n ∧ m < n :=
  ⟨{ item20 1 .ready with fromCore := some 0 }, { item20 1 .ready with fromCore := some 1 }, 0, 1, by decide +kernel⟩

theorem witness_WorkItemsAreCreatedDispatchedAndEnded_14 :
    ∃ (i : Item) (j : Item), i.before j = true :=
  ⟨item20 1 .ready, { item20 1 .ready with readyAt := 1 }, by decide +kernel⟩

theorem witness_WorkItemsAreCreatedDispatchedAndEnded_15 :
    ∃ (k : Fin 24) (s : State) (i : _), s.isLit 5 = true ∧ s.heldBy k = some i :=
  ⟨23, tasks [item20 4095 (.dispatched 23)], item20 4095 (.dispatched 23), by decide +kernel⟩

theorem witness_WorkItemsAreCreatedDispatchedAndEnded_16 :
    ∃ (k : Fin 24) (s : State), s.isLit 5 = true ∧ s.heldBy k = none ∧ (s.mayTake k = false ∨ s.tsk.items.all (fun x => x.st
    != .ready || !s.admits x k) = true) :=
  ⟨23, put [(A.tskCtl, F.tskCtl_core_en, 0)] lit, by
    refine ⟨?_, ?_, Or.inl (by decide +kernel)⟩ <;> decide +kernel⟩

theorem witness_WorkItemsAreCreatedDispatchedAndEnded_17 :
    ∃ (k : Fin 24) (s : State) (i : _), s.isLit 5 = true ∧ i ∈ s.tsk.items ∧ s.heldBy k = none ∧ s.mayTake k = true ∧ i.st =
    .ready ∧ s.admits i k = true ∧ s.tsk.items.all (fun x => x.st != .ready || !s.admits x k || x == i || decide (x.prio <
    i.prio) || (x.prio == i.prio && i.before x)) = true :=
  ⟨23, put [(A.tskCtl, F.tskCtl_core_en, 0xffffff)] (tasks [item20 4095 .ready]), item20 4095 .ready, by decide +kernel⟩

theorem witness_WorkItemsAreCreatedDispatchedAndEnded_18 :
    ∃ (slot : Fin 4096) (i : Item) (s : State), s.isLit 5 = true ∧ s.tsk.items.find? (fun i => i.slot == slot.val && i.st ==
    .ready) = some i ∧ (i.readyAt + 1000 * s.fld A.tskSchCfg F.tskSchCfg_affinity_wait) ≤ s.elapsed :=
  ⟨4095, item20 4095 .ready, later 5000000 (tasks [item20 4095 .ready]), by decide +kernel⟩

theorem witness_WorkItemsAreCreatedDispatchedAndEnded_19 :
    ∃ (slot : Fin 4096) (i : Item) (s : State), s.isLit 5 = true ∧ s.tsk.items.find? (fun i => i.slot == slot.val && i.st ==
    .ready) = some i ∧ s.elapsed < (i.readyAt + 1000 * s.fld A.tskSchCfg F.tskSchCfg_affinity_wait) :=
  ⟨4095, { item20 4095 .ready with readyAt := 9 }, tasks [{ item20 4095 .ready with readyAt := 9 }], by decide +kernel⟩

theorem witness_WorkItemsAreCreatedDispatchedAndEnded_20 :
    ∃ (k : Fin 24) (s : State), s.isLit 5 = true ∧ s.heldBy k = none :=
  ⟨0, lit, by decide +kernel⟩

theorem witness_WorkItemsAreCreatedDispatchedAndEnded_21 :
    ∃ (k : Fin 24) (s : State) (i : _), s.isLit 5 = true ∧ s.heldBy k = some i ∧ i.pkt = none ∧ s.tsk.waiting = [] :=
  ⟨23, tasks [item20 4095 (.dispatched 23)], item20 4095 (.dispatched 23), by decide +kernel⟩

theorem witness_WorkItemsAreCreatedDispatchedAndEnded_22 :
    ∃ (k : Fin 24) (w : Word) (s : State) (i : _) (h : _), s.isLit 5 = true ∧ s.heldBy k = some i ∧ i.pkt = some h ∧
    s.tsk.waiting = [] ∧ s.freeCells + h.2 ≤ 131072 ∧ (F.tskDone_action.get w == 1 : Bool) = false :=
  ⟨23, 0, (put [(A.schPoolStatus, F.schPoolStatus_free_cells, 131071)] lit).setTsk
    { (put [(A.schPoolStatus, F.schPoolStatus_free_cells, 131071)] lit).tsk with items := [pkted (.dispatched 23) 0] }, pkted
    (.dispatched 23) 0, (3, 1), by decide +kernel⟩

theorem witness_WorkItemsAreCreatedDispatchedAndEnded_23 :
    ∃ (k : Fin 24) (w : Word) (s : State) (i : _) (h : _), s.isLit 5 = true ∧ s.heldBy k = some i ∧ i.pkt = some h ∧
    s.tsk.waiting = [] ∧ s.freeCells + h.2 ≤ 131072 ∧ (F.tskDone_action.get w == 1 : Bool) = true ∧ h.2 < cellsOf ((fun (i :
    Item) => if F.tskDone_length.get w = 0 then (i.words.getD 8 0).toNat % 2 ^ 14 else F.tskDone_length.get w) i) :=
  ⟨23, (F.tskDone_queue.put 4095 (F.tskDone_action.put 1 0)), (put [(A.schPoolStatus, F.schPoolStatus_free_cells, 131071)]
    lit).setTsk
    { (put [(A.schPoolStatus, F.schPoolStatus_free_cells, 131071)] lit).tsk with items := [pkted (.dispatched 23) 300] },
    pkted (.dispatched 23) 300, (3, 1), by decide +kernel⟩

theorem witness_WorkItemsAreCreatedDispatchedAndEnded_24 :
    ∃ (k : Fin 24) (w : Word) (s : State) (i : _) (h : _), s.isLit 5 = true ∧ s.heldBy k = some i ∧ i.pkt = some h ∧
    s.tsk.waiting = [] ∧ s.freeCells + h.2 ≤ 131072 ∧ (F.tskDone_action.get w == 1 : Bool) = true ∧ cellsOf ((fun (i : Item)
    => if F.tskDone_length.get w = 0 then (i.words.getD 8 0).toNat % 2 ^ 14 else F.tskDone_length.get w) i) ≤ h.2 ∧
    s.schTakes = true ∧ 18 < (F.tskDone_queue.get w) ∧ s.bit A.schCtl F.schCtl_enable = true ∧ s.bit (A.schQW0
    (F.tskDone_queue.get w)) F.schQW0_enable = true ∧ (s.schQ (F.tskDone_queue.get w)).cells + cellsOf ((fun (i : Item) => if
    F.tskDone_length.get w = 0 then (i.words.getD 8 0).toNat % 2 ^ 14 else F.tskDone_length.get w) i) ≤ s.fld (A.schQW2
    (F.tskDone_queue.get w)) F.schQW2_q_limit ∧ cellsOf ((fun (i : Item) => if F.tskDone_length.get w = 0 then (i.words.getD
    8 0).toNat % 2 ^ 14 else F.tskDone_length.get w) i) + (if 3 ≤ s.qTier (F.tskDone_queue.get w) then s.fld A.schPoolCfg
    F.schPoolCfg_reserve else 0) ≤ s.freeCells + h.2 :=
  ⟨23, (F.tskDone_queue.put 4095 (F.tskDone_action.put 1 0)), (put [(A.schPoolStatus, F.schPoolStatus_free_cells, 131071),
    (A.schCtl, F.schCtl_enable, 1), (A.schQW0 4095, F.schQW0_enable, 1)] lit).setTsk
    { (put [(A.schPoolStatus, F.schPoolStatus_free_cells, 131071), (A.schCtl, F.schCtl_enable, 1), (A.schQW0 4095, F.schQW0_enable, 1)] lit).tsk with items := [pkted (.dispatched 23) 200] },
    pkted (.dispatched 23) 200, (3, 1), by decide +kernel⟩

theorem witness_WorkItemsAreCreatedDispatchedAndEnded_25 :
    ∃ (k : Fin 24) (w : Word) (s : State) (i : _) (h : _), s.isLit 5 = true ∧ s.heldBy k = some i ∧ i.pkt = some h ∧
    s.tsk.waiting = [] ∧ (F.tskDone_action.get w == 1 : Bool) = true ∧ cellsOf ((fun (i : Item) => if F.tskDone_length.get w
    = 0 then (i.words.getD 8 0).toNat % 2 ^ 14 else F.tskDone_length.get w) i) ≤ h.2 ∧ s.isLit 4 = false ∧ s.renStep 4 = 0 :=
  ⟨23, (F.tskDone_queue.put 4095 (F.tskDone_action.put 1 0)), (
    { lit with pwr := Tbl.set (fun _ => IslandPwr.init) 4 IslandPwr.init lit.pwr }).setTsk
    { ( { lit with pwr := Tbl.set (fun _ => IslandPwr.init) 4 IslandPwr.init lit.pwr }).tsk with items := [pkted (.dispatched 23) 200] },
    pkted (.dispatched 23) 200, (3, 1), by decide +kernel⟩

theorem witness_WorkItemsAreCreatedDispatchedAndEnded_26 :
    ∃ (k : Fin 24) (w : Word) (s : State) (i : _) (h : _), s.isLit 5 = true ∧ s.heldBy k = some i ∧ i.pkt = some h ∧
    s.tsk.waiting = [] ∧ (F.tskDone_action.get w == 1 : Bool) = true ∧ cellsOf ((fun (i : Item) => if F.tskDone_length.get w
    = 0 then (i.words.getD 8 0).toNat % 2 ^ 14 else F.tskDone_length.get w) i) ≤ h.2 ∧ s.renStep 4 ≠ 0 :=
  ⟨23, (F.tskDone_queue.put 4095 (F.tskDone_action.put 1 0)), (lit.setStep 4 1).setTsk
    { (lit.setStep 4 1).tsk with items := [pkted (.dispatched 23) 200] }, pkted (.dispatched 23) 200, (3, 1),
    by decide +kernel⟩

theorem witness_WorkItemsAreCreatedDispatchedAndEnded_27 :
    ∃ (k : Fin 24) (s : State) (i : _) (x : _) (ws : _) (slot : _), s.isLit 5 = true ∧ s.heldBy k = some i ∧ i.pkt = none ∧
    s.tsk.waiting = x :: ws ∧ x.1 < 24 ∧ slot < 4096 ∧ { s with tsk := { s.tsk with items := s.tsk.items.erase i } }.slotFree
    = some slot :=
  ⟨23, (tasks [item20 4095 (.dispatched 23)]).setTsk
    { (tasks [item20 4095 (.dispatched 23)]).tsk with waiting := [(22, 0)] }, item20 4095 (.dispatched 23), (22, 0), [], 0,
    by decide +kernel⟩

theorem witness_WorkItemsAreCreatedDispatchedAndEnded_28 :
    ∃ (id : Fin 65536) (s : State), s.isLit 5 = true ∧ s.itemOf id = none :=
  ⟨65535, lit, by decide +kernel⟩

theorem witness_WorkItemsAreCreatedDispatchedAndEnded_29 :
    ∃ (id : Fin 65536) (s : State), s.isLit 5 = true ∧ s.itemOf id = none :=
  ⟨65535, lit, by decide +kernel⟩

theorem witness_WorkItemsAreCreatedDispatchedAndEnded_30 :
    ∃ (id : Fin 65536) (s : State) (i : _), s.isLit 5 = true ∧ s.itemOf id = some i ∧ i.st = .parked :=
  ⟨65535, tasks [item20 4095 .parked], item20 4095 .parked, by decide +kernel⟩

theorem witness_WorkItemsAreCreatedDispatchedAndEnded_31 :
    ∃ (id : Fin 65536) (s : State) (i : _), s.isLit 5 = true ∧ s.itemOf id = some i ∧ i.st ≠ .parked :=
  ⟨65535, tasks [item20 4095 .ready], item20 4095 .ready, by decide +kernel⟩

theorem witness_WorkItemsAreCreatedDispatchedAndEnded_32 :
    ∃ (id : Fin 65536) (s : State) (i : _) (c : _), s.isLit 5 = true ∧ s.itemOf id = some i ∧ i.st = .dispatched c :=
  ⟨65535, tasks [item20 4095 (.dispatched 0)], item20 4095 (.dispatched 0), 0, by decide +kernel⟩

theorem witness_WorkItemsAreCreatedDispatchedAndEnded_33 :
    ∃ (id : Fin 65536) (s : State) (i : _), s.isLit 5 = true ∧ s.itemOf id = some i ∧ (i.st = .parked ∨ i.st = .ready) ∧
    s.tsk.waiting = [] ∧ s.freeCells + ((i.pkt.map (·.2)).getD 0) ≤ 131072 :=
  ⟨65535, tasks [item20 4095 .parked], item20 4095 .parked, by
    refine ⟨?_, ?_, Or.inl rfl, ?_, ?_⟩ <;> decide +kernel⟩

theorem witness_WorkItemsAreCreatedDispatchedAndEnded_34 :
    ∃ (k : Fin 24) (j : Fin 24) (id : Fin 65536) (i : Item) (s : State), s.isLit 5 = true ∧ s.tsk.items = [i] ∧ i.id = id.val
    ∧ (i.st = .parked ∨ i.st = .ready) ∧ s.tsk.waiting = [] ∧ j ≠ k :=
  ⟨23, 0, 65535, item20 4095 .parked, tasks [item20 4095 .parked], by
    refine ⟨?_, ?_, ?_, Or.inl rfl, ?_, ?_⟩ <;> decide +kernel⟩

theorem witness_WorkItemsAreCreatedDispatchedAndEnded_37 :
    ∃ (slot : Fin 4096) (i : Item) (k : Nat) (s : State), s.isLit 5 = true ∧ s.tsk.items.find? (fun i => i.slot == slot.val)
    = some i ∧ i.st = .dispatched k ∧ (!i.long && (s.fld A.tskSchCfg F.tskSchCfg_run_limit) != 0 && decide (i.started +
    100000 * (s.fld A.tskSchCfg F.tskSchCfg_run_limit) ≤ s.elapsed) : Bool) = true :=
  ⟨4095, item20 4095 (.dispatched 23), 23, put [(A.tskSchCfg, F.tskSchCfg_run_limit, 1)] (later 100000 (tasks [item20 4095
    (.dispatched 23)])), by decide +kernel⟩

theorem witness_WorkItemsAreCreatedDispatchedAndEnded_38 :
    ∃ (slot : Fin 4096) (i : Item) (k : Nat) (s : State), s.isLit 5 = true ∧ s.tsk.items.find? (fun i => i.slot == slot.val)
    = some i ∧ i.st = .dispatched k ∧ (!i.long && (s.fld A.tskSchCfg F.tskSchCfg_run_limit) != 0 && decide (i.started +
    100000 * (s.fld A.tskSchCfg F.tskSchCfg_run_limit) ≤ s.elapsed) : Bool) = false :=
  ⟨4095, { item20 4095 (.dispatched 23) with long := true }, 23, put [(A.tskSchCfg, F.tskSchCfg_run_limit, 1)] (tasks
    [{ item20 4095 (.dispatched 23) with long := true }]), by decide +kernel⟩

theorem witness_WorkItemsAreCreatedDispatchedAndEnded_39 :
    ∃ (who : Requester) (s : State), s.isLit 5 = true ∧ isAnyCore who = true :=
  ⟨.core 0, lit, by decide +kernel⟩

theorem witness_WorkItemsAreCreatedDispatchedAndEnded_40 :
    ∃ (who : Requester) (s : State), s.isLit 5 = true ∧ isAnyCore who = false :=
  ⟨.dma 0, lit, by decide +kernel⟩

theorem witness_WorkItemsAreCreatedDispatchedAndEnded_41 :
    ∃ (k : Nat) (n : Nat) (s : State), n < 256 ∧ (fun (n : Nat) => s.bit (A.tskIrqRoute n) F.tskIrqRoute_en && s.lineTarget n
    == k && s.linePending n) n = true ∧ (∀ m < n, (fun (n : Nat) => s.bit (A.tskIrqRoute n) F.tskIrqRoute_en && s.lineTarget
    n == k && s.linePending n) m = false) :=
  ⟨23, 56, put [(A.tskIrqRoute 56, F.tskIrqRoute_en, 1), (A.tskIrqRoute 56, F.tskIrqRoute_target, 23), (A.dmaChStatus 56,
    F.dmaChStatus_done, 1), (A.dmaChCtl 56, F.dmaChCtl_done_irq_en, 1)] lit, by decide +kernel⟩

theorem witness_WorkItemsAreCreatedDispatchedAndEnded_42 :
    ∃ (k : Nat) (n : Nat) (s : State), n < 256 ∧ (∀ n < 256, (fun (n : Nat) => s.bit (A.tskIrqRoute n) F.tskIrqRoute_en &&
    s.lineTarget n == k && s.linePending n) n = false) :=
  ⟨23, 0, lit, by decide +kernel⟩

theorem witness_WorkItemsAreCreatedDispatchedAndEnded_43 :
    ∃ (k : Fin 24) (s : State), s.isLit (6 + k / 8) = true :=
  ⟨23, lit, by decide +kernel⟩

theorem witness_WorkItemsAreCreatedDispatchedAndEnded_44 :
    ∃ (who : Requester) (cl : Fin 3) (s : State), s.isLit (6 + cl) = true ∧ isCudom who = true :=
  ⟨.glove 0, 2, lit, by decide +kernel⟩

theorem witness_WorkItemsAreCreatedDispatchedAndEnded_45 :
    ∃ (who : Requester) (cl : Fin 3) (s : State), s.isLit (6 + cl) = true ∧ isCudom who = false :=
  ⟨.core 0, 2, lit, by decide +kernel⟩

/-- Chamber 31 of a MEM table: mirrored, ECC, owner; its base and size 4 MiB; the mirror's state. -/
def chambered (n mir ecc owner : Nat) (s : State) : State :=
  put [(A.memChamberW0 n 31, F.memChamberW0_valid, 1), (A.memChamberW0 n 31, F.memChamberW0_mirrored, mir)
    , (A.memChamberW0 n 31, F.memChamberW0_ecc, ecc), (A.memChamberW0 n 31, F.memChamberW0_owner, owner)
    , (A.memChamberW1 n 31, F.memChamberW1_base, 2), (A.memChamberW2 n 31, F.memChamberW2_size, 2)] s
def mirrors (state : Nat) (s : State) : State :=
  put [(A.memMirror 0, F.memMirror_held, 0), (A.memMirror 1, F.memMirror_held, 0), (A.memMirror 0, F.memMirror_state, state)
    , (A.memMirror 1, F.memMirror_state, state)] s
def poisons (x : Nat) (s : State) : State := { s with dram := { s.dram with poison := [x / 64] } }
def drams (f : DramState → DramState) (s : State) : State := { s with dram := f s.dram }
def chans (n : Nat) (f : DramChan → DramChan) (s : State) : State := s.setChan n (f (s.chan n))
def line21 (since : Nat) : DramReq := ⟨.core 0, 0x401000, 3, 7, since, false⟩
def queue21 : List DramReq := List.replicate 64 (line21 0)

theorem witness_ChambersGuardDramAndKeepItsBytes_1 :
    ∃ (who : Requester) (n : Fin 2) (c : Fin 32) (w : Word) (s : State), s.isLit (memId n) = true ∧ (isCudom who &&
    !s.memLocked n && !s.bit (A.memChamberW0 n c) F.memChamberW0_valid : Bool) = true ∧ F.memChamberW0_valid.get w = 0 :=
  ⟨.glove 0, 1, 31, 0, put [(A.memChamberW1 1 31, F.memChamberW1_base, 2), (A.memChamberW2 1 31, F.memChamberW2_size, 2)]
    lit, by decide +kernel⟩

theorem witness_ChambersGuardDramAndKeepItsBytes_2 :
    ∃ (who : Requester) (n : Fin 2) (c : Fin 32) (w : Word) (s : State), s.isLit (memId n) = true ∧ (isCudom who &&
    !s.memLocked n && !s.bit (A.memChamberW0 n c) F.memChamberW0_valid : Bool) = true ∧ F.memChamberW0_valid.get w = 1 ∧
    ((0x200000 * s.fld (A.memChamberW2 n c) F.memChamberW2_size) != 0 && (0x200000 * s.fld (A.memChamberW1 n c)
    F.memChamberW1_base) % (if (F.memChamberW0_mirrored.get w == 1 : Bool) then 0x400000 else 0x200000) == 0 && (if
    (F.memChamberW0_mirrored.get w == 1 : Bool) then 2 * (0x200000 * s.fld (A.memChamberW2 n c) F.memChamberW2_size) else
    (0x200000 * s.fld (A.memChamberW2 n c) F.memChamberW2_size)) % (if (F.memChamberW0_mirrored.get w == 1 : Bool) then
    0x400000 else 0x200000) == 0 && decide ((0x200000 * s.fld (A.memChamberW1 n c) F.memChamberW1_base) + (if
    (F.memChamberW0_mirrored.get w == 1 : Bool) then 2 * (0x200000 * s.fld (A.memChamberW2 n c) F.memChamberW2_size) else
    (0x200000 * s.fld (A.memChamberW2 n c) F.memChamberW2_size)) ≤ (if (s.bit (A.memCfg n) F.memCfg_ecc_reserve) then
    s.flash.dramBytes / 8 * 7 else s.flash.dramBytes)) && (!(F.memChamberW0_ecc.get w == 1 : Bool) || (s.bit (A.memCfg n)
    F.memCfg_ecc_reserve)) && (((List.range 32).filter (fun k => k != c.val && s.bit (A.memChamberW0 n k)
    F.memChamberW0_valid)).map (s.chamber n)).all (fun d => decide ((0x200000 * s.fld (A.memChamberW1 n c)
    F.memChamberW1_base) + (if (F.memChamberW0_mirrored.get w == 1 : Bool) then 2 * (0x200000 * s.fld (A.memChamberW2 n c)
    F.memChamberW2_size) else (0x200000 * s.fld (A.memChamberW2 n c) F.memChamberW2_size)) ≤ d.base) || decide (d.base +
    d.span ≤ (0x200000 * s.fld (A.memChamberW1 n c) F.memChamberW1_base))) && (!(F.memChamberW0_mirrored.get w == 1 : Bool)
    || decide (((((List.range 32).filter (fun k => k != c.val && s.bit (A.memChamberW0 n k) F.memChamberW0_valid)).map
    (s.chamber n)).foldl (fun x d => if d.mirrored then x + d.size else x) (if (F.memChamberW0_mirrored.get w == 1 : Bool)
    then (0x200000 * s.fld (A.memChamberW2 n c) F.memChamberW2_size) else 0)) ≤ 0x80000000)) : Bool) = true :=
  ⟨.glove 0, 1, 31, (F.memChamberW0_valid.put 1 0), put [(A.memChamberW1 1 31, F.memChamberW1_base, 2), (A.memChamberW2 1 31,
    F.memChamberW2_size, 2)] lit, by decide +kernel⟩

theorem witness_ChambersGuardDramAndKeepItsBytes_3 :
    ∃ (who : Requester) (n : Fin 2) (c : Fin 32) (w : Word) (s : State), s.isLit (memId n) = true ∧ (isCudom who &&
    !s.memLocked n && !s.bit (A.memChamberW0 n c) F.memChamberW0_valid : Bool) = true ∧ F.memChamberW0_valid.get w = 1 ∧
    ((0x200000 * s.fld (A.memChamberW2 n c) F.memChamberW2_size) != 0 && (0x200000 * s.fld (A.memChamberW1 n c)
    F.memChamberW1_base) % (if (F.memChamberW0_mirrored.get w == 1 : Bool) then 0x400000 else 0x200000) == 0 && (if
    (F.memChamberW0_mirrored.get w == 1 : Bool) then 2 * (0x200000 * s.fld (A.memChamberW2 n c) F.memChamberW2_size) else
    (0x200000 * s.fld (A.memChamberW2 n c) F.memChamberW2_size)) % (if (F.memChamberW0_mirrored.get w == 1 : Bool) then
    0x400000 else 0x200000) == 0 && decide ((0x200000 * s.fld (A.memChamberW1 n c) F.memChamberW1_base) + (if
    (F.memChamberW0_mirrored.get w == 1 : Bool) then 2 * (0x200000 * s.fld (A.memChamberW2 n c) F.memChamberW2_size) else
    (0x200000 * s.fld (A.memChamberW2 n c) F.memChamberW2_size)) ≤ (if (s.bit (A.memCfg n) F.memCfg_ecc_reserve) then
    s.flash.dramBytes / 8 * 7 else s.flash.dramBytes)) && (!(F.memChamberW0_ecc.get w == 1 : Bool) || (s.bit (A.memCfg n)
    F.memCfg_ecc_reserve)) && (((List.range 32).filter (fun k => k != c.val && s.bit (A.memChamberW0 n k)
    F.memChamberW0_valid)).map (s.chamber n)).all (fun d => decide ((0x200000 * s.fld (A.memChamberW1 n c)
    F.memChamberW1_base) + (if (F.memChamberW0_mirrored.get w == 1 : Bool) then 2 * (0x200000 * s.fld (A.memChamberW2 n c)
    F.memChamberW2_size) else (0x200000 * s.fld (A.memChamberW2 n c) F.memChamberW2_size)) ≤ d.base) || decide (d.base +
    d.span ≤ (0x200000 * s.fld (A.memChamberW1 n c) F.memChamberW1_base))) && (!(F.memChamberW0_mirrored.get w == 1 : Bool)
    || decide (((((List.range 32).filter (fun k => k != c.val && s.bit (A.memChamberW0 n k) F.memChamberW0_valid)).map
    (s.chamber n)).foldl (fun x d => if d.mirrored then x + d.size else x) (if (F.memChamberW0_mirrored.get w == 1 : Bool)
    then (0x200000 * s.fld (A.memChamberW2 n c) F.memChamberW2_size) else 0)) ≤ 0x80000000)) : Bool) = false :=
  ⟨.glove 0, 1, 30, (F.memChamberW0_valid.put 1 0), put [(A.memChamberW1 1 31, F.memChamberW1_base, 2), (A.memChamberW2 1 31,
    F.memChamberW2_size, 2)] lit, by decide +kernel⟩

theorem witness_ChambersGuardDramAndKeepItsBytes_4 :
    ∃ (who : Requester) (n : Fin 2) (c : Fin 32) (s : State), s.isLit (memId n) = true ∧ (isCudom who && !s.memLocked n &&
    !s.bit (A.memChamberW0 n c) F.memChamberW0_valid : Bool) = false :=
  ⟨.core 0, 0, 0, lit, by decide +kernel⟩

theorem witness_ChambersGuardDramAndKeepItsBytes_5 :
    ∃ (who : Requester) (n : Fin 2) (w : Word) (s : State), s.isLit (memId n) = true ∧ isCudom who = true ∧ s.memLocked n =
    false ∧ (F.memCfg_lock.get w == 1 : Bool) = false :=
  ⟨.glove 0, 1, 0, lit, by decide +kernel⟩

theorem witness_ChambersGuardDramAndKeepItsBytes_6 :
    ∃ (who : Requester) (n : Fin 2) (w : Word) (s : State), s.isLit (memId n) = true ∧ isCudom who = true ∧ s.memLocked n =
    false ∧ (F.memCfg_lock.get w == 1 : Bool) = true ∧ (s.isLit (memId (1 - n)) && s.tableWords n == s.tableWords (1 - n) :
    Bool) = false :=
  ⟨.glove 0, 1, (F.memCfg_lock.put 1 0), chambered 0 0 0 0 lit, by decide +kernel⟩

theorem witness_ChambersGuardDramAndKeepItsBytes_7 :
    ∃ (who : Requester) (n : Fin 2) (w : Word) (s : State), s.isLit (memId n) = true ∧ isCudom who = true ∧ s.memLocked n =
    false ∧ (F.memCfg_lock.get w == 1 : Bool) = true ∧ (s.isLit (memId (1 - n)) && s.tableWords n == s.tableWords (1 - n) :
    Bool) = true :=
  ⟨.glove 0, 1, (F.memCfg_lock.put 1 0), lit, by decide +kernel⟩

theorem witness_ChambersGuardDramAndKeepItsBytes_8 :
    ∃ (who : Requester) (n : Fin 2) (s : State), s.isLit (memId n) = true ∧ isCudom who = true ∧ s.memLocked n = true :=
  ⟨.glove 0, 1, put [(A.memCfg 1, F.memCfg_lock, 1)] lit, by decide +kernel⟩

theorem witness_ChambersGuardDramAndKeepItsBytes_9 :
    ∃ (who : Requester) (n : Fin 2) (s : State), s.isLit (memId n) = true ∧ isCudom who = false :=
  ⟨.core 0, 0, lit, by decide +kernel⟩

theorem witness_ChambersGuardDramAndKeepItsBytes_10 :
    ∃ (k : Nat), k < 8 :=
  ⟨7, by decide +kernel⟩

theorem witness_ChambersGuardDramAndKeepItsBytes_11 :
    ∃ (who : Requester) (x : Fin 0x400000000) (len : Fin 65) (bs : List Byte) (e : EccFind) (c : Chamber) (s : State),
    s.isLit 11 = true ∧ s.isLit 12 = true ∧ s.answers who 11 = true ∧ s.answers who 12 = true ∧ s.held 0 = false ∧ s.held 1 =
    false ∧ x < s.flash.dramBytes ∧ (s.eccReserve = true → x < s.flash.dramBytes / 8 * 7) ∧ s.chamberAt x = some c ∧ x <
    c.base + c.size ∧ bs.length + x % 64 ≤ 64 ∧ len.val + x.val % 64 ≤ 64 ∧ s.dram.waiting = [] ∧ (isCudom who ||
    c.owner.testBit (issuer who) : Bool) = true ∧ ((if c.mirrored && s.mirror != 1 then [0, 1] else [(s.servedBy who c
    x)]).all (fun k => (s.chan k).writes.length < 64) : Bool) = true ∧ ((c.ecc = false ∨ (e = .clean ∧
    (s.dram.poison.contains (x.val / 64) : Bool) = false) ∨ (x.val % 64 == 0 && bs.length == 64 : Bool) = true)) :=
  ⟨.core 23, 0x40107f, 1, [9], .single, ⟨false, false, false, 256, 0x400000, 0x400000⟩, mirrors 1 (chambered 0 0 0 256 lit),
    by decide +kernel⟩

theorem witness_ChambersGuardDramAndKeepItsBytes_12 :
    ∃ (who : Requester) (x : Fin 0x400000000) (len : Fin 65) (bs : List Byte) (c : Chamber) (s : State), s.isLit 11 = true ∧
    s.isLit 12 = true ∧ s.answers who 11 = true ∧ s.answers who 12 = true ∧ s.held 0 = false ∧ s.held 1 = false ∧ x <
    s.flash.dramBytes ∧ (s.eccReserve = true → x < s.flash.dramBytes / 8 * 7) ∧ s.chamberAt x = some c ∧ x < c.base + c.size
    ∧ bs.length + x % 64 ≤ 64 ∧ len.val + x.val % 64 ≤ 64 ∧ s.dram.waiting = [] ∧ (isCudom who || c.owner.testBit (issuer
    who) : Bool) = true ∧ ((if c.mirrored && s.mirror != 1 then [0, 1] else [(s.servedBy who c x)]).all (fun k => (s.chan
    k).writes.length < 64) : Bool) = true ∧ c.ecc = true ∧ (s.dram.poison.contains (x.val / 64) : Bool) = true ∧ (x.val % 64
    == 0 && bs.length == 64 : Bool) = false :=
  ⟨.core 23, 0x401041, 8, [1, 2], ⟨false, false, true, 256, 0x400000, 0x400000⟩, poisons 0x401040 (mirrors 1 (chambered 0 0 1
    256 lit)), by decide +kernel⟩

theorem witness_ChambersGuardDramAndKeepItsBytes_13 :
    ∃ (who : Requester) (x : Fin 0x400000000) (len : Fin 65) (bs : List Byte) (e : EccFind) (c : Chamber) (s : State) (both :
    _), s.isLit 11 = true ∧ s.isLit 12 = true ∧ s.answers who 11 = true ∧ s.answers who 12 = true ∧ s.held 0 = false ∧ s.held
    1 = false ∧ x < s.flash.dramBytes ∧ (s.eccReserve = true → x < s.flash.dramBytes / 8 * 7) ∧ s.chamberAt x = some c ∧ x <
    c.base + c.size ∧ bs.length + x % 64 ≤ 64 ∧ len.val + x.val % 64 ≤ 64 ∧ s.dram.waiting = [] ∧ (isCudom who ||
    c.owner.testBit (issuer who) : Bool) = true ∧ ((if c.mirrored && s.mirror != 1 then [0, 1] else [(s.servedBy who c
    x)]).all (fun k => (s.chan k).writes.length < 64) : Bool) = true ∧ (c.ecc && !(s.dram.poison.contains (x.val / 64) :
    Bool) && !(x.val % 64 == 0 && bs.length == 64 : Bool) : Bool) = true ∧ e = .double both ∧ (both = true ∨ (c.mirrored &&
    s.mirror == 0 : Bool) = false) :=
  ⟨.core 23, 0x401041, 8, [1, 2], (.double true), ⟨true, false, true, 256, 0x400000, 0x400000⟩, mirrors 1 (chambered 0 1 1
    256 lit), true, by decide +kernel⟩

theorem witness_ChambersGuardDramAndKeepItsBytes_14 :
    ∃ (who : Requester) (x : Fin 0x400000000) (len : Fin 65) (bs : List Byte) (e : EccFind) (c : Chamber) (s : State),
    s.isLit 11 = true ∧ s.isLit 12 = true ∧ s.answers who 11 = true ∧ s.answers who 12 = true ∧ s.held 0 = false ∧ s.held 1 =
    false ∧ x < s.flash.dramBytes ∧ (s.eccReserve = true → x < s.flash.dramBytes / 8 * 7) ∧ s.chamberAt x = some c ∧ x <
    c.base + c.size ∧ bs.length + x % 64 ≤ 64 ∧ len.val + x.val % 64 ≤ 64 ∧ s.dram.waiting = [] ∧ (isCudom who ||
    c.owner.testBit (issuer who) : Bool) = true ∧ ((if c.mirrored && s.mirror != 1 then [0, 1] else [(s.servedBy who c
    x)]).all (fun k => (s.chan k).writes.length < 64) : Bool) = true ∧ (c.ecc && !(s.dram.poison.contains (x.val / 64) :
    Bool) && !(x.val % 64 == 0 && bs.length == 64 : Bool) : Bool) = true ∧ e = .double false ∧ (c.mirrored && s.mirror == 0 :
    Bool) = true :=
  ⟨.core 23, 0x401041, 8, [1, 2], (.double false), ⟨true, false, true, 256, 0x400000, 0x400000⟩, mirrors 0 (chambered 0 1 1
    256 lit), by decide +kernel⟩

theorem witness_ChambersGuardDramAndKeepItsBytes_15 :
    ∃ (who : Requester) (x : Fin 0x400000000) (len : Fin 65) (bs : List Byte) (e : EccFind) (c : Chamber) (s : State),
    s.isLit 11 = true ∧ s.isLit 12 = true ∧ s.answers who 11 = true ∧ s.answers who 12 = true ∧ s.held 0 = false ∧ s.held 1 =
    false ∧ x < s.flash.dramBytes ∧ (s.eccReserve = true → x < s.flash.dramBytes / 8 * 7) ∧ s.chamberAt x = some c ∧ x <
    c.base + c.size ∧ bs.length + x % 64 ≤ 64 ∧ len.val + x.val % 64 ≤ 64 ∧ s.dram.waiting = [] ∧ (isCudom who ||
    c.owner.testBit (issuer who) : Bool) = true ∧ ((if c.mirrored && s.mirror != 1 then [0, 1] else [(s.servedBy who c
    x)]).all (fun k => (s.chan k).writes.length < 64) : Bool) = true ∧ (c.ecc && !(s.dram.poison.contains (x.val / 64) :
    Bool) && !(x.val % 64 == 0 && bs.length == 64 : Bool) : Bool) = true ∧ e = .single :=
  ⟨.core 23, 0x401041, 8, [1, 2], .single, ⟨true, false, true, 256, 0x400000, 0x400000⟩, mirrors 0 (chambered 0 1 1 256 lit),
    by decide +kernel⟩

theorem witness_ChambersGuardDramAndKeepItsBytes_16 :
    ∃ (who : Requester) (x : Fin 0x400000000) (len : Fin 65) (bs : List Byte) (c : Chamber) (s : State), s.isLit 11 = true ∧
    s.isLit 12 = true ∧ s.answers who 11 = true ∧ s.answers who 12 = true ∧ s.held 0 = false ∧ s.held 1 = false ∧ x <
    s.flash.dramBytes ∧ (s.eccReserve = true → x < s.flash.dramBytes / 8 * 7) ∧ s.chamberAt x = some c ∧ x < c.base + c.size
    ∧ bs.length + x % 64 ≤ 64 ∧ len.val + x.val % 64 ≤ 64 ∧ s.dram.waiting = [] ∧ (isCudom who || c.owner.testBit (issuer
    who) : Bool) = false :=
  ⟨.core 23, 0x401041, 8, [1, 2], ⟨false, false, false, 0, 0x400000, 0x400000⟩, mirrors 1 (chambered 0 0 0 0 lit),
    by decide +kernel⟩

theorem witness_ChambersGuardDramAndKeepItsBytes_17 :
    ∃ (who : Requester) (x : Fin 0x400000000) (len : Fin 65) (bs : List Byte) (c : Chamber) (s : State), s.isLit 11 = true ∧
    s.isLit 12 = true ∧ s.answers who 11 = true ∧ s.answers who 12 = true ∧ s.held 0 = false ∧ s.held 1 = false ∧ x <
    s.flash.dramBytes ∧ (s.eccReserve = true → x < s.flash.dramBytes / 8 * 7) ∧ s.chamberAt x = some c ∧ x < c.base + c.size
    ∧ bs.length + x % 64 ≤ 64 ∧ len.val + x.val % 64 ≤ 64 ∧ s.dram.waiting = [] ∧ (isCudom who || c.owner.testBit (issuer
    who) : Bool) = true ∧ ((if c.mirrored && s.mirror != 1 then [0, 1] else [(s.servedBy who c x)]).all (fun k => (s.chan
    k).writes.length < 64) : Bool) = false :=
  ⟨.core 23, 0x401041, 8, [1, 2], ⟨false, false, false, 256, 0x400000, 0x400000⟩, chans 1 (fun c =>
    { c with writes := queue21 }) (mirrors 1 (chambered 0 0 0 256 lit)), by decide +kernel⟩

theorem witness_ChambersGuardDramAndKeepItsBytes_18 :
    ∃ (who : Requester) (x : Fin 0x400000000) (len : Fin 65) (bs : List Byte) (c : Chamber) (s : State), s.isLit 11 = true ∧
    s.isLit 12 = true ∧ s.answers who 11 = true ∧ s.answers who 12 = true ∧ s.held 0 = false ∧ s.held 1 = false ∧ x <
    s.flash.dramBytes ∧ (s.eccReserve = true → x < s.flash.dramBytes / 8 * 7) ∧ s.chamberAt x = some c ∧ x < c.base + c.size
    ∧ bs.length + x % 64 ≤ 64 ∧ len.val + x.val % 64 ≤ 64 ∧ s.dram.waiting = [] ∧ 64 ≤ (s.chan (s.servedBy who c
    x)).reads.length :=
  ⟨.core 23, 0x401041, 8, [1, 2], ⟨false, false, false, 256, 0x400000, 0x400000⟩, chans 1 (fun c =>
    { c with reads := queue21 }) (mirrors 1 (chambered 0 0 0 256 lit)), by decide +kernel⟩

theorem witness_ChambersGuardDramAndKeepItsBytes_19 :
    ∃ (who : Requester) (x : Fin 0x400000000) (len : Fin 65) (bs : List Byte) (e : EccFind) (c : Chamber) (s : State),
    s.isLit 11 = true ∧ s.isLit 12 = true ∧ s.answers who 11 = true ∧ s.answers who 12 = true ∧ s.held 0 = false ∧ s.held 1 =
    false ∧ x < s.flash.dramBytes ∧ (s.eccReserve = true → x < s.flash.dramBytes / 8 * 7) ∧ s.chamberAt x = some c ∧ x <
    c.base + c.size ∧ bs.length + x % 64 ≤ 64 ∧ len.val + x.val % 64 ≤ 64 ∧ s.dram.waiting = [] ∧ (s.chan (s.servedBy who c
    x)).reads.length < 64 ∧ ((c.ecc = false ∨ ((s.dram.poison.contains (x.val / 64) : Bool) = false ∧ e = .clean))) :=
  ⟨.core 23, 0x7fffff, 1, [], .clean, ⟨false, false, true, 256, 0x400000, 0x400000⟩, mirrors 1 (chambered 0 0 1 256 lit),
    by decide +kernel⟩

theorem witness_ChambersGuardDramAndKeepItsBytes_20 :
    ∃ (who : Requester) (x : Fin 0x400000000) (len : Fin 65) (bs : List Byte) (e : EccFind) (c : Chamber) (s : State),
    s.isLit 11 = true ∧ s.isLit 12 = true ∧ s.answers who 11 = true ∧ s.answers who 12 = true ∧ s.held 0 = false ∧ s.held 1 =
    false ∧ x < s.flash.dramBytes ∧ (s.eccReserve = true → x < s.flash.dramBytes / 8 * 7) ∧ s.chamberAt x = some c ∧ x <
    c.base + c.size ∧ bs.length + x % 64 ≤ 64 ∧ len.val + x.val % 64 ≤ 64 ∧ s.dram.waiting = [] ∧ (s.chan (s.servedBy who c
    x)).reads.length < 64 ∧ c.ecc = true ∧ (s.dram.poison.contains (x.val / 64) : Bool) = false ∧ e = .single :=
  ⟨.core 23, 0x400000, 64, [], .single, ⟨false, false, true, 256, 0x400000, 0x400000⟩, mirrors 1 (chambered 0 0 1 256 lit),
    by decide +kernel⟩

theorem witness_ChambersGuardDramAndKeepItsBytes_21 :
    ∃ (who : Requester) (x : Fin 0x400000000) (len : Fin 65) (bs : List Byte) (e : EccFind) (c : Chamber) (s : State) (both :
    _), s.isLit 11 = true ∧ s.isLit 12 = true ∧ s.answers who 11 = true ∧ s.answers who 12 = true ∧ s.held 0 = false ∧ s.held
    1 = false ∧ x < s.flash.dramBytes ∧ (s.eccReserve = true → x < s.flash.dramBytes / 8 * 7) ∧ s.chamberAt x = some c ∧ x <
    c.base + c.size ∧ bs.length + x % 64 ≤ 64 ∧ len.val + x.val % 64 ≤ 64 ∧ s.dram.waiting = [] ∧ (s.chan (s.servedBy who c
    x)).reads.length < 64 ∧ c.ecc = true ∧ (((s.dram.poison.contains (x.val / 64) : Bool) = true ∨ (e = .double both ∧ (both
    = true ∨ (c.mirrored && s.mirror == 0 : Bool) = false)))) :=
  ⟨.core 23, 0x400000, 1, [], (.double false), ⟨false, false, true, 256, 0x400000, 0x400000⟩, mirrors 1 (chambered 0 0 1 256
    lit), false, by decide +kernel⟩

theorem witness_ChambersGuardDramAndKeepItsBytes_22 :
    ∃ (who : Requester) (x : Fin 0x400000000) (len : Fin 65) (bs : List Byte) (e : EccFind) (c : Chamber) (s : State),
    s.isLit 11 = true ∧ s.isLit 12 = true ∧ s.answers who 11 = true ∧ s.answers who 12 = true ∧ s.held 0 = false ∧ s.held 1 =
    false ∧ x < s.flash.dramBytes ∧ (s.eccReserve = true → x < s.flash.dramBytes / 8 * 7) ∧ s.chamberAt x = some c ∧ x <
    c.base + c.size ∧ bs.length + x % 64 ≤ 64 ∧ len.val + x.val % 64 ≤ 64 ∧ s.dram.waiting = [] ∧ (s.chan (s.servedBy who c
    x)).reads.length < 64 ∧ c.ecc = true ∧ (s.dram.poison.contains (x.val / 64) : Bool) = false ∧ (c.mirrored && s.mirror ==
    0 : Bool) = true ∧ e = .double false :=
  ⟨.core 23, 0x400000, 1, [], (.double false), ⟨true, false, true, 256, 0x400000, 0x400000⟩, mirrors 0 (chambered 0 1 1 256
    lit), by decide +kernel⟩

theorem witness_ChambersGuardDramAndKeepItsBytes_23 :
    ∃ (x : Fin 0x400000000) (s : State), s.flash.dramBytes ≤ x :=
  ⟨0x3ffffffff, { lit with flash := { lit.flash with dramBytes := 0x200000000 } }, by decide +kernel⟩

theorem witness_ChambersGuardDramAndKeepItsBytes_24 :
    ∃ (x : Fin 0x400000000) (s : State) (c : _), s.isLit 11 = true ∧ x < s.flash.dramBytes ∧ s.chamberAt x = some c ∧ c.base
    + c.size ≤ x ∧ s.eccReserve = false :=
  ⟨0x800000, chambered 0 1 0 0 lit, ⟨true, false, false, 0, 0x400000, 0x400000⟩, by decide +kernel⟩

theorem witness_ChambersGuardDramAndKeepItsBytes_25 :
    ∃ (x : Fin 0x400000000) (s : State), s.isLit 11 = true ∧ x < s.flash.dramBytes ∧ s.eccReserve = true ∧ s.flash.dramBytes
    / 8 * 7 ≤ x :=
  ⟨0x1ffffffff, put [(A.memCfg 0, F.memCfg_ecc_reserve, 1), (A.memCfg 1, F.memCfg_ecc_reserve, 1)]
    { lit with flash := { lit.flash with dramBytes := 0x200000000 } }, by decide +kernel⟩

theorem witness_ChambersGuardDramAndKeepItsBytes_26 :
    ∃ (who : Requester) (x : Fin 0x400000000) (s : State), s.isLit 11 = true ∧ x < s.flash.dramBytes ∧ s.eccReserve = false ∧
    s.chamberAt x = none ∧ s.answers who (memId (chanOf x)) = true :=
  ⟨.core 0, 0, lit, by decide +kernel⟩

theorem witness_ChambersGuardDramAndKeepItsBytes_27 :
    ∃ (who : Requester) (x : Fin 0x400000000) (s : State) (c : _), s.isLit 11 = true ∧ x < s.flash.dramBytes ∧ s.eccReserve =
    false ∧ s.chamberAt x = some c ∧ x < c.base + c.size ∧ c.mirrored = false ∧ isCudom who = true ∧ s.answers who (memId
    (chanOf x)) = true ∧ s.held (chanOf x) = true :=
  ⟨.glove 0, 0x401000, put [(A.memMirror 1, F.memMirror_held, 1)] (chambered 0 0 0 0 lit), ⟨false, false, false, 0, 0x400000,
    0x400000⟩, by decide +kernel⟩

theorem witness_ChambersGuardDramAndKeepItsBytes_28 :
    ∃ (thresh : Nat) (row : Nat) (t : List (Nat × Nat)) (k : _), t.find? (·.1 == row) = some (row, k) ∧ k + 1 < thresh :=
  ⟨9, 5, [(5, 7)], 7, by decide +kernel⟩

theorem witness_ChambersGuardDramAndKeepItsBytes_29 :
    ∃ (thresh : Nat) (row : Nat) (t : List (Nat × Nat)) (k : _), t.find? (·.1 == row) = some (row, k) ∧ thresh ≤ k + 1 :=
  ⟨8, 5, [(5, 7)], 7, by decide +kernel⟩

theorem witness_ChambersGuardDramAndKeepItsBytes_30 :
    ∃ (thresh : Nat) (row : Nat) (t : List (Nat × Nat)), t.find? (·.1 == row) = none ∧ t.length < 16 ∧ 1 < thresh :=
  ⟨8, 5, [], by decide +kernel⟩

theorem witness_ChambersGuardDramAndKeepItsBytes_31 :
    ∃ (thresh : Nat) (row : Nat) (t : List (Nat × Nat)) (low : _), t.find? (·.1 == row) = none ∧ 16 ≤ t.length ∧ (∃ e ∈ t,
    e.2 = low) ∧ (∀ e ∈ t, low ≤ e.2) ∧ low + 1 < thresh :=
  ⟨9, 99, (List.range 16).map (fun i => (i, 7)), 7, by decide +kernel⟩

theorem witness_ChambersGuardDramAndKeepItsBytes_32 :
    ∃ (n : Nat) (r : DramReq) (s : State) (run : _), n < 2 ∧ (Tbl.get (fun _ => none) (s.chan n).opens r.bank) = some (r.row,
    run) :=
  ⟨1, line21 0, chans 1 (fun c => { c with opens := [(3, some (7, 4))] }) lit, 4, by decide +kernel⟩

theorem witness_ChambersGuardDramAndKeepItsBytes_33 :
    ∃ (n : Nat) (r : DramReq) (s : State), n < 2 ∧ ((Tbl.get (fun _ => none) (s.chan n).opens r.bank).any (fun o => o.1 ==
    r.row) : Bool) = false :=
  ⟨1, line21 0, lit, by decide +kernel⟩

theorem witness_ChambersGuardDramAndKeepItsBytes_34 :
    ∃ (c : DramChan), c.writes ≠ [] ∧ c.reads = [] :=
  ⟨⟨[], [line21 0], [], false, 0, 0⟩, by decide +kernel⟩

theorem witness_ChambersGuardDramAndKeepItsBytes_35 :
    ∃ (c : DramChan), c.writes ≠ [] ∧ c.reads ≠ [] ∧ c.draining = true :=
  ⟨⟨queue21, [line21 0], [], true, 2, 0⟩, by decide +kernel⟩

theorem witness_ChambersGuardDramAndKeepItsBytes_36 :
    ∃ (c : DramChan), c.writes ≠ [] ∧ c.reads ≠ [] ∧ c.draining = false :=
  ⟨⟨queue21, [line21 0], [], false, 2, 0⟩, by decide +kernel⟩

theorem witness_ChambersGuardDramAndKeepItsBytes_37 :
    ∃ (c : DramChan) (i : Nat), c.nextRead = some i :=
  ⟨⟨queue21, [], [], false, 0, 0⟩, 0, by decide +kernel⟩

theorem witness_ChambersGuardDramAndKeepItsBytes_38 :
    ∃ (n : Fin 2) (s : State) (i : _) (r : _), (s.chan n).reads.findIdx? (fun (r : DramReq) => !r.promoted && decide (r.since
    + 2000 ≤ s.elapsed)) = some i ∧ (s.chan n).reads[i]? = some r :=
  ⟨1, later 2000 (chans 1 (fun c => { c with reads := queue21 }) lit), 0, line21 0, by decide +kernel⟩

theorem witness_ChambersGuardDramAndKeepItsBytes_39 :
    ∃ (n : Fin 2) (s : State), (s.chan n).reads.any (fun (r : DramReq) => !r.promoted && decide (r.since + 2000 ≤ s.elapsed))
    = false :=
  ⟨1, lit, by decide +kernel⟩

theorem witness_ChambersGuardDramAndKeepItsBytes_40 :
    ∃ (n : Fin 2) (s : State), s.isUp (memId n) = true ∧ (decide (s.dram.winAt.getD n 0 + s.refreshWindow n ≤ s.elapsed) :
    Bool) = true :=
  ⟨1, later 32000000 lit, by decide +kernel⟩

theorem witness_ChambersGuardDramAndKeepItsBytes_41 :
    ∃ (n : Fin 2) (s : State), s.isUp (memId n) = true ∧ (decide (s.dram.winAt.getD n 0 + s.refreshWindow n ≤ s.elapsed) :
    Bool) = false :=
  ⟨1, later 31999999 lit, by decide +kernel⟩

theorem witness_ChambersGuardDramAndKeepItsBytes_42 :
    ∃ (n : Fin 2) (s : State), s.isUp (memId n) = true :=
  ⟨1, lit, by decide +kernel⟩

theorem witness_ChambersGuardDramAndKeepItsBytes_43 :
    ∃ (n : Fin 2) (s : State), s.isUp (memId n) = true :=
  ⟨1, lit, by decide +kernel⟩

theorem witness_ChambersGuardDramAndKeepItsBytes_44 :
    ∃ (n : Fin 2) (e : EccFind) (x : Nat) (c : Chamber) (s : State), s.isUp (memId n) = true ∧ s.held n = false ∧ scrubLine n
    (s.eccChambers n) (s.dram.scrubPos.getD n 0 % max 1 (s.scrubLines n)) = some (c, x) ∧ (s.bit (A.memEccCtl n)
    F.memEccCtl_scrub_en && decide (s.dram.scrubAt.getD n 0 + s.scrubGap n ≤ s.elapsed) : Bool) = true ∧
    (s.dram.poison.contains (x / 64) : Bool) = false ∧ e = .clean :=
  ⟨1, .clean, 0x401000, ⟨false, false, true, 256, 0x400000, 0x400000⟩, later 100000000000000 (put [(A.memEccCtl 1,
    F.memEccCtl_scrub_en, 1)] (mirrors 0 (chambered 1 0 1 256 lit))), by decide +kernel⟩

theorem witness_ChambersGuardDramAndKeepItsBytes_45 :
    ∃ (n : Fin 2) (e : EccFind) (x : Nat) (c : Chamber) (s : State), s.isUp (memId n) = true ∧ s.held n = false ∧ scrubLine n
    (s.eccChambers n) (s.dram.scrubPos.getD n 0 % max 1 (s.scrubLines n)) = some (c, x) ∧ (s.bit (A.memEccCtl n)
    F.memEccCtl_scrub_en && decide (s.dram.scrubAt.getD n 0 + s.scrubGap n ≤ s.elapsed) : Bool) = true ∧
    (s.dram.poison.contains (x / 64) : Bool) = false ∧ e = .single :=
  ⟨1, .single, 0x401000, ⟨false, false, true, 256, 0x400000, 0x400000⟩, later 100000000000000 (put [(A.memEccCtl 1,
    F.memEccCtl_scrub_en, 1)] (mirrors 0 (chambered 1 0 1 256 lit))), by decide +kernel⟩

theorem witness_ChambersGuardDramAndKeepItsBytes_46 :
    ∃ (n : Fin 2) (e : EccFind) (x : Nat) (c : Chamber) (s : State), s.isUp (memId n) = true ∧ s.held n = false ∧ scrubLine n
    (s.eccChambers n) (s.dram.scrubPos.getD n 0 % max 1 (s.scrubLines n)) = some (c, x) ∧ (s.bit (A.memEccCtl n)
    F.memEccCtl_scrub_en && decide (s.dram.scrubAt.getD n 0 + s.scrubGap n ≤ s.elapsed) : Bool) = true ∧
    (s.dram.poison.contains (x / 64) : Bool) = false ∧ e = .double false ∧ (c.mirrored && s.mirror == 0 : Bool) = true :=
  ⟨1, (.double false), 0x400000, ⟨true, false, true, 256, 0x400000, 0x400000⟩, later 100000000000000 (put [(A.memEccCtl 1,
    F.memEccCtl_scrub_en, 1)] (mirrors 0 (chambered 1 1 1 256 lit))), by decide +kernel⟩

theorem witness_ChambersGuardDramAndKeepItsBytes_47 :
    ∃ (n : Fin 2) (e : EccFind) (x : Nat) (c : Chamber) (s : State) (both : _), s.isUp (memId n) = true ∧ s.held n = false ∧
    scrubLine n (s.eccChambers n) (s.dram.scrubPos.getD n 0 % max 1 (s.scrubLines n)) = some (c, x) ∧ (s.bit (A.memEccCtl n)
    F.memEccCtl_scrub_en && decide (s.dram.scrubAt.getD n 0 + s.scrubGap n ≤ s.elapsed) : Bool) = true ∧
    (((s.dram.poison.contains (x / 64) : Bool) = true ∨ (e = .double both ∧ (both = true ∨ (c.mirrored && s.mirror == 0 :
    Bool) = false)))) :=
  ⟨1, (.double false), 0x401000, ⟨false, false, true, 256, 0x400000, 0x400000⟩, later 100000000000000 (put [(A.memEccCtl 1,
    F.memEccCtl_scrub_en, 1)] (mirrors 0 (chambered 1 0 1 256 lit))), false, by decide +kernel⟩

theorem witness_ChambersGuardDramAndKeepItsBytes_48 :
    ∃ (n : Fin 2) (x : Nat) (c : Chamber) (s : State), s.isUp (memId n) = true ∧ s.held n = false ∧ scrubLine n
    (s.eccChambers n) (s.dram.scrubPos.getD n 0 % max 1 (s.scrubLines n)) = some (c, x) ∧ (s.bit (A.memEccCtl n)
    F.memEccCtl_scrub_en && decide (s.dram.scrubAt.getD n 0 + s.scrubGap n ≤ s.elapsed) : Bool) = false :=
  ⟨1, 0x401000, ⟨false, false, true, 256, 0x400000, 0x400000⟩, (put [(A.memEccCtl 1, F.memEccCtl_scrub_en, 1)] (mirrors 0
    (chambered 1 0 1 256 lit))), by decide +kernel⟩

theorem witness_ChambersGuardDramAndKeepItsBytes_49 :
    ∃ (n : Fin 2) (s : State), s.isUp (memId n) = true ∧ s.held n = true :=
  ⟨1, put [(A.memMirror 1, F.memMirror_held, 1)] lit, by decide +kernel⟩

theorem witness_ChambersGuardDramAndKeepItsBytes_50 :
    ∃ (n : Fin 2) (s : State), s.isUp (memId n) = true ∧ s.held n = true ∧ (s.dram.failedOnce.testBit n) = false :=
  ⟨1, put [(A.memMirror 1, F.memMirror_held, 1)] lit, by decide +kernel⟩

theorem witness_ChambersGuardDramAndKeepItsBytes_51 :
    ∃ (n : Fin 2) (s : State), s.isUp (memId n) = true ∧ s.held n = true ∧ (s.dram.failedOnce.testBit n) = true ∧ Tbl.get
    (fun _ => []) s.cdm.jobs.retrain n = [] ∧ s.mode.mode = .degraded ∧ s.mode.toLight = [] ∧ s.mode.toDark = [] :=
  ⟨1, moded .degraded (drams (fun d => { d with failedOnce := 2 }) (put [(A.memMirror 1, F.memMirror_held, 1)] lit)),
    by decide +kernel⟩

theorem witness_ChambersGuardDramAndKeepItsBytes_52 :
    ∃ (n : Fin 2) (s : State), s.held n = false :=
  ⟨1, lit, by decide +kernel⟩

theorem witness_ChambersGuardDramAndKeepItsBytes_53 :
    ∃ (s : State), s.isLit 11 = true ∧ s.isLit 12 = true ∧ s.dram.returning < 2 ∧ (s.mirror == 2 && decide (s.dram.resyncAt +
    s.resyncTime ≤ s.elapsed) : Bool) = true ∧ Tbl.get (fun _ => []) s.cdm.jobs.retrain s.dram.returning = [] :=
  ⟨mirrors 2 lit, by decide +kernel⟩

theorem witness_ChambersGuardDramAndKeepItsBytes_54 :
    ∃ (s : State), s.isLit 11 = true ∧ s.isLit 12 = true ∧ s.dram.returning < 2 ∧ (s.mirror == 2 && decide (s.dram.resyncAt +
    s.resyncTime ≤ s.elapsed) : Bool) = false :=
  ⟨mirrors 1 lit, by decide +kernel⟩

/-! ### Ill-formed commands are refused -/

theorem test_wellFormed_refuses_0 : ([
    .registerWrite (.core 0) 0 (List.replicate 65 0)
    , .bootRomStart 0 (2 ^ 22)
    , .hostWrite (List.replicate 4113 0)
    , .hostRead 4113
    , .fragmentTimeout (.network (2 ^ 48) 0)
    , .commandLimitTimeout (.network 0 4096) 0
    , .query (.internal 0x16 0 0 [])
    , .query (.internal 0 65536 0 [])
    , .query (.internal 0 0 (2 ^ 32) [])
    , .modeSet (.waiting .host) (2 ^ 22) none
    , .modeSet (.waiting .host) 0 (some (.waiting (.network 0 4096)))
    , .testEnter (.waiting .host) (2 ^ 22)
    , .thriftFillCheck (2 ^ 22)
    , .wakeEvent 0 true (2 ^ 22)
    , .vigilLanternFound (2 ^ 48) 0
    , .sensorSample [] [] [] 0 0 0
    ] : List Instr).all (fun c => !c.wf) = true := by decide +kernel

theorem test_wellFormed_refuses_1 : ([
    .calRunDone 0 ⟨[⟨0, 4, 0, 0, 0⟩], [], [], []⟩ 0
    , .calRunDone 0 ⟨[], [⟨0, 384, 0, 0, 0, []⟩], [], []⟩ 0
    , .calRunDone 0 ⟨[], [], [(128, 0)], []⟩ 0
    , .retuneRequest 0 (2 ^ 17) none
    , .synLock 0 0 256 0
    , .txCommand 0 { cmd0 with chains := 16 }
    , .txCommand 0 { cmd0 with frameId := 65536 }
    , .txCommand 0 { cmd0 with centre := 2 ^ 17 }
    , .txCommand 0 { cmd0 with earliest := 2 ^ 32 }
    , .txCommand 0 { cmd0 with deadline := 2 ^ 32 }
    , .txCommand 0 { cmd0 with tx := { cmd0.tx with width := 5 } }
    , .txCommand 0 { cmd0 with tx := { cmd0.tx with streams := 9 } }
    , .txCommand 0 cmd0
    , .txCommand 0 { cmd0 with keySlot := some 4096 }
    , .mismatchAverage 0 4 0 0 0 0
    , .holaelRxWindow 0 (some (some 1025, 0))
    , .agcLltfFound 0 (List.replicate 9 0)
    , .hsigDecoded 0 (List.replicate 95 0) 0
    , .hsigDecoded 0 (List.replicate 96 0) 4096
    , .codewordSubmit 0 (.wlan false ⟨cmd0.tx, false, some 64, 0⟩) 0 []
    , .nfWindow 0 (List.replicate 9 [])
    , .calStepStart 0 (.loopback 4 0 0)
    , .calStepStart 0 (.loopback 0 4 0)
    , .calFrame 0 65536 0 0 none
    , .calFrame 0 0 (2 ^ 32) 0 none
    , .calFrame 0 0 0 (2 ^ 32) none
    , .calFrame 0 0 0 0 (some ⟨0, 0, 16⟩)
    ] : List Instr).all (fun c => !c.wf) = true := by decide +kernel

theorem test_wellFormed_refuses_2 : ([
    .joinReqTx 0 0 (List.replicate 777 0)
    , .beaconTx 0 { wair with centre := 2 ^ 17 }
    , .beaconTx 0 { wair with earliest := 2 ^ 32 }
    , .beaconTx 0 { wair with deadline := 2 ^ 32 }
    , .wlanFrameRx 0 { wdata with ta := 2 ^ 48 }
    , .wlanFrameRx 0 { wdata with ta := 0, pn := 2 ^ 48 }
    , .wlanFrameRx 0 { wdata with ppduEnd := 2 ^ 32 }
    , .wlanFrameRx 0 { wdata with colour := some 64 }
    , .wlanTxOpportunity 0 wair (.data 0 0 [] false 0 0)
    , .wlanTxOpportunity 0 wair (.multi [⟨0, 0, 0, 242, 1, [], true⟩])
    , .triggerTx 0 wair (List.replicate 75 0)
    ] : List Instr).all (fun c => !c.wf) = true := by decide +kernel

theorem test_wellFormed_refuses_3 : ([
    .cipOperationStart .hmac (2 ^ 32) 0 true 0 false
    , .klTs1Detected 0 [[], [], [], [], []]
    , .param 0 [[], [], [], [], []]
    , .dmaShort 0 (2 ^ 24)
    , .dmaAccessFault 0 0 (2 ^ 40)
    , .dramAccess (.core 0) 0 0 none .clean 0 0
    , .dramAccess (.core 0) 63 2 none .clean 0 0
    , .dramAccess (.core 0) 0 2 (some [0]) .clean 0 0
    , .dramAccess (.core 0) 0 1 none .clean 0 (2 ^ 18)
    , .wckOscRead 0 65536
    ] : List Instr).all (fun c => !c.wf) = true := by decide +kernel

theorem test_long_lists_are_ill_formed :
    ([.holaelFrameRx 0 (List.replicate 65536 0) [] 0, .macFrameRx 0 (List.replicate 16385 0) 0 0 [] false,
      .query (.internal 0 0 0 (List.replicate 65281 0)), .wlanFrameRx 0 { wdata with ta := 0, bytes := List.replicate 16385 0 }] : List Instr).all
      (fun c => !c.wf) = true := by
  simp only [Instr.wf, CmdSource.wf, WlanRx.wf, List.all_cons, List.all_nil, List.length_replicate]
  decide

/-! ### Examples of the spec -/

/-- R318: the nine bytes "123456789" with seed 0xFFFF_FFFF. -/
theorem test_crc32c : crc32c 0xFFFFFFFF [0x31, 0x32, 0x33, 0x34, 0x35, 0x36, 0x37, 0x38, 0x39] = 0x1CF96D7C := by decide +kernel

/-- R200, the hop example: partner 417, hop_increment 5, event counters 1 000 to 1 003. -/
theorem test_hop_example : [1000, 1001, 1002, 1003].map (fun ec => hopIndex ec 5 417 [33, 36, 40, 44, 49, 52, 57])
    = [some 57, some 49, some 40, some 33] := by decide +kernel

/-- R411, the member pole example: theta = +14.75 ns, 10 ms after the sample before it. -/
theorem test_servo_example :
    (afterCmd lit (exec (.timeOffsetSubmit (.core 0) 0xC0000000)
      { put [(A.timeCtl, F.timeCtl_servo_mode, 1), (A.timeOffsetNs, ⟨31, 0, .rw, 0⟩, 14)] lit with
        elapsed := 10000000, time := { lit.time with lastSample := some 0, sampled := true } })).reg A.timeIncr = 0x1FFFFE43 := by
  decide +kernel

/-- R418, the same example: 40 ns is code 22; the parent's code 27 and one hop of 25 ns give code 29. -/
theorem test_bound_example : boundCode (40 * 65536) = 22 ∧ boundCode (boundOf 27 + hopBound 0) = 29 := by decide +kernel

/-- R261, the join window example: a CTS 175 µs before the window carries 687 µs, the latest allowed 550 µs. -/
def joinWindowed : State :=
  put [(A.hmacHolRound, F.hmacHolRound_anchor, 40), (A.hmacHolJoin, F.hmacHolJoin_join_en, 1), (A.hmacHolJoin, F.hmacHolJoin_join_offset, 20),
    (A.hmacHolJoin, F.hmacHolJoin_join_len, 4), (A.hmacWlanProtect 2, F.hmacWlanProtect_protect_en, 1)]
    { windowed with time := { windowed.time with clock := 12301000 * fracUnits } }
def protects (cts : Nat) : Nat := ((afterCmd lit (exec (.protectCts 2 wair (some cts)) joinWindowed)).wr 2).ctsDuration
theorem test_cts_example : protects 12325000 = 687 ∧ protects 12462000 = 550 := by decide +kernel

/-- R343, the wired port example, services 2 and 6: a tie goes to the lower number; a smaller tag goes first. -/
def services (a b c : Nat) (packets : List SchPkt) : State :=
  let q (t : Nat) (l : List SchPkt) : SchQueue := { SchQueue.init with pkts := l, tag := t, awake := !l.isEmpty }
  let p : SchPkt := { pkt14 with bytes := List.replicate 1000 0 }
  put ((A.schQW0 40, F.schQW0_weight, 2) :: [40, 41, 42].map (fun n => (A.schQW0 n, F.schQW0_enable, 1)))
    { lit with sch := { lit.sch with queues := [(40, q a [p]), (41, q b [p]), (42, q c packets)] } }
theorem test_queue_example : (services 128000 0 0 []).pickQ [40, 41, 42] = some 40
    ∧ (services 512000 256000 384000 [pkt14]).pickQ [40, 41] = some 41 := by decide +kernel

/-- R549: 438 signal balls, 551 supply balls and 860 VSS balls. -/
def ballKind (b : Ball) : Nat := match b with | .signal _ _ => 0 | .rail _ => 1 | .vss => 2
def ballCount (k : Nat) : Nat :=
  ((List.range 43).map (fun r => ((List.range 43).filter (fun c => ballKind (ballAt (r + 1) (c + 1)) == k)).length)).foldl (· + ·) 0
theorem test_ball_counts : [ballCount 0, ballCount 1, ballCount 2] = [438, 551, 860] := by decide +kernel
/-- R549's two lookups: COEX_GNT_H at J13, LN_RX_2_3_N at AF5; J15 is VSS. -/
theorem test_ball_lookups : ballAt 9 13 = .signal .radH 71 ∧ ballAt 25 5 = .signal .lanes 48 ∧ ballAt 9 15 = .vss
    ∧ rowNames[8]? = some "J" ∧ rowNames[24]? = some "AF" := by decide +kernel
/-- R550: in OFF FAULT_N is released, HOST_IRQ_N high, and DALI_TX and the front-end controls low. -/
theorem test_reset_pins : State.reset.level .faultN = true ∧ State.reset.level .hostIrqN = true ∧ State.reset.level (.daliTx 1) = false
    ∧ State.reset.level (.paEn 2 7) = false := by decide +kernel

end Sys2Proof.Tests
end

/-! # Reception: what gain control and the radio's shared operations keep, and the statement on gain control -/

namespace Sys2Proof.Machine

/-! ### What an operation may move -/

/-- From s to t nothing moves but the states of the radios and the registers of a list. -/
def Moves (l : List Nat) (s t : State) : Prop := RegsKept l s t ∧ t = { s with regs := t.regs, rad := t.rad }

theorem Moves.refl (l : List Nat) (s : State) : Moves l s s := ⟨fun _ _ => rfl, rfl⟩

theorem Moves.trans {l : List Nat} {s t u : State} (h1 : Moves l s t) (h2 : Moves l t u) : Moves l s u := by
  obtain ⟨hk1, ho1⟩ := h1
  obtain ⟨hk2, ho2⟩ := h2
  exact ⟨fun a ha => (hk2 a ha).trans (hk1 a ha), ho2.trans (by rw [ho1])⟩

theorem Moves.setFld {l : List Nat} {s t : State} (h : Moves l s t) {a : Nat} (ha : a ∈ l) (f : Fld) (v : Nat) :
    Moves l s (t.setFld a f v) :=
  h.trans ⟨fun _ hb => State.reg_setFld_ne t (ne_of_mem_of_not_mem ha hb).symm f v, rfl⟩

theorem Moves.count {l : List Nat} {s t : State} (h : Moves l s t) {a : Nat} (ha : a ∈ l) : Moves l s (t.count a) :=
  h.trans ⟨fun _ hb => State.reg_count_ne t (ne_of_mem_of_not_mem ha hb).symm, rfl⟩

theorem Moves.setRd {l : List Nat} {s t : State} (h : Moves l s t) (r : Nat) (x : RadState) : Moves l s (t.setRd r x) :=
  h.trans ⟨fun _ _ => rfl, rfl⟩

theorem Moves.reg {l : List Nat} {s t : State} (h : Moves l s t) {a : Nat} (ha : a ∉ l) : t.reg a = s.reg a := h.1 a ha

/-- A field of a register outside the list. -/
theorem Moves.fld {l : List Nat} {s t : State} (h : Moves l s t) {a : Nat} (ha : a ∉ l) (f : Fld) : t.fld a f = s.fld a f :=
  congrArg f.get (h.reg ha)

theorem Moves.elapsed {l : List Nat} {s t : State} (h : Moves l s t) : t.elapsed = s.elapsed := by rw [h.2]

/-! ### The state of a radio after each operation -/

@[simp] theorem State.rd_setRd_same (s : State) (r : Nat) (x : RadState) : (s.setRd r x).rd r = x := Tbl.get_set_same _ _ _ _

/-- States with the same radios have the same radio r. -/
theorem State.rd_congr {s t : State} (h : t.rad = s.rad) (r : Nat) : t.rd r = s.rd r :=
  congrArg (fun x => Tbl.get (fun _ => RadState.init) x r) h

@[simp] theorem State.rd_setReg (s : State) (a : Nat) (w : Word) (r : Nat) : (s.setReg a w).rd r = s.rd r :=
  State.rd_congr (s.setReg_rad a w) r
@[simp] theorem State.rd_setFld (s : State) (a : Nat) (f : Fld) (v r : Nat) : (s.setFld a f v).rd r = s.rd r :=
  State.rd_congr (s.setFld_rad a f v) r
@[simp] theorem State.rd_count (s : State) (a r : Nat) : (s.count a).rd r = s.rd r := State.rd_congr (s.count_rad a) r
@[simp] theorem State.rd_setGain (s : State) (k v r : Nat) : (s.setGain k v).rd r = s.rd r := State.rd_setFld s _ _ v r
@[simp] theorem State.rd_setAgc (s : State) (k v r : Nat) : (s.setAgc k v).rd r = s.rd r := State.rd_setFld s _ _ v r

/-! ### The gain control's register (R143, R144) -/

theorem State.agc_congr {s t : State} {r : Nat} (h : t.reg (A.radAgcStatus r) = s.reg (A.radAgcStatus r)) : t.agc r = s.agc r :=
  congrArg F.radAgcStatus_state.get h

theorem State.gain_congr {s t : State} {r : Nat} (h : t.reg (A.radAgcStatus r) = s.reg (A.radAgcStatus r)) : t.gain r = s.gain r :=
  congrArg F.radAgcStatus_gain.get h

theorem State.reg_setRd (s : State) (r : Nat) (x : RadState) (a : Nat) : (s.setRd r x).reg a = s.reg a := rfl

@[simp] theorem State.agc_setRd (s : State) (k : Nat) (x : RadState) (r : Nat) : (s.setRd k x).agc r = s.agc r :=
  State.agc_congr (s.reg_setRd k x _)

@[simp] theorem State.gain_setRd (s : State) (k : Nat) (x : RadState) (r : Nat) : (s.setRd k x).gain r = s.gain r :=
  State.gain_congr (s.reg_setRd k x _)

/-- A new gain leaves the reception state. -/
@[simp] theorem State.agc_setGain (s : State) (r v : Nat) : (s.setGain r v).agc r = s.agc r :=
  State.fld_setFld_other s _ _ _ (by decide) (by decide) v

/-- A new reception state leaves the gain. -/
@[simp] theorem State.gain_setAgc (s : State) (r v : Nat) : (s.setAgc r v).gain r = s.gain r :=
  State.fld_setFld_other s _ _ _ (by decide) (by decide) v

theorem State.agc_setAgc (s : State) (r : Nat) {v : Nat} (hv : v < 8) : (s.setAgc r v).agc r = v :=
  (State.fld_setFld_same s _ F.radAgcStatus_state (by decide) v).trans (Nat.mod_eq_of_lt hv)

/-- A step of the gain writes the gain or nothing. -/
theorem State.stepGain_cases (s : State) (r : Nat) (level : Int) :
    s.stepGain r level = s ∨ ∃ v, s.stepGain r level = s.setGain r v := by
  simp only [State.stepGain]
  split
  · exact .inl rfl
  · exact .inr ⟨_, rfl⟩

@[simp] theorem State.rad_stepGain (s : State) (r : Nat) (level : Int) : (s.stepGain r level).rad = s.rad := by
  obtain h | ⟨v, h⟩ := s.stepGain_cases r level
  · rw [h]
  · rw [h, State.setGain, State.setFld_rad]

@[simp] theorem State.agc_stepGain (s : State) (r : Nat) (level : Int) : (s.stepGain r level).agc r = s.agc r := by
  obtain h | ⟨v, h⟩ := s.stepGain_cases r level <;> simp [h]

@[simp] theorem State.rd_stepGain (s : State) (r : Nat) (level : Int) (k : Nat) : (s.stepGain r level).rd k = s.rd k :=
  State.rd_congr (s.rad_stepGain r level) k

theorem Moves.stepGain {l : List Nat} {s t : State} (h : Moves l s t) {r : Nat} (hr : A.radAgcStatus r ∈ l) (level : Int) :
    Moves l s (t.stepGain r level) := by
  obtain e | ⟨v, e⟩ := t.stepGain_cases r level <;> rw [e]
  · exact h
  · exact h.setFld hr _ v

/-- The gain after a sequence of measured levels. -/
def State.stepGains (s : State) (r : Nat) (levels : List Int) : State := levels.foldl (fun s l => s.stepGain r l) s

@[simp] theorem State.stepGains_nil (s : State) (r : Nat) : s.stepGains r [] = s := rfl

@[simp] theorem State.stepGains_cons (s : State) (r : Nat) (x : Int) (xs : List Int) :
    s.stepGains r (x :: xs) = (s.stepGain r x).stepGains r xs := rfl

@[simp] theorem State.rad_stepGains (s : State) (r : Nat) (levels : List Int) : (s.stepGains r levels).rad = s.rad := by
  induction levels generalizing s with
  | nil => rfl
  | cons x xs ih => simp [ih]

@[simp] theorem State.rd_stepGains (s : State) (r : Nat) (levels : List Int) (k : Nat) : (s.stepGains r levels).rd k = s.rd k :=
  State.rd_congr (s.rad_stepGains r levels) k

theorem Moves.stepGains {l : List Nat} {s t : State} (h : Moves l s t) {r : Nat} (hr : A.radAgcStatus r ∈ l) (levels : List Int) :
    Moves l s (t.stepGains r levels) := by
  induction levels generalizing t with
  | nil => exact h
  | cons x xs ih => exact ih (h.stepGain hr x)

/-! ### A calibration step that ends early (R102, R169) -/

/-- The registers that a step's early end writes. -/
def dropRegs (r : Nat) : List Nat := [A.radCalState r, A.radCalStepAbort r]

/-- Does a loopback step run on the radio? -/
def State.looping (s : State) (r : Nat) : Bool := match (s.rd r).cal.step with | some ⟨.loopback _ _ _, _⟩ => true | _ => false

/-- A loopback step under way ends, as reception needs its chains (R169, R170). -/
def State.endLoopback (s : State) (r : Nat) : State := if s.looping r then s.dropStep r false else s

/-- Of the radio's state, a step's early end moves its calibration and LNA_EN. -/
theorem State.rd_dropStep (s : State) (r : Nat) (yields : Bool) :
    ∃ c e, (s.dropStep r yields).rd r = { s.rd r with cal := c, lnaEn := e } := by
  unfold State.dropStep
  dsimp only
  split
  · exact ⟨_, _, rfl⟩
  · simp only [State.restLna, State.showStep, State.rd_setRd_same, State.rd_count, State.rd_setFld]
    exact ⟨_, _, rfl⟩

theorem Moves.dropStep {l : List Nat} {s t : State} (h : Moves l s t) {r : Nat} (hl : dropRegs r ⊆ l) (yields : Bool) :
    Moves l s (t.dropStep r yields) := by
  unfold State.dropStep
  dsimp only
  split
  · exact h
  · have hstate : A.radCalState r ∈ l := hl List.mem_cons_self
    have habort : A.radCalStepAbort r ∈ l := hl (List.mem_cons_of_mem _ List.mem_cons_self)
    rw [State.restLna, State.showStep]
    exact (((h.setRd r _).setFld hstate _ _).count habort).setRd r _

theorem State.rd_endLoopback (s : State) (r : Nat) :
    ∃ c e, (s.endLoopback r).rd r = { s.rd r with cal := c, lnaEn := e } := by
  unfold State.endLoopback
  split
  · exact s.rd_dropStep r false
  · exact ⟨_, _, rfl⟩

theorem Moves.endLoopback {l : List Nat} {s t : State} (h : Moves l s t) {r : Nat} (hl : dropRegs r ⊆ l) :
    Moves l s (t.endLoopback r) := by
  unfold State.endLoopback
  split
  · exact h.dropStep hl false
  · exact h

/-- A register below the calibration's is none that a step's early end writes (R191). -/
theorem not_mem_dropRegs {r a : Nat} (ha : a < win (0x11 + r) + 0x2010) : a ∉ dropRegs r := by
  simp only [dropRegs, A.radCalState, A.radCalStepAbort, List.mem_cons, List.not_mem_nil, or_false]
  omega

theorem radAgcStatus_not_mem_dropRegs (r : Nat) : A.radAgcStatus r ∉ dropRegs r :=
  not_mem_dropRegs (by unfold A.radAgcStatus; omega)

/-- A step's early end leaves the gain control's register. -/
theorem State.agcStatus_endLoopback (s : State) (r : Nat) :
    (s.endLoopback r).reg (A.radAgcStatus r) = s.reg (A.radAgcStatus r) :=
  ((Moves.refl _ s).endLoopback (List.Subset.refl _)).reg (radAgcStatus_not_mem_dropRegs r)

/-! ### Entry to DETECT (R143, R146) -/

/-- The registers that entry to DETECT writes. -/
def detectRegs (r : Nat) : List Nat := A.radAgcStatus r :: dropRegs r

/-- A reception begins: its record, the gain of the last IDLE, and the time of its detection. -/
def State.beginRx (s : State) (r : Nat) : State :=
  s.setRd r { s.rd r with idleGain := if s.agc r = 0 then s.gain r else (s.rd r).idleGain, rx := some (Rx.start (s.rd r).rxNum)
                          rxNum := (s.rd r).rxNum + 1, detectAt := s.elapsed }

/-- The gain last frozen on the partner that a window expects, with hint_en (R146). -/
def State.gainHint (s : State) (r : Nat) : Option Nat :=
  match (s.rd r).rxWin with
  | some w => if s.bit (A.radAgcCfg r) F.radAgcCfg_hint_en then w.partner.bind (Tbl.find? (s.rd r).frozen) else none
  | none => none

/-- DETECT with a hint for the gain, where there is one, and the levels measured. -/
def State.detectGain (s : State) (r : Nat) (hint : Option Nat) (level : Int) (again : Option Int) : State :=
  let s := (match hint with | some g => s.setGain r g | none => s).setAgc r 1
  match again with
  | some l => (s.setGain r (s.gain r - 8)).stepGain r l
  | none => s.stepGain r level

/-- Entry to DETECT in its three parts: a loopback step ends, the reception begins, and the gain moves. -/
theorem State.toDetect_eq (s : State) (r : Nat) (level : Int) (again : Option Int) :
    s.toDetect r level again = ((s.endLoopback r).beginRx r).detectGain r ((s.endLoopback r).gainHint r) level again := rfl

@[simp] theorem State.agc_detectGain (s : State) (r : Nat) (hint : Option Nat) (level : Int) (again : Option Int) :
    (s.detectGain r hint level again).agc r = 1 := by
  cases again <;> simp only [State.detectGain, State.agc_stepGain, State.agc_setGain, State.agc_setAgc _ r (show 1 < 8 by decide)]

@[simp] theorem State.rd_detectGain (s : State) (r : Nat) (hint : Option Nat) (level : Int) (again : Option Int) :
    (s.detectGain r hint level again).rd r = s.rd r := by
  cases again <;> cases hint <;> simp only [State.detectGain, State.rd_stepGain, State.rd_setAgc, State.rd_setGain]

theorem Moves.detectGain {l : List Nat} {s t : State} (h : Moves l s t) {r : Nat} (hr : A.radAgcStatus r ∈ l) (hint : Option Nat)
    (level : Int) (again : Option Int) : Moves l s (t.detectGain r hint level again) := by
  have hs : Moves l s ((match hint with | some g => t.setGain r g | none => t).setAgc r 1) := by
    cases hint with
    | none => exact h.setFld hr _ _
    | some g => exact (h.setFld hr _ g).setFld hr _ _
  cases again with
  | none => exact hs.stepGain hr level
  | some x => exact (hs.setFld hr _ _).stepGain hr x

/-- What entry to DETECT does to the reception (R143). -/
theorem State.toDetect_spec (s : State) (r : Nat) (level : Int) (again : Option Int) :
    let t := s.toDetect r level again
    t.agc r = 1 ∧ (t.rd r).rx = some (Rx.start (s.rd r).rxNum) ∧ (t.rd r).rxNum = (s.rd r).rxNum + 1
      ∧ (t.rd r).detectAt = s.elapsed ∧ (t.rd r).idleGain = (if s.agc r = 0 then s.gain r else (s.rd r).idleGain) := by
  obtain ⟨c, lna, hrd⟩ := s.rd_endLoopback r
  have hagc : (s.endLoopback r).agc r = s.agc r := State.agc_congr (s.agcStatus_endLoopback r)
  have hgain : (s.endLoopback r).gain r = s.gain r := State.gain_congr (s.agcStatus_endLoopback r)
  have ht : (s.endLoopback r).elapsed = s.elapsed := ((Moves.refl _ s).endLoopback (List.Subset.refl _)).elapsed
  simp only [State.toDetect_eq, State.beginRx, State.agc_detectGain, State.rd_detectGain, State.rd_setRd_same, hrd, hagc, hgain, ht,
    and_self]

theorem Moves.toDetect {l : List Nat} {s t : State} (h : Moves l s t) {r : Nat} (hl : detectRegs r ⊆ l) (level : Int)
    (again : Option Int) : Moves l s (t.toDetect r level again) := by
  rw [t.toDetect_eq]
  exact ((h.endLoopback (fun _ ha => hl (List.mem_cons_of_mem _ ha))).setRd r _).detectGain (hl List.mem_cons_self) _ level again

/-- Entry to DETECT leaves every register but its own. -/
theorem State.reg_toDetect (s : State) (r : Nat) (level : Int) (again : Option Int) {a : Nat} (ha : a ∉ detectRegs r) :
    (s.toDetect r level again).reg a = s.reg a :=
  ((Moves.refl _ s).toDetect (List.Subset.refl _) level again).reg ha

/-! ### The receptions of gain control, clause by clause -/

theorem agcStfDetect_enters_detect (r : Rad) (idle : List Int) (level : Int) (again second : Option Int) (s : State)
    (hlit : s.radLit r = true) (hidle : s.agc r = 0) (hcan : s.canReceive r = true) :
    ∃ t, exec (.agcStfDetect r idle level again second) s = .next t ∧ t.agc r = (if second.isSome then 2 else 1)
      ∧ (t.rd r).rx = some (Rx.start (s.rd r).rxNum) ∧ (t.rd r).rxNum = (s.rd r).rxNum + 1 ∧ (t.rd r).detectAt = s.elapsed
      ∧ (idle = [] → (t.rd r).idleGain = s.gain r) ∧ Moves (detectRegs r) s t := by
  let u := (s.stepGains r idle).toDetect r level again
  have hrun : exec (.agcStfDetect r idle level again second) s
      = .next (match second with | some l => (u.stepGain r l).setAgc r 2 | none => u) := by
    change Host.Outcome.next (if _ then _ else s) = _
    rw [if_pos ⟨hlit, hidle, hcan⟩]
    rfl
  have hg : Moves (detectRegs r) s (s.stepGains r idle) := (Moves.refl _ s).stepGains List.mem_cons_self idle
  have hu : Moves (detectRegs r) s u := hg.toDetect (List.Subset.refl _) level again
  obtain ⟨hagc, hrx, hnum, hat, hgain⟩ := (s.stepGains r idle).toDetect_spec r level again
  rw [State.rd_stepGains] at hrx hnum
  rw [hg.elapsed] at hat
  have hidleGain : idle = [] → (u.rd r).idleGain = s.gain r := by
    intro he
    rw [hgain, he, State.stepGains_nil, if_pos hidle]
  refine ⟨_, hrun, ?_⟩
  cases second with
  | none => exact ⟨hagc, hrx, hnum, hat, hidleGain, hu⟩
  | some x =>
    refine ⟨State.agc_setAgc _ r (by decide), ?_, ?_, ?_, ?_, (hu.stepGain List.mem_cons_self x).setFld List.mem_cons_self _ 2⟩ <;>
      rw [State.rd_setAgc, State.rd_stepGain] <;> assumption

theorem agcDetectTimeout_returns_to_idle (r : Rad) (s : State) (hlit : s.radLit r = true) (hagc : s.agc r = 1 ∨ s.agc r = 2)
    (hat : (s.rd r).detectAt + 8000 ≤ s.elapsed) :
    ∃ t, exec (.agcDetectTimeout r) s = .next t ∧ t.agc r = 0 ∧ t.rd r = { s.rd r with rx := none, idleSince := s.elapsed }
      ∧ t.reg (A.radAgcFalseDetect r) = satInc (s.reg (A.radAgcFalseDetect r))
      ∧ Moves [A.radAgcStatus r, A.radAgcFalseDetect r] s t := by
  let u := ((s.setRd r { s.rd r with rx := none }).nowIdle r).setAgc r 0
  have hrun : exec (.agcDetectTimeout r) s = .next (u.count (A.radAgcFalseDetect r)) := by
    change Host.Outcome.next (if _ then _ else s) = _
    rw [if_pos ⟨hlit, hagc, hat⟩]
  have hne : A.radAgcStatus r ≠ A.radAgcFalseDetect r := by unfold A.radAgcStatus A.radAgcFalseDetect; omega
  refine ⟨_, hrun, ?_, ?_, ?_, ?_⟩
  · calc (u.count (A.radAgcFalseDetect r)).agc r = u.agc r := State.agc_congr (State.reg_count_ne u hne)
      _ = 0 := State.agc_setAgc _ r (by decide)
  · simp only [u, State.nowIdle, State.rd_count, State.rd_setAgc, State.rd_setRd_same, State.setRd_elapsed]
  · rw [State.reg_count_same]
    exact congrArg satInc (State.reg_setFld_ne _ hne.symm _ _)
  · exact ((((Moves.refl _ s).setRd r _).setRd r _).setFld List.mem_cons_self _ _).count
      (List.mem_cons_of_mem _ List.mem_cons_self)

theorem agcLltfFound_freezes_gain (r : Rad) (settle : List Int) (s : State) (hlit : s.radLit r = true)
    (hagc : s.agc r = 1 ∨ s.agc r = 2) :
    ∃ t, exec (.agcLltfFound r settle) s = .next t ∧ t.agc r = 3
      ∧ (∀ w, (s.rd r).rxWin = some w → ∀ p, w.partner = some p → Tbl.find? (t.rd r).frozen p = some (t.gain r))
      ∧ ((s.rd r).rxWin = none → t.rad = s.rad) ∧ (settle = [] → t.gain r = s.gain r) ∧ Moves [A.radAgcStatus r] s t := by
  let u := (s.stepGains r (settle.take 2)).setAgc r 3
  have hrun : exec (.agcLltfFound r settle) s = .next (match (u.rd r).rxWin.bind (·.partner) with
      | some p => u.setRd r { u.rd r with frozen := Tbl.insert p (u.gain r) (u.rd r).frozen }
      | none => u) := by
    change Host.Outcome.next (if _ then _ else s) = _
    rw [if_pos ⟨hlit, hagc⟩]
    rfl
  have hu : Moves [A.radAgcStatus r] s u := ((Moves.refl _ s).stepGains List.mem_cons_self _).setFld List.mem_cons_self _ 3
  have h3 : u.agc r = 3 := State.agc_setAgc _ r (by decide)
  have hrd : u.rd r = s.rd r := by simp only [u, State.rd_setAgc, State.rd_stepGains]
  have hrad : u.rad = s.rad := (State.setFld_rad _ _ _ _).trans (State.rad_stepGains s r _)
  have hgain : settle = [] → u.gain r = s.gain r := by
    rintro rfl
    exact State.gain_setAgc s r 3
  refine ⟨_, hrun, ?_⟩
  rw [hrd]
  cases hp : (s.rd r).rxWin.bind (·.partner) with
  | none =>
    refine ⟨h3, fun w hw p hwp => ?_, fun _ => hrad, hgain, hu⟩
    simp [hw, hwp] at hp
  | some k =>
    refine ⟨by simpa only [State.agc_setRd] using h3, fun w hw p hwp => ?_, fun hw => ?_,
      by simpa only [State.gain_setRd] using hgain, hu.setRd r _⟩
    · obtain rfl : p = k := by simpa [hw, hwp] using hp
      simpa only [State.rd_setRd_same, State.gain_setRd] using Tbl.find?_insert_same p (u.gain r) (s.rd r).frozen
    · simp [hw] at hp

theorem radAgcRestart_not_mem_detectRegs (r : Nat) : A.radAgcRestart r ∉ detectRegs r := by
  have hne : A.radAgcRestart r ≠ A.radAgcStatus r := by
    unfold A.radAgcRestart A.radAgcStatus
    omega
  exact List.not_mem_cons_of_ne_of_not_mem hne (not_mem_dropRegs (by unfold A.radAgcRestart; omega))

theorem agcRestart_enters_detect (r : Rad) (level : Int) (again : Option Int) (s : State) (hlit : s.radLit r = true)
    (hagc : s.agc r = 3) (hwin : (s.rd r).rxWin = none) (hen : s.bit (A.radPhyCtl r) F.radPhyCtl_restart_en = true) :
    ∃ t, exec (.agcRestart r level again) s = .next t ∧ t.agc r = 1 ∧ (t.rd r).rx = some (Rx.start (s.rd r).rxNum)
      ∧ t.reg (A.radAgcRestart r) = satInc (s.reg (A.radAgcRestart r)) ∧ (t.rd r).idleGain = (s.rd r).idleGain
      ∧ Moves [A.radAgcStatus r, A.radAgcRestart r, A.radCalState r, A.radCalStepAbort r] s t := by
  let u := s.count (A.radAgcRestart r)
  have hrun : exec (.agcRestart r level again) s = .next (u.toDetect r level again) := by
    change Host.Outcome.next (if _ then _ else s) = _
    rw [if_pos ⟨hlit, hagc, by simp [State.inWin, hwin], hen⟩]
  have hagcU : u.agc r = 3 := by
    have hreg : u.reg (A.radAgcStatus r) = s.reg (A.radAgcStatus r) :=
      State.reg_count_ne s (by unfold A.radAgcStatus A.radAgcRestart; omega)
    exact (State.agc_congr hreg).trans hagc
  have hrd : u.rd r = s.rd r := s.rd_count _ r
  obtain ⟨h1, hrx, -, -, hgain⟩ := u.toDetect_spec r level again
  rw [hrd] at hrx
  refine ⟨_, hrun, h1, hrx, ?_, ?_, ?_⟩
  · rw [u.reg_toDetect r level again (radAgcRestart_not_mem_detectRegs r), State.reg_count_same]
  · rw [hgain, if_neg (by rw [hagcU]; decide), hrd]
  · exact ((Moves.refl _ s).count (List.mem_cons_of_mem _ List.mem_cons_self)).toDetect
      (List.cons_subset_cons _ (List.subset_cons_self _ _)) level again

theorem agcRestart_in_window (r : Rad) (level : Int) (again : Option Int) (s : State) (hwin : (s.rd r).rxWin.isSome = true) :
    exec (.agcRestart r level again) s = .next s := by
  change Host.Outcome.next (if _ then _ else s) = _
  rw [if_neg]
  rintro ⟨-, -, hout, -⟩
  simp [State.inWin, hwin] at hout

/-! ### What a reception shares with the radio's other work (R97, R101, R116) -/

/-- What the radio's record says of reception: the PPDU in reception and the last one, the time of idleness, and COEX_REQ. -/
def RadState.reception (x : RadState) : Option Rx × Option Rx × Nat × Bool × Bool :=
  (x.rx, x.done, x.idleSince, x.coexReq, x.coexPri)

/-- From s to t only radios and registers move, and reception on radio r and its gain control stand. -/
structure ReceptionKept (r : Nat) (s t : State) : Prop where
  only : t = { s with regs := t.regs, rad := t.rad }
  reception : (t.rd r).reception = (s.rd r).reception
  agcStatus : t.reg (A.radAgcStatus r) = s.reg (A.radAgcStatus r)

theorem ReceptionKept.refl (r : Nat) (s : State) : ReceptionKept r s s := ⟨rfl, rfl, rfl⟩

theorem ReceptionKept.trans {r : Nat} {s t u : State} (h1 : ReceptionKept r s t) (h2 : ReceptionKept r t u) : ReceptionKept r s u where
  only := h2.only.trans (by rw [h1.only])
  reception := h2.reception.trans h1.reception
  agcStatus := h2.agcStatus.trans h1.agcStatus

theorem ReceptionKept.setReg {r : Nat} {s t : State} (h : ReceptionKept r s t) {a : Nat} (ha : A.radAgcStatus r ≠ a) (w : Word) :
    ReceptionKept r s (t.setReg a w) :=
  h.trans ⟨rfl, congrArg _ (t.rd_setReg a w r), t.reg_setReg_ne ha w⟩

theorem ReceptionKept.setFld {r : Nat} {s t : State} (h : ReceptionKept r s t) {a : Nat} (ha : A.radAgcStatus r ≠ a) (f : Fld)
    (v : Nat) : ReceptionKept r s (t.setFld a f v) := h.setReg ha _

theorem ReceptionKept.count {r : Nat} {s t : State} (h : ReceptionKept r s t) {a : Nat} (ha : A.radAgcStatus r ≠ a) :
    ReceptionKept r s (t.count a) := h.setReg ha _

theorem ReceptionKept.setRd {r : Nat} {s t : State} (h : ReceptionKept r s t) {x : RadState}
    (hx : x.reception = (t.rd r).reception := by rfl) : ReceptionKept r s (t.setRd r x) :=
  h.trans ⟨rfl, (congrArg RadState.reception (t.rd_setRd_same r x)).trans hx, t.reg_setRd r x _⟩

theorem ReceptionKept.ite {r : Nat} {s t u : State} (ht : ReceptionKept r s t) (hu : ReceptionKept r s u) {p : Prop}
    {_ : Decidable p} : ReceptionKept r s (if p then t else u) := by
  split
  · exact ht
  · exact hu

/-- Registers below the noise table keep their words as it empties. -/
theorem State.reg_clearNoise (s : State) {r a : Nat} (ha : a < win (radId r) + 0x10000) : (s.clearNoise r).reg a = s.reg a := by
  have hout : (decide (win (radId r) + 0x10000 ≤ a) && decide (a < win (radId r) + 0x10000 + 0x4000)) = false := by
    rw [decide_eq_false (Nat.not_le.mpr ha), Bool.false_and]
  have hfind := Tbl.find?_drop (fun b => decide (win (radId r) + 0x10000 ≤ b) && decide (b < win (radId r) + 0x10000 + 0x4000)) s.regs a
  rw [hout] at hfind
  exact congrArg (·.getD (resetWord a)) hfind

section
variable {r : Nat} {s t : State} (h : ReceptionKept r s t)
include h

theorem ReceptionKept.setSyn (n v : Nat) : ReceptionKept r s (t.setSyn r n v) := by
  have ha : A.radAgcStatus r ≠ A.radSynStatus r := by unfold A.radAgcStatus A.radSynStatus; omega
  exact (h.setFld ha _ v).setFld ha _ _

theorem ReceptionKept.dropStep (yields : Bool) : ReceptionKept r s (t.dropStep r yields) := by
  have hm : Moves (dropRegs r) t (t.dropStep r yields) := (Moves.refl _ t).dropStep (List.Subset.refl _) yields
  obtain ⟨c, e, hrd⟩ := t.rd_dropStep r yields
  exact h.trans ⟨hm.2, by rw [hrd]; rfl, hm.reg (radAgcStatus_not_mem_dropRegs r)⟩

theorem ReceptionKept.unwindSlot (gnt : Bool) : ReceptionKept r s (t.unwindSlot r gnt) := by
  unfold State.unwindSlot
  dsimp only
  split
  · split
    · exact h.setRd
    · exact h
  · exact h

/-- The noise table lies above the gain control's register (R150, R160). -/
theorem ReceptionKept.clearNoise : ReceptionKept r s (t.clearNoise r) :=
  h.trans ⟨rfl, congrArg _ (State.rd_congr rfl r), t.reg_clearNoise (by simp only [A.radAgcStatus, radId]; omega)⟩

theorem ReceptionKept.tune {n : Nat} (hn : n ≤ 1) (f : Nat) (preset : Option Nat) : ReceptionKept r s (t.tune r n f preset) := by
  have ha : A.radAgcStatus r ≠ A.radSynFreq r n := by
    simp only [A.radAgcStatus, A.radSynFreq]
    omega
  have hpreset (y : Syn) (u : State) : ((u.rd r).setSyn n y).reception = (u.rd r).reception := by
    unfold RadState.setSyn
    split <;> rfl
  have htuned (y : Syn) := ((h.setFld ha F.radSynFreq_freq f).setSyn n 1).setRd (hpreset y _)
  exact (((htuned _).unwindSlot false).ite (htuned _)).clearNoise.ite (((htuned _).unwindSlot false).ite (htuned _))

theorem ReceptionKept.retune (f : Nat) (preset : Option Nat) : ReceptionKept r s (t.retune r f preset) := by
  have hlost : ReceptionKept r s (t.count (A.radSynReqLost r)) := h.count (by unfold A.radAgcStatus A.radSynReqLost; omega)
  have hprobe (b : Bool) : ReceptionKept r s (if b then t.dropStep r false else t) := (h.dropStep false).ite h
  unfold State.retune
  refine hlost.ite (hlost.ite ?_)
  dsimp only
  have hone (p : Prop) [Decidable p] : (if p then 1 else 0) ≤ 1 := by split <;> omega
  exact ((hprobe _).tune (Nat.sub_le _ _) f preset).ite (((hprobe _).tune (hone _) f preset).ite (hprobe _).setRd)

theorem ReceptionKept.takeRetune : ReceptionKept r s (t.takeRetune r) := by
  have ha : A.radAgcStatus r ≠ A.radSynCtl r := by unfold A.radAgcStatus A.radSynCtl; omega
  unfold State.takeRetune
  split
  · exact ((h.setRd.setFld ha _ 0).retune _ _).ite h
  · exact h

theorem ReceptionKept.chase : ReceptionKept r s (t.chase r) := by
  unfold State.chase
  split
  · exact (h.retune _ none).ite h
  · exact h

theorem ReceptionKept.startTuner : ReceptionKept r s (t.startTuner r) := by
  unfold State.startTuner
  exact ReceptionKept.ite h.setRd h

theorem ReceptionKept.showSlot : ReceptionKept r s (t.showSlot r) := by
  have ha : A.radAgcStatus r ≠ A.radTxPending r := by unfold A.radAgcStatus A.radTxPending; omega
  unfold State.showSlot
  dsimp only
  split
  · exact h.chase.startTuner.setReg ha _
  · exact h.chase.startTuner.setReg ha _
end

/-! ### A radio to which nothing waits (R97, R101) -/

/-- The synthesiser that holds a centre is told by the status and frequency registers alone. -/
theorem State.holding_congr {s t : State} {r : Nat} (hs : t.reg (A.radSynStatus r) = s.reg (A.radSynStatus r))
    (hf : ∀ n, n ≤ 1 → t.reg (A.radSynFreq r n) = s.reg (A.radSynFreq r n)) (f : Nat) : t.holding r f = s.holding r f := by
  have hone : s.synActive r ≤ 1 := Nat.lt_succ_iff.mp (Fld.get_lt F.radSynStatus_active _)
  have hactive : t.synActive r = s.synActive r := congrArg F.radSynStatus_active.get hs
  have hstate (n : Nat) : t.synState r n = s.synState r n := congrArg (Fld.get _) hs
  have hfreq {n : Nat} (hn : n ≤ 1) : t.synFreq r n = s.synFreq r n := congrArg F.radSynFreq_freq.get (hf n hn)
  simp only [State.holding, hactive, hstate, List.find?_cons, List.find?_nil, hfreq hone, hfreq (Nat.sub_le 1 (s.synActive r))]

theorem State.takeRetune_of_none (s : State) (r : Nat) (h : (s.rd r).retune = none) : s.takeRetune r = s := by
  simp only [State.takeRetune, h]

theorem State.chase_of_held (s : State) (r : Nat)
    (h : (s.rd r).slot.all (fun p => (s.holding r p.cmd.centre).isSome) = true) : s.chase r = s := by
  unfold State.chase
  split
  · next p hp =>
    rw [if_neg]
    rintro ⟨-, -, -, hnone, -⟩
    simp [hp, Option.isNone_iff_eq_none.mp hnone] at h
  · rfl

theorem State.regs_startTuner (s : State) (r : Nat) : (s.startTuner r).regs = s.regs := by
  unfold State.startTuner
  dsimp only
  split <;> rfl

/-- A slot whose centre is held, or none, shows itself in rad_TX_PENDING and nowhere else. -/
theorem State.showSlot_of_held (s : State) (r : Nat)
    (h : (s.rd r).slot.all (fun p => (s.holding r p.cmd.centre).isSome) = true) : RegsKept [A.radTxPending r] s (s.showSlot r) := by
  intro a ha
  have hkept (w : Word) : ((s.startTuner r).setReg (A.radTxPending r) w).reg a = s.reg a :=
    (State.reg_setReg_ne _ (List.ne_of_not_mem_cons ha) w).trans (congrArg (Tbl.get resetWord · a) (s.regs_startTuner r))
  unfold State.showSlot
  rw [s.chase_of_held r h]
  dsimp only
  split
  · exact hkept _
  · exact hkept _

/-! ### The receiver becomes free (R133, R143) -/

/-- The reception ends: its pilots are taken, it becomes the last one received, and COEX_REQ may fall. -/
def State.freeRx (s : State) (r : Nat) (syms : List (List (Int × Int × Int))) : State :=
  let s := s.trackPilots r syms
  ((s.setRd r { s.rd r with rx := none, done := (s.rd r).rx }).nowIdle r).dropReq r

/-- Gain control returns to IDLE, but not while the radio transmits. -/
def State.agcIdle (s : State) (r : Nat) : State := if s.agc r = 4 then s else s.setAgc r 0

theorem Moves.dropReq {l : List Nat} {s t : State} (h : Moves l s t) (r : Nat) : Moves l s (t.dropReq r) := by
  unfold State.dropReq
  dsimp only
  split
  · exact h.setRd r _
  · exact h

theorem Moves.trackPilots {l : List Nat} {s t : State} (h : Moves l s t) (r : Nat) (syms : List (List (Int × Int × Int))) :
    Moves l s (t.trackPilots r syms) := by
  unfold State.trackPilots
  split
  · exact h.setRd r _
  · exact h

theorem Moves.freeRx {l : List Nat} {s t : State} (h : Moves l s t) (r : Nat) (syms : List (List (Int × Int × Int))) :
    Moves l s (t.freeRx r syms) := (((h.trackPilots r syms).setRd r _).setRd r _).dropReq r

theorem Moves.agcIdle {l : List Nat} {s t : State} (h : Moves l s t) {r : Nat} (hr : A.radAgcStatus r ∈ l) :
    Moves l s (t.agcIdle r) := by
  unfold State.agcIdle
  split
  · exact h
  · exact h.setFld hr _ 0

@[simp] theorem State.rd_agcIdle (s : State) (r : Nat) : (s.agcIdle r).rd r = s.rd r := by
  unfold State.agcIdle
  split
  · rfl
  · exact s.rd_setAgc r 0 r

theorem State.agc_agcIdle (s : State) (r : Nat) : (s.agcIdle r).agc r = if s.agc r = 4 then 4 else 0 := by
  unfold State.agcIdle
  split
  · assumption
  · exact State.agc_setAgc s r (by decide)

/-- COEX_REQ falls where no RF, window, unwound command or commitment holds it (R118). -/
theorem State.rd_dropReq (s : State) (r : Nat) :
    (s.dropReq r).rd r = if (s.rd r).air.isNone ∧ (s.rd r).rxWin.isNone ∧ (s.rd r).coexEnd.isNone
        ∧ !((s.rd r).slot.any (·.commit.isSome)) then { s.rd r with coexReq := false, coexPri := false } else s.rd r := by
  unfold State.dropReq
  dsimp only
  split
  · exact s.rd_setRd_same r _
  · rfl

/-- Where nothing holds COEX_REQ, it falls with its priority. -/
theorem State.coex_dropReq (s : State) (r : Nat) (hair : (s.rd r).air = none) (hwin : (s.rd r).rxWin = none)
    (hend : (s.rd r).coexEnd = none) (hslot : (s.rd r).slot.any (·.commit.isSome) = false) :
    ((s.dropReq r).rd r).coexReq = false ∧ ((s.dropReq r).rd r).coexPri = false := by
  rw [s.rd_dropReq r, if_pos ⟨by simp [hair], by simp [hwin], by simp [hend], by simp [hslot]⟩]
  exact ⟨rfl, rfl⟩

/-- The fall of COEX_REQ touches nothing else of the radio. -/
theorem State.rd_dropReq_frame (s : State) (r : Nat) :
    ∃ q p, (s.dropReq r).rd r = { s.rd r with coexReq := q, coexPri := p } := by
  rw [s.rd_dropReq r]
  split
  · exact ⟨_, _, rfl⟩
  · exact ⟨_, _, rfl⟩

/-- The radio's record as a reception ends, before COEX_REQ is looked at. -/
theorem State.rd_freeRx (s : State) (r : Nat) (syms : List (List (Int × Int × Int))) {q : Rx} (hq : (s.rd r).rx = some q) :
    ∃ u : State, s.freeRx r syms = u.dropReq r
      ∧ u.rd r = { s.rd r with rx := none, done := some (syms.foldl Rx.track q), idleSince := s.elapsed } := by
  refine ⟨_, rfl, ?_⟩
  simp only [State.nowIdle, State.trackPilots, hq, State.rd_setRd_same, State.setRd_elapsed]

theorem rxPpduEnd_waits (r : Rad) (syms : List (List (Int × Int × Int))) (q : Rx) (s : State) (hq : (s.rd r).rx = some q)
    (hbusy : s.nowNs < q.busyUntil) : exec (.rxPpduEnd r syms) s = .next s := by
  change execRxPpduEnd r syms s = _
  unfold execRxPpduEnd
  rw [hq]
  dsimp only
  rw [if_neg]
  rintro ⟨-, hend⟩
  omega

theorem rxPpduEnd_frees_receiver (r : Rad) (syms : List (List (Int × Int × Int))) (q : Rx) (s : State) (hlit : s.radLit r = true)
    (hq : (s.rd r).rx = some q) (hend : q.busyUntil ≤ s.nowNs) :
    ∃ t, exec (.rxPpduEnd r syms) s = .next t
      ∧ (t.rd r).rx = none ∧ (t.rd r).done = some (syms.foldl Rx.track q) ∧ (t.rd r).idleSince = s.elapsed
      ∧ t.agc r = (if s.agc r = 4 then 4 else 0)
      ∧ ((s.rd r).air = none → (s.rd r).rxWin = none → (s.rd r).coexEnd = none → (s.rd r).slot.any (·.commit.isSome) = false →
          (t.rd r).coexReq = false ∧ (t.rd r).coexPri = false)
      ∧ (s.steady r = true → RegsKept [A.radAgcStatus r, A.radTxPending r] s t) ∧ t = { s with regs := t.regs, rad := t.rad } := by
  let v := (s.freeRx r syms).agcIdle r
  have hrun : exec (.rxPpduEnd r syms) s = .next ((v.takeRetune r).showSlot r) := by
    change execRxPpduEnd r syms s = _
    unfold execRxPpduEnd
    rw [hq]
    dsimp only
    rw [if_pos ⟨hlit, hend⟩]
    rfl
  obtain ⟨u, hfree, hu⟩ := s.rd_freeRx r syms hq
  obtain ⟨req, pri, hfall⟩ := u.rd_dropReq_frame r
  have hv : v.rd r = (u.dropReq r).rd r := by rw [← hfree]; exact State.rd_agcIdle _ r
  have hmoves : Moves [A.radAgcStatus r] s v := ((Moves.refl _ s).freeRx r syms).agcIdle List.mem_cons_self
  have hagc : v.agc r = if s.agc r = 4 then 4 else 0 := by
    rw [State.agc_agcIdle, State.agc_congr (((Moves.refl [] s).freeRx r syms).reg List.not_mem_nil)]
  obtain ⟨honly, hrec, hstatus⟩ := (ReceptionKept.refl r v).takeRetune.showSlot
  simp only [RadState.reception, Prod.mk.injEq] at hrec
  obtain ⟨hrx, hdone, hidle, hreq, hpri⟩ := hrec
  refine ⟨_, hrun, ?_, ?_, ?_, (State.agc_congr hstatus).trans hagc, ?_, ?_, honly.trans (by rw [hmoves.2])⟩
  · rw [hrx, hv, hfall, hu]
  · rw [hdone, hv, hfall, hu]
  · rw [hidle, hv, hfall, hu]
  · intro hair hwin hend hslot
    rw [hreq, hpri, hv]
    exact u.coex_dropReq r (by rw [hu]; exact hair) (by rw [hu]; exact hwin) (by rw [hu]; exact hend) (by rw [hu]; exact hslot)
  · intro hsteady
    obtain ⟨hretune, hheld⟩ := Bool.and_eq_true_iff.mp hsteady
    have hnone : (v.rd r).retune = none := by
      rw [hv, hfall, hu]
      exact Option.isNone_iff_eq_none.mp hretune
    have hslot : (v.rd r).slot = (s.rd r).slot := by rw [hv, hfall, hu]
    have hholding (f : Nat) : v.holding r f = s.holding r f :=
      State.holding_congr (hmoves.reg (by simp only [A.radSynStatus, A.radAgcStatus, List.mem_singleton]; omega))
        (fun n hn => hmoves.reg (by simp only [A.radSynFreq, A.radAgcStatus, List.mem_singleton]; omega)) f
    have hshow : RegsKept [A.radTxPending r] v (v.showSlot r) := v.showSlot_of_held r (by simpa only [hslot, hholding] using hheld)
    rw [v.takeRetune_of_none r hnone]
    intro a ha
    rw [List.mem_cons, not_or] at ha
    exact (hshow a ha.2).trans (hmoves.reg (List.not_mem_cons_of_ne_of_not_mem ha.1 List.not_mem_nil))

/-! ### The end of a Holael event leaves the radios (R213, R227, R234) -/

theorem State.rad_freePartner (s : State) (p : Nat) : (s.freePartner p).rad = s.rad := rfl

theorem State.rad_unjoin (s : State) : s.unjoin.rad = s.rad := rfl

theorem State.rad_missEvent (s : State) (p : Nat) : (s.missEvent p).rad = s.rad := by
  unfold State.missEvent
  dsimp only
  split
  · rfl
  · split
    · exact State.raise_rad _ _ _ _ _ _
    · rfl

theorem State.rad_judge (s : State) (p : Nat) : (s.judge p).rad = s.rad := by
  unfold State.judge
  dsimp only
  split
  · rfl
  · split
    · rfl
    · exact State.rad_missEvent _ p

theorem State.rad_endEvent (s : State) (r : Nat) : (s.endEvent r).rad = s.rad := by
  unfold State.endEvent
  split
  · rfl
  · dsimp only
    split
    · exact State.rad_judge _ _
    · split
      · exact (State.rad_unjoin _).trans (State.rad_judge _ _)
      · exact (State.rad_freePartner _ _).trans (State.rad_judge _ _)

theorem State.rad_endStale (s : State) (r now : Nat) : (s.endStale r now).rad = s.rad := by
  unfold State.endStale
  split
  · split
    · exact s.rad_endEvent r
    · rfl
  · rfl

/-! ### Holael receive windows (R118, R128) -/

/-- Is a window honoured now on the radio: holael_rx_en, HMAC lit, and it listens there (R128)? -/
def State.honoursWindow (s : State) (r : Nat) : Bool :=
  s.bit (A.radPhyCtl r) F.radPhyCtl_holael_rx_en && s.isLit 21 && s.holListens r

/-- Does an expected reception raise COEX_REQ (R118)? -/
def State.requestsRx (s : State) (r : Nat) : Bool :=
  s.bit (A.radCtl r) F.radCtl_coex_en && s.bit (A.radCoexCtl r) F.radCoexCtl_rx_req_en

/-- A window opens on the channel in use, and COEX_REQ rises where it is asked for. -/
def State.openWindow (s : State) (r : Nat) (p : Option Nat) (cls : Fin 8) : State :=
  s.setRd r { s.rd r with
    rxWin := some ⟨p, s.fld (A.radNfStatus r) F.radNfStatus_width⟩, coexReq := (s.rd r).coexReq || s.requestsRx r
    coexPri := (s.rd r).coexPri || (s.requestsRx r && (s.fld (A.radCoexCtl r) F.radCoexCtl_pri_mask).testBit cls) }

theorem holaelRxWindow_refused (r : Rad) (p : Option Nat) (cls : Fin 8) (s : State) (hopen : s.honoursWindow r = false) :
    exec (.holaelRxWindow r (some (p, cls))) s = .next s := by
  change Host.Outcome.next (if _ then (if _ then _ else s) else s) = _
  split
  · rw [if_neg]
    rintro ⟨hen, hlit, hlistens⟩
    simp [State.honoursWindow, hen, hlit, hlistens] at hopen
  · rfl

theorem holaelRxWindow_opens (r : Rad) (p : Option Nat) (cls : Fin 8) (s : State) (hlit : s.radLit r = true)
    (hopen : s.honoursWindow r = true) :
    ∃ t, exec (.holaelRxWindow r (some (p, cls))) s = .next t
      ∧ (t.rd r).rxWin = some ⟨p, s.fld (A.radNfStatus r) F.radNfStatus_width⟩
      ∧ (t.rd r).coexReq = ((s.rd r).coexReq || s.requestsRx r) ∧ Moves (dropRegs r) s t := by
  have hcond : s.bit (A.radPhyCtl r) F.radPhyCtl_holael_rx_en = true ∧ s.isLit 21 = true ∧ s.holListens r = true := by
    simpa only [State.honoursWindow, Bool.and_eq_true, and_assoc] using hopen
  have hrun : exec (.holaelRxWindow r (some (p, cls))) s = .next ((s.endLoopback r).openWindow r p cls) := by
    change Host.Outcome.next (if _ then (if _ then _ else s) else s) = _
    rw [if_pos hlit, if_pos hcond]
    rfl
  have hdrop : Moves (dropRegs r) s (s.endLoopback r) := (Moves.refl _ s).endLoopback (List.Subset.refl _)
  obtain ⟨c, e, hrd⟩ := s.rd_endLoopback r
  have hwidth : (s.endLoopback r).fld (A.radNfStatus r) F.radNfStatus_width = s.fld (A.radNfStatus r) F.radNfStatus_width :=
    hdrop.fld (not_mem_dropRegs (by unfold A.radNfStatus; omega)) _
  have hreq : (s.endLoopback r).requestsRx r = s.requestsRx r := by
    have hctl := hdrop.fld (not_mem_dropRegs (a := A.radCtl r) (by unfold A.radCtl; omega)) F.radCtl_coex_en
    have hcoex := hdrop.fld (not_mem_dropRegs (a := A.radCoexCtl r) (by unfold A.radCoexCtl; omega)) F.radCoexCtl_rx_req_en
    simp only [State.requestsRx, State.bit, hctl, hcoex]
  refine ⟨_, hrun, ?_, ?_, hdrop.setRd r _⟩
  · rw [State.openWindow, State.rd_setRd_same, hwidth]
  · rw [State.openWindow, State.rd_setRd_same, hreq, hrd]

theorem holaelRxWindow_closes (r : Rad) (s : State) (hlit : s.radLit r = true) :
    ∃ t, exec (.holaelRxWindow r none) s = .next t ∧ (t.rd r).rxWin = none
      ∧ ((s.rd r).air = none → (s.rd r).coexEnd = none → (s.rd r).slot.any (·.commit.isSome) = false → (t.rd r).coexReq = false) := by
  let u := s.setRd r { s.rd r with rxWin := none }
  have hrun : exec (.holaelRxWindow r none) s = .next ((u.dropReq r).endStale r s.nowNs) := by
    change Host.Outcome.next (if _ then _ else s) = _
    rw [if_pos hlit]
  have hend : ((u.dropReq r).endStale r s.nowNs).rd r = (u.dropReq r).rd r := State.rd_congr (State.rad_endStale _ r _) r
  have hu : u.rd r = { s.rd r with rxWin := none } := s.rd_setRd_same r _
  obtain ⟨req, pri, hfall⟩ := u.rd_dropReq_frame r
  refine ⟨_, hrun, ?_, fun hair hcoex hslot => ?_⟩
  · rw [hend, hfall, hu]
  · rw [hend]
    exact (u.coex_dropReq r (by rw [hu]; exact hair) (by rw [hu]) (by rw [hu]; exact hcoex) (by rw [hu]; exact hslot)).1

/-- Settles O37, clause by clause: each command's lemma above says what it does. -/
theorem gainFollowsTheReceptionStates : Obligations.GainFollowsTheReceptionStates := by
  unfold Obligations.GainFollowsTheReceptionStates
  refine ⟨agcStfDetect_enters_detect, agcDetectTimeout_returns_to_idle, agcLltfFound_freezes_gain, agcRestart_enters_detect,
    agcRestart_in_window, fun r syms q s hlit hq => ?_, fun r p cls s hlit => ?_⟩
  · exact ⟨rxPpduEnd_waits r syms q s hq, rxPpduEnd_frees_receiver r syms q s hlit hq⟩
  · exact ⟨holaelRxWindow_refused r p cls s, holaelRxWindow_opens r p cls s hlit, holaelRxWindow_closes r s hlit⟩

end Sys2Proof.Machine

/-! # Admission: what a grant of a Holael schedule promises (R198, R238) -/

namespace Sys2Proof.Machine

/-! ### Registers that an operation keeps -/

theorem RegsKept.trans {l : List Nat} {s t u : State} (h1 : RegsKept l s t) (h2 : RegsKept l t u) : RegsKept l s u :=
  fun a ha => (h2 a ha).trans (h1 a ha)

theorem RegsKept.setReg {l : List Nat} {s t : State} (h : RegsKept l s t) {a : Nat} (ha : a ∈ l) (w : Word) :
    RegsKept l s (t.setReg a w) :=
  h.trans fun _ hb => t.reg_setReg_ne (ne_of_mem_of_not_mem ha hb).symm w

theorem RegsKept.setFld {l : List Nat} {s t : State} (h : RegsKept l s t) {a : Nat} (ha : a ∈ l) (f : Fld) (v : Nat) :
    RegsKept l s (t.setFld a f v) := h.setReg ha _

theorem RegsKept.busOk {l : List Nat} {s t : State} (h : RegsKept l s t) (w : Word) : RegsKept l s (t.busOk w) := h

theorem RegsKept.setHol {l : List Nat} {s t : State} (h : RegsKept l s t) (x : HolState) : RegsKept l s (t.setHol x) := h

theorem RegsKept.fld {l : List Nat} {s t : State} (h : RegsKept l s t) {a : Nat} (ha : a ∉ l) (f : Fld) : t.fld a f = s.fld a f :=
  congrArg f.get (h a ha)

/-! ### Reserved phases are told by the registers of schedules -/

theorem Tbl.mem_of_find? {α : Type} {t : Tbl α} {k : Nat} {v : α} (h : Tbl.find? t k = some v) : (k, v) ∈ t := by
  induction t with
  | nil => simp [Tbl.find?] at h
  | cons e t ih =>
    obtain ⟨k', v'⟩ := e
    by_cases hk : k' = k
    · obtain rfl : v' = v := by simpa [Tbl.find?, hk] using h
      exact hk ▸ List.mem_cons_self
    · exact List.mem_cons_of_mem _ (ih (by simpa [Tbl.find?, hk] using h))

/-- A bound on the offsets that a family's dimensions reach. -/
def dimsSpan : List (Nat × Nat) → Nat
  | [] => 1
  | (st, n) :: _ => st * n

theorem lt_dimsSpan_of_inDims {dims : List (Nat × Nat)} {r : Nat} (hpos : ∀ e ∈ dims, 0 < e.1) (h : inDims dims r = true) :
    r < dimsSpan dims := by
  cases dims with
  | nil =>
    have hr : r = 0 := by simpa [inDims] using h
    simp [hr, dimsSpan]
  | cons d ds =>
    obtain ⟨st, n⟩ := d
    have hdiv : r / st < n := by
      simp only [inDims, Bool.and_eq_true, decide_eq_true_eq] at h
      exact h.1
    calc r < n * st := (Nat.div_lt_iff_lt_mul (hpos _ List.mem_cons_self)).mp hdiv
      _ = dimsSpan ((st, n) :: ds) := Nat.mul_comm n st

/-- A family of HMAC's window shows a partner FREE at reset, or lies beside the partner table. -/
theorem partnerState_zero_or_outside : ∀ d ∈ islandRegs 21 ++ commonRegs, F.hmacHolPartnerW0_state.get d.resetWord = 0
    ∨ 0x68000 ≤ d.off ∨ (∀ e ∈ d.dims, 0 < e.1) ∧ d.off + dimsSpan d.dims ≤ 0x60000 := by decide

/-- HMAC's registers have no reset word beside their families' but the identity's. -/
theorem resetWord_of_hmac {a : Nat} (hwin : inWindows a = true) (hid : islandOf a = 21) (hident : offOf a ≠ 0xFFF000) :
    resetWord a = ((findReg a).map RegDesc.resetWord).getD 0 := by
  have hother {k : Nat} (hk : k ≠ 21) (q : Prop) : ¬ (islandOf a = k ∧ q) := fun h => hk (h.1.symm.trans hid)
  unfold resetWord
  dsimp only
  rw [if_neg (by simp [hwin]), if_neg (fun h => hident h.1), if_neg (hother (by decide) _), if_neg (hother (by decide) _),
    if_neg (hother (by decide) _), if_neg (hother (by decide) _), if_neg (hother (by decide) _)]
  cases findReg a <;> rfl

/-- Every partner is FREE at reset. -/
theorem resetWord_partnerState {p : Nat} (hp : p < 1024) : F.hmacHolPartnerW0_state.get (resetWord (A.hmacHolPartnerW0 p)) = 0 := by
  have haddr : A.hmacHolPartnerW0 p = 0x105060000 + 32 * p := by
    simp only [A.hmacHolPartnerW0, win]
  have hwin : inWindows (A.hmacHolPartnerW0 p) = true := by
    rw [haddr, inWindows, Bool.and_eq_true, decide_eq_true_eq, decide_eq_true_eq]
    omega
  have hid : islandOf (A.hmacHolPartnerW0 p) = 21 := by
    rw [haddr, islandOf]
    omega
  have hoff : offOf (A.hmacHolPartnerW0 p) = 0x60000 + 32 * p := by
    rw [haddr, offOf]
    omega
  rw [resetWord_of_hmac hwin hid (by omega)]
  cases hfind : findReg (A.hmacHolPartnerW0 p) with
  | none => rfl
  | some d =>
    unfold findReg at hfind
    rw [hid, hoff] at hfind
    have hcov := List.find?_some hfind
    simp only [RegDesc.covers, Bool.and_eq_true, decide_eq_true_eq] at hcov
    obtain ⟨⟨-, hle⟩, hdims⟩ := hcov
    obtain hzero | habove | ⟨hpos, hbelow⟩ := partnerState_zero_or_outside d (List.mem_of_find?_eq_some hfind)
    · exact hzero
    · omega
    · have hspan := lt_dimsSpan_of_inDims hpos hdims
      omega

/-- A busy partner's first word is listed, since it is no reset word. -/
theorem State.anyPartner_of_busy {s : State} {p : Nat} (hp : p < 1024) (h : s.partnerState p ≠ 0) : s.anyPartner = true := by
  cases hfind : Tbl.find? s.regs (A.hmacHolPartnerW0 p) with
  | none =>
    have hfree : s.partnerState p = 0 := by
      rw [State.partnerState, State.fld, State.reg, Tbl.get, hfind]
      exact resetWord_partnerState hp
    exact absurd hfree h
  | some v =>
    have hv : F.hmacHolPartnerW0_state.get v ≠ 0 := by
      rw [State.partnerState, State.fld, State.reg, Tbl.get, hfind] at h
      exact h
    refine List.any_eq_true.mpr ⟨_, Tbl.mem_of_find? hfind, ?_⟩
    rw [Bool.and_eq_true, Bool.and_eq_true, Bool.and_eq_true, decide_eq_true_eq, decide_eq_true_eq, beq_iff_eq, bne_iff_ne]
    unfold A.hmacHolPartnerW0
    exact ⟨by omega, hv⟩

/-- The schedule of a partner as a reserved phase. -/
def State.schedule (s : State) (p : Nat) : Reserved :=
  (s.linkInterval p, s.fld (A.hmacHolPartnerW2 p) F.hmacHolPartnerW2_phase, s.fld (A.hmacHolPartnerW1 p) F.hmacHolPartnerW1_offset,
    s.linkWindow p)

/-- The lantern reserve and the join window on a band. -/
def State.anchorPhases (s : State) (b : Nat) : List Reserved :=
  if bandOfIdx (s.fld A.hmacHolRound F.hmacHolRound_anchor) = b then
    (1, 0, 0, s.fld A.hmacHolRound F.hmacHolRound_lantern_reserve) ::
      (if s.bit A.hmacHolJoin F.hmacHolJoin_join_en then
        [(1, 0, s.fld A.hmacHolJoin F.hmacHolJoin_join_offset, s.joinLen)] else [])
  else []

theorem State.mem_busyPartners {s : State} {p : Nat} : p ∈ s.busyPartners ↔ p < 1024 ∧ s.partnerState p ≠ 0 := by
  simp [State.busyPartners]

/-- The model looks for partners only where one is listed; the phases are those of all partners that are not FREE. -/
theorem State.ownPhases_eq (s : State) (b : Nat) : s.ownPhases b =
    s.anchorPhases b ++ (s.busyPartners.filter (fun p => (s.linkBands p).testBit b)).map s.schedule := by
  have hnone : ¬ s.anyPartner = true → s.busyPartners = [] := fun hany =>
    List.eq_nil_iff_forall_not_mem.mpr fun p hmem => by
      obtain ⟨hp, hbusy⟩ := mem_busyPartners.mp hmem
      exact hany (anyPartner_of_busy hp hbusy)
  by_cases hany : s.anyPartner = true
  · simp only [State.ownPhases, hany, if_true]
    rfl
  · simp only [State.ownPhases, hany, hnone hany]
    rfl

theorem State.schedule_mem_reserved {s : State} {q b : Nat} (hq : q < 1024) (hbusy : s.partnerState q ≠ 0)
    (hb : (s.linkBands q).testBit b = true) : s.schedule q ∈ s.reserved b := by
  have hown : s.schedule q ∈ s.ownPhases b := by
    rw [State.ownPhases_eq]
    have hmem : q ∈ s.busyPartners := State.mem_busyPartners.mpr ⟨hq, hbusy⟩
    exact List.mem_append_right _ (List.mem_map_of_mem (List.mem_filter.mpr ⟨hmem, hb⟩))
  exact List.mem_append_left _ hown

/-! ### What the registers of admission leave alone -/

/-- The registers that a refusal writes: the request, its result and the count of refusals. -/
def admitRegs : List Nat := [A.hmacHolAdmit, A.hmacHolAdmitRes, A.hmacHolAdmitDenied]

/-- The partner table lies above the registers of admission. -/
theorem not_mem_admitRegs {a : Nat} (h : win 21 + 0x60000 ≤ a) : a ∉ admitRegs := by
  have hbelow : ∀ b ∈ admitRegs, b < win 21 + 0x60000 := by decide
  exact fun ha => Nat.not_lt.mpr h (hbelow a ha)

theorem hmacHolPartnerW0_not_mem (p : Nat) : A.hmacHolPartnerW0 p ∉ admitRegs :=
  not_mem_admitRegs (by unfold A.hmacHolPartnerW0; omega)

theorem hmacHolPartnerW1_not_mem (p : Nat) : A.hmacHolPartnerW1 p ∉ admitRegs :=
  not_mem_admitRegs (by unfold A.hmacHolPartnerW1; omega)

theorem hmacHolPartnerW2_not_mem (p : Nat) : A.hmacHolPartnerW2 p ∉ admitRegs :=
  not_mem_admitRegs (by unfold A.hmacHolPartnerW2; omega)

theorem hmacHolPartnerW4_not_mem (p : Nat) : A.hmacHolPartnerW4 p ∉ admitRegs :=
  not_mem_admitRegs (by unfold A.hmacHolPartnerW4; omega)

section
variable {s t : State} (h : RegsKept admitRegs s t)
include h

theorem RegsKept.partnerState (p : Nat) : t.partnerState p = s.partnerState p := h.fld (hmacHolPartnerW0_not_mem p) _

theorem RegsKept.linkBands (p : Nat) : t.linkBands p = s.linkBands p := by
  simp only [State.linkBands, h.fld (a := A.hmacHolParentSched2) (by decide), h.fld (hmacHolPartnerW0_not_mem p)]

theorem RegsKept.linkInterval (p : Nat) : t.linkInterval p = s.linkInterval p := by
  simp only [State.linkInterval, h.fld (a := A.hmacHolParentSched2) (by decide), h.fld (hmacHolPartnerW0_not_mem p)]

theorem RegsKept.linkWindow (p : Nat) : t.linkWindow p = s.linkWindow p := by
  simp only [State.linkWindow, h.fld (a := A.hmacHolParentSched) (by decide), h.fld (hmacHolPartnerW1_not_mem p)]

theorem RegsKept.schedule : t.schedule = s.schedule := by
  funext p
  simp only [State.schedule, h.linkInterval, h.linkWindow, h.fld (hmacHolPartnerW1_not_mem p), h.fld (hmacHolPartnerW2_not_mem p)]

theorem RegsKept.roundUnits : t.roundUnits = s.roundUnits := h.fld (by decide) _

theorem RegsKept.joinLen : t.joinLen = s.joinLen := by
  simp only [State.joinLen, h.roundUnits, h.fld (a := A.hmacHolJoin) (by decide)]

theorem RegsKept.anchorPhases (b : Nat) : t.anchorPhases b = s.anchorPhases b := by
  have hjoin : t.bit A.hmacHolJoin F.hmacHolJoin_join_en = s.bit A.hmacHolJoin F.hmacHolJoin_join_en :=
    congrArg (· != 0) (h.fld (by decide) _)
  simp only [State.anchorPhases, h.joinLen, hjoin, h.fld (a := A.hmacHolRound) (by decide), h.fld (a := A.hmacHolJoin) (by decide)]

theorem RegsKept.parentPhases (b : Nat) : t.parentPhases b = s.parentPhases b := by
  have hmember : t.memberState = s.memberState := h.fld (by decide) _
  simp only [State.parentPhases, hmember, h.linkBands, h.linkInterval, h.linkWindow, h.fld (a := A.hmacHolParentSched) (by decide),
    h.fld (a := A.hmacHolParentSched2) (by decide)]

theorem RegsKept.reserved (b : Nat) : t.reserved b = s.reserved b := by
  simp only [State.reserved, State.ownPhases_eq, State.busyPartners, h.anchorPhases, h.parentPhases, h.partnerState, h.linkBands,
    h.schedule]

theorem RegsKept.shareLimit (b : Nat) : t.shareLimit b = s.shareLimit b := by
  simp only [State.shareLimit, h.fld (a := A.hmacHolShare) (by decide)]

/-- The answer to a request depends on the schedules and on the radios fitted alone. -/
theorem RegsKept.admission (hflash : t.flash = s.flash) (p : Nat) : t.admission p = s.admission p := by
  have hfitted : t.isFitted = s.isFitted := by
    funext i
    rw [State.isFitted, State.isFitted, hflash]
  simp only [State.admission, hfitted, h.partnerState, h.linkBands, h.linkWindow, h.roundUnits, h.reserved, h.shareLimit,
    h.fld (hmacHolPartnerW0_not_mem p), h.fld (hmacHolPartnerW1_not_mem p), h.fld (hmacHolPartnerW2_not_mem p),
    h.fld (hmacHolPartnerW4_not_mem p), h.fld (a := A.hmacHolRound) (by decide)]
end

/-! ### When two schedules meet (R238) -/

/-- Two phases that some round holds both agree modulo the greatest common divisor of their intervals; so they overlap exactly when
their windows do. -/
theorem overlaps_of_round {a b : Reserved} {round : Nat} (ha : round % a.1 = a.2.1) (hb : round % b.1 = b.2.1) :
    overlaps a b = (decide (a.2.2.1 < b.2.2.1 + b.2.2.2) && decide (b.2.2.1 < a.2.2.1 + a.2.2.2)) := by
  have hmeet : a.2.1 % Nat.gcd a.1 b.1 = b.2.1 % Nat.gcd a.1 b.1 := by
    rw [← ha, ← hb, Nat.mod_mod_of_dvd _ (Nat.gcd_dvd_left _ _), Nat.mod_mod_of_dvd _ (Nat.gcd_dvd_right _ _)]
  simp [overlaps, hmeet]

theorem windows_apart_of_not_overlaps {a b : Reserved} (h : overlaps a b = false) {round : Nat} (ha : round % a.1 = a.2.1)
    (hb : round % b.1 = b.2.1) : a.2.2.1 + a.2.2.2 ≤ b.2.2.1 ∨ b.2.2.1 + b.2.2.2 ≤ a.2.2.1 := by
  rw [overlaps_of_round ha hb] at h
  simp only [Bool.and_eq_false_iff, decide_eq_false_iff_not] at h
  omega

/-! ### The bands of a set -/

theorem mem_bitsOf {n m b : Nat} : b ∈ bitsOf n m ↔ b < n ∧ m.testBit b = true := by simp [bitsOf]

theorem bitsOf_eq_nil_iff {n m : Nat} (hm : m < 2 ^ n) : bitsOf n m = [] ↔ m = 0 := by
  refine ⟨fun h => Nat.eq_of_testBit_eq fun b => ?_, fun h => by simp [h, bitsOf]⟩
  rw [Nat.zero_testBit]
  by_cases hb : b < n
  · exact Bool.eq_false_iff.mpr fun hbit => List.not_mem_nil (h ▸ mem_bitsOf.mpr ⟨hb, hbit⟩)
  · exact Nat.testBit_lt_two_pow (Nat.lt_of_lt_of_le hm (Nat.pow_le_pow_right (by decide) (Nat.le_of_not_lt hb)))

theorem State.linkBands_lt (s : State) (p : Nat) : s.linkBands p < 2 ^ 3 := by
  unfold State.linkBands
  split
  · exact Fld.get_lt _ _
  · exact Fld.get_lt _ _

/-! ### The answer to a request (R238, log entry 62) -/

/-- The schedule a FREE partner asks for; its interval is as written, which may be out of range. -/
def State.askedSchedule (s : State) (p : Nat) : Reserved :=
  (s.fld (A.hmacHolPartnerW0 p) F.hmacHolPartnerW0_interval, s.fld (A.hmacHolPartnerW2 p) F.hmacHolPartnerW2_phase,
    s.fld (A.hmacHolPartnerW1 p) F.hmacHolPartnerW1_offset, s.linkWindow p)

/-- The fields of a request are in range. -/
structure State.AskedInRange (s : State) (p : Nat) : Prop where
  interval_pos : 1 ≤ (s.askedSchedule p).1
  interval_le : (s.askedSchedule p).1 ≤ 256
  phase_lt : (s.askedSchedule p).2.1 < (s.askedSchedule p).1
  bands_ne : s.linkBands p ≠ 0
  window_ne : s.linkWindow p ≠ 0
  supervision_ge : 100 ≤ s.fld (A.hmacHolPartnerW4 p) F.hmacHolPartnerW4_supervision
  supervision_le : s.fld (A.hmacHolPartnerW4 p) F.hmacHolPartnerW4_supervision ≤ 32000

/-- What R238 asks of a schedule on one band. -/
structure State.AskedFitsOn (s : State) (p b : Nat) : Prop where
  fitted : s.isFitted (radId b) = true
  apart : ∀ x ∈ s.reserved b, overlaps (s.askedSchedule p) x = false
  share : shareOk (s.askedSchedule p :: s.reserved b) s.roundUnits (s.shareLimit b) = true

/-- What R238 asks of a schedule: R198, and each band's conditions. -/
structure State.AskedFits (s : State) (p : Nat) : Prop where
  after_reserve : s.fld A.hmacHolRound F.hmacHolRound_lantern_reserve ≤ (s.askedSchedule p).2.2.1
  within_round : (s.askedSchedule p).2.2.1 + s.linkWindow p ≤ s.roundUnits
  bands : ∀ b < 3, (s.linkBands p).testBit b = true → s.AskedFitsOn p b

theorem State.linkInterval_of_asked {s : State} {p : Nat} (hp : p < 1024) (h : 1 ≤ (s.askedSchedule p).1) :
    s.linkInterval p = (s.askedSchedule p).1 := by
  rw [State.linkInterval, if_neg (by unfold parentNo; omega)]
  exact Nat.max_eq_right h

/-- A request is granted where it is in range and fits, answered ST_BAD_PARAM where it is out of range, and else refused
with a reason. -/
theorem State.admission_cases (s : State) (p : Nat) :
    (s.AskedInRange p ∧ s.AskedFits p ∧ s.admission p = (ST.ok, 0)) ∨ (¬ s.AskedInRange p ∧ s.admission p = (ST.badParam, 0))
      ∨ ∃ why, 0 < why ∧ why < 8 ∧ s.admission p = (ST.admitDenied, why) := by
  have hnil : (bitsOf 3 (s.linkBands p)).isEmpty = true ↔ s.linkBands p = 0 :=
    List.isEmpty_iff.trans (bitsOf_eq_nil_iff (s.linkBands_lt p))
  unfold State.admission
  dsimp only
  split
  · exact .inr (.inr ⟨4, by decide, by decide, rfl⟩)
  split
  next hout =>
    refine .inr (.inl ⟨fun hin => ?_, rfl⟩)
    obtain ⟨hpos, hle, hphase, hbands, hwin, hge, hsup⟩ := hin
    simp only [State.askedSchedule] at hpos hle hphase
    rw [hnil] at hout
    omega
  next hin =>
  split
  · exact .inr (.inr ⟨5, by decide, by decide, rfl⟩)
  next hfitted =>
  split
  · exact .inr (.inr ⟨6, by decide, by decide, rfl⟩)
  next hround =>
  split
  · exact .inr (.inr ⟨3, by decide, by decide, rfl⟩)
  split
  · exact .inr (.inr ⟨1, by decide, by decide, rfl⟩)
  next hapart =>
  split
  · exact .inr (.inr ⟨2, by decide, by decide, rfl⟩)
  next hshare =>
  simp only [not_or, Nat.not_lt, hnil] at hin hround
  simp only [List.any_eq_true, not_exists, not_and, mem_bitsOf, Bool.not_eq_true, Bool.not_eq_false'] at hfitted hapart hshare
  obtain ⟨hbands, hpos, hle, hphase, hwin, hge, hsup⟩ := hin
  obtain ⟨hreserve, hend⟩ := hround
  have hinRange : s.AskedInRange p :=
    ⟨Nat.one_le_iff_ne_zero.mpr hpos, hle, Nat.lt_of_not_le hphase, hbands, hwin, hge, hsup⟩
  have hfitsOn (b : Nat) (hb : b < 3) (hbit : (s.linkBands p).testBit b = true) : s.AskedFitsOn p b :=
    ⟨hfitted b ⟨hb, hbit⟩, hapart b ⟨hb, hbit⟩, hshare b ⟨hb, hbit⟩⟩
  exact .inl ⟨hinRange, ⟨hreserve, hend, hfitsOn⟩, rfl⟩

/-! ### The run of HOL_ADMIT -/

/-- A request that is granted: OFFERED from the first round of its phase. -/
def State.grantAdmit (s : State) (p : Nat) : State :=
  let iv := s.linkInterval p
  let next := s.roundNo + 1
  let first := next + (s.fld (A.hmacHolPartnerW2 p) F.hmacHolPartnerW2_phase + iv - next % iv) % iv
  let s := s.setPeer p { HolPeer.init with first := first, lastRx := s.elapsed + (first * s.roundNs - s.nowNs) }
  let s := (s.setLinkEvent p 0).setReg (A.hmacHolPartnerW6 p) (BitVec.ofNat 32 (first % 2 ^ 32))
  let s := s.setFld (A.hmacHolPartnerW7 p) F.hmacHolPartnerW7_next_round_hi (first / 2 ^ 32)
  s.setPartnerState p 1

/-- A request that is refused: counted, its bands marked for congestion. -/
def State.refuseAdmit (s : State) (p : Nat) : State :=
  let s := s.count A.hmacHolAdmitDenied
  s.setHol { s.hol with refused := (bitsOf 3 (s.linkBands p)).foldl (fun t b => Tbl.insert b s.elapsed t) s.hol.refused }

/-- The write of the request moves no register but its own. -/
theorem State.admitWrite_kept (s : State) (w : Word) : RegsKept admitRegs s (s.admitWrite w) := by
  have hrefl : RegsKept admitRegs s s := fun _ _ => rfl
  have hmem : A.hmacHolAdmit ∈ admitRegs := List.mem_cons_self
  unfold State.admitWrite
  exact ((hrefl.setReg hmem _).setFld hmem _ _).busOk 0

theorem State.admission_admitWrite (s : State) (w : Word) (p : Nat) : (s.admitWrite w).admission p = s.admission p :=
  (s.admitWrite_kept w).admission rfl p

/-- The answer to a request, from its status and reason. -/
def State.answerAdmit (s : State) (p : Nat) (r : Nat × Nat) : State :=
  if r.1 = ST.ok then (s.admitResult r).grantAdmit p
  else if r.1 = ST.admitDenied then (s.admitResult r).refuseAdmit p else s.admitResult r

/-- A core's request in a lit HMAC is answered by `State.admission`, which the write of the request does not move. -/
theorem exec_holAdmit_of_request {who : Requester} {w : Word} {s : State} (hans : s.answers who 21 = true)
    (hcore : isAnyCore who = true) (hgo : F.hmacHolAdmit_go.get w ≠ 0) (hop : F.hmacHolAdmit_op.get w = 0) :
    exec (.holAdmit who w) s = .next ((s.admitWrite w).answerAdmit (F.hmacHolAdmit_partner.get w)
      (s.admission (F.hmacHolAdmit_partner.get w))) := by
  have hisl : islandOf A.hmacHolAdmit = 21 := by decide
  have hgate : ¬ (F.hmacHolAdmit_go.get w = 0 ∨ F.hmacHolAdmit_op.get w = 1) := by omega
  change Host.Outcome.next (State.access _ _ _ _ _) = _
  rw [State.access, hisl, if_pos hans, if_neg (by simp [hcore]), if_neg hgate, if_neg (by omega), ← s.admission_admitWrite w]
  rfl

theorem RegsKept.admitResult {s t : State} (h : RegsKept admitRegs s t) (r : Nat × Nat) : RegsKept admitRegs s (t.admitResult r) := by
  have hmem : A.hmacHolAdmitRes ∈ admitRegs := by simp [admitRegs]
  exact (h.setFld hmem _ _).setFld hmem _ _

theorem RegsKept.refuseAdmit {s t : State} (h : RegsKept admitRegs s t) (p : Nat) : RegsKept admitRegs s (t.refuseAdmit p) := by
  have hmem : A.hmacHolAdmitDenied ∈ admitRegs := by simp [admitRegs]
  exact (h.setReg hmem _).setHol _

/-- An answer that is no grant moves no schedule. -/
theorem RegsKept.answerAdmit {s t : State} (h : RegsKept admitRegs s t) (p : Nat) {r : Nat × Nat} (hr : r.1 ≠ ST.ok) :
    RegsKept admitRegs s (t.answerAdmit p r) := by
  rw [State.answerAdmit, if_neg hr]
  split
  · exact (h.admitResult r).refuseAdmit p
  · exact h.admitResult r

theorem State.status_admitResult (s : State) {r : Nat × Nat} (hr : r.1 < 2 ^ 16) :
    (s.admitResult r).fld A.hmacHolAdmitRes F.hmacHolAdmitRes_status = r.1 := by
  rw [State.admitResult, State.fld_setFld_other _ _ _ _ (by decide) (by decide), State.fld_setFld_same _ _ _ (by decide)]
  exact Nat.mod_eq_of_lt hr

theorem State.reason_admitResult (s : State) {r : Nat × Nat} (hr : r.2 < 8) :
    (s.admitResult r).fld A.hmacHolAdmitRes F.hmacHolAdmitRes_reason = r.2 := by
  rw [State.admitResult, State.fld_setFld_same _ _ _ (by decide)]
  exact Nat.mod_eq_of_lt hr

theorem State.reg_admitResult_ne (s : State) (r : Nat × Nat) {a : Nat} (ha : a ≠ A.hmacHolAdmitRes) :
    (s.admitResult r).reg a = s.reg a := by
  rw [State.admitResult, State.reg_setFld_ne _ ha, State.reg_setFld_ne _ ha]

theorem State.reg_busOk (s : State) (v : Word) (a : Nat) : (s.busOk v).reg a = s.reg a := rfl

theorem State.reg_admitWrite_ne (s : State) (w : Word) {a : Nat} (ha : a ≠ A.hmacHolAdmit) :
    (s.admitWrite w).reg a = s.reg a := by
  rw [State.admitWrite, State.reg_busOk, State.reg_setFld_ne _ ha, State.reg_setReg_ne _ ha]

theorem State.reg_refuseAdmit (s : State) (p a : Nat) : (s.refuseAdmit p).reg a = (s.count A.hmacHolAdmitDenied).reg a := rfl

/-- A request that the dark responder answers moves registers of AON alone. -/
theorem State.darkRecord_reg (s : State) (who : Requester) (i off : Nat) (write : Bool) {a : Nat} (ha : win 1 ≤ a) :
    (s.darkRecord who i off write).reg a = s.reg a := by
  have hlo : a ≠ A.aonDarkAccessLo := Nat.ne_of_gt (Nat.lt_of_lt_of_le (by decide) ha)
  have hhi : a ≠ A.aonDarkAccessHi := Nat.ne_of_gt (Nat.lt_of_lt_of_le (by decide) ha)
  have hloss (hi : i ≤ 21) : a ≠ A.aonDarkLoss i := by
    simp only [A.aonDarkLoss, win] at ha ⊢
    omega
  unfold State.darkRecord
  extract_lets u p v x y
  have hcount : u.reg a = s.reg a := by
    unfold u
    split
    next hi => exact s.reg_count_ne (hloss hi.2)
    next => rfl
  split
  · exact hcount
  · have hraise : (y.raise 0 .islandDarkAccess 0 2 [i, off % 2 ^ 24, if write then 1 else 0, srcId who]).reg a = y.reg a := by
      rw [State.reg, State.raise_regs, ← State.reg]
    have hrecord : y.reg a = u.reg a := by
      unfold y x
      rw [State.reg_setFld_ne _ hhi, State.reg_setFld_ne _ hhi, State.reg_setFld_ne _ hhi, State.reg_setFld_ne _ hlo,
        State.reg_setFld_ne _ hlo]
      rfl
    exact hraise.trans (hrecord.trans hcount)

theorem State.darkRecord_partnerState (s : State) (who : Requester) (i off : Nat) (write : Bool) (p : Nat) :
    (s.darkRecord who i off write).partnerState p = s.partnerState p :=
  congrArg F.hmacHolPartnerW0_state.get (s.darkRecord_reg who i off write (by simp only [A.hmacHolPartnerW0, win]; omega))

/-- HOL_ADMIT moves a partner's state only by a grant. -/
theorem granted_of_partnerState_ne {who : Requester} {w : Word} {s t : State} {p : Nat} (hrun : exec (.holAdmit who w) s = .next t)
    (hmoved : t.partnerState p ≠ s.partnerState p) : F.hmacHolAdmit_go.get w ≠ 0 ∧ F.hmacHolAdmit_op.get w = 0
      ∧ (s.admission (F.hmacHolAdmit_partner.get w)).1 = ST.ok := by
  have hisl : islandOf A.hmacHolAdmit = 21 := by decide
  have hwrite := s.admitWrite_kept w
  have ht := hrun
  change Host.Outcome.next (State.access _ _ _ _ _) = _ at ht
  rw [State.access, hisl, Host.Outcome.next.injEq] at ht
  by_cases hans : s.answers who 21 = true
  case neg =>
    rw [if_neg hans] at ht
    exact absurd (ht ▸ s.darkRecord_partnerState who 21 _ true p) hmoved
  by_cases hcore : isAnyCore who = true
  case neg =>
    rw [if_pos hans, if_pos (by simp [hcore])] at ht
    exact absurd (ht ▸ rfl) hmoved
  rw [if_pos hans, if_neg (by simp [hcore])] at ht
  by_cases hgate : F.hmacHolAdmit_go.get w = 0 ∨ F.hmacHolAdmit_op.get w = 1
  case pos =>
    rw [if_pos hgate] at ht
    exact absurd (ht ▸ hwrite.partnerState p) hmoved
  by_cases hop : 2 ≤ F.hmacHolAdmit_op.get w
  case pos =>
    rw [if_neg hgate, if_pos hop] at ht
    exact absurd (ht ▸ (hwrite.admitResult _).partnerState p) hmoved
  refine ⟨by omega, by omega, Classical.byContradiction fun hno => ?_⟩
  rw [exec_holAdmit_of_request hans hcore (by omega) (by omega), Host.Outcome.next.injEq] at hrun
  exact absurd (hrun ▸ (hwrite.answerAdmit _ hno).partnerState p) hmoved

/-- What a grant promises, told of the schedule asked for. -/
theorem asked_of_granted {who : Requester} {w : Word} {s t : State} (hrun : exec (.holAdmit who w) s = .next t)
    (hfree : s.partnerState (F.hmacHolAdmit_partner.get w) = 0) (hoffered : t.partnerState (F.hmacHolAdmit_partner.get w) = 1) :
    F.hmacHolAdmit_go.get w = 1 ∧ F.hmacHolAdmit_op.get w = 0 ∧ s.AskedInRange (F.hmacHolAdmit_partner.get w)
      ∧ s.AskedFits (F.hmacHolAdmit_partner.get w) := by
  obtain ⟨hgo, hop, hok⟩ := granted_of_partnerState_ne hrun (by rw [hfree, hoffered]; decide)
  have hbit : F.hmacHolAdmit_go.get w < 2 := Fld.get_lt _ _
  obtain ⟨hin, hfits, -⟩ | ⟨-, hbad⟩ | ⟨why, -, -, hden⟩ := s.admission_cases (F.hmacHolAdmit_partner.get w)
  · exact ⟨by omega, hop, hin, hfits⟩
  · rw [hbad] at hok
    exact absurd hok (by decide)
  · rw [hden] at hok
    exact absurd hok (show ST.admitDenied ≠ ST.ok by decide)

/-- The run of a request that is refused. -/
theorem holAdmit_refuses {who : Requester} {w : Word} {s : State} {why : Nat} (hlit : s.isLit 21 = true) (hcore : isAnyCore who = true)
    (hgo : F.hmacHolAdmit_go.get w = 1) (hop : F.hmacHolAdmit_op.get w = 0) (hwhy : why < 8)
    (hden : s.admission (F.hmacHolAdmit_partner.get w) = (ST.admitDenied, why)) :
    ∃ t, exec (.holAdmit who w) s = .next t ∧ t.fld A.hmacHolAdmitRes F.hmacHolAdmitRes_status = ST.admitDenied
      ∧ t.fld A.hmacHolAdmitRes F.hmacHolAdmitRes_reason = why ∧ t.reg A.hmacHolAdmitDenied = satInc (s.reg A.hmacHolAdmitDenied)
      ∧ RegsKept admitRegs s t := by
  have hans : s.answers who 21 = true := by rw [State.answers, hlit, Bool.true_or]
  have hne : ST.admitDenied ≠ ST.ok := by decide
  have hrun := exec_holAdmit_of_request hans hcore (by omega : F.hmacHolAdmit_go.get w ≠ 0) hop
  rw [hden] at hrun
  have hkept := (s.admitWrite_kept w).answerAdmit (F.hmacHolAdmit_partner.get w) (r := (ST.admitDenied, why)) hne
  rw [State.answerAdmit, if_neg hne, if_pos rfl] at hrun hkept
  refine ⟨_, hrun, ?_, ?_, ?_, hkept⟩
  · rw [State.fld, State.reg_refuseAdmit, State.reg_count_ne _ (by decide)]
    exact State.status_admitResult _ (show ST.admitDenied < 2 ^ 16 by decide)
  · rw [State.fld, State.reg_refuseAdmit, State.reg_count_ne _ (by decide)]
    exact State.reason_admitResult _ hwhy
  · rw [State.reg_refuseAdmit, State.reg_count_same, State.reg_admitResult_ne _ _ (by decide),
      State.reg_admitWrite_ne _ _ (by decide)]

/-- Settles O43: a grant is the one answer that makes a FREE partner OFFERED, and it is given to a request that is in range and fits
alone (`State.admission_cases`); one in range that does not fit is refused. -/
theorem admittedSchedulesNeverMeet : Obligations.AdmittedSchedulesNeverMeet := by
  unfold Obligations.AdmittedSchedulesNeverMeet
  refine ⟨fun who w s t hrun => ?_, fun who w s hlit hcore hgo hop => ?_⟩
  · intro p hfree hoffered off phase
    have hp : p < 1024 := Fld.get_lt _ _
    obtain ⟨hgo, hop, hin, hfits⟩ := asked_of_granted hrun hfree hoffered
    obtain ⟨hpos, hle, hphase, hbands, hwin, -, -⟩ := hin
    obtain ⟨hreserve, hround, hband⟩ := hfits
    have hiv : s.linkInterval p = (s.askedSchedule p).1 := State.linkInterval_of_asked hp hpos
    have hasked : (s.linkInterval p, phase p, off p, s.linkWindow p) = s.askedSchedule p := by rw [hiv]; rfl
    have hclear {b round : Nat} {x : Reserved} (hb : b < 3) (hbit : (s.linkBands p).testBit b = true) (hx : x ∈ s.reserved b)
        (hr : round % s.linkInterval p = phase p) (hxr : round % x.1 = x.2.1) :
        off p + s.linkWindow p ≤ x.2.2.1 ∨ x.2.2.1 + x.2.2.2 ≤ off p :=
      windows_apart_of_not_overlaps ((hband b hb hbit).apart x hx) (hiv ▸ hr) hxr
    refine ⟨hgo, hop, hiv ▸ hpos, hiv ▸ hle, hiv ▸ hphase, hbands, hwin, hreserve, hround,
      fun b hb hbit => (hband b hb hbit).fitted, fun b round x => hclear, fun q b round hbusy hb hbit hqbit hr hqr => ?_, fun b hb hbit => ?_⟩
    · exact hclear hb hbit (State.schedule_mem_reserved q.isLt hbusy hqbit) hr hqr
    · rw [hasked]
      exact (hband b hb hbit).share
  · intro p off phase iv sup hfree hpos hle hphase hbands hwin hge hsup hbroken
    have hin : s.AskedInRange p := ⟨hpos, hle, hphase, hbands, hwin, hge, hsup⟩
    have hunfit : ¬ s.AskedFits p := by
      rintro ⟨hreserve, hround, hband⟩
      obtain hearly | hlate | ⟨b, hb, hbit, hbad⟩ := hbroken
      · exact Nat.not_lt.mpr hreserve hearly
      · exact Nat.not_lt.mpr hround hlate
      · obtain ⟨hfitted, hapart, hshare⟩ := hband b hb hbit
        obtain hunfitted | hover | ⟨x, hx, round, hr, hxr, hbefore, hafter⟩ := hbad
        · exact absurd (hfitted.symm.trans hunfitted) (by decide)
        · exact absurd (hshare.symm.trans hover) (by decide)
        · obtain hw | hw := windows_apart_of_not_overlaps (hapart x hx) hr hxr
          · exact Nat.not_lt.mpr hw hafter
          · exact Nat.not_lt.mpr hw hbefore
    obtain ⟨-, hfits, -⟩ | ⟨hout, -⟩ | ⟨why, hreason, hwhy, hden⟩ := s.admission_cases p
    · exact absurd hfits hunfit
    · exact absurd hin hout
    · obtain ⟨t, hrun, hstatus, hwhyRes, hcount, hkept⟩ := holAdmit_refuses hlit hcore hgo hop hwhy hden
      exact ⟨t, hrun, hstatus, by omega, hcount, fun b _ => hkept.reserved b, fun q => hkept.partnerState q⟩

end Sys2Proof.Machine
